-- ==== Sys2Proof/Word.lean ====
section
/-! DEFINITION. The word types of the CM9640 and their plainest arithmetic. -/

namespace Sys2Proof

/-- A 32-bit register word (R9: registers are 32 bits wide and little-endian). -/
abbrev Word := BitVec 32

/-- One byte. -/
abbrev Byte := BitVec 8

end Sys2Proof
end

