-- ==== Sys2Proof/Syntax.lean ====
section
/-! DEFINITION. The commands the block takes, and the operand structures they carry. -/

namespace Sys2Proof

/-- A sample of a port's six metrology channels (R376): the edge at which it was taken, the 24-bit codes of the voltages of phases A, B, C and then the currents, and whether one was beyond full scale (R378). -/
structure MetSample where
  at_ : Nat
  v : List Int
  sat : Bool
deriving DecidableEq, Repr


/-- What an AES-256-GCM request is for: encrypting a downlink message, opening an uplink message or REPORT, or a request of an engine with its IV, additional data and text (R440). -/
inductive AesJob where
  | seal (msg : Nat)
  | unseal (src msgId kind : Nat)
  | raw (enc : Bool) (iv aad text : List (BitVec 8)) (tag : List (BitVec 8))
deriving DecidableEq, Repr

/-- What a transmit descriptor carries: a beacon; an outbox frame; the frame of the same descriptor again, whole (R248); segment `k` of a message to its first hop; a carry of that segment to a relay, or a carried frame in its COOP slot (R277, R278); an MGMT NULL to a peer for a repair (R254); a SOUND frame to a peer (R157); or bytes its writer laid down, which no layer above knows. -/
inductive TxKind where
  | beacon
  | out (id : Nat)
  | again
  | seg (msg k : Nat)
  | carry (msg k relay : Nat)
  | coop (dst : Nat)
  | repair (peer : Nat)
  | sound (peer : Nat)
  | raw (bytes : List (BitVec 8))
deriving DecidableEq, Repr

/-- A transmit descriptor as its fixture fires: what it carries, the PHY, the broadband conductor set and streams, the robust mode asked for (0: under the tone map), the subchannel of a multi-user frame, and the levels measured in band C before the fire, each with how many edges before and in dBµV (R141). -/
structure TxDesc where
  kind : TxKind
  bb : Bool
  cset : Nat
  nss : Nat
  mode : Nat
  mu : Option Nat
  bandC : List (Nat × Nat)
deriving DecidableEq, Repr

/-- What the gain loop meets at one of its 2 µs updates (R101): the target level less the level measured at the output, the open-circuit level the digital signal commands without correction (both in 0.1 dB, the level over 1 µV), and by how much the current asks it to come down. -/
structure LoopUpdate where
  err : Int
  level : Int
  excess : Nat
deriving DecidableEq, Repr

/-- What the line port measured on a conductor over a transmission: the impedance in 0.1 Ω (R105), the legs out of balance (R99), and the gain loop's updates in order (R101). -/
structure LineEnd where
  z : Nat
  bad : List Nat
  loop : List LoopUpdate
deriving DecidableEq, Repr

/-- A pilot of a received symbol (R192): its gain in 0.01 dB and its phase in 0.01°, each with the channel's at that tone in the two symbols before; phases unwrapped. -/
structure PilotObs where
  gain : Int
  gain1 : Int
  gain2 : Int
  phase : Int
  phase1 : Int
  phase2 : Int
deriving DecidableEq, Repr

/-- A frame as a receiver got it (R124, R157): header, the edge at which it started, which new codewords decoded, the bytes they spell, the frame its resent codewords complete, mean pilot SNR in 0.1 dB, observations by slice group with their per-conductor tone SNRs in 0.5 dB and pilot SNR (R186), the pilots of its symbols in order (R192), the common phase of its channel estimate over tones 2 to 40 in degrees, where it carries them (R106), and the subchannel and peer of a multi-user frame. -/
structure RxFrame where
  hdr : List (BitVec 8)
  start : Nat
  cw : List Bool
  bytes : List (BitVec 8)
  repaired : Option (List (BitVec 8))
  snr : Nat
  obs : List (Nat × List (List Int) × Int)
  pilots : List (List PilotObs)
  phase : Option Int
  mu : Option (Nat × Nat)
deriving DecidableEq, Repr

/-- A sample of the surveillance source (R350 to R357): its value as converted, whether its converter was beyond full scale, whether it is missing, the gain code of the line channel it comes from, whether it lies in a quiet region, and the converter loopback of each transmit channel (3 * port + conductor) that transmits. -/
structure SrvSample where
  v : Int
  clip : Bool
  gone : Bool
  gain : Nat
  quiet : Bool
  own : List (Nat × Int)
deriving DecidableEq, Repr

/-- A fault a scrub pass met in a memory macro (R543, R544, R549): macro (0 to 1,023 shared, then the engines' in physical order), the rows and columns affected, whether a word was uncorrectable. -/
structure ScrubHit where
  mac : Nat
  rows : List Nat
  cols : List Nat
  bad : Bool
deriving DecidableEq, Repr

/-- What a scrub pass met (R549): SRAM macros; rows of DRAM, with the 4 KiB pages each holds and whether a word was uncorrectable; key slots whose storage check failed. -/
inductive ScrubFound where
  | sram (hits : List ScrubHit)
  | dram (rows : List (Nat × Nat × Bool))
  | keys (slots : List Nat)
deriving DecidableEq, Repr

/-- A low period on a UART's receive line (R458): the edge of the falling edge that began it, whether the line was still low at sample 8 of the start bit, and samples 7, 8 and 9 of each bit after it, the earliest first. -/
structure UartChar where
  start : Nat
  low : Bool
  bits : List (Bool × Bool × Bool)
deriving DecidableEq, Repr

/-- A request waiting for an accelerator unit (R30): its fixture deadline, its arrival, and the logical engine that made it. -/
structure AccReq where
  deadline : Option Nat
  at_ : Nat
  eng : Nat
deriving DecidableEq, Repr

/-- A drive found on a storage port (R409 to R411): the port, whether it identified itself, its label where one is valid (whether it names this device, the mode, the role), its 1 MiB extents, and the link's speed and width. -/
structure DriveFound where
  port : Nat
  identify : Bool
  label : Option (Bool × Nat × Nat)
  extents : Nat
  speed : Nat
  width : Nat
deriving DecidableEq, Repr

/-- What a self-test found (R561): failing SRAM macros; bit errors of a die link; the gain error in 0.01 dB and the SNR in 0.1 dB of a loopback; AES cores and noise sources that failed. -/
inductive TestOut where
  | sram (hits : List ScrubHit)
  | d2d (errors : Nat)
  | loop (gain : Int) (snr : Nat)
  | aes (bad : List Nat)
  | trng (bad : List Nat)
deriving DecidableEq, Repr

/-- A map set the work of a fixture needs (R184): peer, PHY, conductor, direction, `MAP_ID`. -/
structure MapNeed where
  peer : Nat
  bb : Bool
  cond : Nat
  rx : Bool
  mapId : Nat
deriving DecidableEq, Repr

/-- An access on the fabric (R514 to R528): the master, the engine or function that issued it, the legacy context it runs in where it is translated, 0 read, 1 write or 2 fetch, the address, the data of a write or what host memory returns, the length of a read, the key slot it names, whether the umpire's shadow checker disagrees, the progress of the source: PC and `STEP` of a context, bytes done and left of a channel; and the downlink messages its master carries (R296). -/
structure FabAcc where
  m : Nat
  issuer : Nat
  ctx : Option Nat
  acc : Nat
  addr : Nat
  data : List (BitVec 8)
  len : Nat
  slot : Option Nat
  shadow : Bool
  prog : Nat × Nat
  carried : List Nat
  dl : Bool
deriving DecidableEq, Repr

/-- A decoded ISP allocation (R170): an edge at which its period starts, the period, and the intervals in it, from and for how many edges, in which an access system may not send. -/
structure IspAlloc where
  base : Nat
  period : Nat
  off : List (Nat × Nat)
deriving DecidableEq, Repr


/-- The commands of the CM9640: one constructor per row of the opcode table. The first operand of each is the fast-clock edge at which it comes (log entry 1). -/
inductive Instr where
  /-- REGISTER_WRITE (R13). A write to a register with no row of its own is applied under its access code, lock and owner rules. -/
  | registerWrite (t : Nat) (m : Nat) (via : Fin 2) (msg : Bool) (a : Nat) (data : List Byte)
  /-- INT_SET (R41). A write of INT_SET sets the named INT_CAUSE bits for test. -/
  | intSet (t : Nat) (m page : Nat) (v : Word)
  /-- INT_CAUSE_CLEAR (R15). A W1C write clears INT_CAUSE bits unless hardware sets them in the same fabric cycle. -/
  | intCauseClear (t : Nat) (m page : Nat) (v : Word)
  /-- SOFT_RESET (R44). A write of BLK_CTL.SRST starts a soft reset of the page and withdraws it from pending swaps and copies. -/
  | softReset (t : Nat) (m page : Nat)
  /-- SOFT_RESET_DONE (R44). The soft reset completes, SRST_ACTIVE returns to 0 and SWAP_FAILED is set for a withdrawn swap. -/
  | softResetDone (t : Nat) (page : Nat)
  /-- LOCK_WRITE (R45). A write of LOCK engages, releases or is refused, incrementing WRONG on a wrong key. -/
  | lockWrite (t : Nat) (m page : Nat) (v : Word)
  /-- BANK_COPY (R51). A write of BANK_CTL.COPY starts copying the active bank into the shadow bank. -/
  | bankCopy (t : Nat) (m page : Nat)
  /-- BANK_COPY_DONE (R51). The copy ends, DIRTY clears and held shadow writes are applied in order. -/
  | bankCopyDone (t : Nat) (page : Nat)
  /-- SOLO_SWAP_REQUEST (R53). A write of BANK_CTL.REQ requests a solo swap, refused when grouped or already pending. -/
  | soloSwapRequest (t : Nat) (m page : Nat)
  /-- SOLO_SWAP_CANCEL (R59). A write of BANK_CTL.CANCEL withdraws a pending solo swap unless it falls in the trigger cycle. -/
  | soloSwapCancel (t : Nat) (m page : Nat)
  /-- SOLO_SWAP (R58). At its trigger instant a solo swap exchanges the page's banks or fails the readiness rule. -/
  | soloSwap (t : Nat) (page : Nat)
  /-- GROUP_SWAP_REQUEST (R57). A write of GRP_REQ.REQ fixes the members, sets PEND and enters a bank-swap fixture for AT_LINE_TIME. -/
  | groupSwapRequest (t : Nat) (m : Nat) (g : Fin 16)
  /-- GROUP_SWAP_CANCEL (R58). A write of GRP_REQ.CANCEL withdraws a pending group swap before its trigger cycle. -/
  | groupSwapCancel (t : Nat) (m : Nat) (g : Fin 16)
  /-- GROUP_SWAP (R58). At the group trigger all members swap on one edge or none do, and RESULT is written. -/
  | groupSwap (t : Nat) (g : Fin 16)
  /-- D2D_CRC_FAIL (R20). A die-to-die transfer fails its CRC, is replayed once and counted corrected or uncorrected. -/
  | d2dCrcFail (t : Nat) (n : Fin 5) (again : Bool)
  /-- FAULT_WINDOW_CLOSE (R537). A fault window ends below threshold and COUNT returns to 0. -/
  | faultWindowClose (t : Nat) (page : Nat)
  /-- ZERO_CROSSING_EDGE (R63). A rising edge at the reference zero-crossing input is qualified and drives tracker state, epoch and corrections. -/
  | zeroCrossingEdge (t : Nat) (stayed falling : Bool) (freq : Nat) (rocof zcDelay diff : Int) (lags : List (Fin 12 × Word))
  /-- SLEW_COMPLETE (R70). A slew removes the error to within 0.1 µs and SLEWING clears. -/
  | slewComplete (t : Nat)
  /-- HOLDOVER_TIMEOUT (R65). No qualified edge within 1.25 predicted periods puts the tracker into HOLDOVER. -/
  | holdoverTimeout (t : Nat)
  /-- HOLD_TX_REACHED (R69). HOLD_AGE reaches HOLD_TX and transmission fixtures are refused from then on. -/
  | holdTxReached (t : Nat)
  /-- HOLD_LONG (R69). HOLD_AGE reaches HOLD_MAX, HOLD_LONG and ALERT_N are asserted with a LASTING record. -/
  | holdLong (t : Nat)
  /-- TRK_HOLD (R65). A write of TRK_CTL.HOLD forces HOLDOVER. -/
  | trkHold (t : Nat) (m : Nat)
  /-- TRACKER_RESTART (R64). A write of TRK_CTL.RESTART restarts the tracker in ACQUIRE with new reference settings. -/
  | trackerRestart (t : Nat) (m : Nat)
  /-- TRACKER_ENABLE (R64). A write of TRK_CTL.EN stops the tracker or starts it again. -/
  | trackerEnable (t : Nat) (m : Nat) (en : Bool)
  /-- SNAP (R76). A write of TRK_CTL.SNAP captures line time and UTC coherently. -/
  | snap (t : Nat) (m : Nat)
  /-- CYC_APPLY (R73). A write of TRK_CTL.CYC_APPLY requests adoption of CYC_SET at the next crossing. -/
  | cycApply (t : Nat) (m : Nat)
  /-- UTC_ARM (R74). A write of TRK_CTL.UTC_ARM marks the next PPS edge with UTC_SET. -/
  | utcArm (t : Nat) (m : Nat)
  /-- PPS_EDGE (R473). An edge of PPS_IN is filtered, stamped and fed to UTC stamping, or rejected. -/
  | ppsEdge (t : Nat) (falling : Bool) (held : Nat)
  /-- PPS_TIMEOUT (R75). No PPS edge within 1.5 s clears UTC_VALID and enters UTC hold. -/
  | ppsTimeout (t : Nat)
  /-- UTC_HOLD_EXPIRY (R75). After UTC_HOLD seconds stamps become zero. -/
  | utcHoldExpiry (t : Nat)
  /-- ENT_CMD_READ (R92). ENT_CMD READ copies the indexed fixture into ENT_DATA. -/
  | entCmdRead (t : Nat) (m : Nat)
  /-- ENT_CMD_WRITE (R88). ENT_CMD WRITE stores a fixture after the checks of R88, or holds it past the commit point. -/
  | entCmdWrite (t : Nat) (m : Nat)
  /-- ENT_CMD_DISARM (R90). ENT_CMD DISARM cancels a fixture occurrence not yet in its fire cycle. -/
  | entCmdDisarm (t : Nat) (m : Nat)
  /-- FIX_HELD_WRITE_APPLY (R90). A WRITE held after the commit point is applied and checked once the occurrence fires or is skipped. -/
  | fixHeldWriteApply (t : Nat)
  /-- FIXTURE_COMMIT (R83). At the commit point the fixture line time is converted into a physical instant. -/
  | fixtureCommit (t : Nat) (i : Fin 8192)
  /-- PREWARM_WAKE (R84). At the prewarm lead the PLLs are restarted and the named engine woken, with its map set fetched. -/
  | prewarmWake (t : Nat) (i : Fin 8192) (needs : List MapNeed)
  /-- TX_START (R81). A TX_START fixture fires and a frame starts on the named conductor, or the fixture is skipped. -/
  | txStart (t : Nat) (i : Fin 8192) (x : TxDesc)
  /-- RX_WINDOW (R81). An RX_WINDOW fixture opens a receive window on the named channels. -/
  | rxWindow (t : Nat) (i : Fin 8192)
  /-- RX_WINDOW_CLOSE (R218). A receive window reaches its length and closes. -/
  | rxWindowClose (t : Nat) (p ch : Fin 4)
  /-- ACK_TX (R142). An ACK_TX fixture fires and sends an immediate acknowledgement. -/
  | ackTx (t : Nat) (i : Fin 8192) (bandC : List (Nat × Nat))
  /-- BANK_SWAP (R57). A bank-swap fixture fires the AT_LINE_TIME swap of its group. -/
  | bankSwap (t : Nat) (i : Fin 8192)
  /-- ENGINE_WAKE (R84). An ENGINE_WAKE fixture wakes its target engine. -/
  | engineWake (t : Nat) (i : Fin 8192)
  /-- CONV_TRIGGER (R81). A CONV_TRIGGER fixture triggers a metrology snapshot, a surveillance capture or an HKC injected group. -/
  | convTrigger (t : Nat) (i : Fin 8192)
  /-- CTL_FIRE (R396). A CTL_FIRE fixture drives its control output edge when it belongs to the armed operation. -/
  | ctlFire (t : Nat) (i : Fin 8192)
  /-- SF_BOUNDARY (R81). An SF_BOUNDARY fixture marks a superframe start and starts its work. -/
  | sfBoundary (t : Nat) (i : Fin 8192)
  /-- QUIET (R224). A QUIET fixture starts or ends the quiet region, stopping any transmission in progress. -/
  | quiet (t : Nat) (i : Fin 8192)
  /-- ENGINE_EVENT (R81). An ENGINE_EVENT fixture passes its arguments to its engine. -/
  | engineEvent (t : Nat) (i : Fin 8192)
  /-- HOST_EVENT (R81). A HOST_EVENT fixture places ARG0 in FIX.HOST_EVT and sets its cause. -/
  | hostEvent (t : Nat) (i : Fin 8192)
  /-- MODE_WAKE (R493). A MODE_WAKE fixture requests the mode in ARG0. -/
  | modeWake (t : Nat) (i : Fin 8192)
  /-- AGC_OVERLOAD (R95). More than 16 overload samples in 1 µs lower the channel gain by 6 dB. -/
  | agcOverload (t : Nat) (p ch : Fin 4)
  /-- AGC_STEP_UP (R95). A slice with low peak raises the gain by 3 dB at the next slice boundary. -/
  | agcStepUp (t : Nat) (p ch : Fin 4)
  /-- TRANSMISSION_END (R98). A transmission ends, the driver returns to high impedance and receive gain is restored. -/
  | transmissionEnd (t : Nat) (p : Fin 4) (c : Fin 3) (bb : Bool) (a b d : LineEnd) (conv : Bool)
  /-- CURRENT_LIMIT (R106). Driver current reaches its limit, the conductor enters LIMIT and limit time accumulates. -/
  | currentLimit (t : Nat) (p : Fin 4) (c : Fin 3) (us : Nat)
  /-- FOLDBACK (R106). LIM_MS reaches FOLD_MS, the driver goes to high impedance and the conductor enters FOLDBACK. -/
  | foldback (t : Nat) (p : Fin 4) (c : Fin 3)
  /-- LIMIT_EXPIRY (R107). One second without limiting returns LIM_MS to 0 and ends LIMIT. -/
  | limitExpiry (t : Nat) (p : Fin 4) (c : Fin 3)
  /-- PROBE_REQUEST (R105). A PROBE_REQ bit or a TX_EN rise requests an impedance probe of a conductor. -/
  | probeRequest (t : Nat) (m : Nat) (p : Fin 4) (c : Fin 3)
  /-- PROBE_START (R105). A waiting probe runs once the conductor may drive and is not transmitting or quiet. -/
  | probeStart (t : Nat) (p : Fin 4) (c : Fin 3)
  /-- PROBE_DONE (R109). A probe ends, reports ZMAG and may return the conductor to NORMAL. -/
  | probeDone (t : Nat) (p : Fin 4) (c : Fin 3) (z : Nat)
  /-- PROBE_RETRY (R109). Every RETRY_SF superframes a conductor in FOLDBACK or OPEN is probed in its beacon region. -/
  | probeRetry (t : Nat) (p : Fin 4) (c : Fin 3)
  /-- POLARITY_CHANGE (R110). A polarity change takes effect at the first free slice boundary of the conductor. -/
  | polarityChange (t : Nat) (p : Fin 4) (c : Fin 3)
  /-- LN_SWAP_DETECT (R106). Fifty cycles of a 180° conductor offset detect or clear a line-neutral swap. -/
  | lnSwapDetect (t : Nat) (p : Fin 4) (c : Fin 3)
  /-- SEQ_REV_DETECT (R106). Fifty cycles of reversed phase lags detect or clear a reversed phase sequence. -/
  | seqRevDetect (t : Nat) (p : Fin 4)
  /-- OPEN_NEUTRAL_DETECT (R106). Ten cycles of neutral imbalance detect or clear an open neutral. -/
  | openNeutralDetect (t : Nat) (p : Fin 4) (cycles : List (Nat × List Nat))
  /-- VDRV_FAULT (R106). VDRV_p leaves its range and the port's drivers go to high impedance in SUPPLY. -/
  | vdrvFault (t : Nat) (p : Fin 4) (mv : Int)
  /-- VDRV_RECOVER (R106). VDRV_p stays in range for 100 ms and SUPPLY ends. -/
  | vdrvRecover (t : Nat) (p : Fin 4) (mv : Int)
  /-- NB_FRAME_RX (R144). A narrowband frame is received whole from its preamble and its header and codewords decoded. -/
  | nbFrameRx (t : Nat) (p : Fin 4) (c : Fin 3) (x : RxFrame)
  /-- BB_FRAME_RX (R167). A broadband frame is received whole and decoded across the receive set. -/
  | bbFrameRx (t : Nat) (p : Fin 4) (c : Fin 3) (x : RxFrame)
  /-- BANDC_MAX_TX (R141). Continuous band C transmission reaches MAX_TX_MS and stops at the next symbol boundary. -/
  | bandcMaxTx (t : Nat) (p : Fin 4) (c : Fin 3)
  /-- ISP_DETECT (R169). ISP signals in three windows set ISP_STAT.PRESENT. -/
  | ispDetect (t : Nat) (p : Fin 4) (windows : List (List Nat)) (alloc : Option IspAlloc)
  /-- ISP_CLEAR (R169). No ISP signal for ISP_CLR_S seconds clears PRESENT. -/
  | ispClear (t : Nat) (p : Fin 4)
  /-- ACK_RX (R247). A received acknowledgement naming the frame's SEED drives the sender's outcome. -/
  | ackRx (t : Nat)
  /-- ACK_TIMEOUT (R246). No acknowledgement preamble by the deadline counts the acknowledgement missing. -/
  | ackTimeout (t : Nat) (d : Nat)
  /-- MAP_CHANGE (R190). A received map-change body is checked and scheduled for its effective instant. -/
  | mapChange (t : Nat)
  /-- MAP_CHANGE_APPLY (R179). At the effective instant the new map set selection takes effect. -/
  | mapChangeApply (t : Nat) (peer : Nat) (p : Fin 4) (bb : Bool) (c : Fin 3) (rx : Bool)
  /-- MAP_CHANGE_RESEND (R191). A frame naming the old set one superframe late causes the change to be resent. -/
  | mapChangeResend (t : Nat) (peer : Nat) (p : Fin 4) (bb : Bool) (c : Fin 3)
  /-- OLD_SET_RELEASE (R191). OLD_HOLD superframes after the effective instant the old set's blocks are released. -/
  | oldSetRelease (t : Nat) (peer : Nat) (p : Fin 4) (bb : Bool) (c : Fin 3) (rx : Bool)
  /-- S_CHANGE (R206). A changed superframe length takes effect at the aligned cycle. -/
  | sChange (t : Nat)
  /-- BEACON_RX (R226). A tracked upstream beacon is accepted, updating SL_OFS, parameters and upstream state. -/
  | beaconRx (t : Nat) (lq : Nat)
  /-- BEACON_MISS (R228). A beacon region ends with no beacon accepted, moving to COAST or REACQ. -/
  | beaconMiss (t : Nat)
  /-- CONTENTION_ACCESS (R214). A contention frame starts at its drawn idle boundary or gives up after MAX_ATT regions. -/
  | contentionAccess (t : Nat) (id level : Nat) (preamble : Bool)
  /-- GRANT_RESEND (R221). An unacknowledged slot grant is resent each superframe. -/
  | grantResend (t : Nat)
  /-- SLOT_GRANT (R220). A received slot-grant body replaces the held grants from its EFF_CYC. -/
  | slotGrant (t : Nat)
  /-- ASSOC_REQ (R261). A received sealed association request is decided and answered. -/
  | assocReq (t : Nat)
  /-- ASSOC_RESP (R260). A received association response gives the node its address and lease. -/
  | assocResp (t : Nat)
  /-- DISASSOC (R263). A received DISASSOC ends the association and quarantines the address. -/
  | disassoc (t : Nat)
  /-- LEASE_RENEW (R262). A received LEASE_RENEW renews the lease and returns LEASE_ACK. -/
  | leaseRenew (t : Nat)
  /-- LEASE_ACK (R262). A received LEASE_ACK renews the node's lease or forces reassociation. -/
  | leaseAck (t : Nat)
  /-- NULL (R254). A received MGMT NULL frame carries an IRD repair. -/
  | mgmtNull (t : Nat)
  /-- LEASE_RENEW_SEND (R262). 192 superframes after the last renewal the node sends LEASE_RENEW each superframe. -/
  | leaseRenewSend (t : Nat)
  /-- LEASE_END (R228). A lease ends, the address is taken back or quarantined and upstream work fails. -/
  | leaseEnd (t : Nat)
  /-- QUARANTINE_END (R262). After 64 superframes a quarantined address becomes free. -/
  | quarantineEnd (t : Nat)
  /-- IR_HOLD_EXPIRY (R253). Held soft values expire after IR_HOLD_SF superframes. -/
  | irHoldExpiry (t : Nat)
  /-- NBR_EXPIRY (R255). A neighbour unheard for 255 superframes is freed. -/
  | nbrExpiry (t : Nat) (p : Fin 4)
  /-- EPOCH_GRACE_END (R435). Sixteen superframes after a key-epoch change the former epoch is no longer accepted. -/
  | epochGraceEnd (t : Nat)
  /-- NBR_REPORT (R272). A received neighbour report updates link qualities and parent choice. -/
  | nbrReport (t : Nat)
  /-- NBR_REPORT_SEND (R272). Every NBR_REP_SF superframes a node sends NBR_REPORT. -/
  | nbrReportSend (t : Nat) (p : Fin 4) (lqs : List (Nat × Nat × Nat))
  /-- PARENT_SET (R272). A received PARENT_SET schedules a parent change at EFF_SF. -/
  | parentSet (t : Nat)
  /-- PARENT_SET_APPLY (R272). At EFF_SF the new parent and stored route take effect. -/
  | parentSetApply (t : Nat)
  /-- ROUTE_ERR (R274). A received ROUTE_ERR marks affected nodes NO_ROUTE and reroutes them. -/
  | routeErr (t : Nat)
  /-- COOP_RESULT (R279). A received COOP_RESULT counts a cooperative frame acknowledged or failed. -/
  | coopResult (t : Nat)
  /-- GROUP_SET (R281). A received GROUP_SET replaces the node's group membership. -/
  | groupSet (t : Nat)
  /-- COOP_CARRY (R278). A received carry is held for sending at its COOP slot. -/
  | coopCarry (t : Nat)
  /-- FORWARD_HOLD_EXPIRY (R273). A frame held for forwarding for 8 superframes is discarded. -/
  | forwardHoldExpiry (t : Nat)
  /-- ROUTE_WAIT_EXPIRY (R274). Messages waiting ROUTE_WAIT_SF superframes with NO_ROUTE complete with NO_ROUTE. -/
  | routeWaitExpiry (t : Nat) (a : Nat)
  /-- COOP_WAIT_EXPIRY (R279). No COOP_RESULT within COOP_WAIT_SF counts a failed cooperative attempt. -/
  | coopWaitExpiry (t : Nat)
  /-- FLOOD_REBROADCAST (R280). A scheduled flood rebroadcast is sent or cancelled after C_SUP hearings. -/
  | floodRebroadcast (t : Nat) (orig fseq : Nat)
  /-- FLOOD_DUP_EXPIRY (R280). A flood pair leaves the duplicate cache after DUP_SF superframes. -/
  | floodDupExpiry (t : Nat)
  /-- EP_WIN_WRITE (R285). A write to the selected endpoint record changes only its writable bytes, sending GROUP_SET on a group change. -/
  | epWinWrite (t : Nat) (m : Nat) (i : Fin 128) (v : Word)
  /-- ENDPOINT_RECORD_STORE (R282). A changed endpoint record is written to storage within 1 s. -/
  | endpointRecordStore (t : Nat)
  /-- MSG_SEND (R294). A MSG_SEND submission is checked and its message queued. -/
  | msgSend (t : Nat) (r : Fin 256) (e : List Byte) (payload : List Byte) (free : Bool)
  /-- TXN_SEND (R297). A TXN_SEND submission queues one message per member. -/
  | txnSend (t : Nat) (r : Fin 256) (e : List Byte) (members : List Byte) (payloads : List (List Byte)) (free : List Bool)
  /-- ADMIT (R284). An ADMIT submission adds a long address to the admission list. -/
  | admission (t : Nat) (r : Fin 256) (e : List Byte)
  /-- REVOKE (R284). A REVOKE submission removes a long address and disassociates it. -/
  | revoke (t : Nat) (r : Fin 256) (e : List Byte)
  /-- RECEIPT_TIMEOUT (R295). A receipt timeout resends the whole message or ends it with TIMEOUT. -/
  | receiptTimeout (t : Nat) (msg : Nat)
  /-- MESSAGE_DEADLINE (R295). Reaching D or EXEC_CYC before hand-off stops sending. -/
  | messageDeadline (t : Nat) (msg : Nat)
  /-- REPORT_RX (R296). A received REPORT ends its message with a status. -/
  | reportRx (t : Nat)
  /-- UPLINK_MESSAGE_RX (R291). A complete uplink message is checked, delivered or suppressed, with a REPORT. -/
  | uplinkMessageRx (t : Nat)
  /-- REASSEMBLY_TIMEOUT (R291). An uplink message incomplete after REASM_SF is discarded. -/
  | reassemblyTimeout (t : Nat)
  /-- CREDIT_REQUEST (R308). A producer asks for credits and receives a grant with the current epoch. -/
  | creditRequest (t : Nat) (q : Nat) (n : Nat)
  /-- CREDIT_RETURN (R309). A producer returns unneeded credits and their reservations are freed. -/
  | creditReturn (t : Nat) (q : Nat) (n : Nat)
  /-- QUEUE_WRITE (R311). A producer granule write is checked and accepted into the open item. -/
  | queueWrite (t : Nat) (q : Nat) (writer epoch : Nat) (data : List Byte) (start fin : Bool)
  /-- READ_LINE (R313). A consumer reads the next 64-byte line of the head item. -/
  | readLine (t : Nat) (q : Nat) (corr : Nat) (bad : List Nat) (loc : ScrubFound)
  /-- REWIND (R313). The consumer cursor returns to the first line of the head item. -/
  | rewind (t : Nat) (q : Nat)
  /-- RELEASE (R313). The head item is removed and its cells return to the pool. -/
  | release (t : Nat) (q : Nat)
  /-- QUEUE_FLUSH (R314). A flush request empties the queue and increments its epoch. -/
  | queueFlush (t : Nat) (q : Nat)
  /-- CELL_RETURN_DONE (R314). Cells removed by a flush finish returning to the pool. -/
  | cellReturnDone (t : Nat) (q : Nat)
  /-- Q_READ_DESC (R319). Q_CMD READ copies the selected queue descriptor into Q_DESC. -/
  | qReadDesc (t : Nat) (m : Nat)
  /-- Q_FLUSH (R319). Q_CMD FLUSH flushes the selected queue. -/
  | qFlush (t : Nat) (m : Nat)
  /-- Q_SET_LIMIT (R319). Q_CMD SET_LIMIT sets the queue LIMIT or is refused. -/
  | qSetLimit (t : Nat) (m : Nat)
  /-- Q_CLEAR_ERR (R319). Q_CMD CLEAR_ERR clears ERR, LAST_ERR and ERR_N. -/
  | qClearErr (t : Nat) (m : Nat)
  /-- LINK_UP (R338). A host-link port comes up in its negotiated mode as ACTIVE or STANDBY. -/
  | linkUp (t : Nat) (n : Fin 2) (mode : Fin 8)
  /-- LINK_LOSS (R339). The active host link is declared lost and failover begins. -/
  | linkLoss (t : Nat) (n : Fin 2)
  /-- FAILOVER_COMPLETE (R340). The standby port becomes active, CQ entries are rewritten and fetching resumes. -/
  | failoverComplete (t : Nat)
  /-- HOST_SWITCH (R341). A write of HOST_CTL.SWITCH swaps active and standby ports in order. -/
  | hostSwitch (t : Nat) (m : Nat)
  /-- HEARTBEAT (R345). A write of HOST_CTL.HB restarts the watchdog and may return the host. -/
  | heartbeat (t : Nat) (m : Nat)
  /-- HOST_WATCHDOG (R344). HOST_WD expires without a heartbeat and the host becomes absent. -/
  | hostWatchdog (t : Nat)
  /-- SQ_DOORBELL (R337). A write of the SQ_TAIL doorbell is checked and accepted or rejected. -/
  | sqDoorbell (t : Nat) (r : Fin 256) (v : Word)
  /-- CQ_DOORBELL (R337). A write of the CQ_HEAD doorbell frees consumed CQ slots. -/
  | cqDoorbell (t : Nat) (r : Fin 256) (v : Word)
  /-- IRQ_GAP_EXPIRY (R325). The ring IRQ_GAP ends and one message covers the entries written in it. -/
  | irqGapExpiry (t : Nat) (r : Fin 256)
  /-- MSIX_UNMASK (R326). Clearing a vector mask sends its pending message. -/
  | msixUnmask (t : Nat) (v : Fin 512)
  /-- NOP (R332). A NOP submission completes DONE. -/
  | nop (t : Nat) (r : Fin 256) (e : List Byte)
  /-- FIX_WRITE (R332). A FIX_WRITE submission writes a host fixture under R88. -/
  | fixWrite (t : Nat) (r : Fin 256) (e : List Byte)
  /-- FIX_DISARM (R332). A FIX_DISARM submission disarms a host fixture under R90. -/
  | fixDisarm (t : Nat) (r : Fin 256) (e : List Byte)
  /-- FIX_READ (R332). A FIX_READ submission returns any fixture entry. -/
  | fixRead (t : Nat) (r : Fin 256) (e : List Byte)
  /-- RXBUF_POST (R334). A RXBUF_POST submission makes a receive buffer available. -/
  | rxbufPost (t : Nat) (r : Fin 256) (e : List Byte)
  /-- RING_ENABLE (R336). A write of RING_CTL.EN 1 makes a valid ring ACTIVE. -/
  | ringEnable (t : Nat) (r : Fin 256)
  /-- RING_DISABLE (R336). A write of RING_CTL.EN 0 drains the ring or returns it from ERROR. -/
  | ringDisable (t : Nat) (r : Fin 256)
  /-- RING_ABORT (R336). A write of RING_CTL.ABORT flushes a draining ring's submissions. -/
  | ringAbort (t : Nat) (r : Fin 256)
  /-- RING_DRAIN_DONE (R336). A draining ring with all completions consumed becomes IDLE. -/
  | ringDrainDone (t : Nat) (r : Fin 256)
  /-- RING_DMA_ERROR (R336). A failed host-memory access puts the ring in ERROR. -/
  | ringDmaError (t : Nat) (r : Fin 256) (failed : Nat)
  /-- FUNCTION_LEVEL_RESET (R336). A function-level reset returns every ring to IDLE and releases a carded host function. -/
  | functionLevelReset (t : Nat)
  /-- REG_RD (R342). A bulk REG_RD packet reads register words. -/
  | regRd (t : Nat) (a n : Nat)
  /-- REG_WR (R342). A bulk REG_WR packet writes register words. -/
  | regWr (t : Nat) (a : Nat) (data : List Byte)
  /-- SUBMIT (R342). A bulk SUBMIT packet delivers submission entries. -/
  | bulkSubmit (t : Nat) (r : Fin 256) (idx : Nat) (entries : List (List Byte))
  /-- CQ_ACK (R342). A bulk CQ_ACK packet sets the new CQ head. -/
  | cqAck (t : Nat) (r : Fin 256) (v : Word)
  /-- DATA (R342). A bulk DATA packet answers a DATA_REQ. -/
  | bulkData (t : Nat) (a : Nat) (data : List Byte)
  /-- MAINT_REG_READ (R343). USB 2.0 vendor request 0x01 reads one register word within D1 rights. -/
  | maintRegRead (t : Nat) (n : Fin 2) (page ofs : Nat)
  /-- MAINT_REG_WRITE (R343). USB 2.0 vendor request 0x02 writes one SYS or SCB register word. -/
  | maintRegWrite (t : Nat) (n : Fin 2) (page ofs : Nat) (v : Word)
  /-- SECOND_RECORD (R360). A surveillance interval ends and its second record is written with the line check. -/
  | secondRecord (t : Nat) (xs : List SrvSample) (credit : Bool)
  /-- REFERENCE_RECORD (R359). After REF_SF superframes the quiet-region reference record is written. -/
  | referenceRecord (t : Nat) (xs : List SrvSample) (credit : Bool)
  /-- IL_CONVERGED (R352). Interleave mismatch correction converges and CONVERGED is set. -/
  | ilConverged (t : Nat) (image : Nat)
  /-- IL_FALLBACK (R353). A failed surveillance converter leaves the pair on one converter. -/
  | ilFallback (t : Nat)
  /-- LOOPBACK_CHECK (R365). Each 1 ms loopback margin is measured and LB_N low margins mute the port. -/
  | loopbackCheck (t : Nat) (p : Fin 4) (c : Fin 3) (tone : Int) (bands : List (Nat × Int))
  /-- MUTE_CLEAR (R367). A write of MUTE_CLR lifts a port's mute unless LOST. -/
  | muteClear (t : Nat) (m : Nat) (ports : Fin 16)
  /-- CAPTURE_TRIGGER (R368). A write of CAP_CTL.TRIG triggers a raw capture. -/
  | captureTrigger (t : Nat) (m : Nat)
  /-- LIMIT_LINE_TRIGGER (R368). A peak crossing a valid limit line triggers a raw capture. -/
  | limitLineTrigger (t : Nat) (n f : Nat) (level : Int)
  /-- CAPTURE_HELD (R368). A capture fills, enters HELD and is archived when AUTO_ARCH is set. -/
  | captureHeld (t : Nat) (xs : List SrvSample) (credit : Bool)
  /-- CAPTURE_ARM (R368). A write of CAP_CTL.ARM re-arms the capture buffer. -/
  | captureArm (t : Nat) (m : Nat)
  /-- CAP_READ (R375). A CAP_READ submission copies held capture bytes to the host. -/
  | capRead (t : Nat) (r : Fin 256) (e : List Byte)
  /-- XL_INSTALL (R370). An XL_INSTALL submission checks a signed exclusion list and commits it. -/
  | xlInstall (t : Nat) (r : Fin 256) (e : List Byte) (data : List Byte)
  /-- EXCLUSION_APPLY (R371). After the vault commit the list is written to EXCL in both banks of every TX page. -/
  | exclusionApply (t : Nat)
  /-- METRO_INTERVAL (R383). A 10/12-cycle interval ends, updating live values and aggregates and records. -/
  | metroInterval (t : Nat) (p : Fin 4) (xs : List MetSample) (credit : Bool)
  /-- METRO_UTC_BOUNDARY (R383). A UTC 10-min boundary ends the intervals in progress and writes the ten-minute record. -/
  | metroUtcBoundary (t : Nat) (p : Fin 4) (xs : List MetSample) (credit : Bool)
  /-- DIP_SWELL_DETECT (R385). The half-cycle Urms starts or ends a dip or swell, writing an event record at its end. -/
  | dipSwellDetect (t : Nat) (p : Fin 4) (xs : List MetSample) (credit : Bool)
  /-- MET_SNAP_DONE (R388). A metrology snapshot has captured SNAP_CYC cycles and HELD is set. -/
  | metSnapDone (t : Nat) (xs : List (List Int))
  /-- MET_SNAP_READ (R388). A MET_SNAP_READ submission copies the snapshot and clears HELD. -/
  | metSnapRead (t : Nat) (r : Fin 256) (e : List Byte)
  /-- HKC_REGULAR_SCAN (R391). A regular HKC scan converts its list and checks limits. -/
  | hkcRegularScan (t : Nat) (rs : List (Nat × Int))
  /-- HKC_INJ_TRIG (R392). A write of HKC_CTL.INJ_TRIG triggers the injected group. -/
  | hkcInjTrig (t : Nat) (m : Nat)
  /-- HKC_INJ_DONE (R392). The injected group finishes and its results and line time are stored. -/
  | hkcInjDone (t : Nat) (rs : List (Nat × Int))
  /-- HKC_CAL (R393). A write of HKC_CTL.CAL or the 10 s period requests a calibration. -/
  | hkcCal (t : Nat)
  /-- HKC_CAL_DONE (R393). A calibration completes and CAL_DONE is set. -/
  | hkcCalDone (t : Nat)
  /-- CTL_ARM (R397). A CTL_ARM submission checks and arms a control output with its fixture. -/
  | ctlArm (t : Nat) (r : Fin 256) (e : List Byte)
  /-- ARM_CMD_ARM (R397). ARM_CMD.ARM arms the selected output from the ARM registers. -/
  | armCmdArm (t : Nat) (m : Nat)
  /-- ARM_CMD_DISARM (R400). ARM_CMD.DISARM disarms the selected output. -/
  | armCmdDisarm (t : Nat) (m : Nat)
  /-- CTL_DISARM (R400). A CTL_DISARM submission disarms an output. -/
  | ctlDisarm (t : Nat) (r : Fin 256) (e : List Byte)
  /-- CLR_LOCK (R401). ARM_CMD.CLR_LOCK returns an output in LOCKOUT to IDLE. -/
  | clrLock (t : Nat) (m : Nat)
  /-- PULSE_END (R400). PULSE_MS elapses, the output goes inactive and the operation may resolve. -/
  | pulseEnd (t : Nat) (n : Fin 8)
  /-- CTLFB_EDGE (R399). A feedback edge is timed against the window and adapts OP_TIME. -/
  | ctlfbEdge (t : Nat) (n : Fin 8) (level : Bool)
  /-- FEEDBACK_TIMEOUT (R400). FB_MAX passes with no feedback, a feedback failure. -/
  | feedbackTimeout (t : Nat) (n : Fin 8)
  /-- INTERLOCK_CHANGE (R398). A debounced interlock change alters PERMIT and may disarm or release an output. -/
  | interlockChange (t : Nat) (n : Fin 4) (level : Bool)
  /-- DRIVE_ATTACH (R411). A drive appears and is used, adopted or marked FOREIGN by its label. -/
  | driveAttach (t : Nat) (x : DriveFound)
  /-- DRIVE_ACCEPT (R411). A write of STO_CTL.ACCEPT_n adopts a foreign drive. -/
  | driveAccept (t : Nat) (m : Nat) (n : Fin 2)
  /-- DRIVE_LOSS (R423). A drive is declared lost and storage continues by mode. -/
  | driveLoss (t : Nat) (n : Fin 2) (cause : Nat)
  /-- BLOCK_REPAIR (R423). A failing block is rewritten from its mirror or working copy, or lost. -/
  | blockRepair (t : Nat) (n : Fin 2) (region lba : Nat) (gone : List Nat)
  /-- RESYNC_DONE (R424). Resynchronisation of an adopted drive completes. -/
  | resyncDone (t : Nat)
  /-- SMART_POLL (R425). The SMART log read every 10 min or on an asynchronous event drives wear actions. -/
  | smartPoll (t : Nat) (n : Fin 2) (used spare thr retired : Nat) (temp : Int)
  /-- VAULT_COMMIT (R415). A datum commit writes three copies and advances the pointer or fails. -/
  | vaultCommit (t : Nat) (datum : Fin 8) (oks : List Bool)
  /-- LEASE_TABLE_COMMIT (R414). Every 64 superframes the lease tables are committed as vault datum 4. -/
  | leaseTableCommit (t : Nat)
  /-- SCOREBOOK_STORE (R420). Staged records are moved to the scorebook ring within their time limit. -/
  | scorebookStore (t : Nat)
  /-- SCB_READ (R422). An SCB_READ submission returns scorebook records. -/
  | scbRead (t : Nat) (r : Fin 256) (e : List Byte)
  /-- ARCH_READ (R422). An ARCH_READ submission returns archive bytes. -/
  | archRead (t : Nat) (r : Fin 256) (e : List Byte)
  /-- KEY_DERIVE (R437). SLOT_CMD DERIVE loads a key slot by KMAC256 from its source. -/
  | keyDerive (t : Nat) (m : Nat) (n : Fin 64) (src : Fin 3) (srcSlot : Fin 64)
  /-- KEY_ERASE (R438). SLOT_CMD ERASE stops operations on the slot and empties it. -/
  | keyErase (t : Nat) (m : Nat) (n : Fin 64)
  /-- AES_OPERATION (R440). An AES-256-GCM request runs on a core and releases its result under the release rules. -/
  | aesOperation (t : Nat) (core : Fin 4) (slot : Nat) (job : AesJob) (who : AccReq) (fin : Bool) (chunks : Nat)
  /-- AES_KAT_PERIODIC (R539). The 10 s known-answer test of each AES core runs. -/
  | aesKatPeriodic (t : Nat) (bad : List Nat)
  /-- TRNG_SOURCE_FAIL (R451). A noise source fails its health test and leaves use. -/
  | trngSourceFail (t : Nat) (n : Fin 4)
  /-- ENTROPY_TIMEOUT (R451). One second after NO_ENTROPY AES and DRBG requests are refused. -/
  | entropyTimeout (t : Nat)
  /-- DRBG_RESEED (R452). The DRBG reseeds after RESEED_N requests or each second. -/
  | drbgReseed (t : Nat)
  /-- DRBG_GENERATE (R452). A DRBG request is served in arrival order. -/
  | drbgGenerate (t : Nat) (n : Nat)
  /-- ATTEST (R444). An ATTEST submission writes a signed attestation report. -/
  | attest (t : Nat) (r : Fin 256) (e : List Byte) (nonce : List Byte)
  /-- IDENTITY_READ (R455). An IDENTITY_READ submission returns the identity key and endorsement. -/
  | identityRead (t : Nat) (r : Fin 256) (e : List Byte)
  /-- KEY_EPOCH (R435). A sealed KEY_EPOCH advances an endpoint key epoch. -/
  | keyEpoch (t : Nat) (r : Fin 256) (e : List Byte) (blk : List Byte)
  /-- PROV_INSTALL (R455). A sealed PROV_INSTALL writes CRK and customer hashes to OTP. -/
  | provInstall (t : Nat) (r : Fin 256) (e : List Byte) (blk : List Byte)
  /-- KEY_INSTALL (R455). A sealed KEY_INSTALL commits own EBK or upstream NK to the vault. -/
  | keyInstall (t : Nat) (r : Fin 256) (e : List Byte) (blk : List Byte)
  /-- FIELD_LOCK (R453). A sealed FIELD_LOCK moves the device from PROV to FIELD. -/
  | fieldLock (t : Nat) (r : Fin 256) (e : List Byte) (blk : List Byte)
  /-- SESSION_OPEN (R448). A SESSION_OPEN submission returns a signed ML-KEM encapsulation key. -/
  | sessionOpen (t : Nat) (r : Fin 256) (e : List Byte) (nonce : List Byte)
  /-- SESSION_FINISH (R448). A SESSION_FINISH submission authenticates the host and derives session keys. -/
  | sessionFinish (t : Nat) (r : Fin 256) (e : List Byte) (buf : List Byte)
  /-- SESSION_CLOSE (R450). A SESSION_CLOSE submission closes a session and zeroises its keys. -/
  | sessionClose (t : Nat) (r : Fin 256) (e : List Byte)
  /-- IMAGE_WRITE (R455). An IMAGE_WRITE submission writes the inactive image slot. -/
  | imageWrite (t : Nat) (r : Fin 256) (e : List Byte) (data : List Byte) (ok : Bool)
  /-- IMAGE_ACTIVATE (R447). An IMAGE_ACTIVATE submission checks the inactive slot and names it trial. -/
  | imageActivate (t : Nat) (r : Fin 256) (e : List Byte)
  /-- BOOT_CONFIRM (R447). A BOOT_CONFIRM submission makes the trial slot active and raises FW_SVN. -/
  | bootConfirm (t : Nat) (r : Fin 256) (e : List Byte)
  /-- TRIAL_EXPIRY (R447). TRIAL_S passes unconfirmed and the device resets to the former slot. -/
  | trialExpiry (t : Nat)
  /-- RETIRE (R453). A sealed RETIRE moves the device to RETIRED. -/
  | retire (t : Nat) (r : Fin 256) (e : List Byte) (blk : List Byte)
  /-- UART_RX_CHAR (R458). A character is received, checked and placed in the receive FIFO. -/
  | uartRxChar (t : Nat) (n : Fin 2) (c : UartChar)
  /-- UART_BREAK (R462). A low period of at least a character ends and is reported as a break. -/
  | uartBreak (t : Nat) (n : Fin 2) (start : Nat)
  /-- UART_DEAD_LINE (R462). A low period reaching BRK_MAX declares a dead line. -/
  | uartDeadLine (t : Nat) (n : Fin 2) (start : Nat)
  /-- UART_DEAD_CLEAR (R462). The line rises and DEAD clears. -/
  | uartDeadClear (t : Nat) (n : Fin 2)
  /-- UART_TX_DATA (R457). A write of TX_DATA appends a character to the transmit FIFO. -/
  | uartTxData (t : Nat) (m : Nat) (n : Fin 2) (char : Fin 512)
  /-- UART_TX_CHAR_DONE (R466). A character finishes sending and the next starts when CTS permits. -/
  | uartTxCharDone (t : Nat) (n : Fin 2)
  /-- UART_RX_POP (R460). A write of RX_POP removes the head character. -/
  | uartRxPop (t : Nat) (m : Nat) (n : Fin 2)
  /-- UART_DIV_WRITE (R459). A write of DIV changes the rate from the next character. -/
  | uartDivWrite (t : Nat) (m : Nat) (n : Fin 2) (v : Word)
  /-- BRK_SEND (R461). A write of TX_CMD.BRK_SEND sends a break after the current character. -/
  | brkSend (t : Nat) (m : Nat) (n : Fin 2)
  /-- UART_WAKE_MATCH (R464). A sleep-receiver character matching the wake address requests a wake. -/
  | uartWakeMatch (t : Nat) (c : UartChar)
  /-- UART_HANDOVER (R465). Once PCLK runs the sleep FIFO is handed to the awake receiver. -/
  | uartHandover (t : Nat)
  /-- I2C_START (R468). A queued START is sent after a bus check, with its byte. -/
  | i2cStart (t : Nat) (clocks : Nat) (nack arb : Bool)
  /-- I2C_WRITE (R468). A queued WRITE sends a byte and handles NACK or arbitration loss. -/
  | i2cWrite (t : Nat) (nack arb : Bool)
  /-- I2C_READ (R468). A queued READ receives a byte with ACK or NACK. -/
  | i2cRead (t : Nat) (b : Byte) (arb : Bool)
  /-- I2C_STOP (R468). A queued STOP ends the transfer. -/
  | i2cStop (t : Nat)
  /-- I2C_RECOVER (R469). A write of I2C_CTL.RECOVER runs bus recovery at once. -/
  | i2cRecover (t : Nat) (m clocks : Nat)
  /-- I2C_ABORT (R470). A write of I2C_CTL.ABORT flushes the queue and sends STOP. -/
  | i2cAbort (t : Nat) (m : Nat)
  /-- I2C_RD_POP (R470). A write of RD_POP removes the head byte read. -/
  | i2cRdPop (t : Nat) (m : Nat)
  /-- I2C_SCL_TIMEOUT (R469). SCL low for SCL_TMO ms sets STUCK_SCL and flushes the queue. -/
  | i2cSclTimeout (t : Nat)
  /-- OUT_SET (R471). A write of OUT_SET sets GPIO output bits. -/
  | outSet (t : Nat) (m : Nat) (v : Word)
  /-- OUT_CLR (R471). A write of OUT_CLR clears GPIO output bits. -/
  | outClr (t : Nat) (m : Nat) (v : Word)
  /-- GPIO_EDGE (R471). A filtered GPIO edge sets its cause and may wake the device. -/
  | gpioEdge (t : Nat) (n : Fin 24) (high : Bool) (held : Nat)
  /-- CHK_FEED (R478). A write of CHK_FEED_u feeds four bytes and checks a completed record. -/
  | chkFeed (t : Nat) (m : Nat) (u : Fin 16) (v : Word)
  /-- CHK_FEED_B (R478). A write of CHK_FEED_B feeds one byte to a unit. -/
  | chkFeedB (t : Nat) (m : Nat) (u : Fin 16) (b : Byte)
  /-- CHK_CLR (R480). A write of CHK_CLR restarts a unit's CRC and alive expectation. -/
  | chkClr (t : Nat) (m : Nat) (units : Fin 65536)
  /-- CHK_TIMEOUT (R479). No record within TMO_MS gives status TIMEOUT. -/
  | chkTimeout (t : Nat) (u : Fin 16)
  /-- MODE_REQUEST (R488). A write of MODE_REQ.REQ requests a mode, refused, replaced or waiting. -/
  | modeRequest (t : Nat) (m : Nat) (mode : Fin 16)
  /-- MODE_SWITCH (R489). At the switch point the requested mode change takes effect. -/
  | modeSwitch (t : Nat)
  /-- MODE_CHANGE_DONE (R490). The target mode runs and the request resolves DONE. -/
  | modeChangeDone (t : Nat)
  /-- SAFE_N_ASSERT (R492). SAFE_N falls and the device enters SAFE with drivers in high impedance. -/
  | safeNAssert (t : Nat)
  /-- SAFE_N_RELEASE (R492). SAFE_N rises and the device stays in SAFE. -/
  | safeNRelease (t : Nat)
  /-- HOST_LINK_ATTACH (R493). A USB partner attaches in DORMANT or WATCH and wakes the device. -/
  | hostLinkAttach (t : Nat)
  /-- XTAL32_FAIL (R487). XTAL32 stops and ACLK is taken from XTAL25. -/
  | xtal32Fail (t : Nat)
  /-- XTAL25_FAIL (R487). XTAL25 stops and the device continues on REF10_IN or enters WATCH. -/
  | xtal25Fail (t : Nat)
  /-- REF_LOST (R486). REF10_IN gives no edge for 1 µs and the fast PLL changes to XTAL25. -/
  | refLost (t : Nat)
  /-- REF10_RESTORE (R486). REF10_IN present for 1 s returns the PLL to it. -/
  | ref10Restore (t : Nat)
  /-- PLL_STOP (R494). In LISTEN the PLLs stop after STOP_HOLD with no fixture, work or host access. -/
  | pllStop (t : Nat)
  /-- CC91_GATE (R501). In LISTEN CC 91 is power-gated after 10 ms without a security request. -/
  | cc91Gate (t : Nat)
  /-- CHALLENGE (R569). DAP CHALLENGE issues a new 80-byte debug challenge. -/
  | dapChallenge (t : Nat)
  /-- OUT (R568). DAP OUT returns the next four challenge bytes. -/
  | dapOut (t : Nat)
  /-- IN (R568). DAP IN appends four bytes to the response buffer. -/
  | dapIn (t : Nat) (v : Word)
  /-- DAP_SUBMIT (R508). DAP SUBMIT checks the response and grants or refuses the debug level. -/
  | dapSubmit (t : Nat)
  /-- STATUS (R568). DAP STATUS returns SEC.DBG_STAT. -/
  | dapStatus (t : Nat)
  /-- LOWER (R509). DAP LOWER lowers the debug level. -/
  | dapLower (t : Nat) (l : Fin 4)
  /-- ADDR_LO (R568). DAP ADDR_LO sets fabric address bits 31:0. -/
  | dapAddrLo (t : Nat) (v : Word)
  /-- ADDR_HI (R568). DAP ADDR_HI sets fabric address bits 47:32. -/
  | dapAddrHi (t : Nat) (v : Word)
  /-- READ (R568). DAP READ reads one word at the address and advances it. -/
  | dapRead (t : Nat) (host : List Byte)
  /-- WRITE (R568). DAP WRITE writes one word at the address and advances it. -/
  | dapWrite (t : Nat) (v : Word)
  /-- HALT (R503). DAP HALT halts a permitted engine. -/
  | dapHalt (t : Nat) (l : Fin 128) (checks : Bool)
  /-- STEP (R503). DAP STEP single-steps a halted engine. -/
  | dapStep (t : Nat) (l : Fin 128)
  /-- RESUME (R503). DAP RESUME resumes a halted engine. -/
  | dapResume (t : Nat) (l : Fin 128)
  /-- CHALLENGE_EXPIRY (R569). A debug challenge expires after 10 s. -/
  | challengeExpiry (t : Nat)
  /-- DEBUG_LOCKOUT_END (R508). The 60 s debug lockout ends. -/
  | debugLockoutEnd (t : Nat)
  /-- EXTEST (R565). The EXTEST instruction drives balls from the boundary-scan register. -/
  | extest (t : Nat) (pins shift : Nat)
  /-- SAMPLE_PRELOAD (R565). The SAMPLE/PRELOAD instruction samples or preloads the boundary register. -/
  | samplePreload (t : Nat) (pins shift : Nat)
  /-- IDCODE (R566). The IDCODE instruction selects the identification register. -/
  | idcode (t : Nat)
  /-- CLAMP (R565). The CLAMP instruction holds outputs and selects bypass. -/
  | clamp (t : Nat)
  /-- HIGHZ (R565). The HIGHZ instruction floats outputs and selects bypass. -/
  | highz (t : Nat)
  /-- DAP (R568). The DAP instruction selects the 40-bit debug command register. -/
  | dapSelect (t : Nat)
  /-- LC_ADVANCE (R571). The LC_ADVANCE instruction carries out an MFG lifecycle transition. -/
  | lcAdvance (t : Nat) (target : Fin 4)
  /-- BYPASS (R565). The BYPASS instruction selects the 1-bit bypass register. -/
  | bypass (t : Nat)
  /-- TAP_RESET (R565). TRST_N low or five TMS-high clocks reset the test port to IDCODE. -/
  | tapReset (t : Nat) (trst : Bool)
  /-- FABRIC_ACCESS (R514). A master access is checked by the umpire at ingress and performed or refused. -/
  | fabricAccess (t : Nat) (x : FabAcc)
  /-- LEGACY_SLOT_ENABLE (R522). A write of SLOT_CTL.EN moves a PE and its channels into a legacy slot. -/
  | legacySlotEnable (t : Nat) (m : Nat) (k : Fin 16) (v : Word)
  /-- CARD_CLR (R534). SLOT_CMD.CARD_CLR resets a carded legacy slot. -/
  | cardClr (t : Nat) (m : Nat) (k : Fin 16)
  /-- START (R529). SLOT_CMD.START takes a STOPPED context to READY. -/
  | lgcStart (t : Nat) (m : Nat) (k : Fin 16) (c : Fin 4)
  /-- STOP (R529). SLOT_CMD.STOP takes a context to STOPPED. -/
  | lgcStop (t : Nat) (m : Nat) (k : Fin 16) (c : Fin 4)
  /-- TLB_INV_ALL (R525). SLOT_CMD.TLB_INV_ALL empties the slot TLB. -/
  | tlbInvAll (t : Nat) (m : Nat) (k : Fin 16)
  /-- TLB_INV_VA (R525). SLOT_CMD.TLB_INV_VA invalidates one virtual page for an ASID. -/
  | tlbInvVa (t : Nat) (m : Nat) (k : Fin 16) (asid : Fin 256)
  /-- FLT_RESUME (R527). FLT_CTL.RESUME invalidates the faulting entry and restarts the source. -/
  | fltResume (t : Nat) (m : Nat) (k : Fin 16) (n : Fin 8)
  /-- FLT_ABORT (R527). FLT_CTL.ABORT ends the faulted context or channel. -/
  | fltAbort (t : Nat) (m : Nat) (k : Fin 16) (n : Fin 8)
  /-- QUANTUM_EXPIRY (R529). A quantum ends and the running context is pre-empted to the next READY one. -/
  | quantumExpiry (t : Nat) (k : Fin 16)
  /-- LGC_READ (R523). An LGC_READ submission copies legacy physical memory to the host. -/
  | lgcRead (t : Nat) (r : Fin 256) (e : List Byte)
  /-- LGC_WRITE (R523). An LGC_WRITE submission copies host data into legacy physical memory. -/
  | lgcWrite (t : Nat) (r : Fin 256) (e : List Byte) (data : List Byte)
  /-- ENGINE_WATCHDOG (R539). An engine watchdog expires, a fault event whose work is retried. -/
  | engineWatchdog (t : Nat) (l : Fin 96) (work : Option Nat) (late again : Bool)
  /-- SUBSTITUTE_READY (R540). The chosen bench engine is powered and loaded. -/
  | substituteReady (t : Nat) (l : Fin 96)
  /-- SUBSTITUTION_MOVE (R540). At the fixture boundary the logical engine's state moves to the substitute. -/
  | substitutionMove (t : Nat) (l : Fin 96) (steps ports : Nat)
  /-- ENGINE_SELFTEST_DONE (R540). The old engine's self-test ends and it returns to the bench or is marked failed. -/
  | engineSelftestDone (t : Nat) (eng : Fin 105) (st : Nat)
  /-- BENCH_SUBSTITUTE (R555). BENCH_CMD.SUBSTITUTE substitutes a logical engine in SERVICE. -/
  | benchSubstitute (t : Nat) (m : Nat) (l : Fin 128)
  /-- BENCH_SELFTEST (R555). BENCH_CMD.SELFTEST self-tests the bench engines. -/
  | benchSelftest (t : Nat) (m : Nat)
  /-- LEG_SUBSTITUTION (R547). At the end of the transmission the spare leg replaces a faulty one. -/
  | legSubstitution (t : Nat) (p : Fin 4) (c : Fin 3)
  /-- SLICE_CHECK (R546). Every 10 s the spare slice checks one in-service channel. -/
  | sliceCheck (t : Nat) (die : Fin 2) (i : Nat) (mismatch : Bool)
  /-- SLICE_SUBSTITUTION (R546). The spare slice replaces a faulty one at a free slice boundary. -/
  | sliceSubstitution (t : Nat) (die : Fin 2)
  /-- D2D_RETRAIN (R539). A lasting link fault retrains the link in the next quiet region. -/
  | d2dRetrain (t : Nat) (n : Fin 5) (ok : Bool)
  /-- SCRUB_PASS (R549). A scrub pass reads and corrects memory or key slots. -/
  | scrubPass (t : Nat) (found : ScrubFound)
  /-- AGEING_HOURLY (R554). Each hour the oscillators are measured and the forecasts recomputed. -/
  | ageingHourly (t : Nat) (ro em : List Nat)
  /-- LIFE_MINUTE (R553). Each minute LIFE_USED accumulates its acceleration factor. -/
  | lifeMinute (t : Nat)
  /-- AGEING_DAILY (R553). Every 24 h event 0x0A30 records the life counters. -/
  | ageingDaily (t : Nat)
  /-- TEST_SRAM (R561). TST_CMD TEST 1 runs March C on the shared macros. -/
  | testSram (t : Nat) (m : Nat)
  /-- TEST_D2D (R561). TST_CMD TEST 2 runs PRBS-31 on a die link. -/
  | testD2d (t : Nat) (m : Nat) (p : Fin 4)
  /-- TEST_LOOP (R562). TST_CMD TEST 3 runs a conductor loopback. -/
  | testLoop (t : Nat) (m : Nat) (p : Fin 4) (c : Fin 3)
  /-- TEST_AES_KAT (R561). TST_CMD TEST 4 runs the AES known-answer test. -/
  | testAesKat (t : Nat) (m : Nat)
  /-- TEST_TRNG (R561). TST_CMD TEST 5 runs the TRNG start-up tests. -/
  | testTrng (t : Nat) (m : Nat)
  /-- TEST_DONE (R561). A self-test ends with its status, value and event 0x0B30. -/
  | testDone (t : Nat) (found : TestOut)
  /-- ATB_SELECT (R560). A write of ATB_SEL_b selects a node, with FORCE only through D3. -/
  | atbSelect (t : Nat) (m : Nat) (bus : Fin 4) (v : Word)
  /-- POWER_ON_RESET (R574). PORESET_N low resets everything except OTP and starts the boot. -/
  | powerOnReset (t : Nat) (straps : Fin 8)
  /-- AON_MONITOR_RESET (R573). VDD_AON below 1.62 V causes a power-on reset. -/
  | aonMonitorReset (t : Nat) (straps : Fin 8)
  /-- DEVICE_RESET (R574). RESET_N low resets everything outside the always-on domain. -/
  | deviceReset (t : Nat)
  /-- CORE_RAIL_RESET (R573). A core rail below 90 % causes a device reset. -/
  | coreRailReset (t : Nat)
  /-- RST_REQ (R573). A write of RST_CTL.RST_REQ causes a device reset. -/
  | rstReq (t : Nat) (m : Nat)
  /-- BOOT_COMPLETE (R576). The boot sequence ends, entering the first mode and setting READY. -/
  | bootComplete (t : Nat) (drives : List DriveFound) (banks : Nat)
  /-- UART_CTS_CHANGE (R466). UART_1_CTS_N falls while a character waits and the transmitter begins its start bit. -/
  | uartCtsChange (t : Nat) (high : Bool)
  /-- UART_IDLE_BOUNDARY (R478). A UART-fed check unit sees the line idle for two character times, which forms a record boundary and may fail an incomplete record. -/
  | uartIdleBoundary (t : Nat) (n : Fin 2)
  /-- I2C_SCL_RELEASE (R469). SCL rises after a stuck-SCL timeout, and the controller sends its STOP and clears STUCK_SCL. -/
  | i2cSclRelease (t : Nat)
  /-- ACCELERATOR_REQUEST_DONE (R30). An FFT unit, LDPC codec or MIMO detector finishes a request, its result is checked, and the freed unit goes to the next waiting request in the order of R30. -/
  | acceleratorRequestDone (t : Nat) (kind : Fin 3) (u : Nat) (ok : Bool) (arrived : List AccReq)
  /-- ENGINE_PARITY_ERROR (R539). An engine reports an internal parity error or an uncorrectable local-memory word, which is a fault event on its ENG page and leads to a retry. -/
  | engineParityError (t : Nat) (l : Fin 96) (uncorr : Bool) (work : Option Nat) (late again : Bool)
  /-- MET_OK_CHANGE (R62). The reference conductor's metrology voltage crosses 10 % of nominal, which changes MET_OK and the source of phase 0. -/
  | metOkChange (t : Nat) (ok : Bool)
deriving DecidableEq, Repr

/-- The edge at which a command comes. -/
def Instr.time : Instr → Nat
  | .registerWrite t _ _ _ _ _ => t
  | .intSet t _ _ _ => t
  | .intCauseClear t _ _ _ => t
  | .softReset t _ _ => t
  | .softResetDone t _ => t
  | .lockWrite t _ _ _ => t
  | .bankCopy t _ _ => t
  | .bankCopyDone t _ => t
  | .soloSwapRequest t _ _ => t
  | .soloSwapCancel t _ _ => t
  | .soloSwap t _ => t
  | .groupSwapRequest t _ _ => t
  | .groupSwapCancel t _ _ => t
  | .groupSwap t _ => t
  | .d2dCrcFail t _ _ => t
  | .faultWindowClose t _ => t
  | .zeroCrossingEdge t _ _ _ _ _ _ _ => t
  | .slewComplete t => t
  | .holdoverTimeout t => t
  | .holdTxReached t => t
  | .holdLong t => t
  | .trkHold t _ => t
  | .trackerRestart t _ => t
  | .trackerEnable t _ _ => t
  | .snap t _ => t
  | .cycApply t _ => t
  | .utcArm t _ => t
  | .ppsEdge t _ _ => t
  | .ppsTimeout t => t
  | .utcHoldExpiry t => t
  | .entCmdRead t _ => t
  | .entCmdWrite t _ => t
  | .entCmdDisarm t _ => t
  | .fixHeldWriteApply t => t
  | .fixtureCommit t _ => t
  | .prewarmWake t _ _ => t
  | .txStart t _ _ => t
  | .rxWindow t _ => t
  | .rxWindowClose t _ _ => t
  | .ackTx t _ _ => t
  | .bankSwap t _ => t
  | .engineWake t _ => t
  | .convTrigger t _ => t
  | .ctlFire t _ => t
  | .sfBoundary t _ => t
  | .quiet t _ => t
  | .engineEvent t _ => t
  | .hostEvent t _ => t
  | .modeWake t _ => t
  | .agcOverload t _ _ => t
  | .agcStepUp t _ _ => t
  | .transmissionEnd t _ _ _ _ _ _ _ => t
  | .currentLimit t _ _ _ => t
  | .foldback t _ _ => t
  | .limitExpiry t _ _ => t
  | .probeRequest t _ _ _ => t
  | .probeStart t _ _ => t
  | .probeDone t _ _ _ => t
  | .probeRetry t _ _ => t
  | .polarityChange t _ _ => t
  | .lnSwapDetect t _ _ => t
  | .seqRevDetect t _ => t
  | .openNeutralDetect t _ _ => t
  | .vdrvFault t _ _ => t
  | .vdrvRecover t _ _ => t
  | .nbFrameRx t _ _ _ => t
  | .bbFrameRx t _ _ _ => t
  | .bandcMaxTx t _ _ => t
  | .ispDetect t _ _ _ => t
  | .ispClear t _ => t
  | .ackRx t => t
  | .ackTimeout t _ => t
  | .mapChange t => t
  | .mapChangeApply t _ _ _ _ _ => t
  | .mapChangeResend t _ _ _ _ => t
  | .oldSetRelease t _ _ _ _ _ => t
  | .sChange t => t
  | .beaconRx t _ => t
  | .beaconMiss t => t
  | .contentionAccess t _ _ _ => t
  | .grantResend t => t
  | .slotGrant t => t
  | .assocReq t => t
  | .assocResp t => t
  | .disassoc t => t
  | .leaseRenew t => t
  | .leaseAck t => t
  | .mgmtNull t => t
  | .leaseRenewSend t => t
  | .leaseEnd t => t
  | .quarantineEnd t => t
  | .irHoldExpiry t => t
  | .nbrExpiry t _ => t
  | .epochGraceEnd t => t
  | .nbrReport t => t
  | .nbrReportSend t _ _ => t
  | .parentSet t => t
  | .parentSetApply t => t
  | .routeErr t => t
  | .coopResult t => t
  | .groupSet t => t
  | .coopCarry t => t
  | .forwardHoldExpiry t => t
  | .routeWaitExpiry t _ => t
  | .coopWaitExpiry t => t
  | .floodRebroadcast t _ _ => t
  | .floodDupExpiry t => t
  | .epWinWrite t _ _ _ => t
  | .endpointRecordStore t => t
  | .msgSend t _ _ _ _ => t
  | .txnSend t _ _ _ _ _ => t
  | .admission t _ _ => t
  | .revoke t _ _ => t
  | .receiptTimeout t _ => t
  | .messageDeadline t _ => t
  | .reportRx t => t
  | .uplinkMessageRx t => t
  | .reassemblyTimeout t => t
  | .creditRequest t _ _ => t
  | .creditReturn t _ _ => t
  | .queueWrite t _ _ _ _ _ _ => t
  | .readLine t _ _ _ _ => t
  | .rewind t _ => t
  | .release t _ => t
  | .queueFlush t _ => t
  | .cellReturnDone t _ => t
  | .qReadDesc t _ => t
  | .qFlush t _ => t
  | .qSetLimit t _ => t
  | .qClearErr t _ => t
  | .linkUp t _ _ => t
  | .linkLoss t _ => t
  | .failoverComplete t => t
  | .hostSwitch t _ => t
  | .heartbeat t _ => t
  | .hostWatchdog t => t
  | .sqDoorbell t _ _ => t
  | .cqDoorbell t _ _ => t
  | .irqGapExpiry t _ => t
  | .msixUnmask t _ => t
  | .nop t _ _ => t
  | .fixWrite t _ _ => t
  | .fixDisarm t _ _ => t
  | .fixRead t _ _ => t
  | .rxbufPost t _ _ => t
  | .ringEnable t _ => t
  | .ringDisable t _ => t
  | .ringAbort t _ => t
  | .ringDrainDone t _ => t
  | .ringDmaError t _ _ => t
  | .functionLevelReset t => t
  | .regRd t _ _ => t
  | .regWr t _ _ => t
  | .bulkSubmit t _ _ _ => t
  | .cqAck t _ _ => t
  | .bulkData t _ _ => t
  | .maintRegRead t _ _ _ => t
  | .maintRegWrite t _ _ _ _ => t
  | .secondRecord t _ _ => t
  | .referenceRecord t _ _ => t
  | .ilConverged t _ => t
  | .ilFallback t => t
  | .loopbackCheck t _ _ _ _ => t
  | .muteClear t _ _ => t
  | .captureTrigger t _ => t
  | .limitLineTrigger t _ _ _ => t
  | .captureHeld t _ _ => t
  | .captureArm t _ => t
  | .capRead t _ _ => t
  | .xlInstall t _ _ _ => t
  | .exclusionApply t => t
  | .metroInterval t _ _ _ => t
  | .metroUtcBoundary t _ _ _ => t
  | .dipSwellDetect t _ _ _ => t
  | .metSnapDone t _ => t
  | .metSnapRead t _ _ => t
  | .hkcRegularScan t _ => t
  | .hkcInjTrig t _ => t
  | .hkcInjDone t _ => t
  | .hkcCal t => t
  | .hkcCalDone t => t
  | .ctlArm t _ _ => t
  | .armCmdArm t _ => t
  | .armCmdDisarm t _ => t
  | .ctlDisarm t _ _ => t
  | .clrLock t _ => t
  | .pulseEnd t _ => t
  | .ctlfbEdge t _ _ => t
  | .feedbackTimeout t _ => t
  | .interlockChange t _ _ => t
  | .driveAttach t _ => t
  | .driveAccept t _ _ => t
  | .driveLoss t _ _ => t
  | .blockRepair t _ _ _ _ => t
  | .resyncDone t => t
  | .smartPoll t _ _ _ _ _ _ => t
  | .vaultCommit t _ _ => t
  | .leaseTableCommit t => t
  | .scorebookStore t => t
  | .scbRead t _ _ => t
  | .archRead t _ _ => t
  | .keyDerive t _ _ _ _ => t
  | .keyErase t _ _ => t
  | .aesOperation t _ _ _ _ _ _ => t
  | .aesKatPeriodic t _ => t
  | .trngSourceFail t _ => t
  | .entropyTimeout t => t
  | .drbgReseed t => t
  | .drbgGenerate t _ => t
  | .attest t _ _ _ => t
  | .identityRead t _ _ => t
  | .keyEpoch t _ _ _ => t
  | .provInstall t _ _ _ => t
  | .keyInstall t _ _ _ => t
  | .fieldLock t _ _ _ => t
  | .sessionOpen t _ _ _ => t
  | .sessionFinish t _ _ _ => t
  | .sessionClose t _ _ => t
  | .imageWrite t _ _ _ _ => t
  | .imageActivate t _ _ => t
  | .bootConfirm t _ _ => t
  | .trialExpiry t => t
  | .retire t _ _ _ => t
  | .uartRxChar t _ _ => t
  | .uartBreak t _ _ => t
  | .uartDeadLine t _ _ => t
  | .uartDeadClear t _ => t
  | .uartTxData t _ _ _ => t
  | .uartTxCharDone t _ => t
  | .uartRxPop t _ _ => t
  | .uartDivWrite t _ _ _ => t
  | .brkSend t _ _ => t
  | .uartWakeMatch t _ => t
  | .uartHandover t => t
  | .i2cStart t _ _ _ => t
  | .i2cWrite t _ _ => t
  | .i2cRead t _ _ => t
  | .i2cStop t => t
  | .i2cRecover t _ _ => t
  | .i2cAbort t _ => t
  | .i2cRdPop t _ => t
  | .i2cSclTimeout t => t
  | .outSet t _ _ => t
  | .outClr t _ _ => t
  | .gpioEdge t _ _ _ => t
  | .chkFeed t _ _ _ => t
  | .chkFeedB t _ _ _ => t
  | .chkClr t _ _ => t
  | .chkTimeout t _ => t
  | .modeRequest t _ _ => t
  | .modeSwitch t => t
  | .modeChangeDone t => t
  | .safeNAssert t => t
  | .safeNRelease t => t
  | .hostLinkAttach t => t
  | .xtal32Fail t => t
  | .xtal25Fail t => t
  | .refLost t => t
  | .ref10Restore t => t
  | .pllStop t => t
  | .cc91Gate t => t
  | .dapChallenge t => t
  | .dapOut t => t
  | .dapIn t _ => t
  | .dapSubmit t => t
  | .dapStatus t => t
  | .dapLower t _ => t
  | .dapAddrLo t _ => t
  | .dapAddrHi t _ => t
  | .dapRead t _ => t
  | .dapWrite t _ => t
  | .dapHalt t _ _ => t
  | .dapStep t _ => t
  | .dapResume t _ => t
  | .challengeExpiry t => t
  | .debugLockoutEnd t => t
  | .extest t _ _ => t
  | .samplePreload t _ _ => t
  | .idcode t => t
  | .clamp t => t
  | .highz t => t
  | .dapSelect t => t
  | .lcAdvance t _ => t
  | .bypass t => t
  | .tapReset t _ => t
  | .fabricAccess t _ => t
  | .legacySlotEnable t _ _ _ => t
  | .cardClr t _ _ => t
  | .lgcStart t _ _ _ => t
  | .lgcStop t _ _ _ => t
  | .tlbInvAll t _ _ => t
  | .tlbInvVa t _ _ _ => t
  | .fltResume t _ _ _ => t
  | .fltAbort t _ _ _ => t
  | .quantumExpiry t _ => t
  | .lgcRead t _ _ => t
  | .lgcWrite t _ _ _ => t
  | .engineWatchdog t _ _ _ _ => t
  | .substituteReady t _ => t
  | .substitutionMove t _ _ _ => t
  | .engineSelftestDone t _ _ => t
  | .benchSubstitute t _ _ => t
  | .benchSelftest t _ => t
  | .legSubstitution t _ _ => t
  | .sliceCheck t _ _ _ => t
  | .sliceSubstitution t _ => t
  | .d2dRetrain t _ _ => t
  | .scrubPass t _ => t
  | .ageingHourly t _ _ => t
  | .lifeMinute t => t
  | .ageingDaily t => t
  | .testSram t _ => t
  | .testD2d t _ _ => t
  | .testLoop t _ _ _ => t
  | .testAesKat t _ => t
  | .testTrng t _ => t
  | .testDone t _ => t
  | .atbSelect t _ _ _ => t
  | .powerOnReset t _ => t
  | .aonMonitorReset t _ => t
  | .deviceReset t => t
  | .coreRailReset t => t
  | .rstReq t _ => t
  | .bootComplete t _ _ => t
  | .uartCtsChange t _ => t
  | .uartIdleBoundary t _ => t
  | .i2cSclRelease t => t
  | .acceleratorRequestDone t _ _ _ _ => t
  | .engineParityError t _ _ _ _ _ => t
  | .metOkChange t _ => t

end Sys2Proof
end

