-- ==== Sys2Proof/WellFormed.lean ====
section
/-! DEFINITION. Commands whose operands have the form the spec gives them. The meanings are total: an operand out of form is no ground for a stop. -/

namespace Sys2Proof

/-- A master identifier in use (R511). -/
def isMaster (m : Nat) : Bool :=
  decide (m < 96) || (decide (0x100 ≤ m) && decide (m < 0x140)) || (decide (0x200 ≤ m) && decide (m < 0x212))
    || (decide (0x218 ≤ m) && decide (m < 0x21D)) || m == 0x300 || m == 0x380

/-- A queue number: 22 bits (R302, R319). -/
def isQueue (q : Nat) : Bool := decide (q < 2 ^ 22)

/-- A transmit descriptor: a conductor set, at most three streams, a robust mode of R124, a subchannel of R139. -/
def TxDesc.wellFormed (x : TxDesc) : Bool :=
  decide (x.cset < 8) && decide (x.nss ≤ 3) && decide (x.mode < 4) && (x.mu.map (fun j => decide (j < 19))).getD true

/-- An access on the fabric: a master, one of three kinds, a 48-bit address (R513, R514). -/
def FabAcc.wellFormed (x : FabAcc) : Bool := isMaster x.m && isMaster x.issuer && decide (x.acc < 3) && decide (x.addr < 2 ^ 48)

/-- A drive on one of the two ports (R409). -/
def DriveFound.wellFormed (x : DriveFound) : Bool := decide (x.port < 2)

/-- The operands of a command have their form. -/
def Instr.wellFormed : Instr → Bool
  | .registerWrite _ m _ msg a _ => isMaster m && decide (a < if msg then 2 ^ 28 else 2 ^ 26)
  | .intSet _ m page _ => isMaster m && decide (page < 16384)
  | .intCauseClear _ m page _ => isMaster m && decide (page < 16384)
  | .softReset _ m page => isMaster m && decide (page < 16384)
  | .softResetDone _ page => decide (page < 16384)
  | .lockWrite _ m page _ => isMaster m && decide (page < 16384)
  | .bankCopy _ m page => isMaster m && decide (page < 16384)
  | .bankCopyDone _ page => decide (page < 16384)
  | .soloSwapRequest _ m page => isMaster m && decide (page < 16384)
  | .soloSwapCancel _ m page => isMaster m && decide (page < 16384)
  | .soloSwap _ page => decide (page < 16384)
  | .groupSwapRequest _ m _ => isMaster m
  | .groupSwapCancel _ m _ => isMaster m
  | .groupSwap _ _ => true
  | .d2dCrcFail _ _ _ => true
  | .faultWindowClose _ page => decide (page < 16384)
  | .zeroCrossingEdge _ _ _ _ _ _ _ _ => true
  | .slewComplete _ => true
  | .holdoverTimeout _ => true
  | .holdTxReached _ => true
  | .holdLong _ => true
  | .trkHold _ m => isMaster m
  | .trackerRestart _ m => isMaster m
  | .trackerEnable _ m _ => isMaster m
  | .snap _ m => isMaster m
  | .cycApply _ m => isMaster m
  | .utcArm _ m => isMaster m
  | .ppsEdge _ _ _ => true
  | .ppsTimeout _ => true
  | .utcHoldExpiry _ => true
  | .entCmdRead _ m => isMaster m
  | .entCmdWrite _ m => isMaster m
  | .entCmdDisarm _ m => isMaster m
  | .fixHeldWriteApply _ => true
  | .fixtureCommit _ _ => true
  | .prewarmWake _ _ _ => true
  | .txStart _ _ x => x.wellFormed
  | .rxWindow _ _ => true
  | .rxWindowClose _ _ _ => true
  | .ackTx _ _ _ => true
  | .bankSwap _ _ => true
  | .engineWake _ _ => true
  | .convTrigger _ _ => true
  | .ctlFire _ _ => true
  | .sfBoundary _ _ => true
  | .quiet _ _ => true
  | .engineEvent _ _ => true
  | .hostEvent _ _ => true
  | .modeWake _ _ => true
  | .agcOverload _ _ _ => true
  | .agcStepUp _ _ _ => true
  | .transmissionEnd _ _ _ _ _ _ _ _ => true
  | .currentLimit _ _ _ _ => true
  | .foldback _ _ _ => true
  | .limitExpiry _ _ _ => true
  | .probeRequest _ m _ _ => isMaster m
  | .probeStart _ _ _ => true
  | .probeDone _ _ _ _ => true
  | .probeRetry _ _ _ => true
  | .polarityChange _ _ _ => true
  | .lnSwapDetect _ _ _ => true
  | .seqRevDetect _ _ => true
  | .openNeutralDetect _ _ _ => true
  | .vdrvFault _ _ _ => true
  | .vdrvRecover _ _ _ => true
  | .nbFrameRx _ _ _ _ => true
  | .bbFrameRx _ _ _ _ => true
  | .bandcMaxTx _ _ _ => true
  | .ispDetect _ _ _ _ => true
  | .ispClear _ _ => true
  | .ackRx _ => true
  | .ackTimeout _ _ => true
  | .mapChange _ => true
  | .mapChangeApply _ peer _ _ _ _ => decide (peer < 2 ^ 20)
  | .mapChangeResend _ peer _ _ _ => decide (peer < 2 ^ 20)
  | .oldSetRelease _ peer _ _ _ _ => decide (peer < 2 ^ 20)
  | .sChange _ => true
  | .beaconRx _ _ => true
  | .beaconMiss _ => true
  | .contentionAccess _ _ _ _ => true
  | .grantResend _ => true
  | .slotGrant _ => true
  | .assocReq _ => true
  | .assocResp _ => true
  | .disassoc _ => true
  | .leaseRenew _ => true
  | .leaseAck _ => true
  | .mgmtNull _ => true
  | .leaseRenewSend _ => true
  | .leaseEnd _ => true
  | .quarantineEnd _ => true
  | .irHoldExpiry _ => true
  | .nbrExpiry _ _ => true
  | .epochGraceEnd _ => true
  | .nbrReport _ => true
  | .nbrReportSend _ _ _ => true
  | .parentSet _ => true
  | .parentSetApply _ => true
  | .routeErr _ => true
  | .coopResult _ => true
  | .groupSet _ => true
  | .coopCarry _ => true
  | .forwardHoldExpiry _ => true
  | .routeWaitExpiry _ _ => true
  | .coopWaitExpiry _ => true
  | .floodRebroadcast _ _ _ => true
  | .floodDupExpiry _ => true
  | .epWinWrite _ m _ _ => isMaster m
  | .endpointRecordStore _ => true
  | .msgSend _ _ e _ _ => e.length == 64
  | .txnSend _ _ e _ _ _ => e.length == 64
  | .admission _ _ e => e.length == 64
  | .revoke _ _ e => e.length == 64
  | .receiptTimeout _ _ => true
  | .messageDeadline _ _ => true
  | .reportRx _ => true
  | .uplinkMessageRx _ => true
  | .reassemblyTimeout _ => true
  | .creditRequest _ q _ => isQueue q
  | .creditReturn _ q _ => isQueue q
  | .queueWrite _ q _ _ _ _ _ => isQueue q
  | .readLine _ q _ _ _ => isQueue q
  | .rewind _ q => isQueue q
  | .release _ q => isQueue q
  | .queueFlush _ q => isQueue q
  | .cellReturnDone _ q => isQueue q
  | .qReadDesc _ m => isMaster m
  | .qFlush _ m => isMaster m
  | .qSetLimit _ m => isMaster m
  | .qClearErr _ m => isMaster m
  | .linkUp _ _ _ => true
  | .linkLoss _ _ => true
  | .failoverComplete _ => true
  | .hostSwitch _ m => isMaster m
  | .heartbeat _ m => isMaster m
  | .hostWatchdog _ => true
  | .sqDoorbell _ _ _ => true
  | .cqDoorbell _ _ _ => true
  | .irqGapExpiry _ _ => true
  | .msixUnmask _ _ => true
  | .nop _ _ e => e.length == 64
  | .fixWrite _ _ e => e.length == 64
  | .fixDisarm _ _ e => e.length == 64
  | .fixRead _ _ e => e.length == 64
  | .rxbufPost _ _ e => e.length == 64
  | .ringEnable _ _ => true
  | .ringDisable _ _ => true
  | .ringAbort _ _ => true
  | .ringDrainDone _ _ => true
  | .ringDmaError _ _ _ => true
  | .functionLevelReset _ => true
  | .regRd _ a _ => decide (a < 2 ^ 26)
  | .regWr _ a _ => decide (a < 2 ^ 26)
  | .bulkSubmit _ _ _ entries => entries.all (·.length == 64)
  | .cqAck _ _ _ => true
  | .bulkData _ _ _ => true
  | .maintRegRead _ _ page ofs => decide (page < 16384) && decide (ofs < 4096)
  | .maintRegWrite _ _ page ofs _ => decide (page < 16384) && decide (ofs < 4096)
  | .secondRecord _ _ _ => true
  | .referenceRecord _ _ _ => true
  | .ilConverged _ _ => true
  | .ilFallback _ => true
  | .loopbackCheck _ _ _ _ _ => true
  | .muteClear _ m _ => isMaster m
  | .captureTrigger _ m => isMaster m
  | .limitLineTrigger _ _ _ _ => true
  | .captureHeld _ _ _ => true
  | .captureArm _ m => isMaster m
  | .capRead _ _ e => e.length == 64
  | .xlInstall _ _ e _ => e.length == 64
  | .exclusionApply _ => true
  | .metroInterval _ _ _ _ => true
  | .metroUtcBoundary _ _ _ _ => true
  | .dipSwellDetect _ _ _ _ => true
  | .metSnapDone _ _ => true
  | .metSnapRead _ _ e => e.length == 64
  | .hkcRegularScan _ _ => true
  | .hkcInjTrig _ m => isMaster m
  | .hkcInjDone _ _ => true
  | .hkcCal _ => true
  | .hkcCalDone _ => true
  | .ctlArm _ _ e => e.length == 64
  | .armCmdArm _ m => isMaster m
  | .armCmdDisarm _ m => isMaster m
  | .ctlDisarm _ _ e => e.length == 64
  | .clrLock _ m => isMaster m
  | .pulseEnd _ _ => true
  | .ctlfbEdge _ _ _ => true
  | .feedbackTimeout _ _ => true
  | .interlockChange _ _ _ => true
  | .driveAttach _ x => x.wellFormed
  | .driveAccept _ m _ => isMaster m
  | .driveLoss _ _ _ => true
  | .blockRepair _ _ _ _ _ => true
  | .resyncDone _ => true
  | .smartPoll _ _ _ _ _ _ _ => true
  | .vaultCommit _ _ _ => true
  | .leaseTableCommit _ => true
  | .scorebookStore _ => true
  | .scbRead _ _ e => e.length == 64
  | .archRead _ _ e => e.length == 64
  | .keyDerive _ m _ _ _ => isMaster m
  | .keyErase _ m _ => isMaster m
  | .aesOperation _ _ _ _ _ _ _ => true
  | .aesKatPeriodic _ _ => true
  | .trngSourceFail _ _ => true
  | .entropyTimeout _ => true
  | .drbgReseed _ => true
  | .drbgGenerate _ _ => true
  | .attest _ _ e _ => e.length == 64
  | .identityRead _ _ e => e.length == 64
  | .keyEpoch _ _ e _ => e.length == 64
  | .provInstall _ _ e _ => e.length == 64
  | .keyInstall _ _ e _ => e.length == 64
  | .fieldLock _ _ e _ => e.length == 64
  | .sessionOpen _ _ e _ => e.length == 64
  | .sessionFinish _ _ e _ => e.length == 64
  | .sessionClose _ _ e => e.length == 64
  | .imageWrite _ _ e _ _ => e.length == 64
  | .imageActivate _ _ e => e.length == 64
  | .bootConfirm _ _ e => e.length == 64
  | .trialExpiry _ => true
  | .retire _ _ e _ => e.length == 64
  | .uartRxChar _ _ _ => true
  | .uartBreak _ _ _ => true
  | .uartDeadLine _ _ _ => true
  | .uartDeadClear _ _ => true
  | .uartTxData _ m _ _ => isMaster m
  | .uartTxCharDone _ _ => true
  | .uartRxPop _ m _ => isMaster m
  | .uartDivWrite _ m _ _ => isMaster m
  | .brkSend _ m _ => isMaster m
  | .uartWakeMatch _ _ => true
  | .uartHandover _ => true
  | .i2cStart _ _ _ _ => true
  | .i2cWrite _ _ _ => true
  | .i2cRead _ _ _ => true
  | .i2cStop _ => true
  | .i2cRecover _ m _ => isMaster m
  | .i2cAbort _ m => isMaster m
  | .i2cRdPop _ m => isMaster m
  | .i2cSclTimeout _ => true
  | .outSet _ m _ => isMaster m
  | .outClr _ m _ => isMaster m
  | .gpioEdge _ _ _ _ => true
  | .chkFeed _ m _ _ => isMaster m
  | .chkFeedB _ m _ _ => isMaster m
  | .chkClr _ m _ => isMaster m
  | .chkTimeout _ _ => true
  | .modeRequest _ m _ => isMaster m
  | .modeSwitch _ => true
  | .modeChangeDone _ => true
  | .safeNAssert _ => true
  | .safeNRelease _ => true
  | .hostLinkAttach _ => true
  | .xtal32Fail _ => true
  | .xtal25Fail _ => true
  | .refLost _ => true
  | .ref10Restore _ => true
  | .pllStop _ => true
  | .cc91Gate _ => true
  | .dapChallenge _ => true
  | .dapOut _ => true
  | .dapIn _ _ => true
  | .dapSubmit _ => true
  | .dapStatus _ => true
  | .dapLower _ _ => true
  | .dapAddrLo _ _ => true
  | .dapAddrHi _ _ => true
  | .dapRead _ _ => true
  | .dapWrite _ _ => true
  | .dapHalt _ _ _ => true
  | .dapStep _ _ => true
  | .dapResume _ _ => true
  | .challengeExpiry _ => true
  | .debugLockoutEnd _ => true
  | .extest _ pins shift => decide (pins < 2 ^ 158) && decide (shift < 2 ^ 158)
  | .samplePreload _ pins shift => decide (pins < 2 ^ 158) && decide (shift < 2 ^ 158)
  | .idcode _ => true
  | .clamp _ => true
  | .highz _ => true
  | .dapSelect _ => true
  | .lcAdvance _ _ => true
  | .bypass _ => true
  | .tapReset _ _ => true
  | .fabricAccess _ x => x.wellFormed
  | .legacySlotEnable _ m _ _ => isMaster m
  | .cardClr _ m _ => isMaster m
  | .lgcStart _ m _ _ => isMaster m
  | .lgcStop _ m _ _ => isMaster m
  | .tlbInvAll _ m _ => isMaster m
  | .tlbInvVa _ m _ _ => isMaster m
  | .fltResume _ m _ _ => isMaster m
  | .fltAbort _ m _ _ => isMaster m
  | .quantumExpiry _ _ => true
  | .lgcRead _ _ e => e.length == 64
  | .lgcWrite _ _ e _ => e.length == 64
  | .engineWatchdog _ _ _ _ _ => true
  | .substituteReady _ _ => true
  | .substitutionMove _ _ _ _ => true
  | .engineSelftestDone _ _ st => decide (st < 256)
  | .benchSubstitute _ m _ => isMaster m
  | .benchSelftest _ m => isMaster m
  | .legSubstitution _ _ _ => true
  | .sliceCheck _ _ _ _ => true
  | .sliceSubstitution _ _ => true
  | .d2dRetrain _ _ _ => true
  | .scrubPass _ _ => true
  | .ageingHourly _ _ _ => true
  | .lifeMinute _ => true
  | .ageingDaily _ => true
  | .testSram _ m => isMaster m
  | .testD2d _ m _ => isMaster m
  | .testLoop _ m _ _ => isMaster m
  | .testAesKat _ m => isMaster m
  | .testTrng _ m => isMaster m
  | .testDone _ _ => true
  | .atbSelect _ m _ _ => isMaster m
  | .powerOnReset _ _ => true
  | .aonMonitorReset _ _ => true
  | .deviceReset _ => true
  | .coreRailReset _ => true
  | .rstReq _ m => isMaster m
  | .bootComplete _ drives _ => drives.all DriveFound.wellFormed
  | .uartCtsChange _ _ => true
  | .uartIdleBoundary _ _ => true
  | .i2cSclRelease _ => true
  | .acceleratorRequestDone _ _ _ _ _ => true
  | .engineParityError _ _ _ _ _ _ => true
  | .metOkChange _ _ => true

end Sys2Proof
end

