-- ==== Sys2Proof/Decode.lean ====
section
/-! DEFINITION. The command a word spells. The block has no instruction decoder: its table gives no row any bits, so no word spells a command (log entry 2). -/

namespace Sys2Proof

/-- The command that a word of `nbits` bits spells by the table's bits: none. -/
def decodeTableWord (_nbits _w : Nat) : Option Instr := none

end Sys2Proof
end

