-- ==== Sys2Proof/Config.lean ====
section
/-! DEFINITION. What an implementation fixes and the spec does not give: opaque constants with no body, so that no proof can see a value of them. Each is named in the assumption log. -/

namespace Sys2Proof.Config

/-- The n-th value drawn where the spec leaves a value open and names no operand it depends on (log entry 3). The argument is the draw counter `State.draws`. -/
opaque freeWord : Nat → BitVec 32

/-- A byte string the security core computes, of the length the caller takes from it, where the spec names a standard (KMAC256, SHAKE256, AES-256-GCM, ML-DSA-65, ML-KEM-768, CTR_DRBG) and not its arithmetic (log entry 4). The first argument tells the functions apart, the second is the input. -/
opaque cryptoBytes : Nat → List (BitVec 8) → List (BitVec 8)

/-- The task that device firmware has given a logical engine: ports served and task class, as `ENG_TASK` shows them (R28, R557, log entry 135). -/
opaque engTask : Nat → BitVec 32

/-- The producer and the consumer the device assigns to a queue (R306, log entry 21). -/
opaque queueProd : Nat → Nat
opaque queueCons : Nat → Nat

/-- The device-unique secret `DUS`, drawn once at manufacture (R430, log entry 32). -/
opaque dus : List (BitVec 8)

/-- Where in DRAM the boot places the legacy physical memory region of R21, as a 4 KiB page (log entry 42). -/
opaque lgcPick : Nat

/-- The cap that a band plan and the emission mask put on a conductor's RMS output, in 0.25 dBµV, by port, conductor and plan (R102, log entry 158). -/
opaque planCap : Nat → Nat → Nat → BitVec 10

/-! Signal processing of surveillance that R350 to R359 name by a standard, a window or a goal, without its arithmetic (log entry 181). -/

/-- The three band chains of R354 as a sample enters them, and the power of a bin at a hop. -/
opaque chainStep : Nat → Int → Nat
opaque binPower : Nat → Nat → Nat

/-- Detector `d` of bin `i` (R355: 0 peak, 1 quasi-peak, 2 CISPR-average, 3 RMS-average) as a power enters it, and its output in 0.01 dBµV. -/
opaque detStep : Nat → Nat → Nat → Nat → Nat
opaque detOut : Nat → Nat → Nat → Int

/-- A mean power in 0.01 dBµV, and the ratio of two powers in 0.1 dB. -/
opaque powerDb : Nat → Int
opaque powerRatio : Nat → Nat → Nat

/-- The adaptive filter of a transmit channel (R357): its state after a loopback sample and the difference left, and what it makes of a loopback sample. -/
opaque pathStep : Nat → Int → Int → Nat
opaque pathOut : Nat → Int → Int

/-- A sample of a line channel referred to the line, by receive tap and gain code (R350). -/
opaque lineRef : Nat → Nat → Int → Int

/-- The logarithm of a frequency in Hz, by which R353 interpolates, and the correction beyond the table's ends, which R353 does not state, in 0.01 dB. -/
opaque logHz : Nat → Int
opaque xdcrBeyond : Nat → Int

/-! Arithmetic of metrology that R377 to R382 name by a standard or a property, without its numbers (log entry 183). -/

/-- The group delay of the decimation, in ns (R379). -/
opaque metDelay : Nat

/-- A series of stamped samples (ns and value) read at an instant in ns: the fractional delay and the resampling on line time (R379, R382). -/
opaque resample : List (Int × Int) → Int → Int

/-- The cosine of `j` parts in `n` of a turn, in units of 2^-30, as the DFT of R382 rounds it. -/
opaque cosine : Nat → Nat → Int

/-- The flicker instrument of a conductor (R382): its state after a reading, and the Pst it gives, in 0.001. -/
opaque flickStep : Nat → Int → Nat
opaque flickPst : Nat → Nat

/-- A ratio to a fundamental of which there is none (R382, R387), in 0.01 %. -/
opaque noFundamental : Nat → Nat

end Sys2Proof.Config
end

