-- ==== Sys2Proof/Machine/RegNames.lean ====
section
/-! DEFINITION. The window byte addresses of the block registers, under the names the spec gives them: page times 0x1000 plus offset (R38), one abbreviation per row of the register tables. -/

namespace Sys2Proof.Machine.Reg

/-- R40. -/
abbrev BLK_ID (page : Nat) : Nat := page * 0x1000 + 0x000
/-- R40. -/
abbrev BLK_VER (page : Nat) : Nat := page * 0x1000 + 0x004
/-- R40. -/
abbrev BLK_CAP (page : Nat) : Nat := page * 0x1000 + 0x008
/-- R40. -/
abbrev BLK_CTL (page : Nat) : Nat := page * 0x1000 + 0x00C
/-- R40. -/
abbrev BLK_STAT (page : Nat) : Nat := page * 0x1000 + 0x010
/-- R40. -/
abbrev INT_CAUSE (page : Nat) : Nat := page * 0x1000 + 0x014
/-- R40. -/
abbrev INT_MASK (page : Nat) : Nat := page * 0x1000 + 0x018
/-- R40. -/
abbrev INT_SET (page : Nat) : Nat := page * 0x1000 + 0x01C
/-- R40. -/
abbrev ERR_CORR (page : Nat) : Nat := page * 0x1000 + 0x020
/-- R40. -/
abbrev ERR_UNCORR (page : Nat) : Nat := page * 0x1000 + 0x024
/-- R40. -/
abbrev BANK_CTL (page : Nat) : Nat := page * 0x1000 + 0x028
/-- R40. -/
abbrev BANK_STAT (page : Nat) : Nat := page * 0x1000 + 0x02C
/-- R40. -/
abbrev LOCK (page : Nat) : Nat := page * 0x1000 + 0x030
/-- R40. -/
abbrev OWNER (page : Nat) : Nat := page * 0x1000 + 0x034
/-- R40. -/
abbrev FAULT_WIN (page : Nat) : Nat := page * 0x1000 + 0x038
/-- R40. -/
abbrev FAULT_STAT (page : Nat) : Nat := page * 0x1000 + 0x03C
/-- R56. -/
abbrev BANK_GRP_CTL (g : Nat) : Nat := 0x005 * 0x1000 + 0x040 + 0x20 * g
/-- R56. -/
abbrev BANK_GRP_LT_LO (g : Nat) : Nat := 0x005 * 0x1000 + 0x044 + 0x20 * g
/-- R56. -/
abbrev BANK_GRP_LT_HI (g : Nat) : Nat := 0x005 * 0x1000 + 0x048 + 0x20 * g
/-- R56. -/
abbrev BANK_GRP_REQ (g : Nat) : Nat := 0x005 * 0x1000 + 0x04C + 0x20 * g
/-- R56. -/
abbrev BANK_GRP_STAT (g : Nat) : Nat := 0x005 * 0x1000 + 0x050 + 0x20 * g
/-- R56. -/
abbrev BANK_GRP_MEMBERS (g : Nat) : Nat := 0x005 * 0x1000 + 0x054 + 0x20 * g
/-- R56. -/
abbrev BANK_GRP_SWAP_LT_LO (g : Nat) : Nat := 0x005 * 0x1000 + 0x058 + 0x20 * g
/-- R56. -/
abbrev BANK_GRP_SWAP_LT_HI (g : Nat) : Nat := 0x005 * 0x1000 + 0x05C + 0x20 * g
/-- R77. -/
abbrev LTIME_TRK_CTL : Nat := 0x003 * 0x1000 + 0x040
/-- R77. -/
abbrev LTIME_TRK_CFG : Nat := 0x003 * 0x1000 + 0x044
/-- R77. -/
abbrev LTIME_HOLD_CFG : Nat := 0x003 * 0x1000 + 0x048
/-- R77. -/
abbrev LTIME_TRK_STAT : Nat := 0x003 * 0x1000 + 0x04C
/-- R77. -/
abbrev LTIME_FREQ : Nat := 0x003 * 0x1000 + 0x050
/-- R77. -/
abbrev LTIME_ROCOF : Nat := 0x003 * 0x1000 + 0x054
/-- R77. -/
abbrev LTIME_ZC_DELAY : Nat := 0x003 * 0x1000 + 0x058
/-- R77. -/
abbrev LTIME_CYC_SET : Nat := 0x003 * 0x1000 + 0x05C
/-- R77. -/
abbrev LTIME_STEP_ERR : Nat := 0x003 * 0x1000 + 0x060
/-- R77. -/
abbrev LTIME_STEP_CNT : Nat := 0x003 * 0x1000 + 0x064
/-- R77. -/
abbrev LTIME_SNAP_LT_LO : Nat := 0x003 * 0x1000 + 0x068
/-- R77. -/
abbrev LTIME_SNAP_LT_HI : Nat := 0x003 * 0x1000 + 0x06C
/-- R77. -/
abbrev LTIME_SNAP_UTC_LO : Nat := 0x003 * 0x1000 + 0x070
/-- R77. -/
abbrev LTIME_SNAP_UTC_HI : Nat := 0x003 * 0x1000 + 0x074
/-- R77. -/
abbrev LTIME_SNAP_SEQ : Nat := 0x003 * 0x1000 + 0x078
/-- R77. -/
abbrev LTIME_UTC_SET_LO : Nat := 0x003 * 0x1000 + 0x07C
/-- R77. -/
abbrev LTIME_UTC_SET_HI : Nat := 0x003 * 0x1000 + 0x080
/-- R77. -/
abbrev LTIME_UTC_CFG : Nat := 0x003 * 0x1000 + 0x084
/-- R77. -/
abbrev LTIME_PPS_ERR : Nat := 0x003 * 0x1000 + 0x088
/-- R77. -/
abbrev LTIME_COND_OFS (p c : Nat) : Nat := 0x003 * 0x1000 + 0x0C0 + 0xC * p + 4 * c
/-- R92. -/
abbrev FIX_FIX_CFG : Nat := 0x004 * 0x1000 + 0x040
/-- R92. -/
abbrev FIX_PREWARM_CFG : Nat := 0x004 * 0x1000 + 0x044
/-- R92. -/
abbrev FIX_ENT_IDX : Nat := 0x004 * 0x1000 + 0x048
/-- R92. -/
abbrev FIX_ENT_CMD : Nat := 0x004 * 0x1000 + 0x04C
/-- R92. -/
abbrev FIX_ENT_STAT : Nat := 0x004 * 0x1000 + 0x050
/-- R92. -/
abbrev FIX_ENT_DATA (n : Nat) : Nat := 0x004 * 0x1000 + 0x060 + 4 * n
/-- R92. -/
abbrev FIX_NEXT_IDX : Nat := 0x004 * 0x1000 + 0x080
/-- R92. -/
abbrev FIX_NEXT_LT_LO : Nat := 0x004 * 0x1000 + 0x084
/-- R92. -/
abbrev FIX_NEXT_LT_HI : Nat := 0x004 * 0x1000 + 0x088
/-- R92. -/
abbrev FIX_ARMED : Nat := 0x004 * 0x1000 + 0x08C
/-- R92. -/
abbrev FIX_MISS_CNT : Nat := 0x004 * 0x1000 + 0x090
/-- R92. -/
abbrev FIX_MISS_IDX : Nat := 0x004 * 0x1000 + 0x094
/-- R92. -/
abbrev FIX_MISS_LT_LO : Nat := 0x004 * 0x1000 + 0x098
/-- R92. -/
abbrev FIX_MISS_LT_HI : Nat := 0x004 * 0x1000 + 0x09C
/-- R92. -/
abbrev FIX_HOST_EVT : Nat := 0x004 * 0x1000 + 0x0A0
/-- R112. -/
abbrev LFE_PORT_CTL (p : Nat) : Nat := (0x030 + 4 * p) * 0x1000 + 0x040
/-- R112. -/
abbrev LFE_COUP_CFG (p : Nat) : Nat := (0x030 + 4 * p) * 0x1000 + 0x044
/-- R112. -/
abbrev LFE_COUP_DLY (p : Nat) : Nat := (0x030 + 4 * p) * 0x1000 + 0x048
/-- R112. -/
abbrev LFE_POL_CTL (p : Nat) : Nat := (0x030 + 4 * p) * 0x1000 + 0x04C
/-- R112. -/
abbrev LFE_POL_STAT (p : Nat) : Nat := (0x030 + 4 * p) * 0x1000 + 0x050
/-- R112. -/
abbrev LFE_VDRV_MEAS (p : Nat) : Nat := (0x030 + 4 * p) * 0x1000 + 0x054
/-- R112. -/
abbrev LFE_D2D_STAT (p : Nat) : Nat := (0x030 + 4 * p) * 0x1000 + 0x058
/-- R113. -/
abbrev LFE_TX_CTL (p : Nat) : Nat := (0x031 + 4 * p) * 0x1000 + 0x040
/-- R113. -/
abbrev LFE_TX_LVL_MAX (p c : Nat) : Nat := (0x031 + 4 * p) * 0x1000 + 0x044 + 4 * c
/-- R113. -/
abbrev LFE_LOOP_CFG (p : Nat) : Nat := (0x031 + 4 * p) * 0x1000 + 0x050
/-- R113. -/
abbrev LFE_LOOP_STAT (p c : Nat) : Nat := (0x031 + 4 * p) * 0x1000 + 0x054 + 4 * c
/-- R113. -/
abbrev LFE_LEG_STAT (p c : Nat) : Nat := (0x031 + 4 * p) * 0x1000 + 0x060 + 4 * c
/-- R113. -/
abbrev LFE_FILT (p i : Nat) : Nat := (0x031 + 4 * p) * 0x1000 + 0x400 + 4 * i
/-- R114. -/
abbrev LFE_RX_CTL (p : Nat) : Nat := (0x032 + 4 * p) * 0x1000 + 0x040
/-- R114. -/
abbrev LFE_RX_GAIN (p ch : Nat) : Nat := (0x032 + 4 * p) * 0x1000 + 0x044 + 4 * ch
/-- R114. -/
abbrev LFE_RX_STAT (p ch : Nat) : Nat := (0x032 + 4 * p) * 0x1000 + 0x054 + 4 * ch
/-- R114. -/
abbrev LFE_SLICE_MAP (p : Nat) : Nat := (0x032 + 4 * p) * 0x1000 + 0x064
/-- R115. -/
abbrev LFE_PROT_CFG (p : Nat) : Nat := (0x033 + 4 * p) * 0x1000 + 0x040
/-- R115. -/
abbrev LFE_Z_THR (p : Nat) : Nat := (0x033 + 4 * p) * 0x1000 + 0x044
/-- R115. -/
abbrev LFE_COND_STAT (p c : Nat) : Nat := (0x033 + 4 * p) * 0x1000 + 0x050 + 4 * c
/-- R115. -/
abbrev LFE_GRID_STAT (p : Nat) : Nat := (0x033 + 4 * p) * 0x1000 + 0x05C
/-- R115. -/
abbrev LFE_DRV_TEMP (p : Nat) : Nat := (0x033 + 4 * p) * 0x1000 + 0x060
/-- R146. -/
abbrev NBP_BAND (p c : Nat) : Nat := (0x040 + 4 * p) * 0x1000 + 0x040 + 4 * c
/-- R146. -/
abbrev NBP_NB_CTL (p : Nat) : Nat := (0x040 + 4 * p) * 0x1000 + 0x04C
/-- R146. -/
abbrev NBP_DET_CFG (p : Nat) : Nat := (0x040 + 4 * p) * 0x1000 + 0x050
/-- R147. -/
abbrev NBP_RX_OK (p c : Nat) : Nat := (0x042 + 4 * p) * 0x1000 + 0x040 + 4 * c
/-- R147. -/
abbrev NBP_HDR_FAIL (p c : Nat) : Nat := (0x042 + 4 * p) * 0x1000 + 0x04C + 4 * c
/-- R147. -/
abbrev NBP_CW_FAIL (p c : Nat) : Nat := (0x042 + 4 * p) * 0x1000 + 0x058 + 4 * c
/-- R147. -/
abbrev NBP_RX_LAST (p c : Nat) : Nat := (0x042 + 4 * p) * 0x1000 + 0x064 + 4 * c
/-- R148. -/
abbrev NBP_CSMA_C_CFG0 (p : Nat) : Nat := (0x043 + 4 * p) * 0x1000 + 0x040
/-- R148. -/
abbrev NBP_CSMA_C_CFG1 (p : Nat) : Nat := (0x043 + 4 * p) * 0x1000 + 0x044
/-- R148. -/
abbrev NBP_CSMA_C_STAT (p c : Nat) : Nat := (0x043 + 4 * p) * 0x1000 + 0x048 + 4 * c
/-- R148. -/
abbrev NBP_TX_CNT (p c : Nat) : Nat := (0x043 + 4 * p) * 0x1000 + 0x054 + 4 * c
/-- R148. -/
abbrev NBP_TX_REF (p c : Nat) : Nat := (0x043 + 4 * p) * 0x1000 + 0x060 + 4 * c
/-- R148. -/
abbrev NBP_ACK_ERR (p : Nat) : Nat := (0x043 + 4 * p) * 0x1000 + 0x06C
/-- R172. -/
abbrev BBP_BB_CTL (p : Nat) : Nat := (0x050 + 4 * p) * 0x1000 + 0x040
/-- R172. -/
abbrev BBP_DET_CFG (p : Nat) : Nat := (0x050 + 4 * p) * 0x1000 + 0x044
/-- R173. -/
abbrev BBP_RX_OK (p : Nat) : Nat := (0x052 + 4 * p) * 0x1000 + 0x040
/-- R173. -/
abbrev BBP_HDR_FAIL (p : Nat) : Nat := (0x052 + 4 * p) * 0x1000 + 0x044
/-- R173. -/
abbrev BBP_CW_FAIL (p : Nat) : Nat := (0x052 + 4 * p) * 0x1000 + 0x048
/-- R173. -/
abbrev BBP_RX_LAST (p : Nat) : Nat := (0x052 + 4 * p) * 0x1000 + 0x04C
/-- R174. -/
abbrev BBP_ISP_CFG (p : Nat) : Nat := (0x053 + 4 * p) * 0x1000 + 0x040
/-- R174. -/
abbrev BBP_ISP_STAT (p : Nat) : Nat := (0x053 + 4 * p) * 0x1000 + 0x044
/-- R174. -/
abbrev BBP_TX_CNT (p : Nat) : Nat := (0x053 + 4 * p) * 0x1000 + 0x048
/-- R174. -/
abbrev BBP_TX_REF (p : Nat) : Nat := (0x053 + 4 * p) * 0x1000 + 0x04C
/-- R174. -/
abbrev BBP_ACK_ERR (p : Nat) : Nat := (0x053 + 4 * p) * 0x1000 + 0x050
/-- R185. -/
abbrev NBP_MAP_CFG (p : Nat) : Nat := (0x041 + 4 * p) * 0x1000 + 0x040
/-- R185. -/
abbrev BBP_MAP_CFG (p : Nat) : Nat := (0x051 + 4 * p) * 0x1000 + 0x040
/-- R185. -/
abbrev NBP_SEL (p c : Nat) : Nat := (0x041 + 4 * p) * 0x1000 + 0x044 + 4 * c
/-- R185. -/
abbrev BBP_SEL (p c : Nat) : Nat := (0x051 + 4 * p) * 0x1000 + 0x044 + 4 * c
/-- R185. -/
abbrev NBP_EST_CFG (p : Nat) : Nat := (0x041 + 4 * p) * 0x1000 + 0x050
/-- R185. -/
abbrev BBP_EST_CFG (p : Nat) : Nat := (0x051 + 4 * p) * 0x1000 + 0x050
/-- R185. -/
abbrev NBP_EST_CFG2 (p : Nat) : Nat := (0x041 + 4 * p) * 0x1000 + 0x054
/-- R185. -/
abbrev BBP_EST_CFG2 (p : Nat) : Nat := (0x051 + 4 * p) * 0x1000 + 0x054
/-- R185. -/
abbrev NBP_STEP_CNT (p c : Nat) : Nat := (0x041 + 4 * p) * 0x1000 + 0x058 + 4 * c
/-- R185. -/
abbrev BBP_STEP_CNT (p c : Nat) : Nat := (0x051 + 4 * p) * 0x1000 + 0x058 + 4 * c
/-- R185. -/
abbrev NBP_MC_CNT (p : Nat) : Nat := (0x041 + 4 * p) * 0x1000 + 0x064
/-- R185. -/
abbrev BBP_MC_CNT (p : Nat) : Nat := (0x051 + 4 * p) * 0x1000 + 0x064
/-- R185. -/
abbrev NBP_ROB_CNT (p : Nat) : Nat := (0x041 + 4 * p) * 0x1000 + 0x068
/-- R185. -/
abbrev BBP_ROB_CNT (p : Nat) : Nat := (0x051 + 4 * p) * 0x1000 + 0x068
/-- R185. -/
abbrev NBP_CACHE_STAT (p : Nat) : Nat := (0x041 + 4 * p) * 0x1000 + 0x06C
/-- R185. -/
abbrev BBP_CACHE_STAT (p : Nat) : Nat := (0x051 + 4 * p) * 0x1000 + 0x06C
/-- R185. -/
abbrev NBP_POOL_FREE (p : Nat) : Nat := (0x041 + 4 * p) * 0x1000 + 0x070
/-- R185. -/
abbrev BBP_POOL_FREE (p : Nat) : Nat := (0x051 + 4 * p) * 0x1000 + 0x070
/-- R185. -/
abbrev NBP_POOL_FAIL (p : Nat) : Nat := (0x041 + 4 * p) * 0x1000 + 0x074
/-- R185. -/
abbrev BBP_POOL_FAIL (p : Nat) : Nat := (0x051 + 4 * p) * 0x1000 + 0x074
/-- R185. -/
abbrev NBP_WIN_SEL (p : Nat) : Nat := (0x041 + 4 * p) * 0x1000 + 0x080
/-- R185. -/
abbrev BBP_WIN_SEL (p : Nat) : Nat := (0x051 + 4 * p) * 0x1000 + 0x080
/-- R185. -/
abbrev NBP_WIN (p i : Nat) : Nat := (0x041 + 4 * p) * 0x1000 + 0x100 + 4 * i
/-- R185. -/
abbrev BBP_WIN (p i : Nat) : Nat := (0x051 + 4 * p) * 0x1000 + 0x100 + 4 * i
/-- R200. -/
abbrev LFE_NB_MASK (p i : Nat) : Nat := (0x031 + 4 * p) * 0x1000 + 0x400 + 4 * i
/-- R200. -/
abbrev LFE_BB_MASK (p i : Nat) : Nat := (0x031 + 4 * p) * 0x1000 + 0x540 + 4 * i
/-- R200. -/
abbrev LFE_NOTCH (p n : Nat) : Nat := (0x031 + 4 * p) * 0x1000 + 0x580 + 8 * n
/-- R200. -/
abbrev LFE_EXCL (p n : Nat) : Nat := (0x031 + 4 * p) * 0x1000 + 0x780 + 8 * n
/-- R230. -/
abbrev MAC_MAC_CTL (p : Nat) : Nat := (0x060 + 4 * p) * 0x1000 + 0x040
/-- R230. -/
abbrev MAC_SF_CFG (p : Nat) : Nat := (0x060 + 4 * p) * 0x1000 + 0x044
/-- R230. -/
abbrev MAC_NET_ID (p : Nat) : Nat := (0x060 + 4 * p) * 0x1000 + 0x048
/-- R230. -/
abbrev MAC_CS_CFG (p : Nat) : Nat := (0x060 + 4 * p) * 0x1000 + 0x04C
/-- R231. -/
abbrev MAC_SCHED_SEL (p : Nat) : Nat := (0x061 + 4 * p) * 0x1000 + 0x040
/-- R231. -/
abbrev MAC_SCHED_STAT (p : Nat) : Nat := (0x061 + 4 * p) * 0x1000 + 0x044
/-- R231. -/
abbrev MAC_SCHED_CNT (p : Nat) : Nat := (0x061 + 4 * p) * 0x1000 + 0x048
/-- R231. -/
abbrev MAC_SCHED_WIN (p i : Nat) : Nat := (0x061 + 4 * p) * 0x1000 + 0x800 + 4 * i
/-- R232. -/
abbrev MAC_UP_CFG (p : Nat) : Nat := (0x062 + 4 * p) * 0x1000 + 0x040
/-- R232. -/
abbrev MAC_UP_NET (p : Nat) : Nat := (0x062 + 4 * p) * 0x1000 + 0x044
/-- R232. -/
abbrev MAC_UP_WIN (p : Nat) : Nat := (0x062 + 4 * p) * 0x1000 + 0x048
/-- R232. -/
abbrev MAC_UP_STAT (p : Nat) : Nat := (0x062 + 4 * p) * 0x1000 + 0x04C
/-- R232. -/
abbrev MAC_UP_ERR (p : Nat) : Nat := (0x062 + 4 * p) * 0x1000 + 0x050
/-- R232. -/
abbrev MAC_UP_LAST_LO (p : Nat) : Nat := (0x062 + 4 * p) * 0x1000 + 0x054
/-- R232. -/
abbrev MAC_UP_LAST_HI (p : Nat) : Nat := (0x062 + 4 * p) * 0x1000 + 0x058
/-- R232. -/
abbrev MAC_UP_CNT (p : Nat) : Nat := (0x062 + 4 * p) * 0x1000 + 0x05C
/-- R232. -/
abbrev MAC_UP_PARAM (p : Nat) : Nat := (0x062 + 4 * p) * 0x1000 + 0x060
/-- R233. -/
abbrev MAC_SF_STAT (p : Nat) : Nat := (0x063 + 4 * p) * 0x1000 + 0x040
/-- R233. -/
abbrev MAC_SF_NUM (p : Nat) : Nat := (0x063 + 4 * p) * 0x1000 + 0x044
/-- R233. -/
abbrev MAC_BCN_CNT (p c : Nat) : Nat := (0x063 + 4 * p) * 0x1000 + 0x048 + 4 * c
/-- R233. -/
abbrev MAC_CONT_CNT (p c : Nat) : Nat := (0x063 + 4 * p) * 0x1000 + 0x054 + 4 * c
/-- R233. -/
abbrev MAC_QUIET_CNT (p : Nat) : Nat := (0x063 + 4 * p) * 0x1000 + 0x060
/-- R233. -/
abbrev MAC_BCN_LEN (p c : Nat) : Nat := (0x063 + 4 * p) * 0x1000 + 0x064 + 4 * c
/-- R265. -/
abbrev MAC_LL_CFG (p : Nat) : Nat := (0x060 + 4 * p) * 0x1000 + 0x050
/-- R266. -/
abbrev MAC_LL_RX_OK (p : Nat) : Nat := (0x063 + 4 * p) * 0x1000 + 0x080
/-- R266. -/
abbrev MAC_LL_DUP (p : Nat) : Nat := (0x063 + 4 * p) * 0x1000 + 0x084
/-- R266. -/
abbrev MAC_LL_DROP (p : Nat) : Nat := (0x063 + 4 * p) * 0x1000 + 0x088
/-- R266. -/
abbrev MAC_LL_AUTH (p : Nat) : Nat := (0x063 + 4 * p) * 0x1000 + 0x08C
/-- R266. -/
abbrev MAC_LL_TX (p : Nat) : Nat := (0x063 + 4 * p) * 0x1000 + 0x090
/-- R266. -/
abbrev MAC_LL_IR (p : Nat) : Nat := (0x063 + 4 * p) * 0x1000 + 0x094
/-- R266. -/
abbrev MAC_NBR_STAT (p : Nat) : Nat := (0x063 + 4 * p) * 0x1000 + 0x098
/-- R266. -/
abbrev MAC_OWN_ADDR (p : Nat) : Nat := (0x063 + 4 * p) * 0x1000 + 0x09C
/-- R266. -/
abbrev MAC_NBR_SEL (p : Nat) : Nat := (0x063 + 4 * p) * 0x1000 + 0x0A0
/-- R266. -/
abbrev MAC_NBR_WIN (p i : Nat) : Nat := (0x063 + 4 * p) * 0x1000 + 0x800 + 4 * i
/-- R298. -/
abbrev NET_NET_CFG : Nat := 0x070 * 0x1000 + 0x040
/-- R298. -/
abbrev NET_RCPT_CFG : Nat := 0x070 * 0x1000 + 0x044
/-- R298. -/
abbrev NET_ROUTE_CFG : Nat := 0x070 * 0x1000 + 0x048
/-- R298. -/
abbrev NET_FLOOD_CFG : Nat := 0x070 * 0x1000 + 0x04C
/-- R298. -/
abbrev NET_COOP_CFG : Nat := 0x070 * 0x1000 + 0x050
/-- R299. -/
abbrev NET_EP_SEL : Nat := 0x071 * 0x1000 + 0x040
/-- R299. -/
abbrev NET_EP_CNT : Nat := 0x071 * 0x1000 + 0x044
/-- R299. -/
abbrev NET_ADM_CNT : Nat := 0x071 * 0x1000 + 0x048
/-- R299. -/
abbrev NET_EP_WIN (i : Nat) : Nat := 0x071 * 0x1000 + 0x200 + 4 * i
/-- R300. -/
abbrev NET_FWD_CNT : Nat := 0x072 * 0x1000 + 0x040
/-- R300. -/
abbrev NET_ROUTE_CNT : Nat := 0x072 * 0x1000 + 0x044
/-- R300. -/
abbrev NET_FLOOD_CNT : Nat := 0x072 * 0x1000 + 0x048
/-- R300. -/
abbrev NET_COOP_CNT : Nat := 0x072 * 0x1000 + 0x04C
/-- R301. -/
abbrev MSG_INFLIGHT : Nat := 0x074 * 0x1000 + 0x040
/-- R301. -/
abbrev MSG_MSG_DONE : Nat := 0x074 * 0x1000 + 0x044
/-- R301. -/
abbrev MSG_MSG_FAIL : Nat := 0x074 * 0x1000 + 0x048
/-- R301. -/
abbrev MSG_MSG_DUP : Nat := 0x074 * 0x1000 + 0x04C
/-- R301. -/
abbrev MSG_UP_RX : Nat := 0x074 * 0x1000 + 0x050
/-- R301. -/
abbrev MSG_REASM_DROP : Nat := 0x074 * 0x1000 + 0x054
/-- R301. -/
abbrev MSG_TXN_OPEN : Nat := 0x074 * 0x1000 + 0x058
/-- R318. -/
abbrev QMG_POOL_CFG : Nat := 0x020 * 0x1000 + 0x040
/-- R318. -/
abbrev QMG_POOL_FREE : Nat := 0x020 * 0x1000 + 0x044
/-- R318. -/
abbrev QMG_POOL_RSV : Nat := 0x020 * 0x1000 + 0x048
/-- R318. -/
abbrev QMG_POOL_LOW : Nat := 0x020 * 0x1000 + 0x04C
/-- R318. -/
abbrev QMG_HOT_CFG : Nat := 0x020 * 0x1000 + 0x050
/-- R318. -/
abbrev QMG_QMG_STAT : Nat := 0x020 * 0x1000 + 0x054
/-- R318. -/
abbrev QMG_VIOL_CNT : Nat := 0x020 * 0x1000 + 0x058
/-- R318. -/
abbrev QMG_STALE_CNT : Nat := 0x020 * 0x1000 + 0x05C
/-- R319. -/
abbrev QMG_Q_SEL : Nat := 0x021 * 0x1000 + 0x040
/-- R319. -/
abbrev QMG_Q_CMD : Nat := 0x021 * 0x1000 + 0x044
/-- R319. -/
abbrev QMG_Q_CMD_STAT : Nat := 0x021 * 0x1000 + 0x048
/-- R319. -/
abbrev QMG_Q_LIMIT : Nat := 0x021 * 0x1000 + 0x04C
/-- R319. -/
abbrev QMG_Q_DESC (n : Nat) : Nat := 0x021 * 0x1000 + 0x060 + 4 * n
/-- R346. -/
abbrev HL_HL_CFG (h : Nat) : Nat := (0x018 + h) * 0x1000 + 0x040
/-- R346. -/
abbrev HL_HL_STAT (h : Nat) : Nat := (0x018 + h) * 0x1000 + 0x044
/-- R346. -/
abbrev HL_HL_CNT (h : Nat) : Nat := (0x018 + h) * 0x1000 + 0x048
/-- R346. -/
abbrev HL_LOSS_LT_LO (h : Nat) : Nat := (0x018 + h) * 0x1000 + 0x04C
/-- R346. -/
abbrev HL_LOSS_LT_HI (h : Nat) : Nat := (0x018 + h) * 0x1000 + 0x050
/-- R347. -/
abbrev HFN_HOST_CTL : Nat := 0x01A * 0x1000 + 0x040
/-- R347. -/
abbrev HFN_HOST_WD : Nat := 0x01A * 0x1000 + 0x044
/-- R347. -/
abbrev HFN_HOST_STAT : Nat := 0x01A * 0x1000 + 0x048
/-- R347. -/
abbrev HFN_FO_CNT : Nat := 0x01A * 0x1000 + 0x04C
/-- R347. -/
abbrev HFN_HELD_CNT : Nat := 0x01A * 0x1000 + 0x050
/-- R347. -/
abbrev HFN_RINGS_ACTIVE : Nat := 0x01A * 0x1000 + 0x054
/-- R347. -/
abbrev HFN_DB_BAD : Nat := 0x01A * 0x1000 + 0x058
/-- R348. -/
abbrev MSIX_RT_SEL : Nat := 0x01B * 0x1000 + 0x040
/-- R348. -/
abbrev MSIX_RT_VEC : Nat := 0x01B * 0x1000 + 0x044
/-- R348. -/
abbrev MSIX_VEC_CNT : Nat := 0x01B * 0x1000 + 0x048
/-- R373. -/
abbrev SRV_SRV_CTL : Nat := 0x078 * 0x1000 + 0x040
/-- R373. -/
abbrev SRV_SRV_IN : Nat := 0x078 * 0x1000 + 0x044
/-- R373. -/
abbrev SRV_SURV_PORTS : Nat := 0x078 * 0x1000 + 0x048
/-- R373. -/
abbrev SRV_REC_CFG : Nat := 0x078 * 0x1000 + 0x04C
/-- R373. -/
abbrev SRV_SUPP_CFG : Nat := 0x078 * 0x1000 + 0x050
/-- R373. -/
abbrev SRV_XDCR (n : Nat) : Nat := 0x078 * 0x1000 + 0x400 + 8 * n
/-- R375. -/
abbrev SRV_XL_STAT : Nat := 0x07A * 0x1000 + 0x040
/-- R375. -/
abbrev SRV_XL_GEN_LO : Nat := 0x07A * 0x1000 + 0x044
/-- R375. -/
abbrev SRV_XL_GEN_HI : Nat := 0x07A * 0x1000 + 0x048
/-- R375. -/
abbrev SRV_XL_REJ : Nat := 0x07A * 0x1000 + 0x04C
/-- R375. -/
abbrev SRV_CHK_CFG : Nat := 0x07B * 0x1000 + 0x040
/-- R375. -/
abbrev SRV_MUTE_STAT : Nat := 0x07B * 0x1000 + 0x044
/-- R375. -/
abbrev SRV_MUTE_CLR : Nat := 0x07B * 0x1000 + 0x048
/-- R375. -/
abbrev SRV_LB_LAST (p : Nat) : Nat := 0x07B * 0x1000 + 0x04C + 4 * p
/-- R375. -/
abbrev SRV_CAP_CFG : Nat := 0x07C * 0x1000 + 0x040
/-- R375. -/
abbrev SRV_CAP_CTL : Nat := 0x07C * 0x1000 + 0x044
/-- R375. -/
abbrev SRV_CAP_STAT : Nat := 0x07C * 0x1000 + 0x048
/-- R375. -/
abbrev SRV_CAP_LT_LO : Nat := 0x07C * 0x1000 + 0x04C
/-- R375. -/
abbrev SRV_CAP_LT_HI : Nat := 0x07C * 0x1000 + 0x050
/-- R375. -/
abbrev SRV_IL_STAT : Nat := 0x07D * 0x1000 + 0x040
/-- R375. -/
abbrev SRV_REC_SEQ : Nat := 0x07D * 0x1000 + 0x044
/-- R375. -/
abbrev SRV_SUPP_LAST : Nat := 0x07D * 0x1000 + 0x048
/-- R375. -/
abbrev SRV_GAP_CNT : Nat := 0x07D * 0x1000 + 0x04C
/-- R375. -/
abbrev SRV_ARCH_DROP : Nat := 0x07D * 0x1000 + 0x050
/-- R403. -/
abbrev MET_MET_CTL : Nat := 0x080 * 0x1000 + 0x040
/-- R403. -/
abbrev MET_UDIN (p : Nat) : Nat := 0x080 * 0x1000 + 0x044 + 4 * p
/-- R403. -/
abbrev MET_EVT_CFG : Nat := 0x080 * 0x1000 + 0x054
/-- R403. -/
abbrev MET_SNAP_CFG : Nat := 0x080 * 0x1000 + 0x058
/-- R403. -/
abbrev MET_MET_STAT : Nat := 0x080 * 0x1000 + 0x05C
/-- R406. -/
abbrev MET_EVT_CNT (p : Nat) : Nat := 0x083 * 0x1000 + 0x040 + 4 * p
/-- R406. -/
abbrev MET_ARCH_DROP : Nat := 0x083 * 0x1000 + 0x050
/-- R406. -/
abbrev MET_SNAP_STAT : Nat := 0x083 * 0x1000 + 0x054
/-- R406. -/
abbrev MET_SNAP_LT_LO : Nat := 0x083 * 0x1000 + 0x058
/-- R406. -/
abbrev MET_SNAP_LT_HI : Nat := 0x083 * 0x1000 + 0x05C
/-- R407. -/
abbrev HKC_HKC_CTL : Nat := 0x00C * 0x1000 + 0x040
/-- R407. -/
abbrev HKC_REG_CFG : Nat := 0x00C * 0x1000 + 0x044
/-- R407. -/
abbrev HKC_INJ_CFG : Nat := 0x00C * 0x1000 + 0x048
/-- R407. -/
abbrev HKC_MUX_SEL : Nat := 0x00C * 0x1000 + 0x04C
/-- R407. -/
abbrev HKC_HKC_STAT : Nat := 0x00C * 0x1000 + 0x050
/-- R407. -/
abbrev HKC_INJ_OVR : Nat := 0x00C * 0x1000 + 0x054
/-- R407. -/
abbrev HKC_WATCH_CFG : Nat := 0x00C * 0x1000 + 0x058
/-- R407. -/
abbrev HKC_REG_SEQ (i : Nat) : Nat := 0x00C * 0x1000 + 0x060 + 4 * i
/-- R407. -/
abbrev HKC_INJ_SEQ : Nat := 0x00C * 0x1000 + 0x0A0
/-- R407. -/
abbrev HKC_RES (i : Nat) : Nat := 0x00C * 0x1000 + 0x100 + 4 * i
/-- R407. -/
abbrev HKC_INJ_RES (k : Nat) : Nat := 0x00C * 0x1000 + 0x180 + 4 * k
/-- R407. -/
abbrev HKC_INJ_LT_LO : Nat := 0x00C * 0x1000 + 0x190
/-- R407. -/
abbrev HKC_INJ_LT_HI : Nat := 0x00C * 0x1000 + 0x194
/-- R407. -/
abbrev HKC_LIM (i : Nat) : Nat := 0x00C * 0x1000 + 0x200 + 4 * i
/-- R407. -/
abbrev HKC_LIM_STAT : Nat := 0x00C * 0x1000 + 0x280
/-- R408. -/
abbrev CTL_CTL_CTL : Nat := 0x02C * 0x1000 + 0x040
/-- R408. -/
abbrev CTL_ILK_CFG : Nat := 0x02C * 0x1000 + 0x044
/-- R408. -/
abbrev CTL_ILK_STAT : Nat := 0x02C * 0x1000 + 0x048
/-- R408. -/
abbrev CTL_ARM_SEL : Nat := 0x02C * 0x1000 + 0x04C
/-- R408. -/
abbrev CTL_ARM_CYC : Nat := 0x02C * 0x1000 + 0x050
/-- R408. -/
abbrev CTL_ARM_PH : Nat := 0x02C * 0x1000 + 0x054
/-- R408. -/
abbrev CTL_ARM_CMD : Nat := 0x02C * 0x1000 + 0x058
/-- R408. -/
abbrev CTL_ARM_RES : Nat := 0x02C * 0x1000 + 0x05C
/-- R408. -/
abbrev CTL_OUT_CFG (n : Nat) : Nat := 0x02C * 0x1000 + 0x080 + 0x20 * n
/-- R408. -/
abbrev CTL_OP_TIME (n : Nat) : Nat := 0x02C * 0x1000 + 0x084 + 0x20 * n
/-- R408. -/
abbrev CTL_FB_WIN (n : Nat) : Nat := 0x02C * 0x1000 + 0x088 + 0x20 * n
/-- R408. -/
abbrev CTL_OUT_STAT (n : Nat) : Nat := 0x02C * 0x1000 + 0x08C + 0x20 * n
/-- R408. -/
abbrev CTL_TGT_LT_LO (n : Nat) : Nat := 0x02C * 0x1000 + 0x090 + 0x20 * n
/-- R408. -/
abbrev CTL_TGT_LT_HI (n : Nat) : Nat := 0x02C * 0x1000 + 0x094 + 0x20 * n
/-- R408. -/
abbrev CTL_FIRE_ERR (n : Nat) : Nat := 0x02C * 0x1000 + 0x098 + 0x20 * n
/-- R408. -/
abbrev CTL_FIRES (n : Nat) : Nat := 0x02C * 0x1000 + 0x09C + 0x20 * n
/-- R426. -/
abbrev NV_NV_CTL (d : Nat) : Nat := (0x01C + d) * 0x1000 + 0x040
/-- R426. -/
abbrev NV_NV_STAT (d : Nat) : Nat := (0x01C + d) * 0x1000 + 0x044
/-- R426. -/
abbrev NV_NV_CAP (d : Nat) : Nat := (0x01C + d) * 0x1000 + 0x048
/-- R426. -/
abbrev NV_NV_WEAR (d : Nat) : Nat := (0x01C + d) * 0x1000 + 0x04C
/-- R426. -/
abbrev NV_NV_ERR (d : Nat) : Nat := (0x01C + d) * 0x1000 + 0x050
/-- R426. -/
abbrev NV_NV_TEMP (d : Nat) : Nat := (0x01C + d) * 0x1000 + 0x054
/-- R427. -/
abbrev STO_STO_CFG : Nat := 0x01F * 0x1000 + 0x040
/-- R427. -/
abbrev STO_SPOOL_GB : Nat := 0x01F * 0x1000 + 0x044
/-- R427. -/
abbrev STO_MET_GB : Nat := 0x01F * 0x1000 + 0x048
/-- R427. -/
abbrev STO_WEAR_THR : Nat := 0x01F * 0x1000 + 0x04C
/-- R427. -/
abbrev STO_STO_STAT : Nat := 0x01F * 0x1000 + 0x050
/-- R427. -/
abbrev STO_OP_FREE : Nat := 0x01F * 0x1000 + 0x054
/-- R427. -/
abbrev STO_SPOOL_USE : Nat := 0x01F * 0x1000 + 0x058
/-- R427. -/
abbrev STO_VAULT_STAT : Nat := 0x01F * 0x1000 + 0x05C
/-- R427. -/
abbrev STO_STO_CTL : Nat := 0x01F * 0x1000 + 0x060
/-- R428. -/
abbrev SCB_SCB_CFG : Nat := 0x007 * 0x1000 + 0x040
/-- R428. -/
abbrev SCB_SCB_WR_LO : Nat := 0x007 * 0x1000 + 0x044
/-- R428. -/
abbrev SCB_SCB_WR_HI : Nat := 0x007 * 0x1000 + 0x048
/-- R428. -/
abbrev SCB_SCB_OLD_LO : Nat := 0x007 * 0x1000 + 0x04C
/-- R428. -/
abbrev SCB_SCB_OLD_HI : Nat := 0x007 * 0x1000 + 0x050
/-- R428. -/
abbrev SCB_SCB_STAGE : Nat := 0x007 * 0x1000 + 0x054
/-- R428. -/
abbrev SCB_SCB_LAST : Nat := 0x007 * 0x1000 + 0x058
/-- R428. -/
abbrev SCB_SCB_PERM : Nat := 0x007 * 0x1000 + 0x05C
/-- R431. -/
abbrev OTP_LC : Nat := 0x00B * 0x1000 + 0x040
/-- R431. -/
abbrev OTP_KEY_STAT : Nat := 0x00B * 0x1000 + 0x044
/-- R431. -/
abbrev OTP_FW_SVN : Nat := 0x00B * 0x1000 + 0x048
/-- R431. -/
abbrev OTP_COMMIT_CNT : Nat := 0x00B * 0x1000 + 0x04C
/-- R431. -/
abbrev OTP_SUBSYS : Nat := 0x00B * 0x1000 + 0x050
/-- R431. -/
abbrev OTP_SERIAL_LO : Nat := 0x00B * 0x1000 + 0x054
/-- R431. -/
abbrev OTP_SERIAL_HI : Nat := 0x00B * 0x1000 + 0x058
/-- R431. -/
abbrev OTP_HASH_SEL : Nat := 0x00B * 0x1000 + 0x060
/-- R431. -/
abbrev OTP_HASH_WIN (i : Nat) : Nat := 0x00B * 0x1000 + 0x080 + 4 * i
/-- R456. -/
abbrev SEC_SEC_STAT : Nat := 0x010 * 0x1000 + 0x040
/-- R456. -/
abbrev SEC_SLOT_CMD : Nat := 0x011 * 0x1000 + 0x040
/-- R456. -/
abbrev SEC_SLOT_CMD_STAT : Nat := 0x011 * 0x1000 + 0x044
/-- R456. -/
abbrev SEC_SLOT_LBL (i : Nat) : Nat := 0x011 * 0x1000 + 0x060 + 4 * i
/-- R456. -/
abbrev SEC_SLOT_STAT (n : Nat) : Nat := 0x011 * 0x1000 + 0x100 + 4 * n
/-- R456. -/
abbrev SEC_REL_CFG : Nat := 0x012 * 0x1000 + 0x040
/-- R456. -/
abbrev SEC_AES_STAT : Nat := 0x012 * 0x1000 + 0x044
/-- R456. -/
abbrev SEC_AUTH_CNT : Nat := 0x012 * 0x1000 + 0x048
/-- R456. -/
abbrev SEC_REVOKE_CNT : Nat := 0x012 * 0x1000 + 0x04C
/-- R456. -/
abbrev SEC_RETRACT_CNT : Nat := 0x012 * 0x1000 + 0x050
/-- R456. -/
abbrev SEC_PQC_CNT : Nat := 0x013 * 0x1000 + 0x040
/-- R456. -/
abbrev SEC_PQC_FAIL : Nat := 0x013 * 0x1000 + 0x044
/-- R456. -/
abbrev SEC_RNG_CFG : Nat := 0x014 * 0x1000 + 0x040
/-- R456. -/
abbrev SEC_TRNG_STAT : Nat := 0x014 * 0x1000 + 0x044
/-- R456. -/
abbrev SEC_DRBG_CNT : Nat := 0x014 * 0x1000 + 0x048
/-- R456. -/
abbrev SEC_BOOT_STAT : Nat := 0x015 * 0x1000 + 0x040
/-- R456. -/
abbrev SEC_BOOT_CFG : Nat := 0x015 * 0x1000 + 0x044
/-- R456. -/
abbrev SEC_BOOT_CNT : Nat := 0x015 * 0x1000 + 0x048
/-- R456. -/
abbrev SEC_SESS_STAT (n : Nat) : Nat := 0x016 * 0x1000 + 0x040 + 8 * n
/-- R456. -/
abbrev SEC_SESS_ID (n : Nat) : Nat := 0x016 * 0x1000 + 0x044 + 8 * n
/-- R467. -/
abbrev UART_UART_CTL (u : Nat) : Nat := (0x028 + u) * 0x1000 + 0x040
/-- R467. -/
abbrev UART_DIV (u : Nat) : Nat := (0x028 + u) * 0x1000 + 0x044
/-- R467. -/
abbrev UART_BRK_CFG (u : Nat) : Nat := (0x028 + u) * 0x1000 + 0x048
/-- R467. -/
abbrev UART_TX_CMD (u : Nat) : Nat := (0x028 + u) * 0x1000 + 0x04C
/-- R467. -/
abbrev UART_TX_DATA (u : Nat) : Nat := (0x028 + u) * 0x1000 + 0x050
/-- R467. -/
abbrev UART_RX_DATA (u : Nat) : Nat := (0x028 + u) * 0x1000 + 0x054
/-- R467. -/
abbrev UART_RX_POP (u : Nat) : Nat := (0x028 + u) * 0x1000 + 0x058
/-- R467. -/
abbrev UART_FIFO_STAT (u : Nat) : Nat := (0x028 + u) * 0x1000 + 0x05C
/-- R467. -/
abbrev UART_FLOW_CFG (u : Nat) : Nat := (0x028 + u) * 0x1000 + 0x060
/-- R467. -/
abbrev UART_ERR_CNT (u : Nat) : Nat := (0x028 + u) * 0x1000 + 0x064
/-- R467. -/
abbrev UART_BRK_STAT (u : Nat) : Nat := (0x028 + u) * 0x1000 + 0x068
/-- R467. -/
abbrev UART_DEAD_CNT (u : Nat) : Nat := (0x028 + u) * 0x1000 + 0x06C
/-- R467. -/
abbrev UART_SLEEP_CFG (u : Nat) : Nat := (0x028 + u) * 0x1000 + 0x070
/-- R467. -/
abbrev UART_SLEEP_STAT (u : Nat) : Nat := (0x028 + u) * 0x1000 + 0x074
/-- R470. -/
abbrev I2C_I2C_CFG : Nat := 0x02A * 0x1000 + 0x040
/-- R470. -/
abbrev I2C_CMD : Nat := 0x02A * 0x1000 + 0x044
/-- R470. -/
abbrev I2C_RD_DATA : Nat := 0x02A * 0x1000 + 0x048
/-- R470. -/
abbrev I2C_RD_POP : Nat := 0x02A * 0x1000 + 0x04C
/-- R470. -/
abbrev I2C_I2C_STAT : Nat := 0x02A * 0x1000 + 0x050
/-- R470. -/
abbrev I2C_I2C_CTL : Nat := 0x02A * 0x1000 + 0x054
/-- R470. -/
abbrev I2C_I2C_CNT : Nat := 0x02A * 0x1000 + 0x058
/-- R472. -/
abbrev GPIO_DIR : Nat := 0x02B * 0x1000 + 0x040
/-- R472. -/
abbrev GPIO_OUT : Nat := 0x02B * 0x1000 + 0x044
/-- R472. -/
abbrev GPIO_OUT_SET : Nat := 0x02B * 0x1000 + 0x048
/-- R472. -/
abbrev GPIO_OUT_CLR : Nat := 0x02B * 0x1000 + 0x04C
/-- R472. -/
abbrev GPIO_IN : Nat := 0x02B * 0x1000 + 0x050
/-- R472. -/
abbrev GPIO_RISE_EN : Nat := 0x02B * 0x1000 + 0x054
/-- R472. -/
abbrev GPIO_FALL_EN : Nat := 0x02B * 0x1000 + 0x058
/-- R472. -/
abbrev GPIO_DEB_EN : Nat := 0x02B * 0x1000 + 0x05C
/-- R472. -/
abbrev GPIO_DEB_US : Nat := 0x02B * 0x1000 + 0x060
/-- R474. -/
abbrev PPS_PPS_CFG : Nat := 0x02D * 0x1000 + 0x040
/-- R474. -/
abbrev PPS_PPS_STAT : Nat := 0x02D * 0x1000 + 0x044
/-- R474. -/
abbrev PPS_PPS_LT_LO : Nat := 0x02D * 0x1000 + 0x048
/-- R474. -/
abbrev PPS_PPS_LT_HI : Nat := 0x02D * 0x1000 + 0x04C
/-- R474. -/
abbrev PPS_PPS_CNT : Nat := 0x02D * 0x1000 + 0x050
/-- R476. -/
abbrev XSPI_XSPI_CFG : Nat := 0x02E * 0x1000 + 0x040
/-- R476. -/
abbrev XSPI_XSPI_STAT : Nat := 0x02E * 0x1000 + 0x044
/-- R476. -/
abbrev XSPI_XSPI_ERR : Nat := 0x02E * 0x1000 + 0x048
/-- R481. -/
abbrev CHK_CHK_CLR : Nat := 0x00D * 0x1000 + 0x040
/-- R481. -/
abbrev CHK_CHK_FEED_B : Nat := 0x00D * 0x1000 + 0x044
/-- R481. -/
abbrev CHK_CHK_CFG (u : Nat) : Nat := 0x00D * 0x1000 + 0x080 + 0x20 * u
/-- R481. -/
abbrev CHK_CHK_REC (u : Nat) : Nat := 0x00D * 0x1000 + 0x084 + 0x20 * u
/-- R481. -/
abbrev CHK_CHK_FEED (u : Nat) : Nat := 0x00D * 0x1000 + 0x088 + 0x20 * u
/-- R481. -/
abbrev CHK_CHK_RES (u : Nat) : Nat := 0x00D * 0x1000 + 0x08C + 0x20 * u
/-- R481. -/
abbrev CHK_CHK_CNT (u : Nat) : Nat := 0x00D * 0x1000 + 0x090 + 0x20 * u
/-- R495. -/
abbrev SYS_MODE_REQ : Nat := 0x000 * 0x1000 + 0x100
/-- R495. -/
abbrev SYS_MODE_STAT : Nat := 0x000 * 0x1000 + 0x104
/-- R495. -/
abbrev SYS_MODE_LT_LO : Nat := 0x000 * 0x1000 + 0x108
/-- R495. -/
abbrev SYS_MODE_LT_HI : Nat := 0x000 * 0x1000 + 0x10C
/-- R495. -/
abbrev SYS_MODE_CNT : Nat := 0x000 * 0x1000 + 0x110
/-- R495. -/
abbrev SYS_MODE_TIME : Nat := 0x000 * 0x1000 + 0x114
/-- R496. -/
abbrev CLK_CLK_CFG : Nat := 0x001 * 0x1000 + 0x040
/-- R496. -/
abbrev CLK_CLK_STAT : Nat := 0x001 * 0x1000 + 0x044
/-- R496. -/
abbrev CLK_PLL_CNT : Nat := 0x001 * 0x1000 + 0x048
/-- R496. -/
abbrev CLK_REF_CNT : Nat := 0x001 * 0x1000 + 0x04C
/-- R497. -/
abbrev PWR_WAKE_CFG : Nat := 0x002 * 0x1000 + 0x040
/-- R497. -/
abbrev PWR_GPIO_WAKE : Nat := 0x002 * 0x1000 + 0x044
/-- R497. -/
abbrev PWR_WAKE_STAT : Nat := 0x002 * 0x1000 + 0x048
/-- R497. -/
abbrev PWR_DOM_STAT : Nat := 0x002 * 0x1000 + 0x04C
/-- R497. -/
abbrev PWR_ENG_STAT : Nat := 0x002 * 0x1000 + 0x050
/-- R497. -/
abbrev PWR_PLL_STOP : Nat := 0x002 * 0x1000 + 0x054
/-- R510. -/
abbrev SEC_DBG_STAT : Nat := 0x010 * 0x1000 + 0x044
/-- R510. -/
abbrev SEC_DBG_CNT : Nat := 0x010 * 0x1000 + 0x048
/-- R510. -/
abbrev SEC_HALTED : Nat := 0x010 * 0x1000 + 0x04C
/-- R521. -/
abbrev UMP_MST_SEL : Nat := 0x006 * 0x1000 + 0x040
/-- R521. -/
abbrev UMP_MST_STAT : Nat := 0x006 * 0x1000 + 0x044
/-- R521. -/
abbrev UMP_RGN_SEL : Nat := 0x006 * 0x1000 + 0x048
/-- R521. -/
abbrev UMP_RGN_BASE_LO : Nat := 0x006 * 0x1000 + 0x04C
/-- R521. -/
abbrev UMP_RGN_BASE_HI : Nat := 0x006 * 0x1000 + 0x050
/-- R521. -/
abbrev UMP_RGN_LIM_LO : Nat := 0x006 * 0x1000 + 0x054
/-- R521. -/
abbrev UMP_RGN_LIM_HI : Nat := 0x006 * 0x1000 + 0x058
/-- R521. -/
abbrev UMP_RGN_RIGHTS : Nat := 0x006 * 0x1000 + 0x05C
/-- R521. -/
abbrev UMP_CARD_CNT : Nat := 0x006 * 0x1000 + 0x060
/-- R521. -/
abbrev UMP_CARD_REC_0 : Nat := 0x006 * 0x1000 + 0x064
/-- R521. -/
abbrev UMP_CARD_REC_1 : Nat := 0x006 * 0x1000 + 0x068
/-- R521. -/
abbrev UMP_CARD_REC_2 : Nat := 0x006 * 0x1000 + 0x06C
/-- R521. -/
abbrev UMP_CARD_REC_3 : Nat := 0x006 * 0x1000 + 0x070
/-- R521. -/
abbrev UMP_CARD_REC_4 : Nat := 0x006 * 0x1000 + 0x074
/-- R533. -/
abbrev LGC_SLOT_CTL (k : Nat) : Nat := (0x100 + 4 * k) * 0x1000 + 0x040
/-- R533. -/
abbrev LGC_SLOT_CMD (k : Nat) : Nat := (0x100 + 4 * k) * 0x1000 + 0x044
/-- R533. -/
abbrev LGC_SLOT_STAT (k : Nat) : Nat := (0x100 + 4 * k) * 0x1000 + 0x048
/-- R533. -/
abbrev LGC_QUANTUM (k : Nat) : Nat := (0x100 + 4 * k) * 0x1000 + 0x04C
/-- R533. -/
abbrev LGC_CH (k j : Nat) : Nat := (0x100 + 4 * k) * 0x1000 + 0x050 + 4 * j
/-- R533. -/
abbrev LGC_CTX_TTBR (k c : Nat) : Nat := (0x100 + 4 * k) * 0x1000 + 0x060 + 8 * c
/-- R533. -/
abbrev LGC_CTX_ASID (k c : Nat) : Nat := (0x100 + 4 * k) * 0x1000 + 0x064 + 8 * c
/-- R533. -/
abbrev LGC_TLB_VA (k : Nat) : Nat := (0x100 + 4 * k) * 0x1000 + 0x080
/-- R555. -/
abbrev BENCH_BENCH_CMD : Nat := 0x008 * 0x1000 + 0x040
/-- R555. -/
abbrev BENCH_BENCH_STAT : Nat := 0x008 * 0x1000 + 0x044
/-- R555. -/
abbrev BENCH_ENG_MAP_SEL : Nat := 0x008 * 0x1000 + 0x048
/-- R555. -/
abbrev BENCH_ENG_MAP : Nat := 0x008 * 0x1000 + 0x04C
/-- R555. -/
abbrev BENCH_CLS_SEL : Nat := 0x008 * 0x1000 + 0x050
/-- R555. -/
abbrev BENCH_CLS_STAT : Nat := 0x008 * 0x1000 + 0x054
/-- R555. -/
abbrev BENCH_CLS_CAP : Nat := 0x008 * 0x1000 + 0x058
/-- R555. -/
abbrev BENCH_CLS_FC : Nat := 0x008 * 0x1000 + 0x05C
/-- R555. -/
abbrev BENCH_FC_CFG : Nat := 0x008 * 0x1000 + 0x060
/-- R555. -/
abbrev BENCH_SCRUB_CFG : Nat := 0x008 * 0x1000 + 0x064
/-- R555. -/
abbrev BENCH_SCRUB_STAT : Nat := 0x008 * 0x1000 + 0x068
/-- R555. -/
abbrev BENCH_MIN_FC : Nat := 0x008 * 0x1000 + 0x06C
/-- R556. -/
abbrev AGE_AGE_CTL : Nat := 0x009 * 0x1000 + 0x040
/-- R556. -/
abbrev AGE_LIFE_USED : Nat := 0x009 * 0x1000 + 0x044
/-- R556. -/
abbrev AGE_POWER_ON : Nat := 0x009 * 0x1000 + 0x048
/-- R556. -/
abbrev AGE_AF_30 : Nat := 0x009 * 0x1000 + 0x04C
/-- R556. -/
abbrev AGE_RO_DEG : Nat := 0x009 * 0x1000 + 0x050
/-- R556. -/
abbrev AGE_EM_DEG : Nat := 0x009 * 0x1000 + 0x054
/-- R556. -/
abbrev AGE_RO (i : Nat) : Nat := 0x009 * 0x1000 + 0x100 + 4 * i
/-- R556. -/
abbrev AGE_EM (j : Nat) : Nat := 0x009 * 0x1000 + 0x180 + 4 * j
/-- R557. -/
abbrev ENG_ENG_STAT (e : Nat) : Nat := (0x090 + e) * 0x1000 + 0x040
/-- R557. -/
abbrev ENG_ENG_TASK (e : Nat) : Nat := (0x090 + e) * 0x1000 + 0x044
/-- R557. -/
abbrev ENG_ST_RES (e : Nat) : Nat := (0x090 + e) * 0x1000 + 0x048
/-- R557. -/
abbrev ENG_ENG_FLT (e : Nat) : Nat := (0x090 + e) * 0x1000 + 0x04C
/-- R564. -/
abbrev ATB_ATB_SEL (b : Nat) : Nat := 0x00A * 0x1000 + 0x040 + 4 * b
/-- R564. -/
abbrev ATB_TST_CMD : Nat := 0x00A * 0x1000 + 0x050
/-- R564. -/
abbrev ATB_TST_STAT : Nat := 0x00A * 0x1000 + 0x054
/-- R564. -/
abbrev ATB_TST_RES : Nat := 0x00A * 0x1000 + 0x058
/-- R581. -/
abbrev SYS_CHIP_ID : Nat := 0x000 * 0x1000 + 0x040
/-- R581. -/
abbrev SYS_ORD_CODE : Nat := 0x000 * 0x1000 + 0x044
/-- R581. -/
abbrev SYS_STRAP : Nat := 0x000 * 0x1000 + 0x048
/-- R581. -/
abbrev SYS_RST_CAUSE : Nat := 0x000 * 0x1000 + 0x04C
/-- R581. -/
abbrev SYS_RST_CTL : Nat := 0x000 * 0x1000 + 0x050
/-- R581. -/
abbrev SYS_BOOT_STAT : Nat := 0x000 * 0x1000 + 0x054

end Sys2Proof.Machine.Reg
end

