-- ==== Sys2Proof/Machine/Bits.lean ====
section
/-! DEFINITION. Bit fields, byte order and sign helpers, and the sparse tables that hold numbered objects. -/

namespace Sys2Proof.Machine

/-- The field of `w` at bits `[lo + width - 1 : lo]`, as a number (notation of chapter 00). -/
def fld (w : Word) (lo width : Nat) : Nat := (w.toNat / 2 ^ lo) % 2 ^ width

/-- Bit `n` of a word. -/
def bit (w : Word) (n : Nat) : Bool := w.getLsbD n

/-- A word with the field at `[lo + width - 1 : lo]` replaced by `v` (taken modulo the field's size). -/
def setFld (w : Word) (lo width v : Nat) : Word :=
  BitVec.ofNat 32 (w.toNat - ((w.toNat / 2 ^ lo) % 2 ^ width) * 2 ^ lo + (v % 2 ^ width) * 2 ^ lo)

/-- A word with bit `n` set to `b`. -/
def setBit (w : Word) (n : Nat) (b : Bool) : Word := setFld w n 1 (if b then 1 else 0)

/-- The word whose value is `n` modulo 2^32. -/
def word (n : Nat) : Word := BitVec.ofNat 32 n

/-- The word holding a signed value in two's complement. -/
def sword (i : Int) : Word := BitVec.ofInt 32 i

/-- A signed value clipped to `width` bits, as the unsigned field value that holds it. -/
def satField (width : Nat) (i : Int) : Nat :=
  let hi : Int := 2 ^ (width - 1) - 1
  let lo : Int := -(2 ^ (width - 1))
  let c := if i > hi then hi else if i < lo then lo else i
  (c % (2 ^ width : Int)).toNat

/-- A field value of `width` bits read as a signed number. -/
def signedField (width n : Nat) : Int :=
  if n % 2 ^ width < 2 ^ (width - 1) then (n % 2 ^ width : Nat) else ((n % 2 ^ width : Nat) : Int) - (2 ^ width : Nat)

/-- The counter in `[lo + width - 1 : lo]` raised by `n`, saturating at the field's largest value. -/
def satAdd (w : Word) (lo width n : Nat) : Word :=
  setFld w lo width (min (fld w lo width + n) (2 ^ width - 1))

/-- The counter in `[lo + width - 1 : lo]` raised by one, saturating. -/
def satInc (w : Word) (lo width : Nat) : Word := satAdd w lo width 1

/-- The counter in `[lo + width - 1 : lo]` raised by one, modulo its size. -/
def wrapInc (w : Word) (lo width : Nat) : Word := setFld w lo width (fld w lo width + 1)

/-- The low `n` bytes of a number, least significant first (R9: little-endian). -/
def leBytes : Nat → Nat → List Byte
  | 0, _ => []
  | n + 1, v => BitVec.ofNat 8 v :: leBytes n (v / 256)

/-- The number held by a little-endian byte string (R9). -/
def ofLE : List Byte → Nat
  | [] => 0
  | b :: bs => b.toNat + 256 * ofLE bs

/-- `n` bytes of a byte string from offset `i`; missing bytes read 0. -/
def takeBytes (bs : List Byte) (i n : Nat) : List Byte :=
  let t := (bs.drop i).take n
  t ++ List.replicate (n - t.length) 0

/-- The little-endian number in `n` bytes of a string from offset `i`. -/
def leAt (bs : List Byte) (i n : Nat) : Nat := ofLE (takeBytes bs i n)

/-- A byte string with `new` written over it from offset `i`, keeping its length. -/
def putBytes (bs : List Byte) (i : Nat) (new : List Byte) : List Byte :=
  ((takeBytes bs 0 i) ++ new ++ bs.drop (i + new.length)).take (max bs.length (i + new.length))

/-- 64-bit wrap-around (R10: line time is a 64-bit value). -/
def wrap64 (n : Nat) : Nat := n % 2 ^ 64

/-- The value a table holds under a key; `d` where it lists none. -/
def tget {α : Type} (d : α) : List (Nat × α) → Nat → α
  | [], _ => d
  | (k, v) :: m, key => if k = key then v else tget d m key

/-- The value a table holds under a key, if it lists one. -/
def tfind {α : Type} : List (Nat × α) → Nat → Option α
  | [], _ => none
  | (k, v) :: m, key => if k = key then some v else tfind m key

/-- A table with the entries under a key removed. -/
def tdel {α : Type} : List (Nat × α) → Nat → List (Nat × α)
  | [], _ => []
  | (k, v) :: m, key => if k = key then tdel m key else (k, v) :: tdel m key

/-- A table with `v` placed in key order; an entry of the same key is replaced. -/
def tins {α : Type} : List (Nat × α) → Nat → α → List (Nat × α)
  | [], key, v => [(key, v)]
  | (k, w) :: m, key, v =>
    if key < k then (key, v) :: (k, w) :: m
    else if k = key then (key, v) :: m
    else (k, w) :: tins m key v

/-- A table with key `key` holding `v`; where `v` is the default, no entry is kept, so that equal tables are equal lists. -/
def tset {α : Type} [DecidableEq α] (d : α) (m : List (Nat × α)) (key : Nat) (v : α) : List (Nat × α) :=
  if v = d then tdel m key else tins m key v

/-- The keys of a table rise strictly. -/
def tsorted {α : Type} : List (Nat × α) → Bool
  | [] => true
  | [_] => true
  | (a, _) :: (b, w) :: m => decide (a < b) && tsorted ((b, w) :: m)

end Sys2Proof.Machine
end

