-- ==== Sys2Proof/Machine/RegTable.lean ====
section
/-! DEFINITION. The register tables of the spec as data: for every block register its offset, its writable bits by access code, the ranges of its fields (R600) and its reset value. A register no row names here is read only and resets to 0. -/

namespace Sys2Proof.Machine

/-- One register of a page, or `count` registers `stride` bytes apart (the rows of the register tables). `rng` lists (low bit, width, least, greatest) for the fields with a stated range (R600). -/
structure RegRow where
  off : Nat
  stride : Nat := 4
  count : Nat := 1
  rw : Nat := 0
  rwl : Nat := 0
  rwb : Nat := 0
  reset : Nat := 0
  rng : List (Nat × Nat × Nat × Nat) := []
deriving DecidableEq, Repr

/-- Block registers of page 0x000 (SYS). -/
def rows000 : List RegRow :=
  [ { off := 0x100, rw := 0xF }  -- MODE_REQ (R495)
  , { off := 0x40, reset := 0x96400001 } ]  -- CHIP_ID (R581)

/-- Block registers of page 0x001 (CLK). -/
def rows001 : List RegRow :=
  [ { off := 0x40, rwl := 0x1 } ]  -- CLK_CFG (R496)

/-- Block registers of page 0x002 (PWR). -/
def rows002 : List RegRow :=
  [ { off := 0x40, rwl := 0x6FFF, reset := 0x222, rng := [(0, 4, 2, 11), (4, 4, 2, 11), (8, 4, 2, 11)] }  -- WAKE_CFG (R497)
  , { off := 0x44, rwl := 0xFFFFFF }  -- GPIO_WAKE (R497)
  , { off := 0x54, rwl := 0xFFFF, reset := 0x7D0, rng := [(0, 16, 1000, 65535)] } ]  -- PLL_STOP (R497)

/-- Block registers of page 0x003 (LTIME). -/
def rows003 : List RegRow :=
  [ { off := 0x40, rw := 0x2, rwl := 0x1, reset := 0x1 }  -- TRK_CTL (R77)
  , { off := 0x44, rwl := 0xFFFF1F, reset := 0x323200, rng := [(2, 2, 0, 2), (8, 8, 1, 255), (16, 8, 10, 200)] }  -- TRK_CFG (R77)
  , { off := 0x48, rwl := 0xFFFF00FF, reset := 0xBB80005, rng := [(16, 16, 1, 65535)] }  -- HOLD_CFG (R77)
  , { off := 0x5C, rw := 0xFFFFFFFF }  -- CYC_SET (R77)
  , { off := 0x7C, rw := 0xFFFFFFFF }  -- UTC_SET_LO (R77)
  , { off := 0x80, rw := 0xFFFFFFFF }  -- UTC_SET_HI (R77)
  , { off := 0x84, rwl := 0xFFFF, reset := 0xA }  -- UTC_CFG (R77)
  , { off := 0xC4, stride := 0xC, count := 4, reset := 0x55555555 }  -- COND_OFS_p_B (R77)
  , { off := 0xC8, stride := 0xC, count := 4, reset := 0xAAAAAAAB } ]  -- COND_OFS_p_C (R77)

/-- Block registers of page 0x004 (FIX). -/
def rows004 : List RegRow :=
  [ { off := 0x40, rwl := 0x3FFF, reset := 0x1C00, rng := [(0, 14, 16, 8192)] }  -- FIX_CFG (R92)
  , { off := 0x44, rwl := 0xFFFFFFFF, reset := 0x3E800C8, rng := [(0, 16, 20, 1000), (16, 16, 100, 5000)] }  -- PREWARM_CFG (R92)
  , { off := 0x48, rw := 0x1FFF }  -- ENT_IDX (R92)
  , { off := 0x60, stride := 0x4, count := 8, rw := 0xFFFFFFFF } ]  -- ENT_DATA (R92)

/-- Block registers of page 0x005 (BANK). -/
def rows005 : List RegRow :=
  [ { off := 0x40, stride := 0x20, count := 16, rwl := 0x37, rng := [(0, 3, 0, 4)] }  -- GRP_CTL (R56)
  , { off := 0x44, stride := 0x20, count := 16, rwl := 0xFFFFFFFF }  -- GRP_LT_LO (R56)
  , { off := 0x48, stride := 0x20, count := 16, rwl := 0xFFFFFFFF } ]  -- GRP_LT_HI (R56)

/-- Block registers of page 0x006 (UMP). -/
def rows006 : List RegRow :=
  [ { off := 0x40, rw := 0xFFFF }  -- MST_SEL (R521)
  , { off := 0x48, rw := 0x7F } ]  -- RGN_SEL (R521)

/-- Block registers of page 0x007 (SCB). -/
def rows007 : List RegRow :=
  [ { off := 0x40, rwl := 0xFFFF01, reset := 0x46400, rng := [(16, 8, 1, 64)] } ]  -- SCB_CFG (R428)

/-- Block registers of page 0x008 (BENCH). -/
def rows008 : List RegRow :=
  [ { off := 0x48, rw := 0x7F }  -- ENG_MAP_SEL (R555)
  , { off := 0x50, rw := 0x1F, rng := [(0, 5, 0, 19)] }  -- CLS_SEL (R555)
  , { off := 0x5C, reset := 0x3E7 }  -- CLS_FC (R555)
  , { off := 0x60, rwl := 0x3FF, reset := 0x18, rng := [(0, 10, 1, 600)] }  -- FC_CFG (R555)
  , { off := 0x64, rwl := 0xFFFFFF, reset := 0x180258, rng := [(0, 16, 60, 65535), (16, 8, 1, 168)] }  -- SCRUB_CFG (R555)
  , { off := 0x6C, reset := 0x3E7 } ]  -- MIN_FC (R555)

/-- Block registers of page 0x009 (AGE). -/
def rows009 : List RegRow :=
  [ { off := 0x40, rwl := 0x1, reset := 0x1 }  -- AGE_CTL (R556)
  , { off := 0x4C, reset := 0x100 } ]  -- AF_30 (R556)

/-- Block registers of page 0x00A (ATB). -/
def rows00A : List RegRow :=
  [ { off := 0x40, stride := 0x4, count := 4, rwl := 0x7F } ]  -- ATB_SEL (R564)

/-- Block registers of page 0x00B (OTP). -/
def rows00B : List RegRow :=
  [ { off := 0x60, rw := 0xF, rng := [(0, 4, 0, 8)] } ]  -- HASH_SEL (R431)

/-- Block registers of page 0x00C (HKC). -/
def rows00C : List RegRow :=
  [ { off := 0x40, rwl := 0x1, reset := 0x1 }  -- HKC_CTL (R407)
  , { off := 0x44, rwl := 0xFFFF003F, reset := 0x640012, rng := [(0, 6, 1, 32), (16, 16, 10, 65535)] }  -- REG_CFG (R407)
  , { off := 0x48, rwl := 0x3 }  -- INJ_CFG (R407)
  , { off := 0x4C, rwl := 0x3FF, rng := [(0, 3, 0, 5), (4, 3, 0, 5)] }  -- MUX_SEL (R407)
  , { off := 0x58, rwl := 0xFFFF, reset := 0x64, rng := [(0, 16, 10, 10000)] }  -- WATCH_CFG (R407)
  , { off := 0x60, rwl := 0x1F1F1F1F, reset := 0x3020100 }  -- REG_SEQ word 0 (R407)
  , { off := 0x64, rwl := 0x1F1F1F1F, reset := 0x7060504 }  -- REG_SEQ word 1 (R407)
  , { off := 0x68, rwl := 0x1F1F1F1F, reset := 0xB0A0908 }  -- REG_SEQ word 2 (R407)
  , { off := 0x6C, rwl := 0x1F1F1F1F, reset := 0xF0E0D0C }  -- REG_SEQ word 3 (R407)
  , { off := 0x70, rwl := 0x1F1F1F1F, reset := 0x13121110 }  -- REG_SEQ word 4 (R407)
  , { off := 0x74, rwl := 0x1F1F1F1F, reset := 0x17161514 }  -- REG_SEQ word 5 (R407)
  , { off := 0x78, rwl := 0x1F1F1F1F, reset := 0x1B1A1918 }  -- REG_SEQ word 6 (R407)
  , { off := 0x7C, rwl := 0x1F1F1F1F, reset := 0x1F1E1D1C }  -- REG_SEQ word 7 (R407)
  , { off := 0xA0, rwl := 0x1F1F1F1F }  -- INJ_SEQ (R407)
  , { off := 0x200, stride := 0x4, count := 32, rwl := 0x8FFF0FFF } ]  -- LIM (R407)

/-- Block registers of page 0x00D (CHK). -/
def rows00D : List RegRow :=
  [ { off := 0x80, stride := 0x20, count := 16, rwl := 0x1FF3F, reset := 0x3, rng := [(4, 2, 0, 2)] }  -- CHK_CFG (R481)
  , { off := 0x84, stride := 0x20, count := 16, rwl := 0xFFFF00FF } ]  -- CHK_REC (R481)

/-- Block registers of page 0x011 (SEC). -/
def rows011 : List RegRow :=
  [ { off := 0x60, stride := 0x4, count := 6, rw := 0xFFFFFFFF } ]  -- SLOT_LBL (R456)

/-- Block registers of page 0x012 (SEC). -/
def rows012 : List RegRow :=
  [ { off := 0x40, rwl := 0xFF01, reset := 0x400, rng := [(8, 8, 4, 16)] }  -- REL_CFG (R456)
  , { off := 0x44, reset := 0xF } ]  -- AES_STAT (R456)

/-- Block registers of page 0x014 (SEC). -/
def rows014 : List RegRow :=
  [ { off := 0x40, rwl := 0xFFFFFFFF, reset := 0x10000, rng := [(0, 32, 1024, 16777216)] }  -- RNG_CFG (R456)
  , { off := 0x44, reset := 0xF } ]  -- TRNG_STAT (R456)

/-- Block registers of page 0x015 (SEC). -/
def rows015 : List RegRow :=
  [ { off := 0x44, rwl := 0xFFFF, reset := 0x258, rng := [(0, 16, 60, 3600)] } ]  -- BOOT_CFG (R456)

/-- Block registers of page 0x018 (HL). -/
def rows018 : List RegRow :=
  [ { off := 0x40, rwl := 0x1F, reset := 0x7, rng := [(2, 3, 1, 4)] } ]  -- HL_CFG of HL_0 (R346)

/-- Block registers of page 0x019 (HL_1). -/
def rows019 : List RegRow :=
  [ { off := 0x40, rwl := 0x1F, reset := 0x5, rng := [(2, 3, 1, 4)] } ]

/-- Block registers of page 0x01A (HFN). -/
def rows01A : List RegRow :=
  [ { off := 0x44, rwl := 0xFFFF, reset := 0x3E8 } ]  -- HOST_WD (R347)

/-- Block registers of page 0x01B (MSIX). -/
def rows01B : List RegRow :=
  [ { off := 0x40, rw := 0x3FFF } ]  -- RT_SEL (R348)

/-- Block registers of page 0x01C (NV). -/
def rows01C : List RegRow :=
  [ { off := 0x40, rwl := 0x1, reset := 0x1 } ]  -- NV_CTL (R426)

/-- Block registers of page 0x01F (STO). -/
def rows01F : List RegRow :=
  [ { off := 0x40, rwl := 0xFF03, reset := 0x202, rng := [(0, 2, 0, 2), (8, 8, 1, 20)] }  -- STO_CFG (R427)
  , { off := 0x44, rwl := 0xFFFF, reset := 0x40, rng := [(0, 16, 8, 4096)] }  -- SPOOL_GB (R427)
  , { off := 0x48, rwl := 0xFFFF, reset := 0x100, rng := [(0, 16, 16, 4096)] }  -- MET_GB (R427)
  , { off := 0x4C, rwl := 0xFF, reset := 0x50, rng := [(0, 8, 50, 99)] } ]  -- WEAR_THR (R427)

/-- Block registers of page 0x020 (QMG). -/
def rows020 : List RegRow :=
  [ { off := 0x40, rwl := 0x7F, reset := 0x40, rng := [(0, 7, 1, 64)] }  -- POOL_CFG (R318)
  , { off := 0x4C, rwl := 0x7FFFFFF, reset := 0x100000 }  -- POOL_LOW (R318)
  , { off := 0x50, rwl := 0x3FFFF, reset := 0x20000, rng := [(0, 18, 4096, 196608)] } ]  -- HOT_CFG (R318)

/-- Block registers of page 0x021 (QMG). -/
def rows021 : List RegRow :=
  [ { off := 0x40, rw := 0x3FFFFF, rng := [(0, 22, 0, 2359295)] }  -- Q_SEL (R319)
  , { off := 0x4C, rw := 0x7FFFFFF } ]  -- Q_LIMIT (R319)

/-- Block registers of page 0x028 (UART). -/
def rows028 : List RegRow :=
  [ { off := 0x40, rwl := 0xFF, reset := 0x7, rng := [(2, 2, 0, 2), (4, 2, 0, 2)] }  -- UART_CTL (R467)
  , { off := 0x44, rw := 0xFFFF, reset := 0x40, rng := [(0, 16, 8, 65535)] }  -- DIV (R467)
  , { off := 0x48, rwl := 0xFFF0FFF, reset := 0x3E80014, rng := [(0, 12, 11, 4095), (16, 12, 24, 4095)] }  -- BRK_CFG (R467)
  , { off := 0x60, rwl := 0x7F, reset := 0x30, rng := [(0, 7, 1, 64)] }  -- FLOW_CFG (R467)
  , { off := 0x70, rwl := 0xFFFF1F, reset := 0xFF0000, rng := [(2, 2, 0, 2)] } ]  -- SLEEP_CFG (R467)

/-- Block registers of page 0x02A (I2C). -/
def rows02A : List RegRow :=
  [ { off := 0x40, rwl := 0x1FF03, reset := 0x11900, rng := [(0, 2, 0, 2), (8, 8, 1, 255)] }  -- I2C_CFG (R470)
  , { off := 0x50, reset := 0x2 } ]  -- I2C_STAT (R470)

/-- Block registers of page 0x02B (GPIO). -/
def rows02B : List RegRow :=
  [ { off := 0x40, rwl := 0xFFFFFF }  -- DIR (R472)
  , { off := 0x44, rw := 0xFFFFFF }  -- OUT (R472)
  , { off := 0x54, rwl := 0xFFFFFF }  -- RISE_EN (R472)
  , { off := 0x58, rwl := 0xFFFFFF }  -- FALL_EN (R472)
  , { off := 0x5C, rwl := 0xFFFFFF }  -- DEB_EN (R472)
  , { off := 0x60, rwl := 0xFF, reset := 0xA, rng := [(0, 8, 1, 255)] } ]  -- DEB_US (R472)

/-- Block registers of page 0x02C (CTL). -/
def rows02C : List RegRow :=
  [ { off := 0x40, rwl := 0xFF }  -- CTL_CTL (R408)
  , { off := 0x44, rwl := 0xFF0F, reset := 0x140F, rng := [(8, 8, 1, 255)] }  -- ILK_CFG (R408)
  , { off := 0x4C, rw := 0x7 }  -- ARM_SEL (R408)
  , { off := 0x50, rw := 0xFFFFFFFF }  -- ARM_CYC (R408)
  , { off := 0x54, rw := 0xFFFFFFFF }  -- ARM_PH (R408)
  , { off := 0x80, stride := 0x20, count := 8, rwl := 0xFFFFFFFF, reset := 0x143010, rng := [(2, 2, 0, 2), (12, 4, 1, 15), (16, 16, 1, 1000)] }  -- OUT_CFG (R408)
  , { off := 0x84, stride := 0x20, count := 8, rw := 0xFFFF, rng := [(0, 16, 0, 50000)] }  -- OP_TIME (R408)
  , { off := 0x88, stride := 0x20, count := 8, rwl := 0xFFFFFFFF, reset := 0x271003E8 } ]  -- FB_WIN (R408)

/-- Block registers of page 0x02D (PPS). -/
def rows02D : List RegRow :=
  [ { off := 0x40, rwl := 0x1FF01, reset := 0x10A00, rng := [(8, 8, 1, 255)] } ]  -- PPS_CFG (R474)

/-- Block registers of page 0x02E (XSPI). -/
def rows02E : List RegRow :=
  [ { off := 0x40, rwl := 0x11F03, reset := 0x11403, rng := [(8, 5, 4, 31)] } ]  -- XSPI_CFG (R476)

/-- Block registers of page 0x030 (LFE). -/
def rows030 : List RegRow :=
  [ { off := 0x40, rwl := 0x7F }  -- PORT_CTL (R112)
  , { off := 0x44, rwl := 0x1FF, reset := 0x150, rng := [(0, 8, 56, 104)] }  -- COUP_CFG (R112)
  , { off := 0x48, rwl := 0xFFFFFFFF }  -- COUP_DLY (R112)
  , { off := 0x4C, rwl := 0x3F, rng := [(0, 2, 0, 2), (2, 2, 0, 2), (4, 2, 0, 2)] } ]  -- POL_CTL (R112)

/-- Block registers of page 0x031 (LFE). -/
def rows031 : List RegRow :=
  [ { off := 0x40, rwl := 0x1, reset := 0x1 }  -- TX_CTL (R113)
  , { off := 0x44, stride := 0x4, count := 3, rwb := 0x3FF, reset := 0x1E0 }  -- TX_LVL_MAX (R113)
  , { off := 0x50, rwl := 0xFFFF, reset := 0xC05, rng := [(0, 8, 1, 20), (8, 8, 0, 12)] }  -- LOOP_CFG (R113)
  , { off := 0x60, stride := 0x4, count := 3, reset := 0xFF }  -- LEG_STAT (R113)
  , { off := 0x400, stride := 0x4, count := 80, rwb := 0xFFFFFFFF }  -- NB_MASK (R200)
  , { off := 0x540, stride := 0x4, count := 16, rwb := 0xFFFFFFFF }  -- BB_MASK (R200)
  , { off := 0x580, stride := 0x8, count := 64, rwb := 0xCFFFFFFF }  -- NOTCH word 0 (R200)
  , { off := 0x584, stride := 0x8, count := 64, rwb := 0xFFFFFFF } ]  -- NOTCH word 1 (R200)

/-- Block registers of page 0x032 (LFE). -/
def rows032 : List RegRow :=
  [ { off := 0x40, rw := 0xFF, reset := 0xF }  -- RX_CTL (R114)
  , { off := 0x44, stride := 0x4, count := 4, rw := 0xF, rwl := 0xFF0, reset := 0xE0, rng := [(0, 4, 0, 14), (4, 4, 0, 14), (8, 4, 0, 14)] } ]  -- RX_GAIN (R114)

/-- Block registers of page 0x033 (LFE). -/
def rows033 : List RegRow :=
  [ { off := 0x40, rwl := 0xFFFF00FF, reset := 0x100000A, rng := [(0, 8, 1, 100), (16, 16, 1, 65535)] }  -- PROT_CFG (R115)
  , { off := 0x44, rwl := 0xFFFFFFFF, reset := 0x7D0000A } ]  -- Z_THR (R115)

/-- Block registers of page 0x040 (NBP). -/
def rows040 : List RegRow :=
  [ { off := 0x40, stride := 0x4, count := 3, rwb := 0x17, rng := [(0, 3, 0, 6)] }  -- BAND (R146)
  , { off := 0x4C, rwl := 0x7 }  -- NB_CTL (R146)
  , { off := 0x50, rwl := 0xFF, reset := 0x60, rng := [(0, 8, 32, 224)] } ]  -- DET_CFG (R146)

/-- Block registers of page 0x041 (NBP). -/
def rows041 : List RegRow :=
  [ { off := 0x40, rwl := 0xFFFFFF01, reset := 0x4080400, rng := [(8, 8, 1, 255), (16, 8, 1, 63), (24, 8, 2, 64)] }  -- MAP_CFG (R185)
  , { off := 0x44, stride := 0x4, count := 3, rwb := 0x1FF }  -- SEL (R185)
  , { off := 0x50, rwl := 0xFFFFFFFF, reset := 0x8061406, rng := [(0, 8, 1, 40), (8, 8, 5, 90), (16, 8, 1, 20), (24, 8, 1, 64)] }  -- EST_CFG (R185)
  , { off := 0x54, rwl := 0xFF, reset := 0x6, rng := [(0, 8, 0, 40)] }  -- EST_CFG2 (R185)
  , { off := 0x80, rw := 0x7FFFFF } ]  -- WIN_SEL (R185)

/-- Block registers of page 0x043 (NBP). -/
def rows043 : List RegRow :=
  [ { off := 0x40, rwl := 0xFFFF, reset := 0x456, rng := [(0, 8, 60, 120), (8, 8, 1, 20)] }  -- CSMA_C_CFG0 (R148)
  , { off := 0x44, rwl := 0xFFFFFFFF, reset := 0x7D03E8, rng := [(0, 16, 1, 1000), (16, 16, 125, 1000)] } ]  -- CSMA_C_CFG1 (R148)

/-- Block registers of page 0x050 (BBP). -/
def rows050 : List RegRow :=
  [ { off := 0x40, rwl := 0x3F, reset := 0x38, rng := [(4, 2, 1, 3)] }  -- BB_CTL (R172)
  , { off := 0x44, rwl := 0xFF, reset := 0x60, rng := [(0, 8, 32, 224)] } ]  -- DET_CFG (R172)

/-- Block registers of page 0x051 (BBP). -/
def rows051 : List RegRow :=
  [ { off := 0x40, rwl := 0xFFFFFF01, reset := 0x4080400, rng := [(8, 8, 1, 255), (16, 8, 1, 63), (24, 8, 2, 64)] }  -- MAP_CFG (R185)
  , { off := 0x44, stride := 0x4, count := 3, rwb := 0x1FF }  -- SEL (R185)
  , { off := 0x50, rwl := 0xFFFFFFFF, reset := 0x8061406, rng := [(0, 8, 1, 40), (8, 8, 5, 90), (16, 8, 1, 20), (24, 8, 1, 64)] }  -- EST_CFG (R185)
  , { off := 0x54, rwl := 0xFF, reset := 0x6, rng := [(0, 8, 0, 40)] }  -- EST_CFG2 (R185)
  , { off := 0x80, rw := 0x7FFFFF } ]  -- WIN_SEL (R185)

/-- Block registers of page 0x053 (BBP). -/
def rows053 : List RegRow :=
  [ { off := 0x40, rwl := 0xFFFFFF03, reset := 0x3C5003, rng := [(8, 8, 40, 120), (16, 16, 1, 3600)] } ]  -- ISP_CFG (R174)

/-- Block registers of page 0x060 (MAC). -/
def rows060 : List RegRow :=
  [ { off := 0x40, rwl := 0x3, rng := [(0, 2, 0, 2)] }  -- MAC_CTL (R230)
  , { off := 0x44, rwb := 0xFFFFF37, reset := 0x601212, rng := [(0, 3, 0, 4), (4, 2, 1, 3), (8, 4, 1, 15), (12, 4, 1, 8), (16, 12, 5, 3071)] }  -- SF_CFG (R230)
  , { off := 0x48, rwl := 0xFFFF }  -- NET_ID (R230)
  , { off := 0x4C, rwl := 0xFFFFF, reset := 0x68346, rng := [(0, 8, 40, 120), (8, 4, 1, 8), (12, 4, 4, 10), (16, 4, 1, 15)] }  -- CS_CFG (R230)
  , { off := 0x50, rwl := 0xF3FF, reset := 0x2334, rng := [(0, 4, 1, 15), (4, 4, 1, 15), (12, 4, 1, 15)] } ]  -- LL_CFG (R265)

/-- Block registers of page 0x061 (MAC). -/
def rows061 : List RegRow :=
  [ { off := 0x40, rw := 0x1F } ]  -- SCHED_SEL (R231)

/-- Block registers of page 0x062 (MAC). -/
def rows062 : List RegRow :=
  [ { off := 0x40, rwl := 0x7FFFFF }  -- UP_CFG (R232)
  , { off := 0x44, rwl := 0xFFFF }  -- UP_NET (R232)
  , { off := 0x48, rwl := 0xFFFF, reset := 0x64, rng := [(0, 16, 5, 2000)] } ]  -- UP_WIN (R232)

/-- Block registers of page 0x063 (MAC). -/
def rows063 : List RegRow :=
  [ { off := 0x40, reset := 0x2 }  -- SF_STAT (R233)
  , { off := 0x9C, reset := 0xFFFFE }  -- OWN_ADDR (R266)
  , { off := 0xA0, rw := 0x3F } ]  -- NBR_SEL (R266)

/-- Block registers of page 0x070 (NET). -/
def rows070 : List RegRow :=
  [ { off := 0x40, rwl := 0x3FFFFFF, reset := 0x1190243, rng := [(0, 4, 1, 15), (4, 4, 1, 8), (8, 8, 1, 255), (16, 8, 2, 255)] }  -- NET_CFG (R298)
  , { off := 0x44, rwl := 0xFFFFFF, reset := 0x100804, rng := [(0, 8, 1, 255), (8, 8, 1, 255), (16, 8, 1, 255)] }  -- RCPT_CFG (R298)
  , { off := 0x48, rwl := 0xFFFFFF, reset := 0x40F278, rng := [(12, 4, 1, 15), (16, 8, 1, 255)] }  -- ROUTE_CFG (R298)
  , { off := 0x4C, rwl := 0xFF07FF, reset := 0x10028F, rng := [(0, 4, 1, 15), (4, 4, 1, 15), (8, 3, 1, 7), (16, 8, 1, 255)] }  -- FLOOD_CFG (R298)
  , { off := 0x50, rwl := 0xFFF7, reset := 0x2282, rng := [(1, 2, 1, 3), (12, 4, 1, 15)] } ]  -- COOP_CFG (R298)

/-- Block registers of page 0x071 (NET). -/
def rows071 : List RegRow :=
  [ { off := 0x40, rw := 0xFFFFF, rng := [(0, 20, 0, 1048559)] } ]  -- EP_SEL (R299)

/-- Block registers of page 0x078 (SRV). -/
def rows078 : List RegRow :=
  [ { off := 0x40, rwl := 0x1 }  -- SRV_CTL (R373)
  , { off := 0x44, rwb := 0xFF }  -- SRV_IN (R373)
  , { off := 0x48, rwl := 0xF, reset := 0x1 }  -- SURV_PORTS (R373)
  , { off := 0x4C, rwl := 0xFF01, reset := 0x4001, rng := [(8, 8, 1, 255)] }  -- REC_CFG (R373)
  , { off := 0x50, rwl := 0x1FF, reset := 0x10C, rng := [(0, 8, 0, 40)] }  -- SUPP_CFG (R373)
  , { off := 0x400, stride := 0x8, count := 32, rwb := 0xFFFFFFF }  -- XDCR word 0 (R373)
  , { off := 0x404, stride := 0x8, count := 32, rwb := 0xFFFF } ]  -- XDCR word 1 (R373)

/-- Block registers of page 0x07B (SRV). -/
def rows07B : List RegRow :=
  [ { off := 0x40, rwl := 0xFFF0FFF, reset := 0x3060C3C, rng := [(0, 8, 60, 90), (8, 4, 1, 15), (16, 8, 2, 40), (24, 4, 1, 15)] }  -- CHK_CFG (R375)
  , { off := 0x4C, stride := 0x4, count := 4, reset := 0xFFFF } ]  -- LB_LAST (R375)

/-- Block registers of page 0x07C (SRV). -/
def rows07C : List RegRow :=
  [ { off := 0x40, rwl := 0x7F11FF, reset := 0x190040, rng := [(0, 9, 16, 511), (16, 7, 0, 100)] } ]  -- CAP_CFG (R375)

/-- Block registers of page 0x07D (SRV). -/
def rows07D : List RegRow :=
  [ { off := 0x48, reset := 0xFFFFFFFF } ]  -- SUPP_LAST (R375)

/-- Block registers of page 0x080 (MET). -/
def rows080 : List RegRow :=
  [ { off := 0x40, rwl := 0x1F }  -- MET_CTL (R403)
  , { off := 0x44, stride := 0x4, count := 4, rwl := 0xFFFFFF, reset := 0x59D8, rng := [(0, 24, 1000, 100000)] }  -- UDIN (R403)
  , { off := 0x54, rwb := 0xF1FFFF, reset := 0x40DCB4, rng := [(0, 8, 20, 198), (8, 9, 202, 400), (20, 4, 1, 10)] }  -- EVT_CFG (R403)
  , { off := 0x58, rwl := 0xF, reset := 0x1, rng := [(0, 4, 1, 15)] } ]  -- SNAP_CFG (R403)

/-- Block registers of page 0x100 (LGC). -/
def rows100 : List RegRow :=
  [ { off := 0x40, rwl := 0x7F01, rng := [(8, 7, 40, 71)] }  -- SLOT_CTL (R533)
  , { off := 0x4C, rwl := 0xFFFF, reset := 0x3E8, rng := [(0, 16, 10, 10000)] }  -- QUANTUM (R533)
  , { off := 0x50, stride := 0x4, count := 4, rwl := 0x8000033F }  -- CH (R533)
  , { off := 0x60, stride := 0x8, count := 4, rwl := 0xFFFFFFF0 }  -- CTX_TTBR (R533)
  , { off := 0x64, stride := 0x8, count := 4, rwl := 0xFF }  -- CTX_ASID (R533)
  , { off := 0x80, rw := 0xFFFFF000 } ]  -- TLB_VA (R533)

/-- Page 0x079: trigger configuration and limit lines (R374). -/
def rows079 : List RegRow :=
  [ { off := 0x40, rwl := 0x1 }  -- TRIG_CFG
  , { off := 0x400, stride := 0x10, count := 32, rwb := 0xFFFFFFF }  -- LIM_n word 0, f_lo
  , { off := 0x404, stride := 0x10, count := 32, rwb := 0xFFFFFFF }  -- LIM_n word 1, f_hi
  , { off := 0x408, stride := 0x10, count := 32, rwb := 0x8000FFFF } ]  -- LIM_n word 2, level and valid

/-- Page 0x081: the calibration coefficients of the 24 channels (R404). -/
def rows081 : List RegRow :=
  [ { off := 0x400, stride := 0x10, count := 24, rwb := 0xFFFFFFFF }  -- SCALE
  , { off := 0x404, stride := 0x10, count := 24, rwb := 0xFFFFFFFF }  -- GAIN_CORR
  , { off := 0x408, stride := 0x10, count := 24, rwb := 0xFFFFFFFF }  -- PHASE_CORR, range checked by extraCheck
  , { off := 0x40C, stride := 0x10, count := 24, rwb := 0x3FFFF, rng := [(16, 2, 0, 2)] } ]  -- OFS, PGA

/-- CTX page of a legacy slot: g0 to g31, PC, STEP and flags of each context (R536). -/
def rows102 : List RegRow :=
  [ { off := 0x400, count := 35, rw := 0xFFFFFFFF }
  , { off := 0x500, count := 35, rw := 0xFFFFFFFF }
  , { off := 0x600, count := 35, rw := 0xFFFFFFFF }
  , { off := 0x700, count := 35, rw := 0xFFFFFFFF } ]

/-- The pages that carry block registers: first page, distance to the next page of the kind, number of such pages, rows. -/
def regPages : List (Nat × Nat × Nat × List RegRow) :=
  [ (0x000, 1, 1, rows000)
  , (0x001, 1, 1, rows001)
  , (0x002, 1, 1, rows002)
  , (0x003, 1, 1, rows003)
  , (0x004, 1, 1, rows004)
  , (0x005, 1, 1, rows005)
  , (0x006, 1, 1, rows006)
  , (0x007, 1, 1, rows007)
  , (0x008, 1, 1, rows008)
  , (0x009, 1, 1, rows009)
  , (0x00A, 1, 1, rows00A)
  , (0x00B, 1, 1, rows00B)
  , (0x00C, 1, 1, rows00C)
  , (0x00D, 1, 1, rows00D)
  , (0x011, 1, 1, rows011)
  , (0x012, 1, 1, rows012)
  , (0x014, 1, 1, rows014)
  , (0x015, 1, 1, rows015)
  , (0x018, 1, 1, rows018)
  , (0x019, 1, 1, rows019)
  , (0x01A, 1, 1, rows01A)
  , (0x01B, 1, 1, rows01B)
  , (0x01C, 1, 2, rows01C)
  , (0x01F, 1, 1, rows01F)
  , (0x020, 1, 1, rows020)
  , (0x021, 1, 1, rows021)
  , (0x028, 1, 2, rows028)
  , (0x02A, 1, 1, rows02A)
  , (0x02B, 1, 1, rows02B)
  , (0x02C, 1, 1, rows02C)
  , (0x02D, 1, 1, rows02D)
  , (0x02E, 1, 1, rows02E)
  , (0x030, 4, 4, rows030)
  , (0x031, 4, 4, rows031)
  , (0x032, 4, 4, rows032)
  , (0x033, 4, 4, rows033)
  , (0x040, 4, 4, rows040)
  , (0x041, 4, 4, rows041)
  , (0x043, 4, 4, rows043)
  , (0x050, 4, 4, rows050)
  , (0x051, 4, 4, rows051)
  , (0x053, 4, 4, rows053)
  , (0x060, 4, 4, rows060)
  , (0x061, 4, 4, rows061)
  , (0x062, 4, 4, rows062)
  , (0x063, 4, 4, rows063)
  , (0x070, 1, 1, rows070)
  , (0x071, 1, 1, rows071)
  , (0x078, 1, 1, rows078)
  , (0x07B, 1, 1, rows07B)
  , (0x07C, 1, 1, rows07C)
  , (0x07D, 1, 1, rows07D)
  , (0x080, 1, 1, rows080)
  , (0x100, 4, 16, rows100)
  , (0x079, 1, 1, rows079)
  , (0x081, 1, 1, rows081)
  , (0x102, 4, 16, rows102) ]

/-- The rows of a page; none for a page without block registers. -/
def rowsIn : List (Nat × Nat × Nat × List RegRow) → Nat → List RegRow
  | [], _ => []
  | (first, step, count, rows) :: rest, p =>
    if first ≤ p && (p - first) % step = 0 && (p - first) / step < count then rows else rowsIn rest p

/-- The block-register rows of page `p`. -/
def pageRows (p : Nat) : List RegRow := rowsIn regPages p

/-- Whether a row names the register at offset `o`. -/
def RegRow.names (r : RegRow) (o : Nat) : Bool :=
  decide (r.off ≤ o) && decide ((o - r.off) % r.stride = 0) && decide ((o - r.off) / r.stride < r.count)

/-- The row that names offset `o`, if one does. -/
def findRow : List RegRow → Nat → Option RegRow
  | [], _ => none
  | r :: rs, o => if r.names o then some r else findRow rs o

/-- `BLK_ID.TYPE` and the first page of the block a page belongs to (R39); none where the page is unallocated. -/
def blockOf (p : Nat) : Option (Nat × Nat) :=
  if p ≤ 0x00D then some (p + 1, p)
  else if p < 0x010 then none
  else if p ≤ 0x017 then some (0x10, 0x010)
  else if p ≤ 0x019 then some (0x11, 0x018)
  else if p = 0x01A then some (0x12, p)
  else if p = 0x01B then some (0x13, p)
  else if p ≤ 0x01D then some (0x14, 0x01C)
  else if p = 0x01E then some (0x15, p)
  else if p = 0x01F then some (0x16, p)
  else if p ≤ 0x027 then some (0x17, 0x020)
  else if p ≤ 0x029 then some (0x18, 0x028)
  else if p ≤ 0x02E then some (0x19 + (p - 0x02A), p)
  else if p < 0x030 then none
  else if p ≤ 0x03F then some (0x20, 0x030)
  else if p ≤ 0x04F then some (0x21, 0x040)
  else if p ≤ 0x05F then some (0x22, 0x050)
  else if p ≤ 0x06F then some (0x23, 0x060)
  else if p ≤ 0x073 then some (0x24, 0x070)
  else if p ≤ 0x077 then some (0x25, 0x074)
  else if p ≤ 0x07F then some (0x26, 0x078)
  else if p ≤ 0x083 then some (0x27, 0x080)
  else if p ≤ 0x085 then some (0x28, 0x084)
  else if p = 0x088 then some (0x29, p)
  else if p < 0x090 then none
  else if p ≤ 0x0F8 then some (0x30, 0x090)
  else if p < 0x100 then none
  else if p ≤ 0x13F then some (0x31, 0x100)
  else none

/-- Whether page `p` is allocated (R38, R39). -/
def allocated (p : Nat) : Bool := (blockOf p).isSome

/-- `BLK_ID.TYPE` of page `p` (R39). -/
def blkType (p : Nat) : Nat := ((blockOf p).map Prod.fst).getD 0

/-- Whether page `p` holds RWB registers, `BLK_CAP.BANKED` (the register chapters name these pages). -/
def banked (p : Nat) : Bool :=
  (0x030 ≤ p && p < 0x040 && p % 4 == 1) || (0x040 ≤ p && p < 0x070 && p % 4 < 2) || p == 0x078 || p == 0x079 || p == 0x080 || p == 0x081

/-- Pages the debug halt may freeze, `BLK_CAP.FREEZABLE`: the ENG pages (log entry 8). -/
def freezable (p : Nat) : Bool := decide (0x090 ≤ p) && decide (p ≤ 0x0F8)

/-- `ENG_STAT` at reset: kind, state, logical engine and domain under the factory mapping (R25, R557). -/
def engStatReset (e : Nat) : Nat :=
  let kind := if e < 44 then 0 else if e < 78 then 1 else if e < 96 then 2 else 3
  let logical :=
    if e < 40 then some e else if e < 44 then none
    else if e < 76 then some (e - 4) else if e < 78 then none
    else if e < 94 then some (e - 6) else if e < 96 then none
    else if e < 104 then some (e - 8) else none
  match logical with
  | some l => kind + l * 2 ^ 8
  | none => kind + 1 * 2 ^ 4 + 0x7F * 2 ^ 8

/-- The reset value of the header register at offset `o` of page `p` (R40, R41, R601). `BLK_CTL.EN` resets to 1 (log entry 8). -/
def hdrReset (p o : Nat) : Nat :=
  if o = 0x000 then blkType p * 2 ^ 16 + (p - ((blockOf p).map Prod.snd).getD 0)
  else if o = 0x004 then 0x00010000
  else if o = 0x008 then (if banked p then 1 else 0) + 2 + (if freezable p then 4 else 0)
  else if o = 0x00C then 1
  else if o = 0x034 then (if p = 0x011 then 0 else if p = 0x02E then 0x80 else 0x82)
  else if o = 0x038 then 0x00080BB8
  else 0

/-- The value a register holds at reset, by window byte address (R13, R38 and each page's table); 0 where no row names it. -/
def regReset (a : Nat) : Word :=
  let p := a / 0x1000
  let o := a % 0x1000
  if ! allocated p then 0
  else if o < 0x040 then word (hdrReset p o)
  else if a = 0x41070 then 0x800000
  else if 0x030 ≤ p && p < 0x040 && p % 4 == 2 && o == 0x064 then (if (p - 0x030) / 4 % 2 = 0 then 0x3210 else 0x7654)
  else if 0x090 ≤ p && p ≤ 0x0F8 && o == 0x040 then word (engStatReset (p - 0x090))
  else match findRow (pageRows p) o with
    | some r => word r.reset
    | none => 0

end Sys2Proof.Machine
end

