-- ==== Sys2Proof/Machine/State.lean ====
section
/-! DEFINITION. The state of the CM9640 as plain data: the register map, and the state behind the registers, one structure per unit. -/

namespace Sys2Proof.Machine

/-- Why a step stops with a fault. No meaning of this model raises one (NOTES.md, Stops). -/
inductive Fault where
  /-- Raised by nothing: kept so that the type is not empty. Safe. -/
  | none
deriving DecidableEq, Repr

/-- Why a step refuses a command. -/
inductive Refusal where
  /-- Raised by an arm of `exec` whose command has no meaning yet. Safe: the machine stops. -/
  | notModelled (mnemonic : String)
deriving DecidableEq, Repr

/-- What a page holds behind its header registers (R40 to R54): the lock key and state, the bank roles, a pending swap, a copy, a soft reset, and the open fault window. -/
structure PageSt where
  /-- `LOCK` is engaged by the key `key` (R45). -/
  keyed : Bool := false
  key : Word := 0
  /-- `LOCK.POLICY`: engaged by the security policy (R45). -/
  policy : Bool := false
  /-- `LOCK.WRONG` (R45). -/
  wrong : Nat := 0
  /-- `BANK_STAT.ACTIVE` (R50). -/
  active : Nat := 0
  /-- `BANK_STAT.PEND` for a solo swap (R53). -/
  soloPend : Bool := false
  /-- `BANK_STAT.PEND` for a swap of this group (R57). -/
  groupPend : Option Nat := none
  /-- `BANK_STAT.DIRTY` (R41). -/
  dirty : Bool := false
  /-- `BANK_STAT.COPYING` (R51). -/
  copying : Bool := false
  /-- `BANK_STAT.EPOCH` (R41). -/
  epoch : Nat := 0
  /-- Shadow writes held for the end of the copy, oldest first: address and value (R51). -/
  held : List (Nat × Word) := []
  /-- Edge at which the pending solo swap was accepted (R52). -/
  reqAt : Nat := 0
  /-- Line time of the solo swap's request, from which its trigger instant is found (R52). -/
  reqLt : Nat := 0
  /-- Fabric cycle of the last swap, plus one (R54); 0 before any. -/
  swapCycle : Nat := 0
  /-- The band plans that the swaps of an NBP CFG page replaced, by conductor, each with its fabric cycle plus one, latest first; frames in progress keep them (R120). -/
  was : List (Nat × List Nat) := []
  /-- `BLK_STAT.SRST_ACTIVE` (R44). -/
  srst : Bool := false
  /-- A swap was withdrawn by the soft reset: `SWAP_FAILED` is set when it completes (R44). -/
  srstFail : Bool := false
  /-- First cycle, length and threshold of the open fault window (R537). -/
  winFrom : Nat := 0
  winLen : Nat := 0
  winThr : Nat := 0
  /-- Fabric cycle in which hardware last set `INT_CAUSE` bits, plus one, and those bits (R15). -/
  setCycle : Nat := 0
  setBits : Word := 0
  /-- Fabric cycle in which `FAULT_STAT.LASTING` was last set, plus one (R15). -/
  lastAt : Nat := 0
deriving DecidableEq, Repr

/-- A register write or a store of the present fabric cycle: first address, bytes, master, and whether it carries a fixture deadline (R33, R48). -/
structure ArbRec where
  addr : Nat
  len : Nat
  m : Nat
  dl : Bool
deriving DecidableEq, Repr

/-- A swap group behind `GRP_CTL` to `GRP_SWAP_LT_HI` (R55 to R59). -/
structure GroupSt where
  pend : Bool := false
  members : List Nat := []
  reqAt : Nat := 0
  reqLt : Nat := 0
deriving DecidableEq, Repr

/-- A scorebook record (R418). -/
structure ScbRec where
  lt : Nat
  utc : Nat
  src : Nat
  event : Nat
  sev : Nat
  rep : Nat
  detail : List Byte
deriving DecidableEq, Repr

/-- A record in the staging buffer, with the edge at which it was made (R420). -/
structure Staged where
  body : ScbRec
  at_ : Nat
deriving DecidableEq, Repr

/-- The scorebook (R418 to R421): the 64-record staging buffer, region 5 or the DRAM ring with the number of its oldest record, region 6, and the fallback area. -/
structure ScbSt where
  stage : List Staged := []
  ring : List ScbRec := []
  oldest : Nat := 0
  perm : List ScbRec := []
  fallback : List ScbRec := []
deriving DecidableEq, Repr

/-- The cycle tracker behind the LTIME registers (R61 to R76). -/
structure Tracker where
  /-- The epoch of R71 has been set. -/
  epoch : Bool := false
  /-- `TRK_CTL.EN` is 0: line time holds (R64). -/
  stopped : Bool := false
  /-- Anchor: line time `lt0` at edge `t0`. -/
  t0 : Nat := 0
  lt0 : Nat := 0
  /-- Line-time units by which line time already stood ahead of the anchor's own value: it holds until the anchor's phase has passed them, since line time never moves backwards (R70). -/
  lead : Nat := 0
  /-- Rate of change in force, 2^-16 Hz/s; 0 outside LOCKED (R68). -/
  rate : Int := 0
  /-- The frequency line time runs on under the holdover rules, 2^-16 Hz (R64, R68); 0 where it follows `FREQ`. -/
  heldF : Nat := 0
  /-- Error still to be slewed out, ns (R70). -/
  slewNs : Int := 0
  /-- Reference in force, taken at the last start (R64). -/
  refPort : Nat := 0
  refPhase : Nat := 0
  zcInv : Bool := false
  /-- The run of edges of R63: qualified edges in it, the last and the one before. -/
  runLen : Nat := 0
  lastEdge : Nat := 0
  prevEdge : Nat := 0
  /-- Consecutive cycles out of range, of high rate of change, of disagreement (R65). -/
  rangeRun : Nat := 0
  rocofRun : Nat := 0
  disRun : Nat := 0
  /-- Line time at which the present HOLDOVER began (R69). -/
  holdLt : Nat := 0
  /-- UTC stamping (R74, R75): the next edge is armed; stamps are available; seconds and edge of the last second; good edges since the armed one; edge of the last PPS edge. -/
  utcArmed : Bool := false
  utcAvail : Bool := false
  utcSec : Nat := 0
  utcT0 : Nat := 0
  utcRun : Nat := 0
  utcMarked : Bool := false
  ppsLast : Nat := 0
  /-- Edge of the last PPS edge within 1 s ± 10 µs of its predecessor, or of the armed one, and edge at which the hold of R75 began. -/
  utcGood : Nat := 0
  utcHoldAt : Nat := 0
deriving DecidableEq, Repr

/-- A fixture entry (R79). -/
structure Fixture where
  lt : Nat := 0
  target : Nat := 0
  action : Nat := 0
  flags : Nat := 0
  arg0 : Nat := 0
  arg1 : Nat := 0
  period : Nat := 0
  count : Nat := 0
  pwEng : Nat := 0
  result : Nat := 0
  fireErr : Nat := 0
  fires : Nat := 0
deriving DecidableEq, Repr

/-- A WRITE held past the commit point (R90): the entry's index, its bytes, the writer's range, and the ring, SQ index, CID and UTAG it came with when it is a FIX_WRITE submission. -/
structure HeldWrite where
  idx : Nat
  bytes : List Byte
  host : Bool
  sub : Option (Nat × Nat × Nat × Nat) := none
deriving DecidableEq, Repr

/-- The fixture list behind the FIX registers (R79 to R92). -/
structure FixSt where
  entries : List (Nat × Fixture) := []
  held : List HeldWrite := []
  /-- Physical instant of a committed occurrence, by index (R83). -/
  commits : List (Nat × Nat) := []
  /-- Fabric cycle of an entry's last fire, plus one (R90). -/
  firedAt : List (Nat × Nat) := []
  /-- First fast-clock edge on which another entry may fire (R89). -/
  free : Nat := 0
  /-- Entries written nearer to their line time than the prewarm lead: no prewarm for this occurrence (R88). -/
  noPre : List Nat := []
deriving DecidableEq, Repr

/-- The group maps of one slice group (R181): rate code, and the tone entries of each conductor's map. -/
structure GroupMap where
  rate : Nat := 0
  maps : List (List Nat) := []
deriving DecidableEq, Repr

/-- A candidate of R186: superframe, mean pilot SNR in 0.5 dB, and the candidate group map. -/
structure Obs where
  sf : Nat
  pilot : Int
  cand : GroupMap
deriving DecidableEq, Repr

/-- A map set (R175, R182): its link, identifier, partition, group maps, blocks, effective instant and marks. -/
structure MapSet where
  peer : Nat
  port : Nat
  rx : Bool
  bb : Bool
  cond : Nat
  mapId : Nat
  plan : Nat
  part : List Nat
  groups : List GroupMap
  effCyc : Nat := 0
  effSlice : Nat := 0
  current : Bool := false
  retiring : Bool := false
  suspect : List Nat := []
  obs : List (Nat × List Obs) := []
  gen : Nat := 0
  /-- First block and number of blocks of the header and of each group map. -/
  header : Nat := 0
  blocks : List (Nat × Nat) := []
  /-- A waiting set has been superseded or applied (R190). -/
  waiting : Bool := true
  /-- The first frame under it has been counted as applied. -/
  seen : Bool := false
  /-- Since its effective instant a frame has named the set before it (R191). -/
  stale : Bool := false
deriving DecidableEq, Repr

/-- What a transmission carries, fixed as it starts (R118 to R165): the robust mode or 0 for a tone map, the map set with its start slice and nominal frequency, the streams' conductors, the subchannel of a multi-user frame, payload symbols, the coded header bits, the payload stream with its pad bits, the pad bits of tones beyond a robust block, and the tones that carry data. -/
structure Air where
  mode : Nat := 1
  set : Option MapSet := none
  k0 : Nat := 0
  f : Nat := 50
  streams : List Nat := []
  mu : Option Nat := none
  symbols : Nat := 0
  header : List Bool := []
  stream : List Bool := []
  pads : List Bool := []
  loaded : List Nat := []
deriving DecidableEq, Repr

/-- A transmission in progress on a conductor: its descriptor, when it started, how long it lasts, and whether it is an acknowledgement or a probe (R98, R105). -/
structure TxRec where
  desc : Nat
  start : Nat
  dur : Nat
  ack : Bool := false
  /-- Header and payload bytes sent. -/
  frame : List Byte := []
  /-- Band plan in force at the start (R120), what the frame carries, and the tones that the filters still let through, each with its mask attenuation in 0.5 dB (R195, R198). -/
  plan : Nat := 0
  air : Air := {}
  left : List (Nat × Nat) := []
deriving DecidableEq, Repr

/-- A conductor of a port behind the LFE registers (R98 to R110). -/
structure CondSt where
  /-- Conditions that set `STATE`, each with its own detection (R106, R107). -/
  supply : Bool := false
  thermOff : Bool := false
  fold : Bool := false
  opened : Bool := false
  therm : Bool := false
  limit : Bool := false
  /-- Limit time in µs, and the last limiting (R106). -/
  limUs : Nat := 0
  lastLim : Nat := 0
  /-- Consecutive measured transmissions above `Z_OPEN` (R106). -/
  openRun : Nat := 0
  /-- Superframe number in which FOLDBACK or OPEN was entered (R109). -/
  faultSf : Nat := 0
  /-- A requested probe waits; the edge at which the probe that runs ends, plus one; and whether it was requested (R105). -/
  probeWait : Bool := false
  probing : Nat := 0
  probeReq : Bool := false
  /-- Superframe of the last periodic probe, plus one (R109). -/
  probedSf : Nat := 0
  /-- Last edge at which `VDRV_p` lay outside 11.5 V to 18.5 V, plus one (R106). -/
  vdrvBad : Nat := 0
  /-- Cycles in a row with the lag at 180° ± 20° from nominal and with it within 20° (R106); on conductor A, cycles in a row with the port's phases in reversed and in nominal sequence. -/
  swapRun : Nat := 0
  nomRun : Nat := 0
  seqRun : Nat := 0
  fwdRun : Nat := 0
  /-- Narrowband and broadband transmissions in progress (R98). -/
  nb : Option TxRec := none
  bb : Option TxRec := none
  /-- Edge at which the last narrowband transmission ended (R143), and the last band C one, plus one (R141). -/
  nbEnd : Nat := 0
  bandcEnd : Nat := 0
  /-- The last narrowband and broadband transmissions that ended here, from and to which edge, latest first (R143, R167). -/
  nbTx : List (Nat × Nat) := []
  bbTx : List (Nat × Nat) := []
  /-- Edges at which the last multi-user frames decoded here ended, by subchannel (R144). -/
  muRx : List (Nat × Nat) := []
  /-- Edge at which the last broadband transmission ended, plus one (R167). -/
  bbEnd : Nat := 0
  /-- Edges at which the last narrowband and broadband frames decoded here ended (R144, R167). -/
  nbRx : Nat := 0
  bbRx : Nat := 0
  /-- Edge at which the band C level was last measured busy, plus one (R148). -/
  busyAt : Nat := 0
  /-- Edge at which the acknowledgement hold of the last DATA frame received or sent here ends, plus one (R212). -/
  holdEnd : Nat := 0
  /-- Superframe of the last beacon sent here, plus one (R210, R211). -/
  bcnSf : Nat := 0
  /-- Frames in a row with inverted channel phase, and their transmitters (R106). -/
  revRun : Nat := 0
  revSrc : List Nat := []
  /-- A polarity change waits for a free slice boundary (R110). -/
  polPend : Option Bool := none
  /-- Consecutive transmissions out of balance, by leg (R99). -/
  legRun : List (Nat × Nat) := []
  /-- A leg substitution waits for the end of the transmission: the faulty leg (R547). -/
  legDue : Option Nat := none
  /-- The conductor's `TX_EN` is forced to 0 (R547). -/
  forcedOff : Bool := false
deriving DecidableEq, Repr

/-- ISP signals on a port (R169): the last edge at which one was seen, plus one, and the allocation decoded. -/
structure IspSt where
  seen : Nat := 0
  alloc : Option IspAlloc := none
deriving DecidableEq, Repr

/-- What the port's receivers hear beside frames (R169, R170). -/
structure AirSt where
  isp : List (Nat × IspSt) := []
deriving DecidableEq, Repr

/-- A receive channel (R94 to R96, R218). -/
structure ChanSt where
  /-- Gain held before a transmission (R95). -/
  held : Option Nat := none
  /-- Slice in which the gain last rose, plus one (R95). -/
  lastUp : Nat := 0
  /-- Edges from which a new gain code or a new slice applied, latest first: the samples that carry `GC` (R94, R96). -/
  gcAt : List Nat := []
  /-- Edge at which the open receive window closes, plus one (R81, R218). -/
  winEnd : Nat := 0
  /-- Edge at which it opened, and the last windows that closed, from and to which edge, latest first (R144). -/
  winFrom : Nat := 0
  wins : List (Nat × Nat) := []
  /-- `RX_EN` is forced to 0 (R551). -/
  forcedOff : Bool := false
deriving DecidableEq, Repr



/-- An entry of the exclusion list (R369): the band in Hz from `lo` up to `hi`, the ports it holds on, and whether the line check runs on it. -/
structure XlEntry where
  lo : Nat
  hi : Nat
  ports : Nat
  verify : Bool
deriving DecidableEq, Repr

/-- A lease as the lease tables keep it (R262, R414): short address, long address, superframe of the last renewal, and whether the address is in quarantine. -/
structure LeaseRec where
  addr : Nat
  long : Nat
  lastSf : Nat
  quarantine : Bool
deriving DecidableEq, Repr

/-- A key provisioned under the root (R434): its name, endpoint or 0, epoch, and its bytes. -/
structure KeyRec where
  kind : Nat
  id : Nat
  epoch : Nat
  key : List Byte
deriving DecidableEq, Repr

/-- A row or column repaired with a spare (R544): the macro, row or column, and its number. -/
structure RepairRec where
  mac : Nat
  isCol : Bool
  idx : Nat
deriving DecidableEq, Repr

/-- The content of a vault datum (R414). -/
inductive Datum where
  | excl (list : List Byte) (mute : Nat)
  | keys (ks : List KeyRec)
  | bench (map : List (Nat × Nat)) (failed : List Nat)
  | repairs (rs : List RepairRec)
  | leases (ls : List LeaseRec)
deriving DecidableEq, Repr

/-- A slot of a vault copy (R414): generation, whether its CRC passes, and the datum. -/
structure VaultSlot where
  gen : Nat
  ok : Bool
  datum : Datum
deriving DecidableEq, Repr

/-- A commit sector (R417). -/
structure CommitRec where
  ok : Bool := false
  seq : Nat := 0
  rp : Nat := 0
  ptrs : List (Nat × Nat) := []
deriving DecidableEq, Repr

/-- Who waits for a commit: nobody, or a submission by ring, SQ index, CID and UTAG (R415). -/
inductive Waiter where
  | none
  | sub (ring idx cid op utag : Nat)
deriving DecidableEq, Repr

/-- A commit waiting for VAULT_COMMIT. -/
structure CommitReq where
  num : Nat
  datum : Datum
  who : Waiter
deriving DecidableEq, Repr

/-- The configuration vault (R414 to R417). Slots are numbered 6 * datum + 2 * copy + slot. -/
structure VaultSt where
  slots : List (Nat × VaultSlot) := []
  sectors : List (Nat × CommitRec) := []
  /-- The committed-generation pointers in force. -/
  ptrs : List (Nat × Nat) := []
  /-- Sequence number of the boot control record in force (R415). -/
  seq : Nat := 0
  /-- Fuse steps that the record in force names (R415). -/
  rp : Nat := 0
  /-- Fuse steps blown in `OTP.COMMIT_CNT`. -/
  steps : Nat := 0
  /-- Commits that wait their turn, oldest first (R415). -/
  waiting : List CommitReq := []
deriving DecidableEq, Repr

/-- A record of an archive (R362, R386): its `RSEQ` and its bytes. -/
structure ArchRec where
  rseq : Nat
  bytes : List Byte
  /-- Drives that alone hold a part of it, as a mask (R410). -/
  on : Nat := 0
deriving DecidableEq, Repr

/-- The store manager's own state (R409 to R425). -/
structure StoSt where
  /-- `STO_CFG.MODE` as read at boot (R410). -/
  mode : Nat := 2
  /-- `SPOOL_GB` and `MET_GB` as read at boot (R427). -/
  spoolGb : Nat := 64
  metGb : Nat := 256
  /-- `OP_PCT` and `SCB_GIB` as read at boot (R427, R428). -/
  opPct : Nat := 2
  scbGib : Nat := 4
  /-- Media errors by drive and 1 MiB extent, and extents retired (R425). -/
  extErr : List (Nat × Nat) := []
  extGone : Nat := 0
  /-- Superframe of the last commit of the lease tables (R414). -/
  leaseSf : Nat := 0
  /-- `OP_FREE` as it was at boot (R425). -/
  opBoot : Nat := 0
  /-- The drive being resynchronised (R424). -/
  resync : Option Nat := none
  /-- Endpoint store, region 1: a stored record by short address (R283, R413). -/
  epStore : List (Nat × List Byte) := []
  /-- The surveillance archive, oldest first (R413). -/
  survArch : List ArchRec := []
  /-- The metrology archive, oldest first (R413). -/
  metArch : List ArchRec := []
  /-- Bytes ever written to the surveillance and the metrology archive: where the next record begins (R410, R413). -/
  survPos : Nat := 0
  metPos : Nat := 0
  /-- Extents the surveillance archive has given up (R425). -/
  shrunk : Nat := 0
  /-- The spool is full. -/
  spoolFull : Bool := false
  /-- Write counter of the next sealed block (R412). -/
  wcnt : Nat := 0
  /-- A drive's wear makes `ALERT_N` (R425). -/
  wearAlert : Bool := false
  /-- The vault. -/
  vault : VaultSt := {}
deriving DecidableEq, Repr

/-- A logical engine due for substitution (R540): the bench engine chosen, whether it is ready, whether a red card is the cause, and whether BENCH_CMD asked for it. -/
structure DueSt where
  new : Option Nat := none
  ready : Bool := false
  card : Bool := false
  cmd : Bool := false
  /-- Fabric cycle in which it became due, plus one (R542). -/
  at_ : Nat := 0
deriving DecidableEq, Repr

/-- The bench and fault absorption (R537 to R555). -/
structure BenchSt where
  /-- Physical engine by logical engine, where it differs from the factory mapping (R25); 105 where there is none. -/
  map : List (Nat × Nat) := []
  /-- Logical engines that wait for a substitute (R542). -/
  due : List (Nat × DueSt) := []
  /-- The control core that has the duty of another one left without a physical engine (R552). -/
  duty : List (Nat × Nat) := []
  /-- The last channel a die's spare slice checked, and the edge of that check (R546). -/
  sliceRot : List (Nat × (Nat × Nat)) := []
  /-- Physical engines in self-test that return to the bench when it passes (R540, R555). -/
  keep : List Nat := []
  /-- Spares used, by class of R551, for the classes that no other state shows. -/
  used : List (Nat × Nat) := []
  /-- Spare rows and columns used, by macro (R543). -/
  rowsUsed : List (Nat × Nat) := []
  colsUsed : List (Nat × Nat) := []
  /-- Repairs made. -/
  repairs : List RepairRec := []
  /-- Shared macros retired (R544). -/
  retired : List Nat := []
  /-- Rows at which a correction was made in the present and the previous scrub pass (R549). -/
  scrubNow : List Nat := []
  scrubPrev : List Nat := []
  /-- Bits forced to 0 by load shedding: `BB_EN` and `NB_EN` by port (R552). -/
  bbOff : List Nat := []
  nbOff : List Nat := []
  /-- Links due for retraining, with failed retrainings; with 3 the link is given up (R539). -/
  retrain : List (Nat × Nat) := []
  /-- FFT units, codecs and detectors that have left the pool, by 16 * kind + unit (R548). -/
  accOut : List Nat := []
  /-- The surveillance chains' FFT units (R349, R548). -/
  survFft : List Nat := [6, 7]
  /-- Receive slices: the channel each spare stands in for, by die (R546, R96). -/
  slice : List (Nat × Nat) := []
  /-- Channels due for the spare slice, by die (R546). -/
  sliceDue : List (Nat × Nat) := []
  /-- Accelerator units at work on a request, by 16 * kind + unit, and the requests that wait, by kind (R29, R30). -/
  accBusy : List (Nat × AccReq) := []
  accWait : List (Nat × AccReq) := []
  /-- Forecasts in months by class, where below 999, and the classes whose forecast lies below `FC_WARN` (R554). -/
  fc : List (Nat × Nat) := []
  fcLow : List Nat := []
  /-- Parts of 0.01 h not yet in `LIFE_USED` and `POWER_ON` (R553). -/
  lifeAcc : Nat := 0
  powAcc : Nat := 0
  /-- Acceleration factors of the present hour, summed, and their count, and the means of the last 720 hours, newest first, in 2^-16 (R553, R554). -/
  afSum : Nat := 0
  afCnt : Nat := 0
  afHours : List Nat := []
  /-- `RO_DEG` stood above 1.5 E at the last measurement, and `LIFE_80` has been set (R554, R556). -/
  roHi : Bool := false
  life80 : Bool := false
deriving DecidableEq, Repr

/-- An item of a queue (R302, R312, R313). -/
structure QItem where
  bytes : List Byte
  /-- Indices of its cells in order, as allocated (R302, R307). -/
  cells : List Nat := []
  /-- Sequence number of the item in its queue. -/
  iseq : Nat := 0
  /-- Epoch under which it was written. -/
  epoch : Nat := 0
  /-- Indices of the 64-bit words found uncorrectable (R317). -/
  poison : List Nat := []
  /-- Fabric cycle from which the consumer sees it (R312). -/
  visAt : Nat := 0
  /-- The message whose segments it carries, or 0 (R315). -/
  owner : Nat := 0
deriving DecidableEq, Repr

/-- A queue behind its descriptor (R307). -/
structure QueueSt where
  items : List QItem := []
  opened : Option QItem := none
  limit : Nat := 256
  credits : Nat := 0
  epoch : Nat := 0
  err : Bool := false
  lastErr : Nat := 0
  errN : Nat := 0
  iseq : Nat := 0
  /-- Next line of the head item (R313). -/
  cursor : Nat := 0
  /-- The head item was flushed while being read: the next READ_LINE says so (R315). -/
  cut : Bool := false
  /-- Fabric cycle of the last flush, plus one (R316). -/
  flushAt : Nat := 0
  /-- Fabric cycle of the last discard of an open item, plus one (R314). -/
  discAt : Nat := 0
  /-- Cells removed by a flush that have not yet returned (R314). -/
  returning : List Nat := []
  /-- The line and tag the last READ_LINE returned (R313). -/
  line : List Byte := []
  tag : Nat := 0
deriving DecidableEq, Repr

/-- The cell pool and the hot store (R303, R304): the sizes in cells that boot took, the cells in shared SRAM with the last written first, and the credit requests and returns of the fabric cycle `turn - 1` that were served before their place in the queue came (R310, R316): returns first of each entry, then queue and number. -/
structure QmgSt where
  size : Nat := 0
  hotSize : Nat := 0
  hot : List Nat := []
  turn : Nat := 0
  served : List (Bool × Nat × Nat) := []
deriving DecidableEq, Repr

/-- A completion of a ring (R329): SQ index, operation, status, CID and result part. -/
structure Cpl where
  idx : Nat
  op : Nat
  status : Nat
  cid : Nat
  result : List Byte
  held : Bool := false
deriving DecidableEq, Repr

/-- A posted receive buffer (R334). -/
structure RxBuf where
  idx : Nat
  cid : Nat
  btag : Nat
  addr : Nat
  /-- Order of posting over all rings (R334). -/
  seq : Nat
deriving DecidableEq, Repr

/-- A host ring behind its control block (R327 to R337). -/
structure RingSt where
  /-- `RING_STAT.STATE`: 0 IDLE, 1 ACTIVE, 2 DRAINING, 3 ERROR. -/
  state : Nat := 0
  /-- Head and tail of the submission ring, tail and head of the completion ring, as indices (R327). -/
  sqHead : Nat := 0
  sqTail : Nat := 0
  cqHead : Nat := 0
  cqTail : Nat := 0
  /-- `ALIVE` values expected in the next submission and written in the next completion (R327). -/
  sqAlive : Nat := 0
  cqAlive : Nat := 0
  /-- CQ slots reserved and not yet consumed (R330). -/
  reserved : Nat := 0
  /-- Submissions accepted and not yet resolved. -/
  work : Nat := 0
  /-- Bad entries, the last status other than DONE, and doorbells rejected, as `RING_ERR` shows them (R335). -/
  chk : Nat := 0
  lastBad : Nat := 0
  rejected : Nat := 0
  /-- Completions that wait for room, oldest first (R329). -/
  held : List Cpl := []
  /-- Receive buffers posted, oldest first (R332). -/
  bufs : List RxBuf := []
  /-- Completion entries written and not yet consumed, oldest first (R340). -/
  written : List (List Byte) := []
  /-- Submission entries delivered by bulk packets and not yet fetched (R342). -/
  delivered : List (List Byte) := []
  /-- Fabric cycle in which `EN` was written 0, plus one (R337). -/
  drainAt : Nat := 0
  /-- Edge at which the IRQ gap ends, and whether an entry was written in it (R325). -/
  gapEnd : Nat := 0
  gapOwed : Bool := false
deriving DecidableEq, Repr

/-- An uplink message complete and checked (R291, R333): originator, flags, identifier, plaintext, the cycle of receipt and the execution cycle. -/
structure UpMsg where
  src : Nat
  flags : Nat
  msgId : Nat
  plain : List Byte
  rxCyc : Nat
  execCyc : Nat
deriving DecidableEq, Repr

/-- The host link (R338 to R345). -/
structure HostSt where
  /-- Edge at which the first port came up, plus one (R338). -/
  firstUp : Nat := 0
  /-- Edge of the last heartbeat, plus one; 0 where the watchdog has expired or none was written (R344). -/
  hb : Nat := 0
  /-- Edge of the link loss being failed over (R340). -/
  lossAt : Nat := 0
  /-- The host function is held by a red card (R519). -/
  carded : Bool := false
  /-- Receive buffers posted so far (R334). -/
  bufSeq : Nat := 0
  /-- Uplink messages waiting for a receive buffer, oldest first (R334, R344). -/
  uplink : List UpMsg := []
  /-- Packets sent on bulk IN, oldest first (R342). -/
  bulkIn : List (List Byte) := []
  /-- Data requests not yet answered: handle and length, and the data that came, by handle address (R342). -/
  dataReq : List (Nat × Nat) := []
  dataIn : List Host.Cell := []
  /-- Edge of the last access of the host (R494). -/
  accAt : Nat := 0
deriving DecidableEq, Repr

/-- What the last read of a master returned (R9). -/
structure ReadOut where
  words : List Word := []
  ok : Bool := true
deriving DecidableEq, Repr

/-- A key slot (R436): its key, label, domain, generation, and whether a bench slot stands in for it. -/
structure KeySlot where
  loaded : Bool := false
  erasing : Bool := false
  key : List Byte := []
  label : List Byte := []
  dom : Nat := 0
  gen : Nat := 0
  subst : Bool := false
  /-- Retired: faulty with no bench slot left (R551). -/
  retired : Bool := false
  /-- Fabric cycle of the last erase, plus one (R439). -/
  erasedAt : Nat := 0
  /-- Fabric cycle of the last rewrite, plus one, and the key and generation it replaced (R439). -/
  rewAt : Nat := 0
  prevKey : List Byte := []
  prevGen : Nat := 0
  /-- Fabric cycle of the last slot command, plus one, and the master that gave it (R439). -/
  cmdAt : Nat := 0
  cmdM : Nat := 0
deriving DecidableEq, Repr

/-- An AES-256-GCM operation in progress: core, slot, the key material and generation it pinned, and the job (R437, R440). -/
structure AesRun where
  core : Nat
  slot : Nat
  /-- The engine whose request it is (R516). -/
  eng : Nat := 96
  /-- Key and generation it runs under, and what it does (R436, R440). -/
  key : List Byte
  gen : Nat
  job : AesJob
  /-- The slot was rewritten while it ran (R437). -/
  old : Bool := false
  /-- Fabric cycle of the erase that stops it, plus one (R438, R439). -/
  revoked : Nat := 0
  /-- Stopped by entry to debug level D2 (R507). -/
  cut : Bool := false
deriving DecidableEq, Repr

/-- A host session (R448, R449). -/
structure Session where
  state : Nat := 0
  sid : Nat := 0
  auth : Bool := false
  lastSeq : Nat := 0
  fails : Nat := 0
  /-- Host-to-device and device-to-host keys. -/
  k0 : List Byte := []
  k1 : List Byte := []
  /-- SHAKE256 of the SESSION_OPEN output, and the seed of the decapsulation key. -/
  digest : List Byte := []
  dk : List Byte := []
deriving DecidableEq, Repr

/-- The security core (R429 to R456, R498 to R510). -/
structure SecSt where
  /-- The lifecycle fuses: 0 MFG, 1 PROV, 2 FIELD, 3 RETIRED (R453, log entry 12). -/
  lc : Nat := 1
  /-- `DUS` is present (R429). -/
  dusSet : Bool := true
  /-- `CRK`, where present (R429). -/
  crk : Option (List Byte) := none
  /-- Vendor key hashes 0 to 3 and customer hashes C, L, A, H, D; an absent one is empty (R429). -/
  vkeys : List (Nat × List Byte) := []
  ckeys : List (Nat × List Byte) := []
  /-- Own EBK and upstream NK, by kind, from vault datum 1 (R434). -/
  own : List (Nat × List Byte) := []
  /-- The key slots (R436). -/
  slots : List (Nat × KeySlot) := []
  /-- Bench slots used (R436). -/
  benchUsed : Nat := 0
  /-- Operations on the AES cores (R440). -/
  runs : List AesRun := []
  /-- Operations that wait for a core: slot, operation and request (R29, R30). -/
  aesWait : List (Nat × AesJob × AccReq) := []
  /-- Result of the last operation of each core: plaintext or ciphertext with tag (R440). -/
  outs : List (Nat × List Byte) := []
  /-- Sessions open (R448). -/
  sessions : List (Nat × Session) := []
  /-- The `SID` that the next session opened gets (R448, log entry 115). -/
  nextSid : Nat := 1
  /-- DRBG requests since the last reseed, and what the last request drew (R452). -/
  drbgN : Nat := 0
  /-- Edge of the last reseed (R452). -/
  drbgAt : Nat := 0
  /-- Debug level, 0 to 3 (R498), the fabric cycle of its last change, plus one, and the level before it (R509). -/
  dbg : Nat := 0
  dbgAt : Nat := 0
  dbgWas : Nat := 0
  /-- Fabric cycle of the last lifecycle transition, plus one (R509). -/
  lcAt : Nat := 0
  /-- Bytes the last request to the DRBG returned (R452). -/
  drbgOut : List Byte := []
  /-- Edge at which NO_ENTROPY was set, plus one, and whether requests are refused (R451). -/
  noEntropy : Nat := 0
  starved : Bool := false
  /-- Boot flash, by offset (R443, R445, R579), in canonical form. -/
  flash : List Host.Cell := []
  /-- Slot booted, whether this is a trial boot, and the edge at which the device became ready (R447). -/
  slot : Nat := 0
  inTrial : Bool := false
  bootAt : Nat := 0
  /-- Bytes 0 to 127 of the header of the image that runs (R445). -/
  header : List Byte := []
  /-- Recovery: no bootable image (R580). -/
  recovery : Bool := false
  /-- CC 91 is powered in LISTEN, and the edge of its last request (R501). -/
  cc91 : Bool := false
  cc91At : Nat := 0
  /-- The identity public key kept for RETIRED (R454). -/
  idStored : List Byte := []
deriving DecidableEq, Repr

/-- A control output behind its registers (R395 to R402). -/
structure CtlOut where
  /-- Index of the fixture its armed operation entered (R396). -/
  fix : Nat := 0
  /-- The submission that waits for the operation: ring, SQ index, CID, UTAG; none for a register request. -/
  sub : Option (Nat × Nat × Nat × Nat) := none
  /-- The output is driven active (R395). -/
  pulse : Bool := false
  /-- Feedback is awaited (R399). -/
  conf : Bool := false
  /-- It has fired, has been disarmed, and was held by an interlock (R399, R400). -/
  fired : Bool := false
  disarmed : Bool := false
  ilk : Bool := false
  /-- Its pulse runs to its end after `SAFE_N` (R400). -/
  safe : Bool := false
  /-- Edge and line time of its fire (R399). -/
  edgeAt : Nat := 0
  edgeLt : Nat := 0
  /-- Edge at which its last pulse ended, plus one (R399). -/
  pulseEnd : Nat := 0
  /-- Status so far of an operation that has fired. -/
  outcome : Nat := 0
  /-- Its fire error, and the feedback time measured (R399). -/
  err : Int := 0
  fbTime : Nat := 0
  /-- Feedback failures in a row (R401). -/
  fails : Nat := 0
deriving DecidableEq, Repr

/-- Control outputs and interlocks (R395 to R402). -/
structure CtlSt where
  outs : List (Nat × CtlOut) := []
  /-- Debounced levels of `ILK_0` to `ILK_3`, as a mask (log entry 25). -/
  ilk : Nat := 15
deriving DecidableEq, Repr

/-- An interval's values, or the sums an aggregate is made from (R382, R383): how many intervals, their cycles and duration in µs, squares of magnitudes, means weighted by duration, lags, and the flags. -/
structure MetAcc where
  n : Nat := 0
  cycles : Nat := 0
  dur : Nat := 0
  sq : List Nat := []
  mean : List Int := []
  lag : List Nat := []
  ltStart : Nat := 0
  utcStart : Nat := 0
  flagged : Bool := false
  ovld : Bool := false
  coef : Bool := false
deriving DecidableEq, Repr

/-- A dip or swell in progress on a port (R385): when it began, the conductors that crossed, and the extreme voltage in mV. -/
structure VoltEvt where
  at_ : Nat
  lt : Nat
  utc : Nat
  conds : Nat
  level : Nat
deriving DecidableEq, Repr

/-- Metrology of a port (R383 to R387). -/
structure MetPort where
  acc3 : MetAcc := {}
  acc10 : MetAcc := {}
  dip : Option VoltEvt := none
  swell : Option VoltEvt := none
  /-- The interval in progress lies inside an event (R384). -/
  flag : Bool := false
  /-- Coefficient epoch at the start of the interval in progress (R380). -/
  epoch : Nat := 0
  /-- The 10 s frequency last measured (R382). -/
  freq10 : Nat := 0
  /-- The 10 s interval in progress: the crossing it counts from in ns, whole cycles since, the last crossing, and the UTC interval it lies in (R382, R383). -/
  tens : Nat × Nat × Nat × Nat := (0, 0, 0, 0)
  /-- The flicker instruments' states, by conductor (R382). -/
  flick : List Nat := [0, 0, 0]
  /-- Pst values of the 2 h in progress, by conductor (R382). -/
  pst : List (List Nat) := []
deriving DecidableEq, Repr

/-- Metrology (R376 to R388). -/
structure MetSt where
  ports : List (Nat × MetPort) := []
  rseq : Nat := 0
  /-- Records in the staging queues, oldest first (R387). -/
  stage : List ArchRec := []
  /-- The captured snapshot (R388). -/
  snap : List Byte := []
deriving DecidableEq, Repr

/-- The housekeeping converter (R389 to R394). -/
structure HkcSt where
  /-- An injected group is pending or running (R392). -/
  inj : Bool := false
  /-- Its results carry `LATE` (R393). -/
  late : Bool := false
  /-- A calibration waits behind an injected group (R393). -/
  calWait : Bool := false
  /-- Fabric cycle in which the calibration in progress started, plus one (R393). -/
  calAt : Nat := 0
  /-- Edge from which the CL die has been above its maximum, plus one (R539). -/
  hotFrom : Nat := 0
deriving DecidableEq, Repr

/-- Segments of a map change received so far from a peer (R188, R189). -/
structure McSegs where
  peer : Nat
  port : Nat
  bb : Bool
  cond : Nat
  mapId : Nat
  count : Nat
  segs : List (Nat × List Byte)
deriving DecidableEq, Repr

/-- The banked transmit selection of a link (R179): the set in use, the next one, and the line time at which it takes effect. -/
structure TxSel where
  cur : Nat := 0
  next : Nat := 0
  eff : Nat := 0
deriving DecidableEq, Repr

/-- Tone maps (R175 to R199). -/
structure MapSt where
  sets : List MapSet := []
  sel : List (Nat × TxSel) := []
  segs : List McSegs := []
  /-- Map sets resident in a port's cache, oldest first: port, peer, PHY, conductor, direction, `MAP_ID`, group maps (R184). -/
  cache : List (Nat × MapSet) := []
  /-- The next `MAP_ID` by link (R176). -/
  nextId : List (Nat × Nat) := []
  /-- Observations of links that hold no set yet (R187). -/
  pre : List (Nat × List Obs) := []
deriving DecidableEq, Repr

/-- A grant a node holds (R220). -/
structure Grant where
  start : Nat
  len : Nat
  kind : Nat
  cond : Nat
  cset : Nat
  subch : Nat
  mapId : Nat
  nsym : Nat
  other : Nat
  repExp : Nat
  ph : Nat
deriving DecidableEq, Repr

/-- A frame in contention (R213 to R215): the CSMA counter once drawn, the serve window entered (superframe and priority) with the slice drawn in it, the superframe of the last contention region it met with whether it met all of it, and the whole regions it has passed. -/
structure Contend where
  out : Nat
  counter : Option Nat := none
  window : Option (Nat × Nat × Nat) := none
  region : Option (Nat × Bool) := none
  regions : Nat := 0
  /-- The last slice boundary it met, plus one. -/
  seen : Nat := 0
deriving DecidableEq, Repr

/-- The upstream side of the UP port (R226 to R228, R262, R272, R281). -/
structure UpSt where
  /-- Body of the last beacon tracked, 16 bytes (R208). -/
  beacon : List Byte := []
  /-- `MODE` of that beacon's header, which sets the beacon region's length (R204, R209). -/
  bcnMode : Nat := 1
  /-- Superframe last counted as missed, plus one (R228). -/
  missSf : Nat := 0
  /-- `NET_ID` accepted and held under `NET_ANY` (R226). -/
  net : Option Nat := none
  /-- Grants in force (R220, R222). -/
  grants : List Grant := []
  /-- Grants received for a coming cycle, the cycle, and whether more bodies follow (R220). -/
  newGrants : List Grant := []
  newCyc : Nat := 0
  more : Bool := false
  /-- Granted slots are in force: TRACK or COAST (R228). -/
  inForce : Bool := false
  /-- The lease is held, and the superframe m of its last renewal (R262). -/
  leased : Bool := false
  leaseM : Nat := 0
  /-- Parent and hop count. -/
  parent : Nat := 0
  hops : Nat := 0
  /-- A parent change waits: parent, hops and `EFF_SF` (R272). -/
  newParent : Option (Nat × Nat × Nat) := none
  /-- Groups the node belongs to, and its link epoch. -/
  groups : Nat := 0
  kepoch : Nat := 0
  /-- Superframe of the last neighbour report. -/
  reportSf : Nat := 0
  /-- A neighbour was marked lost since the last NBR_REPORT (R272). -/
  lostDue : Bool := false
  /-- The previous short address (R259), and the superframe of the last LEASE_RENEW sent, plus one. -/
  prev : Nat := 0xFFFFE
  renewSent : Nat := 0
deriving DecidableEq, Repr

/-- A slot-grant body sent and not yet acknowledged (R221): port, peer, `EFF_CYC`, its body, and the superframe of the last sending. -/
structure GrantOut where
  port : Nat
  peer : Nat
  cyc : Nat
  body : List Byte
  sf : Nat
  /-- Superframe of its acknowledgement, plus one; the entries take effect from the next one. -/
  acked : Nat := 0
deriving DecidableEq, Repr

/-- Medium access (R202 to R233). -/
structure MacSt where
  up : UpSt := {}
  grantsOut : List GrantOut := []
  cont : List (Nat × Contend) := []
  /-- Ports whose own start mark opened the quiet region in progress (R223). -/
  quietOn : List Nat := []
deriving DecidableEq, Repr

/-- A neighbour record (R267). -/
structure NbrRec where
  long : Nat := 0
  short : Nat := 0
  upstream : Bool := false
  lost : Bool := false
  heard : Nat := 0
  secure : Bool := false
  txFcnt : Nat := 0
  rxFmax : Nat := 0
  rxMap : Nat := 0
  kepoch : Nat := 0
  tries : Nat := 0
  busy : Nat := 0
  lastSf : Nat := 0
  /-- New, or reset by association: its first frame is accepted whatever its number (R249). -/
  fresh : Bool := true
deriving DecidableEq, Repr

/-- A frame the link layer has to send, or has sent and not yet resolved: where it goes and its body (R235, R239). -/
structure OutFrame where
  id : Nat
  port : Nat
  bb : Bool := false
  cond : Nat := 0
  peer : Nat
  long : Option Nat := none
  mgmt : Bool := true
  prio : Nat := 2
  ar : Bool := true
  sec : Bool := true
  body : List Byte
  /-- Superframe in which it was made (R273). -/
  sf : Nat := 0
  /-- Forwarded for another node (R273). -/
  fwd : Bool := false
  /-- Message context and segment it carries (R295). -/
  msg : Option (Nat × Nat) := none
  /-- Flood pair it carries: originator and `FSEQ` (R280). -/
  flood : Option (Nat × Nat) := none
  /-- A carry for a cooperative slot to this endpoint (R277). -/
  coop : Option Nat := none
  /-- A transmission of it was refused by band restrictions (R296). -/
  refused : Bool := false
deriving DecidableEq, Repr

/-- A repair in progress (R254): failed codewords, version last sent, and the descriptor of the frame that carries it. -/
structure Repair where
  first : Nat
  map : Nat
  ver : Nat := 0
  carrier : Option Nat := none
deriving DecidableEq, Repr

/-- A carry held by a relay for its COOP slot (R278). -/
structure Carry where
  port : Nat
  cond : Nat
  cyc : Nat
  u : Nat
  seed : Nat
  mode : Nat
  frame : List Byte
  dst : Nat
deriving DecidableEq, Repr

/-- A frame sent, by transmit descriptor: its bytes and seed, failed attempts, BUSY results, and whether its acknowledgement is awaited (R246 to R248). -/
structure SentFrame where
  out : OutFrame
  bytes : List Byte
  seed : Nat
  /-- Rate code of its codewords (R130, R161). -/
  rate : Nat := 0
  /-- Frame counter under which it is sealed. -/
  fcnt : Nat := 0
  /-- Attempts made, BUSY results in a row, whether it waits, and whether it is sent again (R247). -/
  tries : Nat := 0
  busy : Nat := 0
  wait : Bool := true
  again : Bool := false
  /-- Repair under way. -/
  repair : Option Repair := none
  /-- Superframe in which it was first sent (R247). -/
  startSf : Nat := 0
  /-- Edge at which its transmission ended, plus one; 0 while it runs. -/
  endAt : Nat := 0
  /-- A cooperative frame this relay sends for its slot (R278, R279). -/
  coop : Option Carry := none
  /-- Subchannel of a multi-user frame (R244). -/
  mu : Option Nat := none
deriving DecidableEq, Repr

/-- A delivered frame body waiting for its handler: how it came, its source on this hop, the body, and the superframe and cycle of acceptance (R251). -/
structure Delivered where
  port : Nat
  bb : Bool
  cond : Nat
  src : Nat
  srcLong : Option Nat
  mgmt : Bool
  mtype : Nat
  body : List Byte
  prio : Nat := 0
  sf : Nat
  cyc : Nat
deriving DecidableEq, Repr

/-- Soft values held for a PARTIAL frame (R253): how it came, its seed, the failed codewords, and the superframe at which they expire. -/
structure IrHold where
  port : Nat
  bb : Bool
  cond : Nat
  seed : Nat
  failed : List Nat
  src : Option Nat
  endSf : Nat
deriving DecidableEq, Repr

/-- An acknowledgement entered for sending (R241): port, PHY, conductor, header bytes, and the target instant of its start. -/
structure AckOut where
  port : Nat
  bb : Bool
  cond : Nat
  hdr : List Byte
  at_ : Nat
  /-- An OK answer: the neighbour it renews, and the superframe in which the acknowledged frame began (R262). -/
  renews : Option (Nat × Nat) := none
deriving DecidableEq, Repr

/-- The link layer (R234 to R267). -/
structure LinkSt where
  /-- Neighbour records by 4096 * port + index. -/
  nbrs : List (Nat × NbrRec) := []
  /-- Frames that wait to be sent (R234). -/
  outbox : List OutFrame := []
  /-- Number of the next frame handed to the link layer, by which its descriptor names it (R234). -/
  nextOut : Nat := 1
  /-- The free-running seed counter (R128). -/
  seed : Nat := 0
  /-- Frames sent and not yet completed, by number (R247). -/
  sent : List (Nat × SentFrame) := []
  /-- Bodies received that their handlers have not yet taken. -/
  inbox : List Delivered := []
  /-- Frames held for incremental redundancy. -/
  holds : List IrHold := []
  /-- Acknowledgements entered, by transmit descriptor, and the next descriptor of this kind. -/
  acks : List (Nat × AckOut) := []
  nextAck : Nat := 0
  /-- Sequence counter of group and broadcast frames (R264). -/
  groupSeq : Nat := 0
deriving DecidableEq, Repr

/-- An endpoint record (R283), with the superframe in which its quarantine ends (R262), former epochs and their end (R435), and the superframe from which NO_ROUTE holds. -/
structure EpRec where
  long : Nat := 0
  state : Nat := 0
  noRoute : Bool := false
  lost : Bool := false
  cap : Nat := 0
  port : Nat := 0
  cond : Nat := 0
  bb : Bool := false
  hops : Nat := 0
  parent : Nat := 0
  route : List Nat := []
  groups : Nat := 0
  leaseEnd : Nat := 0
  lastSf : Nat := 0
  kepoch : Nat := 0
  mkepoch : Nat := 0
  kprev : Nat := 0
  mkprev : Nat := 0
  lastDn : Nat := 0
  upHi : Nat := 0
  upMap : Nat := 0
  segSz : Nat := 480
  routeMode : Nat := 0
  lq : Nat := 0
  coopFcnt : Nat := 0
  coopSet : List Nat := []
  pathCost : Nat := 0
  done : Nat := 0
  failed : Nat := 0
  upDone : Nat := 0
  upDup : Nat := 0
  host : List Byte := []
  groupDn : List Nat := []
  quarEnd : Nat := 0
  /-- The former link epoch, and the former message epoch, are accepted until this superframe (R435); 0 where none. -/
  graceSf : Nat := 0
  mkGraceSf : Nat := 0
  /-- A change since the last store (R282). -/
  dirty : Bool := false
  /-- The neighbours its last NBR_REPORT named: address, LQ, conductor (R272). -/
  nbrs : List (Nat × Nat × Nat) := []
deriving DecidableEq, Repr

/-- A scheduled rebroadcast (R280): the pair, further hearings, the frame body, priority, and where it came from. -/
structure FloodTx where
  orig : Nat
  fseq : Nat
  heard : Nat := 0
  port : Nat
  cond : Nat
  prio : Nat
  body : List Byte
  boundary : Nat
  /-- Number of its frame in the outbox, once it contends. -/
  out : Option Nat := none
deriving DecidableEq, Repr

/-- A cooperative frame (R277, R279): message and segment, endpoint, its bytes and seed, the slot chosen and its superframe, the relays that carry it and the results in, failed attempts, and whether it has gone back to routed unicast. -/
structure CoopWait where
  msg : Nat
  seg : Nat
  dst : Nat
  frame : List Byte
  seed : Nat
  cyc : Nat
  u : Nat
  sf : Nat
  relays : List Nat
  results : Nat := 0
  tries : Nat := 0
  unicast : Bool := false
  /-- A relay reported BUSY (R242, R279). -/
  busy : Bool := false
deriving DecidableEq, Repr

/-- Relaying (R268 to R285). -/
structure NetSt where
  eps : List (Nat × EpRec) := []
  adm : List Nat := []
  /-- The duplicate cache: originator, `FSEQ`, superframe of entry, oldest first. -/
  floods : List (Nat × Nat × Nat) := []
  /-- Floods to be rebroadcast. -/
  floodTx : List FloodTx := []
  /-- The next `FSEQ`. -/
  fseq : Nat := 0
  /-- Frames carried for others. -/
  carries : List Carry := []
  /-- Cooperative attempts waiting (R279). -/
  coop : List CoopWait := []
  /-- A stored route changes at a superframe: node, parent, hops, superframe (R272). -/
  pendRoute : List (Nat × Nat × Nat × Nat) := []
deriving DecidableEq, Repr

/-- A downlink message in its context (R286 to R297). -/
structure MsgRec where
  /-- The submission that waits: ring, SQ index, CID, UTAG. -/
  sub : Nat × Nat × Nat × Nat
  /-- Transaction and position of a member (R297). -/
  txn : Option (Nat × Nat) := none
  /-- Destination and identifier. -/
  dst : Nat
  msgId : Nat
  /-- 0 DATA, 1 REPORT (R286). -/
  kind : Nat := 0
  /-- Whether a report is requested, an execution time is given, late execution is allowed, and it is sealed. -/
  rr : Bool
  exec : Bool
  lateOk : Bool
  sec : Bool
  /-- Priority, execution cycle and message epoch. -/
  prio : Nat
  execCyc : Nat
  /-- The deadline D of R294. -/
  deadline : Option Nat
  /-- Payload in the clear, until it is encrypted; then as sent (R287). -/
  data : List Byte
  /-- Encryption is still to be carried out (R287). -/
  plain : Bool
  mkepoch : Nat
  /-- Segment size, segments acknowledged, and sends made (R295). -/
  segSz : Nat
  acked : List Nat := []
  sends : Nat := 0
  /-- It has been handed to the link layer (R295). -/
  handed : Bool := false
  /-- The present send has begun (R295). -/
  begun : Bool := false
  /-- Superframe at which the receipt timeout falls (R295). -/
  tmoSf : Nat := 0
  /-- Response buffer: length and address. -/
  rbufLen : Nat := 0
  rbufAddr : Nat := 0
  /-- Superframe since which the endpoint has NO_ROUTE (R274). -/
  routeSf : Option Nat := none
deriving DecidableEq, Repr

/-- How a member of a transaction resolved (R297). -/
structure Member where
  dst : Nat
  status : Option Nat := none
  rxCyc : Nat := 0
  arrCyc : Nat := 0
  sends : Nat := 0
deriving DecidableEq, Repr

/-- A transaction not yet completed (R297). -/
structure TxnRec where
  sub : Nat × Nat × Nat × Nat
  txnId : Nat
  addr : Nat
  members : List Member
deriving DecidableEq, Repr

/-- A message being reassembled (R288, R291). -/
structure Reasm where
  src : Nat
  kind : Nat
  flags : Nat
  msgId : Nat
  mlen : Nat
  count : Nat
  mkepoch : Nat
  execCyc : Nat
  segs : List (Nat × List Byte)
  sf : Nat
  rxCyc : Nat := 0
  /-- Plaintext, once AES_OPERATION has opened it. -/
  plain : Option (List Byte) := none
deriving DecidableEq, Repr

/-- The message layer (R286 to R297). -/
structure MsgSt where
  msgs : List (Nat × MsgRec) := []
  txns : List (Nat × TxnRec) := []
  /-- Number of the next message context (R294). -/
  next : Nat := 1
  /-- Messages being put together. -/
  reasm : List Reasm := []
  /-- REPORTs sent, by originator and identifier (R291). -/
  reports : List (Nat × Nat × List Byte) := []
deriving DecidableEq, Repr

/-- A master behind `MST_STAT` (R511, R512, R518): red card, cards against it, and the domain it has been given where it differs from R512's (8 for none), and the owner of a DMA channel (the host function at reset, log entry 39). -/
structure MasterSt where
  card : Bool := false
  cards : Nat := 0
  dom : Nat := 8
  owner : Nat := 0x300
  /-- Fabric cycle of the last red card, plus one (R520). -/
  cardAt : Nat := 0
  /-- A DMA channel's descriptor: bytes done and bytes left of the one in progress, and how the last one completed, by status and bytes done (R517, R526, R527). -/
  prog : Nat × Nat := (0, 0)
  desc : Option (Nat × Nat) := none
deriving DecidableEq, Repr

/-- A region of the umpire (R513, R514, R521): base and limit in 4 KiB units, and `RGN_RIGHTS`. -/
structure Region where
  base : Nat := 0
  lim : Nat := 0
  rights : Word := 0
deriving DecidableEq, Repr

/-- The umpire (R511 to R521). -/
structure UmpSt where
  masters : List (Nat × MasterSt) := []
  regions : List (Nat × Region) := []
deriving DecidableEq, Repr

/-- A TLB entry of a legacy slot (R525): ASID, virtual page, global mark, page frame and rights. -/
structure TlbEntry where
  asid : Nat
  vpn : Nat
  glob : Bool
  pfn : Nat
  w : Bool
  x : Bool
deriving DecidableEq, Repr

/-- A legacy slot behind its pages (R522 to R535): the TLB, oldest first and the edge at which the present quantum began. -/
structure LgcSlot where
  tlb : List TlbEntry := []
  qStart : Nat := 0
  /-- Contexts that left RUNNING, each with the fabric cycle, plus one, and the context that took over where a quantum ended (R532). -/
  leftRun : List (Nat × Nat × Option Nat) := []
  /-- Records resumed, each with the fabric cycle, plus one (R532). -/
  resumed : List (Nat × Nat) := []
deriving DecidableEq, Repr

/-- Surveillance (R349 to R372): the archive sequence, the interval in progress, the checks, the capture, and the exclusion list. -/
structure SrvSt where
  /-- The last `RSEQ` (R360). -/
  rseq : Nat := 0
  /-- Start of the interval in progress, line time and UTC, and `EPOCH` of page 0x078 then (R361, R363). -/
  ltStart : Nat := 0
  utcStart : Nat := 0
  epoch : Nat := 0
  /-- A port was muted in the interval; capture triggers in it (R361, R363). -/
  mutedAny : Bool := false
  trigCnt : Nat := 0
  /-- Start and superframe of the reference accumulation in progress (R359). -/
  refLt : Nat := 0
  refUtc : Nat := 0
  refSf : Nat := 0
  refEpoch : Nat := 0
  refMuted : Bool := false
  /-- Lowest loopback margin of the interval, plus one, by port, and intervals in a row below the limit, by 3 * port + channel (R365). -/
  lbMin : List (Nat × Nat) := []
  lbRun : List (Nat × Nat) := []
  /-- Second records in a row above the line check's limit, and the ports that transmitted in them (R366). -/
  lineRun : Nat := 0
  linePorts : Nat := 0
  /-- Fabric cycle of a port's last mute decision, plus one (R367). -/
  muteAt : List (Nat × Nat) := []
  /-- Records staged for the archive, oldest first (R364). -/
  stage : List ArchRec := []
  /-- The list installed, the submission that waits for one being committed, and a committed list not yet applied (R370, R371). -/
  xl : List Byte := []
  xlSub : Option (Nat × Nat × Nat × Nat) := none
  apply : Option (List Byte) := none
  /-- Fabric cycle of the trigger of the capture in progress, plus one, its source (0 fixture, 1 limit line, 2 register), and the capture held (R368). -/
  trigAt : Nat := 0
  trigSrc : Nat := 2
  cap : List Byte := []
  /-- Edge of that trigger, by which the buffer fills (R368). -/
  trigEdge : Nat := 0
  /-- Edge at which the interval in progress began (R360). -/
  startAt : Nat := 0
  /-- The band chains before and after subtraction and of the own signal, the samples that have entered them, the detectors' states by 4 * bin + detector, and the adaptive filters' states by transmit channel (R354, R355, R357). -/
  chains : Nat × Nat × Nat := (0, 0, 0)
  samples : Nat := 0
  det : List (Nat × Nat) := []
  paths : List (Nat × Nat) := []
  /-- RMS-average values of the last quiet reference in 0.01 dBµV, and its quiet time in µs (R359). -/
  refRms : List Int := []
  refUs : Nat := 0
deriving DecidableEq, Repr

/-- A mode request (R488): the mode named, its source as `MODE_STAT.SOURCE` codes it, and the line time from which a switch point may serve it (R489). -/
structure ModeReq where
  mode : Nat
  src : Nat
  fromLt : Nat
deriving DecidableEq, Repr

/-- Mode control (R488 to R492): the request that waits, the change under way and the edge of its start, the fabric cycle of the last acceptance, plus one, and its source, and the filtered level of `SAFE_N`. -/
structure ModeSt where
  wait : Option ModeReq := none
  change : Option ModeReq := none
  startAt : Nat := 0
  accAt : Nat := 0
  accSrc : Nat := 7
  safeLow : Bool := false
  /-- A crystal has failed (R487). -/
  x32Bad : Bool := false
  x25Bad : Bool := false
  /-- Fabric cycle in which the PLLs stopped in LISTEN, plus one (R494). -/
  stopAt : Nat := 0
deriving DecidableEq, Repr

/-- A UART behind its page (R457 to R467). -/
structure UartSt where
  /-- Characters received, head first, as `RX_DATA` shows them, and characters to send. -/
  rx : List Nat := []
  tx : List Nat := []
  /-- The character in the shifter, the edge at which its start bit began, and `DIV` then (R459). -/
  shift : Option (Nat × Nat × Nat) := none
  /-- A break waits for the shifter, or is being sent (R461). -/
  brkDue : Bool := false
  brkOn : Bool := false
  dead : Bool := false
  /-- Level of `UART_1_CTS_N`. -/
  cts : Bool := false
  /-- Divisors that `DIV` writes replaced, each with the fabric cycle of its write, the latest first: a character whose start edge falls no later than the write completes at the old rate (R459). -/
  divs : List (Nat × Nat) := []
  /-- Edge at which the last character, break or dead line on the receive line ended (R458, R478). -/
  rxEnd : Nat := 0
deriving DecidableEq, Repr

/-- The I2C controller behind its page (R468 to R470): commands queued, bytes read, whether it holds the bus, and a STOP owed when SCL rises. -/
structure I2cSt where
  cmds : List Nat := []
  rd : List Byte := []
  held : Bool := false
  stopDue : Bool := false
deriving DecidableEq, Repr

/-- A check unit (R477 to R480): its CRC register, the bytes of the record in progress, whether one is being taken from a UART, the previous record's alive value, and the edge at which the last record completed, or timing began. -/
structure ChkSt where
  crc : Nat := 0
  bytes : List Byte := []
  open_ : Bool := false
  alive : Option Nat := none
  lastAt : Nat := 0
  /-- Fabric cycle of the last clear, plus one (R480). -/
  clrAt : Nat := 0
deriving DecidableEq, Repr

/-- Serial ports, board bus and check units (R457 to R481). -/
structure IoSt where
  uarts : List (Nat × UartSt) := []
  /-- Characters in the sleep FIFO, and whether a match has been made since PCLK stopped (R464). -/
  sleep : List Nat := []
  woke : Bool := false
  /-- The I2C controller. -/
  i2c : I2cSt := {}
  /-- The check units, by number. -/
  chks : List (Nat × ChkSt) := []
  /-- Edge of the last accepted PPS edge, plus one (R473). -/
  ppsAt : Nat := 0
  /-- The hand-over to the awake receiver is due (R465). -/
  handDue : Bool := false
  /-- Fabric cycle of the last `OUT_SET` or `OUT_CLR`, plus one, and the bits each master named in it (R471). -/
  outAt : Nat := 0
  outBy : List (Nat × Word) := []
deriving DecidableEq, Repr

/-- Reset and boot (R573 to R576): a boot runs, it began with a power-on reset, the edge of its start, and the fabric cycle of the last reset source, plus one. -/
structure BootSt where
  running : Bool := false
  por : Bool := false
  startAt : Nat := 0
  rstAt : Nat := 0
deriving DecidableEq, Repr

/-- The test access port and the debug access port (R508, R565 to R571): the instruction register, the value its data register captures, the status and result of the last command, the challenge with the edge of its issue, plus one, and how much of it has been read, the response buffer, failures in a row, the edge at which the lockout began, plus one, the fabric address, the engines halted, the boundary-scan register's update latches, and the edge at which the self-test in progress began. -/
structure DapSt where
  ir : Nat := 0x02
  dr : Nat := 0x196405A7
  status : Nat := 0
  result : Nat := 0
  chal : List Byte := []
  chalAt : Nat := 0
  outPos : Nat := 0
  resp : List Byte := []
  fails : Nat := 0
  lockAt : Nat := 0
  addr : Nat := 0
  halted : List Nat := []
  bsr : Nat := 0
  tstAt : Nat := 0
  checkEnd : Nat := 0
deriving DecidableEq, Repr

/-- Engines as fixtures reach them (R28, R81, R84): those woken, and the arguments of ENGINE_EVENT fixtures passed to each, oldest first. -/
structure EngSt where
  awake : List Nat := []
  events : List (Nat × Nat × Nat) := []
deriving DecidableEq, Repr

/-- The machine. -/
structure State where
  /-- Fast-clock edges of 1.5 GHz since power-on (R35): the instant of the last command. -/
  now : Nat := 0
  /-- How many values the spec leaves open have been drawn: the argument of the next `Config.freeWord`. -/
  draws : Nat := 0
  /-- Every register, by window byte address; canonical: sorted, no entry at its reset value. Bank 1 of a banked register lies `bankStride` above bank 0. -/
  regs : List (Nat × Word) := []
  /-- What each page holds behind its header. -/
  pages : List (Nat × PageSt) := []
  /-- The 16 swap groups (R55). -/
  groups : List (Nat × GroupSt) := []
  /-- ISP signals heard (R169). -/
  air : AirSt := {}
  /-- The scorebook (R418). -/
  scb : ScbSt := {}
  /-- MSI-X messages sent in the fabric cycle `vecCycle - 1` (R326). -/
  vecCycle : Nat := 0
  vecSent : List Nat := []
  /-- Counters raised in the fabric cycle `ctrCycle - 1`: register, lowest bit and width (R49). -/
  ctrCycle : Nat := 0
  ctrInc : List (Nat × Nat × Nat) := []
  /-- Register writes and memory stores performed in the fabric cycle `arbCycle - 1` (R33, R48). -/
  arbCycle : Nat := 0
  arbLog : List ArbRec := []
  /-- Edge of the last power-on reset, from which the real-time counter of the always-on domain counts (R34). -/
  aonAt : Nat := 0
  /-- The cycle tracker (R61 to R76). -/
  trk : Tracker := {}
  /-- The fixture list (R79 to R92). -/
  fix : FixSt := {}
  /-- Conductors, by 3 * port + conductor (R98 to R110). -/
  conds : List (Nat × CondSt) := []
  /-- Receive channels, by 4 * port + channel; channel 3 is the common mode (R94 to R96). -/
  chans : List (Nat × ChanSt) := []
  /-- Transmit descriptors that have completed, with their status (R98, R108). -/
  descs : List (Nat × Nat) := []
  /-- The quiet region is in progress (R223, R224). -/
  quiet : Bool := false

  /-- Storage and the vault (R409 to R425). -/
  sto : StoSt := {}
  /-- The bench (R537 to R555). -/
  bench : BenchSt := {}
  /-- The queues, by number (R302 to R316). -/
  queues : List (Nat × QueueSt) := []
  /-- Their cell pool (R303, R304). -/
  qmg : QmgSt := {}
  /-- The host rings, by number (R327 to R337). -/
  rings : List (Nat × RingSt) := []
  /-- The host link (R338 to R345). -/
  host : HostSt := {}
  /-- Host memory as the device has written it, by address, in canonical form (R329, R334). -/
  hostMem : List Host.Cell := []
  /-- The security core. -/
  sec : SecSt := {}
  /-- What the last read of a master returned, by master identifier (R9, R514). -/
  reads : List (Nat × ReadOut) := []
  /-- Control outputs (R395 to R402). -/
  ctl : CtlSt := {}
  /-- Metrology (R376 to R388). -/
  met : MetSt := {}
  /-- The housekeeping converter (R389 to R394). -/
  hkc : HkcSt := {}
  /-- Tone maps (R175 to R199). -/
  maps : MapSt := {}
  /-- Medium access (R202 to R233). -/
  mac : MacSt := {}
  /-- The link layer (R234 to R267). -/
  link : LinkSt := {}
  /-- Relaying and the endpoint table (R268 to R285). -/
  net : NetSt := {}
  /-- Messages (R286 to R297). -/
  msg : MsgSt := {}
  /-- Surveillance (R349 to R375). -/
  srv : SrvSt := {}
  /-- Mode control (R482 to R497). -/
  md : ModeSt := {}
  /-- Serial ports, board bus and check units (R457 to R481). -/
  io : IoSt := {}
  /-- Reset and boot (R573 to R576). -/
  boot : BootSt := {}
  /-- The self-test in progress: test, port, conductor (R561). -/
  tst : Option (Nat × Nat × Nat) := none
  /-- The test and debug access ports (R558 to R571). -/
  dap : DapSt := {}
  /-- Engines woken and events passed to them (R81, R84). -/
  eng : EngSt := {}
  /-- The umpire (R511 to R521). -/
  ump : UmpSt := {}
  /-- Legacy slots (R522 to R536). -/
  lgc : List (Nat × LgcSlot) := []
  /-- Fabric memory outside the register window (shared SRAM, engine local memory, DRAM), by byte address, in canonical form (R514, R21). -/
  mem : List Host.Cell := []
  /-- Legacy physical memory, by byte address from its base, in canonical form (R523). -/
  lgcMem : List Host.Cell := []
  /-- Commands waiting, first in first out. -/
  pending : List Instr := []
deriving DecidableEq, Repr

/-- The machine right after reset: at the rising edge of `PORESET_N`, with its boot begun (R574, R576, R581). -/
def State.reset : State := { regs := [(Reg.SYS_RST_CAUSE, 1), (Reg.SYS_BOOT_STAT, 1)], boot := { running := true, por := true } }

end Sys2Proof.Machine
end

