-- ==== Sys2Proof/Machine/Ops.lean ====
section
/-! DEFINITION. The named operations over the state: time, registers, counters, interrupts, the scorebook, fault windows, memory. Every meaning is written over these. -/

namespace Sys2Proof.Machine

/-! ## Time -/

/-- The instant of a command. A command never carries the machine back in time (log entry 1). -/
def State.advance (s : State) (t : Nat) : State := { s with now := max s.now t }

/-- The fabric cycle of the present instant: FCLK is the fast clock divided by two (R32). -/
def State.fabric (s : State) : Nat := s.now / 2

/-- Fast-clock edges in one microsecond (R35: 1.5 GHz). -/
abbrev usec : Nat := 1500

/-- Fast-clock edges in one millisecond. -/
abbrev msec : Nat := 1500000

/-- A value the spec leaves open is drawn: the counter moves on. -/
def State.drawn (s : State) : State := { s with draws := s.draws + 1 }

/-- The value drawn (log entry 3). -/
def State.free (s : State) : Word := Config.freeWord s.draws

/-! ## Registers -/

/-- Distance from a banked register's bank 0 to its bank 1 (R50). -/
abbrev bankStride : Nat := 2 ^ 32

/-- Where the message window lies in the register map (R324). -/
abbrev msgBase : Nat := 2 ^ 33

/-- Where the MSI-X route of page p lies in the register map (R348). -/
abbrev routeBase : Nat := 2 ^ 34

/-- Where banked memories reached through a window lie in the register map (the slot schedule, R216). -/
abbrev winBase : Nat := 2 ^ 35

/-- The reset value under a key of the register map. An MSI-X vector resets masked (log entry 20); a page's route resets to vector 0, enabled (R348). -/
def keyReset (k : Nat) : Word :=
  if k < 2 ^ 26 then regReset k
  else if k < bankStride then 0
  else if k < bankStride + 2 ^ 26 then regReset (k - bankStride)
  else if k < msgBase then 0
  else if k < routeBase then
    (if 0x8000000 ≤ k - msgBase && k - msgBase < 0x8002000 && (k - msgBase) % 16 == 12 then 1
     else if k - msgBase < 0x8000000 && (k - msgBase) % 0x80000 == 0x2000 then 8 else 0)
  else if k < routeBase + 0x4000 then 0x8000
  else 0

/-- The value a register holds. -/
def State.rd (s : State) (a : Nat) : Word := tget (keyReset a) s.regs a

/-- The state with a register set. -/
def State.wr (s : State) (a : Nat) (v : Word) : State := { s with regs := tset (keyReset a) s.regs a v }

/-- A field of a register. -/
def State.rf (s : State) (a lo width : Nat) : Nat := fld (s.rd a) lo width

/-- A bit of a register. -/
def State.rb (s : State) (a n : Nat) : Bool := bit (s.rd a) n

/-- The state with a field of a register set. -/
def State.wf (s : State) (a lo width v : Nat) : State := s.wr a (setFld (s.rd a) lo width v)

/-- The state with one bit of a register set. -/
def State.wb (s : State) (a n : Nat) (b : Bool) : State := s.wr a (setBit (s.rd a) n b)

/-- A counter raised by hardware is remembered for its fabric cycle (R49). -/
def State.counted (s : State) (a lo width : Nat) : State :=
  { s with ctrCycle := s.fabric + 1, ctrInc := (a, lo, width) :: (if s.ctrCycle = s.fabric + 1 then s.ctrInc else []) }

/-- A whole-register counter raised by one, saturating. -/
def State.inc (s : State) (a : Nat) : State := (s.wr a (satInc (s.rd a) 0 32)).counted a 0 32

/-- A counter field raised by one, saturating. -/
def State.incF (s : State) (a lo width : Nat) : State := (s.wr a (satInc (s.rd a) lo width)).counted a lo width

/-- A counter field raised by n, saturating. -/
def State.addF (s : State) (a lo width n : Nat) : State := (s.wr a (satAdd (s.rd a) lo width n)).counted a lo width

/-- What the present fabric cycle has written so far (R33, R48). -/
def State.arbSeen (s : State) : List ArbRec := if s.arbCycle = s.fabric + 1 then s.arbLog else []

/-- A write is noted for its fabric cycle. -/
def State.arbNote (s : State) (x : ArbRec) : State := { s with arbCycle := s.fabric + 1, arbLog := x :: s.arbSeen }

/-- The order of R33 and R48 within a fabric cycle: one that carries a fixture deadline goes first, else the lower master identifier. -/
def ArbRec.goesBefore (x y : ArbRec) : Bool := (x.dl && ! y.dl) || (x.dl == y.dl && decide (x.m < y.m))

/-- A write of `x` at address `a` comes behind, in queue order, one of its fabric cycle that goes after it: the later one's value stands there (R33, R48). -/
def State.overtaken (s : State) (x : ArbRec) (a : Nat) : Bool :=
  s.arbSeen.any (fun y => x.goesBefore y && decide (y.addr ≤ a) && decide (a < y.addr + y.len))

/-- The logical engine that carries out the duty of engine `l`: itself, unless it is a control core without a physical engine (R552, log entry 211). -/
def State.dutyOf (s : State) (l : Nat) : Nat := tget l s.bench.duty l

/-- The real-time counter of the always-on domain: ACLK cycles of 2.4576 MHz since power-on (R34, R35). -/
def State.rtc (s : State) : Nat := (s.now - s.aonAt) * 24576 / 15000000

/-- A 64-bit value stored in a register pair, low word first. -/
def State.wr64 (s : State) (lo hi : Nat) (v : Nat) : State := (s.wr lo (word v)).wr hi (word (v / 2 ^ 32))

/-- What a page holds behind its header. -/
def State.page (s : State) (p : Nat) : PageSt := tget {} s.pages p

/-- The state with a page's hidden part set. -/
def State.setPage (s : State) (p : Nat) (v : PageSt) : State := { s with pages := tset {} s.pages p v }

/-- The present operating mode, `MODE_STAT.CUR` (R482, R495). -/
def State.mode (s : State) : Nat := s.rf Reg.SYS_MODE_STAT 0 4

/-- The device is OFF: `MODE_STAT.CUR` reads 0 and no boot is under way. -/
def State.isOff (s : State) : Bool := s.mode == 0 && ! s.boot.running

/-- The page's block is enabled, `BLK_CTL.EN` (R41). -/
def State.blkEn (s : State) (p : Nat) : Bool := s.rb (Reg.BLK_CTL p) 0

/-! ## Line time (R10, R68, R70, R71) -/

/-- The frequency used to convert time: `FREQ`, as held under the holdover rules (R68), or the nominal frequency while it reads 0 (R602), in 2^-16 Hz. -/
def State.convFreq (s : State) : Nat :=
  let f := if s.trk.heldF = 0 then (s.rd Reg.LTIME_FREQ).toNat else s.trk.heldF
  if f = 0 then (if s.rb (Reg.NBP_MAP_CFG 0) 0 then 60 * 65536 else 50 * 65536) else f

/-- `TRK_STAT.STATE`: 0 ACQUIRE, 1 LOCKED, 2 HOLDOVER (R78). -/
def State.trkState (s : State) : Nat := s.rf Reg.LTIME_TRK_STAT 0 2

/-- Line-time units of 2^-32 cycle that pass in `dt` fast-clock edges at frequency `f` (2^-16 Hz) and rate of change `r` (2^-16 Hz/s). -/
def phaseIn (f : Nat) (r : Int) (dt : Nat) : Nat :=
  let lin : Int := (f * dt * 65536 : Nat) / 1500000000
  let quad : Int := r * ((dt * dt * 32768 : Nat) : Int) / 2250000000000000000
  (lin + quad).toNat

/-- Line-time units in `ns` nanoseconds at frequency `f` (2^-16 Hz). -/
def unitsOfNs (f : Nat) (ns : Int) : Int := ns * ((f * 65536 : Nat) : Int) / 1000000000

/-- The part of a slew, in nanoseconds, removed after `dt` edges: at most `SLEW_MAX` per cycle (R70). -/
def slewDone (f max_ : Nat) (e : Int) (dt : Nat) : Int :=
  let lim : Int := (max_ * 100 * (f * dt) : Nat) / (65536 * 1500000000)
  if e ≥ 0 then min e lim else max e (-lim)

/-- Line-time units by which line time advances in the `dt` edges after its anchor: extrapolated phase (R66, R68) and the part of a slew that is done (R70). -/
def State.trkAdvance (s : State) (dt : Nat) : Nat :=
  ((phaseIn s.convFreq s.trk.rate dt : Int) + unitsOfNs s.convFreq (slewDone s.convFreq (s.rf Reg.LTIME_TRK_CFG 8 8) s.trk.slewNs dt)).toNat

/-- Line time at edge `t` (R10): 0 before the epoch (R71), held while the tracker is stopped (R64), else extrapolated from the anchor (R66, R68) with the slew in progress (R70), modulo 2^64 (R72). -/
def State.ltAt (s : State) (t : Nat) : Nat :=
  if ! s.trk.epoch then 0
  else if s.trk.stopped then s.trk.lt0
  else
    wrap64 (s.trk.lt0 + max (s.trkAdvance (t - s.trk.t0)) s.trk.lead)

/-- Present line time. -/
def State.lt (s : State) : Nat := s.ltAt s.now

/-- The present cycle count, line time bits [63:32] (R10). -/
def State.cycle (s : State) : Nat := s.lt / 2 ^ 32

/-- A line time `f` lies in the future of `n` (R72). -/
def ltFuture (f n : Nat) : Bool :=
  let d := (f + 2 ^ 64 - n) % 2 ^ 64
  decide (1 ≤ d) && decide (d ≤ 2 ^ 63 - 1)

/-- A cycle count that has been reached: not in the future of `n` (R72 on the 32-bit count). -/
def cycReached (c n : Nat) : Bool := decide ((n + 2 ^ 32 - c % 2 ^ 32) % 2 ^ 32 < 2 ^ 31)

/-- Slice k of a phase value (R11). -/
def sliceOf (phase : Nat) : Nat := 48 * (phase % 2 ^ 32) / 2 ^ 32

/-- Line time re-anchored at the present instant, so that a change of rate applies from here on. -/
def State.anchor (s : State) : State :=
  let e := s.trk.slewNs - slewDone s.convFreq (s.rf Reg.LTIME_TRK_CFG 8 8) s.trk.slewNs (s.now - s.trk.t0)
  if ! s.trk.epoch || s.trk.stopped then { s with trk := { s.trk with t0 := s.now, slewNs := e } }
  else
    let a := s.trkAdvance (s.now - s.trk.t0)
    { s with trk := { s.trk with lt0 := wrap64 (s.trk.lt0 + a), lead := s.trk.lead - a, t0 := s.now, slewNs := e } }

/-- Edges in which line time advances by `d` units at frequency `f` (2^-16 Hz) with rate of change `r` (2^-16 Hz/s): at the mean frequency over the time the frequency alone would give (R83). -/
def edgesOf (f : Nat) (r d : Int) : Int :=
  let t := d * 1500000000 / (f * 65536)
  if r = 0 then t else d * 1500000000 * 65536 / ((((f * 65536 : Nat) : Int) + max (-((f * 32768 : Nat) : Int)) (r * t * 65536 / 3000000000)) * 65536)

/-- An awaited arrival waits in the queue with the present tick (R16): it wins over the timeout that fires now. -/
def State.arrives (s : State) (f : Instr → Bool) : Bool := s.pending.any (fun i => i.time == s.now && f i)

/-- Fast-clock edges from the present instant to line time `f`, by the tracker's present phase, frequency and rate of change; negative for a line time already passed (R83). -/
def State.edgesTo (s : State) (f : Nat) : Int :=
  edgesOf s.convFreq s.trk.rate (signedField 64 ((f + 2 ^ 64 - s.lt) % 2 ^ 64))

/-- Nanoseconds since the last PPS edge, counted in the fast clock, or in ACLK while the fast clock is stopped (R74). -/
def State.sincePps (s : State) : Nat :=
  let dt := s.now - s.trk.utcT0
  if s.rb Reg.CLK_CLK_STAT 0 then dt * 2 / 3 else dt * 24576 / 15000000 * 10000000 / 24576

/-- Present UTC in nanoseconds, 0 while none is available (R12, R74, R75). -/
def State.utc (s : State) : Nat :=
  if s.trk.utcAvail then wrap64 (s.trk.utcSec * 1000000000 + s.sincePps) else 0

/-! ## Interrupts (R43, R326) -/

/-- The host is PRESENT (R344, R347). -/
def State.hostPresent (s : State) : Bool := s.rf Reg.HFN_HOST_STAT 0 2 == 1

/-- The ACTIVE host port (R338). -/
def State.activePort (s : State) : Option Nat := (List.range 2).find? (fun n => s.rf (Reg.HL_HL_STAT n) 4 2 == 1)

/-- The link mode of the ACTIVE port, 0 where none (R321, R346). -/
def State.activeMode (s : State) : Nat := match s.activePort with
  | some n => s.rf (Reg.HL_HL_STAT n) 0 3
  | none => 0

/-- A message can go to the host: a port is ACTIVE, no failover is in progress, and the host function holds no red card (R326, R519). -/
def State.canSignal (s : State) : Bool := s.activePort.isSome && s.rf Reg.HFN_HOST_STAT 0 2 != 2 && ! s.host.carded

/-- A packet goes out on bulk IN (R342): type, ring, address, data. -/
def State.bulkSend (s : State) (ptype ring addr : Nat) (data : List Byte) : State :=
  let hdr := leBytes 1 ptype ++ leBytes 1 ring ++ [0, 0] ++ leBytes 4 data.length ++ leBytes 8 addr
  { s with host := { s.host with bulkIn := s.host.bulkIn ++ [hdr ++ data] } }

/-- Vector `v` is masked in the MSI-X table (R326). -/
def State.vecMasked (s : State) (v : Nat) : Bool := bit (s.rd (msgBase + 0x8000000 + 16 * v + 12)) 0

/-- The pending bit of vector `v` (R324, R326). -/
def State.setPba (s : State) (v : Nat) (b : Bool) : State := s.wb (msgBase + 0x8002000 + 4 * (v / 32)) (v % 32) b

/-- Vector `v` is raised: masked, or with no way to the host, it waits as pending; else one message goes out, once per fabric cycle (R326). -/
def State.raiseVec (s : State) (v : Nat) : State :=
  if s.vecMasked v || ! s.canSignal then s.setPba v true
  else if s.vecCycle == s.fabric + 1 && s.vecSent.contains v then s
  else
    let sent := if s.vecCycle == s.fabric + 1 then v :: s.vecSent else [v]
    let s1 := if s.activeMode = 3 then s.bulkSend 0x85 0 0 (leBytes 64 (2 ^ v)) else s
    { s1.inc Reg.MSIX_VEC_CNT with vecCycle := s.fabric + 1, vecSent := sent }

/-- The vector of page `p`'s interrupt is raised where its route is enabled (R43, R348). -/
def State.raisePage (s : State) (p : Nat) : State :=
  let r := s.rd (routeBase + p)
  if bit r 15 then s.raiseVec (fld r 0 9) else s

/-- Hardware sets `INT_CAUSE` bits of page `p`; each enabled bit that becomes set raises the page's vector (R41, R43, R326). The bits are remembered for the fabric cycle, for R15. -/
def State.setCause (s : State) (p : Nat) (bits : Word) : State :=
  let old := s.rd (Reg.INT_CAUSE p)
  let pg := s.page p
  let sb := if pg.setCycle == s.fabric + 1 then pg.setBits ||| bits else bits
  let s1 := (s.wr (Reg.INT_CAUSE p) (old ||| bits)).setPage p { pg with setCycle := s.fabric + 1, setBits := sb }
  if (bits &&& ~~~old &&& s.rd (Reg.INT_MASK p)) = 0 then s1 else s1.raisePage p

/-- Hardware sets `INT_CAUSE` bit `n` of page `p`. -/
def State.cause (s : State) (p n : Nat) : State := s.setCause p (word (2 ^ n))

/-- An ignored access or command: `ERR_UNCORR` rises and `INT_CAUSE.UNCORR` is set, with no fault event (R598). -/
def State.ignored (s : State) (p : Nat) : State := (s.inc (Reg.ERR_UNCORR p)).cause p 28

/-- A corrected error of page `p` (R41). -/
def State.corrected (s : State) (p : Nat) : State := s.inc (Reg.ERR_CORR p)

/-! ## The scorebook (R418 to R421) -/

/-- `DETAIL` of a record: status, instance, and the object identifier in bytes 2 to 9 (R418). -/
def detail (status inst obj : Nat) : List Byte := BitVec.ofNat 8 status :: BitVec.ofNat 8 inst :: leBytes 8 obj

/-- The last staged record of a source page (R420). -/
def lastOf (src : Nat) : List Staged → Option Staged
  | [] => none
  | x :: xs => match lastOf src xs with
    | some y => some y
    | none => if x.body.src = src then some x else none

/-- The stage with the last record of `src` counted once more (R420). -/
def bumpLast (src : Nat) : List Staged → List Staged
  | [] => []
  | x :: xs => if x.body.src = src && (lastOf src xs).isNone
    then { x with body := { x.body with rep := x.body.rep + 1 } } :: xs
    else x :: bumpLast src xs

/-- The least severity staged. -/
def minSev : List Staged → Nat
  | [] => 6
  | [x] => x.body.sev
  | x :: y :: xs => min x.body.sev (minSev (y :: xs))

/-- The stage without its oldest record of severity `v`. -/
def dropSev (v : Nat) : List Staged → List Staged
  | [] => []
  | x :: xs => if x.body.sev = v then xs else x :: dropSev v xs

/-- A record enters the staging buffer: it is coalesced with the last record of its page, or staged, displacing a record where the buffer is full (R420). DEGRADED and LOST set their causes when the record is made (R421). In RETIRED the scorebook is read only (R502). -/
def State.record (s : State) (src event sev : Nat) (dt : List Byte) : State :=
  if s.sec.lc = 3 then s else
  let r : ScbRec := { lt := s.lt, utc := s.utc, src := src, event := event, sev := sev, rep := 0, detail := dt }
  let coal := s.rf Reg.SCB_SCB_CFG 8 8 * msec
  let s1 := s.wr Reg.SCB_SCB_LAST (word (event % 2 ^ 16 + sev * 2 ^ 16))
  let s2 := if sev = 4 then s1.cause 0x007 0 else if sev = 5 then s1.cause 0x007 1 else s1
  let same := match lastOf src s.scb.stage with
    | some x => x.body.event == event && x.body.sev == sev && x.body.detail == dt && decide (s.now - x.at_ ≤ coal) && decide (x.body.rep < 255)
    | none => false
  let full := decide (64 ≤ s.scb.stage.length)
  let st := s.scb.stage
  let s3 :=
    if same then { s2 with scb := { s2.scb with stage := bumpLast src st } }
    else if ! full then { s2 with scb := { s2.scb with stage := st ++ [{ body := r, at_ := s.now }] } }
    else if sev = 0 && minSev st > 0 then (s2.incF Reg.SCB_SCB_STAGE 16 16).cause 0x007 2
    else
      let s4 := (s2.incF Reg.SCB_SCB_STAGE 16 16).cause 0x007 2
      { s4 with scb := { s4.scb with stage := dropSev (minSev st) st ++ [{ body := r, at_ := s.now }] } }
  s3.wf Reg.SCB_SCB_STAGE 0 7 s3.scb.stage.length

/-- A record under the code R419 gives page `p`'s type: low byte `code`. -/
def State.pageRecord (s : State) (p code sev : Nat) (dt : List Byte) : State :=
  s.record p ((blkType p) % 256 * 256 + code) sev dt

/-! ## Fault windows (R44, R537) -/

/-- Line time at which page `p`'s open window closes: the end of cycle n + WINDOW - 1 (R537). -/
def PageSt.winEnd (pg : PageSt) : Nat := (pg.winFrom + pg.winLen) % 2 ^ 32 * 2 ^ 32

/-- The window of page `p` is open and its end lies at or before the start of the present fabric cycle (R537: an event in the closing fabric cycle still counts). -/
def State.winOver (s : State) (p : Nat) : Bool :=
  s.rb (Reg.FAULT_STAT p) 9 && ! ltFuture (s.page p).winEnd (s.ltAt (2 * s.fabric))

/-- The window closes below the threshold: `COUNT` and `OPEN` return to 0 (R44, R537). -/
def State.closeWin (s : State) (p : Nat) : State := (s.wf (Reg.FAULT_STAT p) 0 8 0).wb (Reg.FAULT_STAT p) 9 false

/-- `FAULT_STAT.LASTING` is set; the fabric cycle is remembered for R15. -/
def State.setLasting (s : State) (p : Nat) : State :=
  (s.wb (Reg.FAULT_STAT p) 8 true).setPage p { s.page p with lastAt := s.fabric + 1 }

/-- A fault event of page `p` (R44, R537): it opens a window where none is open and counts in it. The second component says that the threshold was reached: `LASTING` and its cause are set, a LASTING record is made, the window closes, and the caller takes the lasting response of R539. -/
def State.faultEvent (s : State) (p : Nat) : State × Bool :=
  let s0 := if s.winOver p then s.closeWin p else s
  let pg := s0.page p
  let s1 := if s0.rb (Reg.FAULT_STAT p) 9 then s0 else
    (s0.wb (Reg.FAULT_STAT p) 9 true).setPage p
      { pg with winFrom := s0.cycle, winLen := s0.rf (Reg.FAULT_WIN p) 0 16, winThr := s0.rf (Reg.FAULT_WIN p) 16 8 }
  let n := s1.rf (Reg.FAULT_STAT p) 0 8 + 1
  if n < (s1.page p).winThr then (s1.wf (Reg.FAULT_STAT p) 0 8 n, false)
  else
    let s2 := (s1.closeWin p).setLasting p
    ((s2.cause p 31).pageRecord p 0x1F 1 (detail 0 0 0), true)

/-- A fault that R539 marks "at once": `LASTING` without counting, with its cause and record (R537). -/
def State.lastingAtOnce (s : State) (p : Nat) : State :=
  ((s.setLasting p).cause p 31).pageRecord p 0x1F 1 (detail 0 0 0)

/-- An uncorrected error of page `p`: `ERR_UNCORR` rises, its cause is set, and it is a fault event (R598, R44). -/
def State.uncorrected (s : State) (p : Nat) : State × Bool := (s.ignored p).faultEvent p

/-- The bench of a class of R551 becomes empty (R550). -/
def State.benchEmpty (s : State) (cls : Nat) : State := (s.cause 0x008 2).record 0x008 0x0930 4 (detail 0 cls 0)

/-- A fault event of R539 that no `INT_CAUSE` bit shows: its record (R419) and its counting. The second component says that it became lasting. -/
def State.fault (s : State) (p inst obj : Nat) : State × Bool := (s.pageRecord p 0x20 0 (detail 0 inst obj)).faultEvent p

/-- An uncorrectable error that R539 counts: `ERR_UNCORR`, its cause and record, and the fault event. -/
def State.hardFault (s : State) (p inst obj : Nat) : State × Bool := ((s.ignored p).pageRecord p 0x1C 0 (detail 0 inst obj)).faultEvent p

/-! ## Memory -/

/-- What a byte of fabric memory nothing has written reads as (log entry 5). -/
def memDefault : Byte := 0

/-- One byte of a memory. -/
def cellRead (m : List Host.Cell) (a : Nat) : Byte := tget memDefault m a

/-- A memory with one byte written, in canonical form. -/
def cellWrite (m : List Host.Cell) (a : Nat) (b : Byte) : List Host.Cell := tset memDefault m a b

/-- `n` bytes of a memory from address `a`. -/
def cellsRead (m : List Host.Cell) (a : Nat) : Nat → List Byte
  | 0 => []
  | n + 1 => cellRead m a :: cellsRead m (a + 1) n

/-- A memory with a byte string written from address `a`. -/
def cellsWrite (m : List Host.Cell) (a : Nat) : List Byte → List Host.Cell
  | [] => m
  | b :: bs => cellsWrite (cellWrite m a b) (a + 1) bs

/-- The canonical form: addresses strictly rising, no byte equal to what an unlisted address reads as. -/
def Memory.wf (m : List Host.Cell) : Bool := tsorted m && m.all (fun c => c.2 != memDefault)

/-! ## Status codes (R60) -/

/-- The shared 8-bit status codes (R60). -/
abbrev Status := Nat

abbrev Status.done : Status := 0x00
abbrev Status.doneLate : Status := 0x01
abbrev Status.duplicate : Status := 0x02
abbrev Status.retracted : Status := 0x03
abbrev Status.authFail : Status := 0x04
abbrev Status.keyRevoked : Status := 0x05
abbrev Status.flushed : Status := 0x06
abbrev Status.deadlineMissed : Status := 0x07
abbrev Status.noRoute : Status := 0x08
abbrev Status.endpointUnknown : Status := 0x09
abbrev Status.linkLost : Status := 0x0A
abbrev Status.excludedBand : Status := 0x0B
abbrev Status.abortedByCard : Status := 0x0C
abbrev Status.refused : Status := 0x0D
abbrev Status.timeout : Status := 0x0E
abbrev Status.creditViolation : Status := 0x0F
abbrev Status.checkFail : Status := 0x10
abbrev Status.stale : Status := 0x11
abbrev Status.resourceRetry : Status := 0x12

end Sys2Proof.Machine
end

