-- ==== Sys2Proof/Machine/Fixtures.lean ====
section
/-! DEFINITION. The fixture list (R79 to R92): entries and their bytes, the checks of a WRITE, held writes, skips and repeats. -/

namespace Sys2Proof.Machine

/-- An entry's 32 bytes (R79). -/
def Fixture.bytes (f : Fixture) : List Byte :=
  leBytes 8 f.lt ++ leBytes 2 f.target ++ leBytes 1 f.action ++ leBytes 1 f.flags ++ leBytes 4 f.arg0 ++ leBytes 4 f.arg1
    ++ leBytes 2 f.period ++ leBytes 2 f.count ++ leBytes 2 f.pwEng ++ leBytes 1 f.result ++ [0] ++ leBytes 2 f.fireErr ++ leBytes 2 f.fires

/-- The entry that 32 bytes spell, as a WRITE stores it: `FIRES` and `FIRE_ERR` 0 whatever the writer placed there (R79, R88). -/
def Fixture.ofBytes (b : List Byte) : Fixture :=
  { lt := leAt b 0 8, target := leAt b 8 2, action := leAt b 10 1, flags := leAt b 11 1 % 8, arg0 := leAt b 12 4, arg1 := leAt b 16 4
    period := leAt b 20 2, count := leAt b 22 2, pwEng := leAt b 24 2 }

/-- `FLAGS.ARM` (R79). -/
def Fixture.armed (f : Fixture) : Bool := decide (f.flags % 2 = 1)

/-- `FLAGS.PREWARM` (R79). -/
def Fixture.prewarm (f : Fixture) : Bool := decide (f.flags / 2 % 2 = 1)

/-- `FLAGS.IRQ` (R79). -/
def Fixture.irq (f : Fixture) : Bool := decide (f.flags / 4 % 2 = 1)

/-- The entry armed or disarmed. -/
def Fixture.setArm (f : Fixture) (b : Bool) : Fixture := { f with flags := f.flags / 2 * 2 + (if b then 1 else 0) }

/-- The entry at an index; an entry never written is all zero. -/
def State.fixt (s : State) (i : Nat) : Fixture := tget {} s.fix.entries i

/-- The state with an entry stored. -/
def State.setFix (s : State) (i : Nat) (f : Fixture) : State := { s with fix := { s.fix with entries := tset {} s.fix.entries i f } }

/-- A free index of the firmware's range (R87). -/
def State.freeFix (s : State) : Option Nat := (List.range' 16 (s.rf Reg.FIX_FIX_CFG 0 14 - 16)).find? (fun i => ! (s.fixt i).armed)

/-- Firmware enters a fixture of its own at the lowest free index (R36, R87); one whose line time has come, or for which no index is free, is not entered. -/
def State.enterFix (s : State) (f : Fixture) : State :=
  if ! ltFuture f.lt s.lt then s
  else match s.freeFix with
    | none => s
    | some i => s.setFix i f

/-- How many entries are armed (`FIX.ARMED`, R92). -/
def State.armedCount (s : State) : Nat := (s.fix.entries.filter (fun e => e.2.armed)).length

/-- Fine-timer actions (R81, R82): every action but CONV_TRIGGER 2, HOST_EVENT and MODE_WAKE; ENGINE_WAKE is coarse in LISTEN. -/
def Fixture.fine (f : Fixture) (mode : Nat) : Bool :=
  match f.action with
  | 0x05 => mode != 3
  | 0x06 => f.arg0 % 256 != 2
  | 0x0B => false
  | 0x0C => false
  | _ => true

/-- The tolerance of an action in fast-clock edges (R81). -/
def Fixture.tolerance (f : Fixture) : Nat :=
  match f.action with
  | 0x05 => 5 * usec
  | 0x06 => if f.arg0 % 256 = 2 then usec / 2 else usec / 10
  | 0x07 => 10 * usec
  | 0x0A => 5 * usec
  | 0x0B => 5 * usec
  | 0x0C => 5 * usec
  | _ => usec

/-- `TARGET` and the arguments the action uses name something that exists (R81); a reserved action fails. That a `PW_ENG` under `PREWARM` which names no engine fails too is the model's choice: R81 lists `TARGET` and the arguments (log entry 154). -/
def Fixture.valid (f : Fixture) : Bool :=
  let pageOf (base : Nat) : Bool := decide (base ≤ f.target) && decide ((f.target - base) % 4 = 0) && decide ((f.target - base) / 4 < 4)
  (match f.action with
  | 0x00 => true
  | 0x01 => pageOf 0x031 && f.arg0 % 4 != 3
  | 0x02 => pageOf 0x032 && f.arg0 % 16 != 0
  | 0x03 => pageOf 0x031 && f.arg0 % 4 != 3
  | 0x04 => decide (f.target < 16)
  | 0x05 => decide (f.target < 96)
  | 0x06 => decide (f.arg0 % 256 < 3)
  | 0x07 => f.target == 0x02C
  | 0x08 => pageOf 0x063
  | 0x09 => pageOf 0x063
  | 0x0A => decide (f.target < 96)
  | 0x0B => true
  | 0x0C => decide (f.arg0 % 16 < 12)
  | _ => false)
  && (! f.prewarm || f.pwEng == 0xFFFF || decide (f.pwEng < 96))

/-- The index lies in the writer's range (R87): the host and the debug port from `HOST_FIRST`, firmware from 16 up to it. -/
def State.inRange (s : State) (host : Bool) (i : Nat) : Bool :=
  let hf := s.rf Reg.FIX_FIX_CFG 0 14
  if host then decide (hf ≤ i) && decide (i < 8192) else decide (16 ≤ i) && decide (i < hf)

/-- The prewarm lead at the present instant, in edges (R84). -/
def State.prewarmLead (s : State) : Nat :=
  (if s.rb Reg.CLK_CLK_STAT 0 then s.rf Reg.FIX_PREWARM_CFG 0 16 else s.rf Reg.FIX_PREWARM_CFG 16 16) * usec

/-- The fast and converter PLLs are started (R485, R494, R496). Where they stopped in this very fabric cycle they keep running (R494). -/
def State.pllStart (s : State) : State :=
  if s.rb Reg.CLK_CLK_STAT 0 then s
  else
    let s1 := (s.wb Reg.CLK_CLK_STAT 0 true).wb Reg.CLK_CLK_STAT 1 true
    if s.md.stopAt = s.fabric + 1 then s1 else s1.incF Reg.CLK_PLL_CNT 0 16

/-- The PLLs stop. -/
def State.pllOff (s : State) : State := (s.wb Reg.CLK_CLK_STAT 0 false).wb Reg.CLK_CLK_STAT 1 false

/-- A fine fixture stands armed within `n` edges (R494). -/
def State.fineWithin (s : State) (n : Nat) : Bool :=
  s.fix.entries.any (fun e => e.2.armed && e.2.fine s.mode && s.trk.epoch && decide (s.edgesTo e.2.lt ≤ (n : Int)))

/-- A fixture armed in the fabric cycle in which the PLLs stopped keeps them running (R494). -/
def State.pllKept (s : State) : State :=
  if s.md.stopAt = s.fabric + 1 && s.mode == 3 && s.fineWithin (s.rf Reg.PWR_PLL_STOP 0 16 * usec) then s.pllStart else s

/-- The status of a WRITE under the checks of R88, in their order. -/
def State.writeStatus (s : State) (host : Bool) (i : Nat) (f : Fixture) : Status :=
  if ! s.inRange host i || ! f.valid then .refused
  else if ! f.armed then .done
  else if ! ltFuture f.lt s.lt then .deadlineMissed
  else if f.action == 0x03 && decide (s.edgesTo f.lt < (150 * usec : Nat)) then .deadlineMissed
  else .done

/-- A WRITE is applied: the entry is stored armed, stored disarmed, or left unchanged, as its status says (R88). -/
def State.applyWrite (s : State) (host : Bool) (i : Nat) (bytes : List Byte) : State × Status :=
  let f := Fixture.ofBytes bytes
  let st := s.writeStatus host i f
  if st = .refused then (s, st)
  else
    let g := { f with result := st }
    let s1 := s.setFix i (if st = .done then g else g.setArm false)
    let near := st = .done && f.armed && decide (s.edgesTo f.lt < (s.prewarmLead : Int))
    ({ s1 with fix := { s1.fix with commits := tdel s1.fix.commits i, noPre := if near then i :: s1.fix.noPre.erase i else s1.fix.noPre.erase i } }.pllKept, st)

/-- The occurrence of an armed entry is past its commit point, 100 µs before its line time, and has neither fired nor been skipped (R83, R90). -/
def State.pastCommit (s : State) (i : Nat) : Bool :=
  let f := s.fixt i
  f.armed && s.trk.epoch && ((tfind s.fix.commits i).isSome || decide (s.edgesTo f.lt ≤ (100 * usec : Nat)))

/-- `ENT_STAT` after a command: `RESULT` and one more command completed (R92). -/
def State.entDone (s : State) (st : Status) : State :=
  let w := s.rd Reg.FIX_ENT_STAT
  s.wr Reg.FIX_ENT_STAT (wrapInc (setFld (setFld w 0 1 0) 8 8 st) 16 16)

/-- The bytes in `ENT_DATA_0` to `ENT_DATA_7` (R92). -/
def State.entData (s : State) : List Byte :=
  (List.range 8).flatMap (fun n => leBytes 4 (s.rd (Reg.FIX_ENT_DATA n)).toNat)

/-- The state with `ENT_DATA` loaded from 32 bytes. -/
def State.setEntData (s : State) (b : List Byte) : State :=
  (List.range 8).foldl (fun s n => s.wr (Reg.FIX_ENT_DATA n) (word (leAt b (4 * n) 4))) s

/-- `FIX.ENT_STAT.BUSY`: a WRITE is held, whatever path it came by (R90). -/
def State.entBusy (s : State) : Bool := ! s.fix.held.isEmpty

/-- The index in `ENT_IDX`. -/
def State.entIdx (s : State) : Nat := s.rf Reg.FIX_ENT_IDX 0 13

/-- ENT_CMD READ (R87, R92): the entry is copied into `ENT_DATA`. A command written while `BUSY` is ignored and counted. -/
def State.entRead (s : State) : State :=
  if s.entBusy then s.ignored 0x004
  else (s.setEntData (s.fixt s.entIdx).bytes).entDone .done

/-- ENT_CMD WRITE (R88, R90): applied, or held past the commit point. -/
def State.entWrite (s : State) (host : Bool) : State :=
  if s.entBusy then s.ignored 0x004
  else if s.pastCommit s.entIdx && s.inRange host s.entIdx then
    let s1 := s.wb Reg.FIX_ENT_STAT 0 true
    { s1 with fix := { s1.fix with held := s1.fix.held ++ [{ idx := s.entIdx, bytes := s.entData, host := host }] } }
  else
    let (s1, st) := s.applyWrite host s.entIdx s.entData
    s1.entDone st

/-- The physical instant of a committed occurrence (R83): as converted at its commit point, with a slew in progress applied to it. -/
def State.fireEdge (s : State) (i e : Nat) : Nat :=
  if s.trk.slewNs = 0 then e else ((s.now : Int) + s.edgesTo (s.fixt i).lt).toNat

/-- After a step, the instants of the occurrences it did not skip are converted again (R83). -/
def State.reconvert (s : State) : State :=
  { s with fix := { s.fix with commits := s.fix.commits.map (fun c => (c.1, ((s.now : Int) + s.edgesTo (s.fixt c.1).lt).toNat)) } }

/-- The occurrence of entry `i` fires in the present fabric cycle (R90). -/
def State.firesNow (s : State) (i : Nat) : Bool :=
  tget 0 s.fix.firedAt i == s.fabric + 1 ||
    ((s.fixt i).armed && (match tfind s.fix.commits i with
      | some e => s.fireEdge i e / 2 == s.fabric
      | none => false))

/-- A DISARM of entry `i` (R90): refused outside the writer's range, with no effect in the fabric cycle in which the occurrence fires. R90 speaks of that occurrence alone: that the later ones of a periodic entry stay armed too, and the status is DONE, is the model's choice (log entry 155). -/
def State.disarm (s : State) (host : Bool) (i : Nat) : State × Status :=
  if ! s.inRange host i then (s, .refused)
  else if s.firesNow i then (s, .done)
  else
    let s1 := s.setFix i ((s.fixt i).setArm false)
    ({ s1 with fix := { s1.fix with commits := tdel s1.fix.commits i } }, .done)

/-- ENT_CMD DISARM (R90). -/
def State.entDisarm (s : State) (host : Bool) : State :=
  if s.entBusy then s.ignored 0x004
  else
    let (s1, st) := s.disarm host s.entIdx
    s1.entDone st

/-- After an occurrence, fired or skipped: `COUNT` falls, and the entry re-arms by `PERIOD` or disarms (R80). -/
def Fixture.repeat_ (f : Fixture) : Fixture :=
  let more := decide (f.period ≠ 0) && (f.count == 0 || decide (1 < f.count))
  let g := { f with count := f.count - 1 }
  if more then { g with lt := wrap64 (f.lt + f.period * 2 ^ 32) } else g.setArm false

/-- The edge on which entry `i` can fire: one fixture to an edge (R89). -/
def State.fireSlot (s : State) : Nat := max s.now s.fix.free

/-- Edges from the instant at which entry `i` can fire to its target instant: the one fixed at the commit point, where there is one (R83, R89). -/
def State.fireIn (s : State) (i : Nat) : Int :=
  (match tfind s.fix.commits i with
  | some e => (s.fireEdge i e : Int) - (s.now : Int)
  | none => s.edgesTo (s.fixt i).lt) - ((s.fireSlot - s.now : Nat) : Int)

/-- An entry of lower index and the same line time stands before `i`, and has neither fired nor been skipped (R89); one that the tolerance has left behind no longer does. -/
def State.behind (s : State) (i : Nat) : Bool :=
  s.fix.entries.any (fun e => decide (e.1 < i) && e.2.armed && e.2.action != 0 && e.2.lt == (s.fixt i).lt && decide (-(e.2.tolerance : Int) ≤ s.fireIn e.1))

/-- Engines an entry names: the target of ENGINE_WAKE and ENGINE_EVENT, the control engine of a line port's page, and the prewarmed one (R79, R91). -/
def Fixture.engines (f : Fixture) : List Nat :=
  (if f.action = 5 || f.action = 10 then [f.target] else if f.action ≤ 3 && 1 ≤ f.action then [92 + (f.target - 0x030) / 4] else []) ++
  (if f.prewarm then [if f.pwEng = 0xFFFF then f.target else f.pwEng] else [])

/-- The engines that carry out an entry's work, with the duties of R552. -/
def State.enginesOf (s : State) (f : Fixture) : List Nat := f.engines.map s.dutyOf

/-- A logical engine has work of its own: a request for a pool unit, or an operation of the security core (R28, R29). -/
def State.engWorks (s : State) (l : Nat) : Bool :=
  s.bench.accBusy.any (fun x => x.2.eng == l) || s.bench.accWait.any (fun x => x.2.eng == l) || s.sec.aesWait.any (fun x => x.2.2.eng == l)

/-- Between fixtures an engine with no work is clock-gated again (R28): when entry `i` fires, the engines awake stay so that have work, that the entry names, or that an armed entry within its prewarm lead names (log entry 135). -/
def State.regate (s : State) (f : Fixture) : State :=
  let soon := s.fix.entries.filter (fun e => e.2.armed && decide (s.edgesTo e.2.lt ≤ (s.prewarmLead : Int)))
  { s with eng := { s.eng with awake := s.eng.awake.filter (fun l => s.engWorks l || (s.enginesOf f).contains l || soon.any (fun e => (s.enginesOf e.2).contains l)) } }

/-- An occurrence has fired: `RESULT` DONE, `FIRE_ERR`, `FIRES`, the IRQ cause, and the repeat (R79, R80). -/
def State.fired (s : State) (i : Nat) : State :=
  let f := s.fixt i
  let g := { f with result := Status.done, fireErr := satField 16 (-(s.fireIn i)), fires := (f.fires + 1) % 65536 }
  let s1 := (s.regate f).setFix i g.repeat_
  let s2 := { s1 with fix := { s1.fix with commits := tdel s1.fix.commits i, firedAt := tins s1.fix.firedAt i (s.fabric + 1)
                                           free := s.fireSlot + 1, noPre := s1.fix.noPre.erase i } }
  if f.irq then s2.cause 0x004 1 else s2

/-- An occurrence is skipped (R91): `RESULT`, the miss registers and cause, a scorebook record of the FIX page, and the repeat. -/
def State.skip (s : State) (i : Nat) (st : Status) : State :=
  let f := s.fixt i
  let s1 := s.setFix i { f with result := st }.repeat_
  let s2 := { s1 with fix := { s1.fix with commits := tdel s1.fix.commits i, noPre := s1.fix.noPre.erase i } }
  let s3 := (s2.inc Reg.FIX_MISS_CNT).wr Reg.FIX_MISS_IDX (word (i % 2 ^ 13 + st * 2 ^ 16))
  ((s3.wr64 Reg.FIX_MISS_LT_LO Reg.FIX_MISS_LT_HI f.lt).cause 0x004 0).record 0x004 0x0521 0 (detail st 0 i)

/-- Every armed occurrence whose line time lies from `l0` up to `l1` is skipped with DEADLINE_MISSED (R70). -/
def State.skipInterval (s : State) (l0 l1 : Nat) : State :=
  (s.fix.entries.filter (fun e => e.2.armed && ! ltFuture l0 e.2.lt && ltFuture l1 e.2.lt)).foldl
    (fun s e => s.skip e.1 .deadlineMissed) s

/-- Superframe length in cycles of an `S_CODE` (R202). -/
def sfLen (code : Nat) : Nat := 4 * 2 ^ (min code 4)

/-- The switch point of a waiting mode request: the first cycle n with n mod S = 0 that begins at least 1 ms after acceptance (R489). -/
def State.switchPoint (s : State) (q : ModeReq) : Nat :=
  let sl := sfLen (s.rf (Reg.MAC_SF_STAT 0) 0 3)
  let n := (q.fromLt + 2 ^ 32 - 1) / 2 ^ 32
  wrap64 ((n + sl - 1) / sl * sl * 2 ^ 32)

/-- A transition takes effect at once, or starts at acceptance (R489): into SAFE; into or from the modes up to WATCH; while the tracker is in ACQUIRE. -/
def State.atOnce (s : State) (m : Nat) : Bool := m == 9 || decide (m ≤ 2) || decide (s.mode ≤ 2) || s.trkState == 0

/-- A mode change waits whose switch point lies no later than line time `f`: what has that line time is handled under the new mode, and so after the switch (R489). -/
def State.switchFirst (s : State) (f : Nat) : Bool := match s.md.wait, s.md.change with
  | some q, none => ! s.atOnce q.mode && ! ltFuture (s.switchPoint q) f && ! ltFuture (s.switchPoint q) s.lt
  | _, _ => false

/-- Whether occurrence `i` of the given action is due at the present instant: `none` where the entry does not stand armed for it, line time has no epoch (R71), its time has not come, an entry of the same line time goes first (R89), or a mode switch due before it has not been made (R489); else whether it is within its tolerance and, for a fine-timer action, the fast clock runs (R81, R82, R91). An armed NONE entry is never due: R81 gives it neither a fire nor a skip, and that it stays armed is the model's choice (log entry 156). -/
def State.due (s : State) (i action : Nat) : Option Bool :=
  let f := s.fixt i
  if ! f.armed || f.action != action || ! s.trk.epoch || s.behind i || s.switchFirst f.lt then none
  else
    let d := s.fireIn i
    if d > (f.tolerance : Int) then none
    else some (decide (-(f.tolerance : Int) ≤ d) && (! f.fine s.mode || decide (s.mode < 3) || s.rb Reg.CLK_CLK_STAT 0))

/-- The mode stops fine-timer fixtures (R82): DORMANT, WATCH and OFF. -/
def State.fineStopped (s : State) (f : Fixture) : Bool := decide (s.mode < 3) && f.fine s.mode

end Sys2Proof.Machine
end

