-- ==== Sys2Proof/Machine/Operands.lean ====
section
/-! DEFINITION. Operand forms and the tables they index: band plans, beacons, superframe lengths, slot-schedule entries. -/

namespace Sys2Proof.Machine

/-! ## Band plans (R119, R123) -/

/-- A row of the band-plan table (R119): first tone, number of tones N, preamble tones M, header symbols H, uplink subchannels, and whether access is by the band C rule alone. -/
structure BandPlan where
  first : Nat
  n : Nat
  m : Nat
  h : Nat
  sub : Nat
  bandC : Bool
  /-- Data tones of symbol s for s mod 4 = 0 to 3 (R123). -/
  d : List Nat
deriving DecidableEq, Repr

/-- The band plan of a code of `BAND_c.PLAN`; none for OFF (R119). -/
def bandPlan : Nat → Option BandPlan
  | 1 => some ⟨2, 59, 15, 4, 3, false, [51, 52, 52, 51]⟩
  | 2 => some ⟨61, 20, 5, 11, 1, false, [17, 18, 18, 17]⟩
  | 3 => some ⟨81, 9, 2, 24, 0, true, [7, 8, 8, 8]⟩
  | 4 => some ⟨61, 35, 8, 7, 2, true, [30, 31, 31, 30]⟩
  | 5 => some ⟨7, 307, 77, 1, 19, false, [268, 269, 269, 268]⟩
  | 6 => some ⟨7, 282, 71, 1, 17, false, [246, 247, 247, 247]⟩
  | _ => none

/-- Beacon symbols N_sym and length B_SL in slices, by plan and `BCN_MODE` (R209). -/
def beaconLen (plan mode : Nat) : Nat × Nat :=
  match plan, mode with
  | 1, 1 => (46, 112) | 1, 2 => (66, 160) | 1, 3 => (126, 305)
  | 2, 1 => (129, 313) | 2, 2 => (187, 453) | 2, 3 => (361, 874)
  | 3, 1 => (306, 741) | 3, 2 => (446, 1080) | 3, 3 => (866, 2096)
  | 4, 1 => (77, 187) | 4, 2 => (111, 269) | 4, 3 => (213, 516)
  | 5, 1 => (11, 27) | 5, 2 => (15, 37) | 5, 3 => (27, 66)
  | 6, 1 => (11, 27) | 6, 2 => (15, 37) | 6, 3 => (27, 66)
  | _, _ => (0, 0)

/-- The offset o_c in slices of a conductor's quiet region (R204). -/
def quietOfs (c : Nat) : Nat := 16 * c

/-- Regions of a superframe on a conductor (R204); a serve window has a priority. -/
inductive SfRegion where
  | beacon
  | serve (q : Nat)
  | csma
  | scheduled
  | quiet
deriving DecidableEq, Repr

/-- Lengths of a conductor's regions in slices, whether a band C plan has no scheduled region, and the superframe's slices (R204, R205). -/
structure SfRegions where
  beacon : Nat
  serve : Nat
  cont : Nat
  quiet : Nat
  bandC : Bool
  len : Nat
deriving DecidableEq, Repr

/-- The quiet region's first slice on conductor `c` (R204). -/
def SfRegions.quietAt (r : SfRegions) (c : Nat) : Nat := r.len - r.quiet - quietOfs c

/-- The end of the contention region (R204, R205). -/
def SfRegions.contEnd (r : SfRegions) : Nat := if r.bandC then r.len else r.beacon + r.cont

/-- The region in which slice `u` of conductor `c` lies (R204, R205). -/
def SfRegions.at_ (r : SfRegions) (c u : Nat) : SfRegion :=
  if u < r.beacon then .beacon
  else if r.quietAt c ≤ u && decide (u < r.quietAt c + r.quiet) then .quiet
  else if r.contEnd ≤ u then .scheduled
  else if u < r.beacon + 4 * r.serve then .serve (3 - (u - r.beacon) / r.serve)
  else .csma

/-- Slices from `u` to the end of the contention region or to the quiet region (R215). -/
def SfRegions.contLeft (r : SfRegions) (c u : Nat) : Nat :=
  if u < r.quietAt c && r.quietAt c < r.contEnd then r.quietAt c - u else r.contEnd - u

/-! ## Slot-schedule entries (R216) -/

/-- A slot-schedule entry (R216). -/
structure SlotEntry where
  start : Nat
  len : Nat
  kind : Nat
  cond : Nat
  cset : Nat
  valid : Bool
  subch : Nat
  peer : Nat
  peer2 : Nat
  mapId : Nat
  nsym : Nat
  repExp : Nat
  ph : Nat
deriving DecidableEq, Repr

/-- The entry that 16 bytes spell (R216). -/
def SlotEntry.ofBytes (b : List Byte) : SlotEntry :=
  let w4 := leAt b 4 1
  { start := leAt b 0 2 % 4096, len := leAt b 2 2 % 4096, kind := leAt b 2 2 / 4096
    cond := w4 % 4, cset := w4 / 4 % 8, valid := decide (w4 / 32 % 2 = 1)
    subch := leAt b 5 1 % 32, peer := leAt b 6 3 % 2 ^ 20, peer2 := leAt b 9 3 % 2 ^ 20
    mapId := leAt b 12 1, nsym := leAt b 13 1, repExp := leAt b 14 1 % 8, ph := leAt b 15 1 % 128 }

/-- Broadband slots (R217). -/
def SlotEntry.isBb (e : SlotEntry) : Bool := e.kind == 4 || e.kind == 5

/-- Conductors a slot occupies: `CSET` for broadband, `COND` otherwise. -/
def SlotEntry.conds (e : SlotEntry) : List Nat :=
  if e.isBb then (List.range 3).filter (fun c => decide (e.cset / 2 ^ c % 2 = 1)) else [e.cond]

/-- Two entries are active in a common superframe (R216, R219). -/
def commonSf (a b : SlotEntry) : Bool := decide (a.ph % 2 ^ (min a.repExp b.repExp) = b.ph % 2 ^ (min a.repExp b.repExp))

/-- Two slice intervals meet. -/
def meets (a la b lb : Nat) : Bool := decide (a < b + lb) && decide (b < a + la)

/-- Where word `w` of the slot schedule of port `p` lies in the register map, by bank (R216). -/
def schedKey (p bank w : Nat) : Nat := winBase + p * 2 ^ 20 + bank * 2 ^ 17 + w * 4

/-- The 16 bytes of schedule entry `i`. -/
def State.schedBytes (s : State) (p bank i : Nat) : List Byte :=
  (List.range 4).flatMap (fun j => leBytes 4 (s.rd (schedKey p bank (4 * i + j))).toNat)

/-- Schedule entry `i` of a bank. -/
def State.schedEntry (s : State) (p bank i : Nat) : SlotEntry := SlotEntry.ofBytes (s.schedBytes p bank i)

/-- Indices of a bank's valid entries, ascending: those whose second word has VALID (bit 5 of byte 4) set. -/
def State.schedValid (s : State) (p bank : Nat) : List Nat :=
  (s.regs.filter (fun kv => decide (schedKey p bank 0 ≤ kv.1) && decide (kv.1 < schedKey p bank 16384)
    && (kv.1 - schedKey p bank 0) / 4 % 4 == 1 && bit kv.2 5)).map (fun kv => (kv.1 - schedKey p bank 0) / 16)

/-! ## Requests for pool units (R30) -/

/-- The order of R30 between two waiting requests: deadlines first, the earlier first; then the older; then the lower engine. R30 orders deadline requests by their deadlines alone: that two of one deadline go by age and engine too is the model's choice (log entry 150). -/
def AccReq.before (a b : AccReq) : Bool := match a.deadline, b.deadline with
  | some x, some y => if x = y then (if a.at_ / 2 = b.at_ / 2 then decide (a.eng < b.eng) else decide (a.at_ < b.at_)) else decide (x < y)
  | some _, none => true
  | none, some _ => false
  | none, none => if a.at_ / 2 = b.at_ / 2 then decide (a.eng < b.eng) else decide (a.at_ < b.at_)

/-- The request served next (R30). -/
def nextReq : List AccReq → Option AccReq
  | [] => none
  | r :: rs => match nextReq rs with
    | some q => if AccReq.before q r then some q else some r
    | none => some r

end Sys2Proof.Machine
end

