-- ==== Sys2Proof/Machine/Banks.lean ====
section
/-! DEFINITION. Configuration banks, swap groups and soft resets (R44, R50 to R59), with the checks of a port's configuration and slot schedule at a swap trigger (R205, R219, R229). -/

namespace Sys2Proof.Machine

/-! ## Banked values -/

/-- The key of a banked register in physical bank `b` (R50). -/
def bankKey (b a : Nat) : Nat := a + b * bankStride

/-- The active value of a banked register. -/
def State.act (s : State) (a : Nat) : Word := s.rd (bankKey (s.page (a / 0x1000)).active a)

/-- A field of the active value of a banked register. -/
def State.af (s : State) (a lo width : Nat) : Nat := fld (s.act a) lo width

/-- A bit of the active value of a banked register. -/
def State.ab (s : State) (a n : Nat) : Bool := bit (s.act a) n

/-- The UP port: the lowest-numbered one whose `ROLE` is UP (R225). -/
def State.upPort (s : State) : Option Nat := (List.range 4).find? (fun p => s.rf (Reg.MAC_MAC_CTL p) 0 2 == 2)

/-- The role in effect on port `p`: 0 OFF, 1 COORD, 2 UP (R225). -/
def State.roleInEffect (s : State) (p : Nat) : Nat :=
  let r := s.rf (Reg.MAC_MAC_CTL p) 0 2
  let up := if r = 2 && s.upPort == some p then 2 else 0
  match s.mode with
  | 4 => if r = 1 then 1 else 0
  | 10 => if r = 1 then 1 else 0
  | 5 => up
  | 6 => if r = 1 then 1 else up
  | 3 => up
  | 7 => up
  | 8 => up
  | 9 => up
  | _ => 0

/-- Superframe length in use, in cycles (R202, R206). -/
def State.sfCycles (s : State) : Nat := sfLen (s.rf (Reg.MAC_SF_STAT 0) 0 3)

/-- S follows the beacon tracked on the UP port (R202): in RELAY and FOLLOW; that it does so too in the other modes that receive beacons is the model's reading (log entry 176). -/
def State.followsS (s : State) : Bool := s.mode != 4 && s.mode != 10 && s.upPort.isSome

/-- The quiet length in force (R223): of page 0x060 in FIELD, of the tracked beacon in RELAY and FOLLOW. -/
def State.quietSl (s : State) : Nat :=
  match s.upPort with
  | some p => if s.mode = 5 || s.mode = 6 then s.rf (Reg.MAC_UP_PARAM p) 8 4 else s.af (Reg.MAC_SF_CFG 0) 12 4
  | none => s.af (Reg.MAC_SF_CFG 0) 12 4

/-- The bank of page `pg` that will be active when the pages in `sw` have swapped (R205). -/
def State.bankAfter (s : State) (sw : List Nat) (pg : Nat) : Nat :=
  if sw.contains pg then 1 - (s.page pg).active else (s.page pg).active

/-- A page's lock is engaged (R45, R46). -/
def State.locked (s : State) (p : Nat) : Bool := (s.page p).keyed || (s.page p).policy

/-- `BANK_STAT.PEND` (R53, R57). -/
def PageSt.pend (pg : PageSt) : Bool := pg.soloPend || pg.groupPend.isSome

/-! ## Configuration checks (R205, R219, R229) -/

/-- The S code that will be in the bank active after the swap of `sw` (R205). -/
def State.sAfter (s : State) (sw : List Nat) : Nat := sfLen (fld (s.rd (bankKey (s.bankAfter sw 0x060) (Reg.MAC_SF_CFG 0))) 0 3)

/-- A conductor's region lengths after the swap of `sw`: B_SL, CONT_SL, SERVE_SL, QUIET_SL, S, plan (R205). -/
def State.regionsAfter (s : State) (sw : List Nat) (p c : Nat) : Nat × Nat × Nat × Nat × Nat × Nat :=
  let cfg := s.rd (bankKey (s.bankAfter sw (0x060 + 4 * p)) (Reg.MAC_SF_CFG p))
  let q := fld (s.rd (bankKey (s.bankAfter sw 0x060) (Reg.MAC_SF_CFG 0))) 12 4
  let plan := fld (s.rd (bankKey (s.bankAfter sw (0x040 + 4 * p)) (Reg.NBP_BAND p c))) 0 3
  ((beaconLen plan (fld cfg 4 2)).2, fld cfg 16 12, fld cfg 8 4, q, s.sAfter sw, plan)

/-- Conductor `c` of port `p` has a valid configuration after the swap of `sw` (R205). -/
def State.condValid (s : State) (sw : List Nat) (p c : Nat) : Bool :=
  let (b, cont, serve, q, sl, _) := s.regionsAfter sw p c
  decide (4 * serve + 1 ≤ cont) && decide (b + cont + q + quietOfs c + 1 ≤ 48 * sl)

/-- The region lengths an entry of the schedule is set against (R204, R219): S and the quiet length of the tracked beacon where it is followed, and on the UP port its contention and beacon lengths too. -/
def State.slotRegions (s : State) (sw : List Nat) (p c : Nat) : Nat × Nat × Nat × Nat × Nat × Nat :=
  let (b, cont, serve, q, sl, plan) := s.regionsAfter sw p c
  let sl1 := if s.followsS then s.sfCycles else sl
  let q1 := if s.followsS then s.quietSl else q
  if s.followsS && s.upPort == some p then ((beaconLen plan s.mac.up.bcnMode).2, s.rf (Reg.MAC_UP_PARAM p) 16 12, s.rf (Reg.MAC_UP_PARAM p) 4 4, q1, sl1, plan)
  else (b, cont, serve, q1, sl1, plan)

/-- Port `p` has a valid configuration after the swap of `sw` (R205). -/
def State.cfgValid (s : State) (sw : List Nat) (p : Nat) : Bool := (List.range 3).all (s.condValid sw p)

/-- The first check of R219 that entry `e` of port `p` fails, 0 where none; `ok` says that the port's configuration is valid, `others` are the entries it may collide with. -/
def State.slotCheck (s : State) (sw : List Nat) (p : Nat) (ok : Bool) (others : List SlotEntry) (e : SlotEntry) : Nat :=
  let sl := (s.slotRegions sw p 0).2.2.2.2.1
  let reg (c : Nat) := s.slotRegions sw p c
  let band (c : Nat) := (bandPlan (reg c).2.2.2.2.2).getD ⟨0, 0, 0, 0, 0, false, []⟩
  let cs := e.conds
  let nb := ! e.isBb
  let badField := e.kind == 0 || decide (9 < e.kind) || e.len == 0 || decide (3072 < e.len) || e.cond == 3
    || (e.isBb && e.cset == 0) || (e.kind == 3 && e.nsym == 0)
  if decide (48 * sl < e.start + e.len) || badField then 1
  else if cs.any (fun c => meets e.start e.len 0 (reg c).1) then 2
  else if nb && cs.any (fun c => decide (e.start < (reg c).1 + (reg c).2.1) || (band c).bandC) then 3
  else if cs.any (fun c =>
      let q := (reg c).2.2.2.1
      meets e.start e.len (48 * sl - q - quietOfs c - 1) (q + 2)) then 4
  else if others.any (fun o =>
      o.isBb == e.isBb && commonSf o e && meets o.start o.len e.start e.len && o.conds.any (fun c => cs.contains c)
      && ! (o.kind == 3 && e.kind == 3 && o.start == e.start && o.len == e.len && o.nsym == e.nsym && o.mapId == e.mapId && o.subch != e.subch)) then 5
  else if others.any (fun o =>
      commonSf o e && meets o.start o.len e.start e.len && o.conds.any (fun c => cs.contains c)
      && ((e.kind == 4 && (o.kind == 2 || o.kind == 3)) || (o.kind == 4 && (e.kind == 2 || e.kind == 3))
        || (e.kind == 5 && o.kind == 1) || (o.kind == 5 && e.kind == 1))) then 6
  else if e.kind == 3 &&
      (! bit (s.rd (bankKey (s.bankAfter sw (0x040 + 4 * p)) (Reg.NBP_BAND p e.cond))) 4 || decide ((band e.cond).n / 16 ≤ e.subch)) then 7
  else if decide (2 ^ e.repExp ≤ e.ph) then 8
  else if ! ok then 9
  else 0

/-- The first failing entry of a port's schedule in the bank active after the swap, with its code (R219); each entry is set against the entries of the bank other than itself. -/
def State.schedBad (s : State) (sw : List Nat) (p : Nat) : Option (Nat × Nat) :=
  let bank := s.bankAfter sw (0x061 + 4 * p)
  let idx := s.schedValid p bank
  let ok := s.cfgValid sw p
  let hits := idx.map (fun i => (i, s.slotCheck sw p ok ((idx.filter (fun j => j != i)).map (s.schedEntry p bank)) (s.schedEntry p bank i)))
  hits.find? (fun h => h.2 != 0)

/-- `SCHED_STAT` and `SCHED_BAD` for a refused swap (R205, R219). -/
def State.markBad (s : State) (p i code : Nat) : State :=
  (s.wr (Reg.MAC_SCHED_STAT p) (word (1 + i * 2 ^ 4 + code * 2 ^ 16))).cause (0x063 + 4 * p) 1

/-- The swap includes a page whose change can make port `p`'s configuration invalid (R205). -/
def touchesCfg (sw : List Nat) (p : Nat) : Bool :=
  sw.contains 0x060 || sw.contains (0x060 + 4 * p) || sw.contains (0x061 + 4 * p) || sw.contains (0x040 + 4 * p)

/-- The checks made at the trigger of a swap of the pages `sw`: the marks left in the state, and whether every member is ready (R58, R205, R219). -/
def State.swapChecks (s : State) (sw : List Nat) : State × Bool :=
  (List.range 4).foldl (fun (acc : State × Bool) p =>
    if touchesCfg sw p && ! s.cfgValid sw p then (acc.1.markBad p 0 9, false)
    else if sw.contains (0x061 + 4 * p) then
      match s.schedBad sw p with
      | some (i, code) => (acc.1.markBad p i code, false)
      | none => acc
    else acc) (s, true)

/-- A member is ready: `BLK_CTL.EN` 1 and no copy in progress (R58). -/
def State.memberReady (s : State) (p : Nat) : Bool := s.blkEn p && ! (s.page p).copying

/-! ## The exchange -/

/-- `SCHED_CNT` and `SCHED_STAT` after a swap of a SCHED page (R231). -/
def State.schedRefresh (s : State) (p : Nat) : State :=
  (s.wr (Reg.MAC_SCHED_CNT p) (word (s.schedValid p (s.page (0x061 + 4 * p)).active).length)).wr (Reg.MAC_SCHED_STAT p) 0

/-- B_SL and N_sym shown in the STAT page follow the plan and beacon mode in force (R209, R233). -/
def State.bcnRefresh (s : State) (p : Nat) : State :=
  (List.range 3).foldl (fun s c =>
    let l := beaconLen (s.af (Reg.NBP_BAND p c) 0 3) (s.af (Reg.MAC_SF_CFG p) 4 2)
    s.wr (Reg.MAC_BCN_LEN p c) (word (l.2 + l.1 * 2 ^ 16))) s

/-- The detectors are reset (R355): on a swap of page 0x078 that changes `SRV_IN`, and on a converter fallback. -/
def State.detReset (s : State) : State := { s with srv := { s.srv with det := [] } }

/-- Page `p` exchanges its banks (R50, R58): roles, `EPOCH`, `SWAP_DONE`; the shadow is no longer dirty. -/
def State.exchange (s : State) (p : Nat) : State :=
  let pg := s.page p
  let s1 := (s.setPage p { pg with active := 1 - pg.active, soloPend := false, groupPend := none, dirty := false
                                   epoch := (pg.epoch + 1) % 65536, swapCycle := s.fabric + 1
                                   was := if 0x040 ≤ p && p < 0x050 && p % 4 == 0 then ((s.fabric + 1, (List.range 3).map (fun c => s.af (Reg.NBP_BAND (p / 4 % 4) c) 0 3)) :: pg.was).take 1000 else [] }).cause p 30
  if p == 0x078 && s1.act Reg.SRV_SRV_IN != s.act Reg.SRV_SRV_IN then s1.detReset
  else if 0x060 ≤ p && p < 0x070 && p % 4 == 1 then s1.schedRefresh ((p - 0x060) / 4)
  else if (0x060 ≤ p && p < 0x070 && p % 4 == 0) || (0x040 ≤ p && p < 0x050 && p % 4 == 0) then s1.bcnRefresh (p / 4 % 4)
  else s1

/-- A pending swap of page `p` does not take place: `PEND` clears and `SWAP_FAILED` is set (R58). -/
def State.swapFailed (s : State) (p : Nat) : State :=
  (s.setPage p { s.page p with soloPend := false, groupPend := none }).cause p 29

/-- A change of S waits for an aligned cycle, or no longer does where page 0x060 gives the S in use: `S_PEND` on every port (R206). -/
def State.sWaits (s : State) : State :=
  if s.followsS then s
  else (List.range 4).foldl (fun t p => t.wb (Reg.MAC_SF_STAT p) 3 (s.af (Reg.MAC_SF_CFG 0) 0 3 != s.rf (Reg.MAC_SF_STAT 0) 0 3)) s

/-- When the pages `sw` swap and page 0x060 is among them, its S is the one to be in use (R206). -/
def State.sPend (s : State) (sw : List Nat) : State := if sw.contains 0x060 then s.sWaits else s

/-! ## Copies (R51) -/

/-- The banked rows of a page: registers with an RWB mask. -/
def rwbMask (a : Nat) : Nat := match findRow (pageRows (a / 0x1000)) (a % 0x1000) with
  | some r => r.rwb
  | none => 0

/-- Every banked register of page `pg` in the shadow bank takes the active bank's value; the slot schedule of a SCHED page, and the filter memory, likewise (R51). -/
def State.copyActive (s : State) (pg : Nat) : State :=
  let act := (s.page pg).active
  let sh := 1 - act
  let s1 := (List.range 1024).foldl (fun st j =>
    let a := pg * 0x1000 + 4 * j
    if rwbMask a = 0 && ! (0x030 ≤ pg && pg < 0x040 && 0x780 ≤ 4 * j) then st
    else st.wr (bankKey sh a) (st.rd (bankKey act a))) s
  if 0x060 ≤ pg && pg < 0x070 && pg % 4 == 1 then
    let p := (pg - 0x060) / 4
    let cleared := (s1.regs.filter (fun kv => decide (schedKey p sh 0 ≤ kv.1) && decide (kv.1 < schedKey p sh 16384))).foldl
      (fun st kv => st.wr kv.1 0) s1
    (s1.regs.filter (fun kv => decide (schedKey p act 0 ≤ kv.1) && decide (kv.1 < schedKey p act 16384))).foldl
      (fun st kv => st.wr (kv.1 - schedKey p act 0 + schedKey p sh 0) kv.2) cleared
  else s1

/-- A write of `BANK_CTL.COPY` (R51): ignored while a swap is pending or a copy runs. -/
def State.bankCopy (s : State) (p : Nat) : State :=
  let pg := s.page p
  if ! banked p || pg.srst || pg.pend || pg.copying then s
  else s.setPage p { pg with copying := true }

/-- A banked write lands in bank `b` (R50): the shadow becomes dirty. -/
def State.bankWrite (s : State) (p key : Nat) (v : Word) : State :=
  (s.wr key v).setPage p { s.page p with dirty := true }

/-- BANK_COPY_DONE (R51): the shadow bank equals the active bank, `DIRTY` clears, and the writes held for the copy are applied in order. -/
def State.bankCopyDone (s : State) (p : Nat) : State :=
  let pg := s.page p
  if ! pg.copying then s
  else
    let s1 := (s.copyActive p).setPage p { pg with copying := false, dirty := false, held := [] }
    pg.held.foldl (fun st kv => st.bankWrite p kv.1 kv.2) s1

/-! ## Solo swaps (R52, R53, R58, R59) -/

/-- A write of `BANK_CTL.REQ` (R53). -/
def State.soloRequest (s : State) (p : Nat) : State :=
  let pg := s.page p
  if ! banked p || pg.srst then s
  else if s.rb (Reg.BANK_CTL p) 4 || pg.pend then s.ignored p
  else s.setPage p { pg with soloPend := true, reqAt := s.now, reqLt := s.lt }

/-- Superframe slice 0 of conductor A of port `p` in cycle count `n`, as a line time (R52, R67, R226). -/
def State.sfStart (s : State) (p n : Nat) : Nat :=
  let ofs := (s.rd (Reg.LTIME_COND_OFS p 0)).toNat
  let sl := if s.rf (Reg.MAC_MAC_CTL p) 0 2 = 2 then s.rf (Reg.MAC_UP_STAT p) 4 6 else 0
  n * 2 ^ 32 + (sl * 2 ^ 32 + 47) / 48 + ofs

/-- The number of the superframe of port `p` that line time `l` lies in, by conductor A (R52, R202). -/
def State.sfIndex (s : State) (p l : Nat) : Nat :=
  let len := sfLen (s.rf (Reg.MAC_SF_STAT 0) 0 3)
  (l + 2 ^ 64 - s.sfStart p 0) % 2 ^ 64 / (len * 2 ^ 32)

/-- The trigger `trig` (R52) of a swap accepted at edge `reqAt`, line time `reqLt`, has come by edge `t`. -/
def State.triggered (s : State) (trig port reqAt reqLt t : Nat) : Bool :=
  match trig with
  | 0 => decide (reqAt / 2 < t / 2)
  | 1 => decide (reqLt * 48 / 2 ^ 32 ≠ s.ltAt t * 48 / 2 ^ 32)
  | 2 => decide (reqLt / 2 ^ 32 ≠ s.ltAt t / 2 ^ 32)
  | 3 => decide (s.sfIndex port reqLt ≠ s.sfIndex port (s.ltAt t))
  | _ => false

/-- The trigger of page `p`'s pending solo swap has come by edge `t`. -/
def State.soloTriggered (s : State) (p t : Nat) : Bool :=
  s.triggered (s.rf (Reg.BANK_CTL p) 5 2) (s.rf (Reg.BANK_CTL p) 8 2) (s.page p).reqAt (s.page p).reqLt t

/-- A write of `BANK_CTL.CANCEL` (R59): no effect in the trigger's fabric cycle. -/
def State.soloCancel (s : State) (p : Nat) : State :=
  let pg := s.page p
  if pg.srst || ! pg.soloPend || s.soloTriggered p (2 * s.fabric + 1) then s
  else s.setPage p { pg with soloPend := false }

/-- SOLO_SWAP (R52, R58): at its trigger the pending solo swap takes place, or fails where the page is not ready. -/
def State.soloSwap (s : State) (p : Nat) : State :=
  if ! (s.page p).soloPend || ! s.soloTriggered p s.now then s
  else
    let (s1, ok) := s.swapChecks [p]
    if ok && s1.memberReady p then (s1.exchange p).sPend [p] else s1.swapFailed p

/-! ## Group swaps (R55 to R59) -/

/-- Swap group `g`. -/
def State.group (s : State) (g : Nat) : GroupSt := tget {} s.groups g

/-- The state with swap group `g` set. -/
def State.setGroup (s : State) (g : Nat) (v : GroupSt) : State := { s with groups := tset {} s.groups g v }

/-- Every banked page (R39, R55). -/
def bankedPages : List Nat := (List.range 0x140).filter banked

/-- The pages that name group `g` with `GROUP_EN` (R55). -/
def State.groupPages (s : State) (g : Nat) : List Nat :=
  bankedPages.filter (fun p => s.rb (Reg.BANK_CTL p) 4 && s.rf (Reg.BANK_CTL p) 0 4 == g)

/-- `GRP_STAT` with a result (R58). -/
def State.groupResult (s : State) (g : Nat) (st : Status) : State :=
  s.wr (Reg.BANK_GRP_STAT g) (setFld (setFld (s.rd (Reg.BANK_GRP_STAT g)) 0 1 0) 8 8 st)

/-- A group request fails with a status: no member swaps, each shows `SWAP_FAILED` (R58). -/
def State.groupFail (s : State) (g : Nat) (st : Status) : State :=
  let ms := (s.group g).members
  let s1 := ms.foldl (fun s p => s.swapFailed p) s
  let s2 := (s1.setGroup g {}).groupResult g st
  if st = .deadlineMissed then s2.record 0x005 0x0621 0 (detail st 0 g) else s2

/-- The line time in `GRP_LT_HI` and `GRP_LT_LO`. -/
def State.groupLt (s : State) (g : Nat) : Nat := (s.rd (Reg.BANK_GRP_LT_HI g)).toNat * 2 ^ 32 + (s.rd (Reg.BANK_GRP_LT_LO g)).toNat

/-- A write of `GRP_REQ.REQ` (R57, R58): the members are fixed; AT_LINE_TIME enters a bank-swap fixture at index g. -/
def State.groupRequest (s : State) (g : Nat) : State :=
  if (s.group g).pend then s.ignored 0x005
  else
    let ms := s.groupPages g
    if ms.isEmpty then (s.wb (Reg.BANK_GRP_STAT g) 1 false).groupResult g .refused
    else
      let s1 := (s.wr (Reg.BANK_GRP_STAT g) (setFld (setFld (s.rd (Reg.BANK_GRP_STAT g)) 0 1 1) 1 1 0)).setGroup g
        { pend := true, members := ms, reqAt := s.now, reqLt := s.lt }
      let s2 := ms.foldl (fun s p => s.setPage p { s.page p with groupPend := some g }) s1
      if s.rf (Reg.BANK_GRP_CTL g) 0 3 = 4 then
        if ltFuture (s.groupLt g) s.lt then
          s2.setFix g { lt := s.groupLt g, target := g, action := 0x04, flags := 1 }
        else s2.groupFail g .deadlineMissed
      else s2

/-- The trigger of group `g`'s pending request has come by edge `t` (R52). -/
def State.groupTriggered (s : State) (g t : Nat) : Bool :=
  if s.rf (Reg.BANK_GRP_CTL g) 0 3 = 4 then ! ltFuture (s.groupLt g) (s.ltAt t)
  else s.triggered (s.rf (Reg.BANK_GRP_CTL g) 0 3) (s.rf (Reg.BANK_GRP_CTL g) 4 2) (s.group g).reqAt (s.group g).reqLt t

/-- A write of `GRP_REQ.CANCEL` (R58, R59): no effect in the trigger's fabric cycle. -/
def State.groupCancel (s : State) (g : Nat) : State :=
  if ! (s.group g).pend || s.groupTriggered g (2 * s.fabric + 1) then s
  else
    let s1 := (s.group g).members.foldl (fun s p => s.setPage p { s.page p with groupPend := none }) s
    let s2 := (s1.setGroup g {}).wr (Reg.BANK_GRP_STAT g) (setFld (setFld (s1.rd (Reg.BANK_GRP_STAT g)) 0 1 0) 1 1 1)
    s2.setFix g ((s2.fixt g).setArm false)

/-- The line time of a group's swap edge (R56): the commanded one on the first edge that reaches it, as the worked example of chapter 02 reads it. -/
def State.swapLt (s : State) (g : Nat) : Nat :=
  if s.rf (Reg.BANK_GRP_CTL g) 0 3 = 4 && ltFuture (s.groupLt g) (s.ltAt (s.now - 1)) then s.groupLt g else s.lt

/-- All members of group `g` exchange banks on one edge (R55, R58), when every one is ready and some remain. -/
def State.groupExchange (s : State) (g : Nat) : State :=
  let ms := (s.group g).members
  let (s1, ok) := s.swapChecks ms
  if ! ms.isEmpty && ok && ms.all s1.memberReady then
    let s2 := (ms.foldl (fun s p => s.exchange p) s1).sPend ms
    let w := setFld (s2.rd (Reg.BANK_GRP_STAT g)) 0 1 0
    let s3 := (s2.setGroup g {}).wr (Reg.BANK_GRP_STAT g) (wrapInc (setFld w 8 8 Status.done) 16 16)
    s3.wr64 (Reg.BANK_GRP_SWAP_LT_LO g) (Reg.BANK_GRP_SWAP_LT_HI g) (s.swapLt g)
  else s1.groupFail g .refused

/-- GROUP_SWAP (R58): the trigger of a group whose request is pending; AT_LINE_TIME comes through its fixture instead. -/
def State.groupSwap (s : State) (g : Nat) : State :=
  if (s.group g).pend && s.rf (Reg.BANK_GRP_CTL g) 0 3 != 4 && s.groupTriggered g s.now then s.groupExchange g else s

/-! ## Soft resets (R44, R57) -/

/-- Page `p` withdraws from a pending swap (R44): a group no longer counts it. -/
def State.withdraw (s : State) (p : Nat) : State :=
  match (s.page p).groupPend with
  | some g => s.setGroup g { s.group g with members := (s.group g).members.filter (fun q => q != p) }
  | none => s

/-- Block registers a soft reset leaves as they are: `FREQ`, which returns to 0 by `PORESET_N` and OFF alone (R602), and (R44) `EXCL_n` of TX pages, the exclusion-list registers, `MUTE_STAT`, and `SRV_CTL` while a list is installed. -/
def State.srstKeeps (s : State) (a : Nat) : Bool :=
  let p := a / 0x1000
  let o := a % 0x1000
  (0x030 ≤ p && p < 0x040 && p % 4 == 1 && decide (0x780 ≤ o) && decide (o < 0x980))
    || a == Reg.LTIME_FREQ || a == Reg.SRV_XL_STAT || a == Reg.SRV_XL_GEN_LO || a == Reg.SRV_XL_GEN_HI || a == Reg.SRV_MUTE_STAT
    || (a == Reg.SRV_SRV_CTL && s.rb Reg.SRV_XL_STAT 0)

/-- Header registers a soft reset returns to reset: `BLK_CTL` and `INT_CAUSE` (R44). -/
def srstHeader (o : Nat) : Bool := o == 0x00C || o == 0x014

/-- The counters of page `p` that hardware raised in this fabric cycle stand at 1 after a reset in it (R49). -/
def State.recount (s : State) (p : Nat) : State :=
  if s.ctrCycle = s.fabric + 1 then
    (s.ctrInc.filter (fun x => x.1 / 0x1000 == p && decide (0x040 ≤ x.1 % 0x1000))).foldl (fun s x => s.wf x.1 x.2.1 x.2.2 1) s
  else s

/-- Counters that hardware raised in the fabric cycle of a reset end at 1 where the reset clears them (R49). -/
def State.recountAll (s : State) (cycle : Nat) (inc : List (Nat × Nat × Nat)) : State :=
  if cycle = s.fabric + 1 then inc.foldl (fun s x => if s.rf x.1 x.2.1 x.2.2 = fld (keyReset x.1) x.2.1 x.2.2 then s.wf x.1 x.2.1 x.2.2 1 else s) s else s

/-- The registers of page `p`, both banks and its banked memory, and the routes of the MSIX page, at their reset values, as a soft reset leaves them (R44). -/
def State.resetRegs (s : State) (p : Nat) : State :=
  { s with regs := s.regs.filter (fun kv =>
      let k := kv.1
      let a := if bankStride ≤ k && k < msgBase then k - bankStride else k
      let inPage := (decide (k < 2 ^ 26) || (decide (bankStride ≤ k) && decide (k < msgBase))) && a / 0x1000 == p
      let inSched := 0x060 ≤ p && p < 0x070 && p % 4 == 1 && decide (schedKey ((p - 0x060) / 4) 0 0 ≤ k) && decide (k < schedKey ((p - 0x060) / 4) 2 0)
      let inRoutes := p == 0x01B && decide (routeBase ≤ k) && decide (k < routeBase + 0x4000)
      ! ((inPage && (srstHeader (a % 0x1000) || (decide (0x040 ≤ a % 0x1000) && ! s.srstKeeps a))) || inSched || inRoutes)) }

/-- The BANK page's soft reset withdraws every pending group request and disarms the bank-swap fixtures (R57). -/
def State.resetGroups (s : State) : State :=
  (List.range 16).foldl (fun s g =>
    let s1 := if (s.group g).pend then ((s.group g).members.foldl (fun s p => s.swapFailed p) s).setGroup g {} else s
    if (s1.fixt g).armed then s1.setFix g ((s1.fixt g).setArm false) else s1) s

/-- A write of `BLK_CTL.SRST` (R44): the page returns to reset values, is withdrawn from a pending swap, abandons its copy, and stays in soft reset until SOFT_RESET_DONE. The FIX page drops commands in progress and keeps every entry (R92). -/
def State.softReset (s : State) (p : Nat) : State :=
  if ! allocated p || (s.page p).srst then s
  else
    let pg := s.page p
    let w := ((s.withdraw p).resetRegs p).recount p
    let s1 := w.setPage p { pg with soloPend := false, groupPend := none, copying := false, dirty := false, held := []
                                    srst := true, srstFail := pg.pend, setCycle := 0, setBits := 0 }
    if p = 0x005 then s1.resetGroups
    else if p = 0x004 then { s1 with fix := { s1.fix with held := [] } }
    else s1

/-- SOFT_RESET_DONE (R44): `SRST_ACTIVE` returns to 0, and `SWAP_FAILED` is set for a withdrawn swap. -/
def State.softResetDone (s : State) (p : Nat) : State :=
  let pg := s.page p
  if ! pg.srst then s
  else
    let s1 := s.setPage p { pg with srst := false, srstFail := false }
    if pg.srstFail then s1.cause p 29 else s1

/-! ## Locks (R45) -/

/-- A write of `LOCK` (R45). -/
def State.lockWrite (s : State) (p : Nat) (v : Word) : State :=
  let pg := s.page p
  if pg.srst then s
  else if pg.policy then s.setPage p { pg with wrong := min 255 (pg.wrong + 1) }
  else if pg.keyed then
    if v = pg.key then s.setPage p { pg with keyed := false, key := 0, wrong := 0 }
    else (s.setPage p { pg with wrong := min 255 (pg.wrong + 1) }).pageRecord p 0x24 0 (detail 0 0 0)
  else if v = 0 then s
  else s.setPage p { pg with keyed := true, key := v }

/-- What a read of `LOCK` returns: never the key (R45). -/
def PageSt.lockView (pg : PageSt) : Word :=
  word ((if pg.keyed || pg.policy then 1 else 0) + (if pg.policy then 2 else 0) + pg.wrong * 2 ^ 8)

/-- What a read of `BANK_STAT` returns (R41); 0 on a page that is not banked (R55). -/
def State.bankStat (s : State) (p : Nat) : Word :=
  let pg := s.page p
  if ! banked p then 0
  else word (pg.active + (if pg.pend then 2 else 0) + (if pg.dirty then 4 else 0) + (if pg.copying then 8 else 0) + pg.epoch * 2 ^ 16)

/-- The security policy engages or releases the lock of page `p` (R45, R505). -/
def State.policyLock (s : State) (p : Nat) (on : Bool) : State :=
  let pg := s.page p
  s.setPage p { pg with policy := on, wrong := if on || pg.keyed then pg.wrong else 0 }

/-- An `INT_CAUSE` write (R13, R15): the bits written 1 clear, save those hardware set in the same fabric cycle. -/
def State.causeClear (s : State) (p : Nat) (v : Word) : State :=
  let pg := s.page p
  let keep := if pg.setCycle = s.fabric + 1 then pg.setBits else 0
  s.wr (Reg.INT_CAUSE p) (s.rd (Reg.INT_CAUSE p) &&& ~~~(v &&& ~~~keep))

/-- An `INT_SET` write (R41): causes are set for test. Ignored while a soft reset runs (R44). -/
def State.intSet (s : State) (p : Nat) (v : Word) : State := if (s.page p).srst then s else s.setCause p v

/-- An `INT_MASK` write: where the page's interrupt becomes asserted, its vector is raised (R43, R326). -/
def State.maskWrite (s : State) (p : Nat) (v : Word) : State :=
  let c := s.rd (Reg.INT_CAUSE p)
  let was := c &&& s.rd (Reg.INT_MASK p)
  let s1 := s.wr (Reg.INT_MASK p) v
  if was = 0 && c &&& v ≠ 0 then s1.raisePage p else s1

end Sys2Proof.Machine
end

