-- ==== Sys2Proof/Machine/Tracker.lean ====
section
/-! DEFINITION. The cycle tracker (R61 to R76): qualification of edges, states, epoch, corrections, holdover, adoption of a cycle count, snapshots and UTC stamping. -/

namespace Sys2Proof.Machine

/-- The state with the tracker replaced. -/
def State.setTrk (s : State) (k : Tracker) : State := { s with trk := k }

/-- A waiting cycle-count adoption is dropped (R73). -/
def State.dropCyc (s : State) : State :=
  if s.rb Reg.LTIME_TRK_STAT 12 then (s.wb Reg.LTIME_TRK_STAT 12 false).ignored 0x003 else s

/-- The tracker's state changes: `STATE`, cause bit 0 and a record of severity TRANSIENT (R65). -/
def State.trkChange (s : State) (st : Nat) : State :=
  ((s.wf Reg.LTIME_TRK_STAT 0 2 st).cause 0x003 0).pageRecord 0x003 0x00 0 (detail 0 0 0)

/-- The holdover rules take hold (R64, R68): from the present line time on, at the frequency now read in `FREQ`, with no rate of change and no slew; no run is open (R63). -/
def State.holdRules (s : State) : State :=
  let a := s.anchor
  (a.setTrk { a.trk with rate := 0, slewNs := 0, heldF := (s.rd Reg.LTIME_FREQ).toNat, runLen := 0, rangeRun := 0, rocofRun := 0, disRun := 0 }).wb
    Reg.LTIME_TRK_STAT 5 false

/-- Entry to HOLDOVER (R65, R68): line time runs on under the holdover rules, and the entry is a fault event of the LTIME page. -/
def State.enterHoldover (s : State) : State :=
  let a := s.holdRules
  let b := (a.setTrk { a.trk with holdLt := a.lt }).dropCyc
  ((b.trkChange 2).faultEvent 0x003).1

/-- `TRK_STAT.HOLD_AGE` (R69, R78): whole cycles in HOLDOVER, saturating at 65,535. -/
def State.holdAge (s : State) : Nat :=
  if s.trkState = 2 && ! s.trk.stopped then min 65535 (wrap64 (s.lt + 2 ^ 64 - s.trk.holdLt) / 2 ^ 32) else 0

/-- The period predicted from `FREQ`, in fast-clock edges. -/
def State.predPeriod (s : State) : Nat := 1500000000 * 65536 / s.convFreq

/-- `d` lies within ±2 % of `p` (R63). -/
def within2 (d p : Nat) : Bool := decide (98 * p ≤ 100 * d) && decide (100 * d ≤ 102 * p)

/-- Shortest and longest spacing of a run, in edges: 14.29 ms and 25.0 ms (R63). -/
abbrev runMin : Nat := 21435000
abbrev runMax : Nat := 37500000

/-- The run of R63 after an edge at `e` in ACQUIRE or HOLDOVER: `none` where the edge is ignored, else the new run. -/
def runAfter (k : Tracker) (e : Nat) : Option Tracker :=
  let fresh := { k with runLen := 1, lastEdge := e, prevEdge := e }
  if k.runLen = 0 then some fresh
  else
    let d := e - k.lastEdge
    if d < runMin then none
    else if d > runMax then some fresh
    else if k.runLen = 1 || within2 d (k.lastEdge - k.prevEdge) then
      some { k with runLen := k.runLen + 1, prevEdge := k.lastEdge, lastEdge := e }
    else some fresh

/-- Entry to LOCKED (R65): the flags that hold outside it clear, and the state change is reported. -/
def State.enterLocked (s : State) : State :=
  let w := s.rd Reg.LTIME_TRK_STAT
  let w1 := setBit (setBit (setBit (setBit w 2 true) 4 false) 8 false) 9 false
  (s.wr Reg.LTIME_TRK_STAT w1).trkChange 1

/-- The epoch of R71: line time is 0 at phase 0, at edge `p0`. -/
def State.setEpoch (s : State) (p0 : Nat) : State :=
  s.setTrk { s.trk with epoch := true, t0 := p0, lt0 := 0, lead := 0, slewNs := 0 }

/-- The error e of R70 in line-time units: the nearest whole cycle less the line time `l` in force at the grid's phase 0; positive when line time lags. -/
def lockError (l : Nat) : Int :=
  let ph : Nat := l % 2 ^ 32
  if ph < 2 ^ 31 then -(ph : Int) else ((2 ^ 32 - ph : Nat) : Int)

/-- Line-time units as nanoseconds at the conversion frequency. -/
def State.nsOfUnits (s : State) (u : Int) : Int := u * 1000000000 / ((s.convFreq * 65536 : Nat) : Int)

/-- The correction of R70 at the edge that completes the lock, with phase 0 at edge `p0`: a slew up to `STEP_THR`, else a step forward, with `STEP_ERR`, the counts, causes and records, and the skips of the stepped interval. -/
def State.correctLock (s : State) (p0 : Nat) : State :=
  let l := s.ltAt p0
  let e := lockError l
  let ns := s.nsOfUnits e
  let s1 := s.wr Reg.LTIME_STEP_ERR (sword ns)
  let det := [0, 0] ++ leBytes 8 (ns % (2 ^ 64 : Int)).toNat
  if ns.natAbs ≤ s.rf Reg.LTIME_TRK_CFG 16 8 * 1000 then
    let a := s1.anchor
    let s2 := (a.setTrk { a.trk with slewNs := ns }).wb Reg.LTIME_TRK_STAT 5 (decide (100 < ns.natAbs))
    (s2.incF Reg.LTIME_STEP_CNT 16 16).record 0x003 0x0430 0 det
  else
    let l0 := s1.lt
    let since := phaseIn s.convFreq 0 (s.now - p0)
    let base := if e > 0 then (l + e.toNat) / 2 ^ 32 else l / 2 ^ 32 + 1
    let l1 := wrap64 (base * 2 ^ 32 + since)
    let s2 := s1.setTrk { s1.trk with t0 := s.now, lt0 := l1, lead := 0, slewNs := 0 }
    let s3 := ((s2.incF Reg.LTIME_STEP_CNT 0 16).cause 0x003 1).pageRecord 0x003 0x01 0 det
    (s3.skipInterval l0 l1).reconvert

/-- Adoption of `CYC_SET` at a rising crossing (R73): the cycle that begins there has the count, and the phase goes on; refused and counted where a fixture is armed. -/
def State.adoptCyc (s : State) : State :=
  if ! s.rb Reg.LTIME_TRK_STAT 12 then s
  else
    let s1 := s.wb Reg.LTIME_TRK_STAT 12 false
    if 0 < s1.armedCount then s1.ignored 0x003
    else
      let a := s1.anchor
      let c := (s1.rd Reg.LTIME_CYC_SET).toNat
      let ph := a.trk.lt0 % 2 ^ 32
      a.setTrk { a.trk with lt0 := wrap64 ((if ph < 2 ^ 31 then c else c + 2 ^ 32 - 1) * 2 ^ 32 + ph) }

/-- What every crossing after the first of a run measures (R61, R78, R602): frequency and rate of change, and whether they are out of range. -/
def State.measured (s : State) (freq : Nat) (rocof : Int) : State :=
  let s1 := (s.wr Reg.LTIME_FREQ (word freq)).wr Reg.LTIME_ROCOF (sword rocof)
  (s1.wb Reg.LTIME_TRK_STAT 6 (decide (freq < 40 * 65536) || decide (70 * 65536 < freq))).wb Reg.LTIME_TRK_STAT 7 (decide (5 * 65536 < rocof.natAbs))

/-- A qualified edge in LOCKED (R61, R65, R66): estimates are taken, line time is re-anchored on phase 0, a waiting adoption is made, and a lasting misfit leads to HOLDOVER. -/
def State.lockedEdge (s : State) (e p0 freq : Nat) (rocof : Int) (dis : Bool) : State :=
  let l := s.ltAt p0
  let err := lockError l
  let s2 := (s.anchor.measured freq rocof).wb Reg.LTIME_TRK_STAT 2 true
  let out := s2.rb Reg.LTIME_TRK_STAT 6
  let hi := s2.rb Reg.LTIME_TRK_STAT 7
  let k : Tracker := { s2.trk with
    lastEdge := e, prevEdge := s.trk.lastEdge
    rangeRun := if out then s.trk.rangeRun + 1 else 0
    rocofRun := if hi then s.trk.rocofRun + 1 else 0
    disRun := if dis then s.trk.disRun + 1 else 0 }
  let s3 :=
    if s2.rb Reg.LTIME_TRK_STAT 5 then
      s2.setTrk { k with rate := rocof, slewNs := s2.nsOfUnits err }
    else
      let whole := wrap64 ((l : Int) + err).toNat
      let base := if p0 ≤ s.now then whole else wrap64 (whole + 2 ^ 64 - phaseIn s2.convFreq rocof (p0 - s.now))
      let want := wrap64 (base + phaseIn s2.convFreq rocof (s.now - p0))
      let ahead := if ltFuture s.lt want then wrap64 (s.lt + 2 ^ 64 - base) else 0
      s2.setTrk { k with t0 := min p0 s.now, lt0 := base, lead := ahead, rate := rocof, slewNs := 0 }
  let s4 := s3.adoptCyc
  if 2 ≤ k.rangeRun || 3 ≤ k.rocofRun then s4.enterHoldover
  else if 3 ≤ k.disRun then (s4.wb Reg.LTIME_TRK_STAT 4 true).enterHoldover
  else s4

/-- The conductor lags of R67: entry `3 p + c` of `lags` is the filtered lag of a conductor whose own voltage stands above 10 % of nominal; the others keep theirs. The reference conductor lags itself by nothing. In DORMANT no voltage channel runs (R483). -/
def State.condLags (s : State) (lags : List (Fin 12 × Word)) : State :=
  if s.isOff || s.mode == 1 then s
  else lags.foldl (fun s x =>
    let p := x.1.val / 3
    let c := x.1.val % 3
    s.wr (Reg.LTIME_COND_OFS p c) (if p == s.trk.refPort && c == s.trk.refPhase then 0 else x.2)) s

/-- A rising edge drives the tracker (R63, R65, R70, R71). The operands are what the device's own converters measure at the edge (log entry 10): the present frequency (2^-16 Hz) and rate of change (2^-16 Hz/s) estimated at this crossing, the filtered `ZC_DELAY` and this edge's own delay behind the fundamental (ns), of which the edge counts while `MET_OK` is 1. The command's instant is the end of the 50 µs for which the input must stay high; the edge lies 50 µs before it. Phase 0 of the cycle the edge opens is the fundamental's zero phase while `MET_OK` is 1, the edge less the last filtered `ZC_DELAY` otherwise (R62). The table of R65 has no row for `HOLD` 1 in ACQUIRE: that the tracker enters LOCKED at the eighth edge and HOLDOVER at once is the model's choice (log entry 152). -/
def State.edgeSeen (s : State) (freq : Nat) (rocof zcDelay diff : Int) : State :=
  let e := s.now - 50 * usec
  let met := s.rb Reg.LTIME_TRK_STAT 3
  let off : Int := (if met then diff else signedField 32 (s.rd Reg.LTIME_ZC_DELAY).toNat) * 3 / 2
  let p0 := ((e : Int) - off).toNat
  let dis := met && decide (200000 < (diff - signedField 32 (s.rd Reg.LTIME_ZC_DELAY).toNat).natAbs)
  let sz := if met then s.wr Reg.LTIME_ZC_DELAY (sword zcDelay) else s
  if s.trkState = 1 then
    if within2 (e - s.trk.lastEdge) s.predPeriod then sz.lockedEdge e p0 freq rocof dis else s
  else
    match runAfter s.trk e with
    | none => s
    | some k =>
      let need := if s.trkState = 2 then 3 else 8
      let sk := (sz.setTrk k).wb Reg.LTIME_TRK_STAT 2 true
      let s1 := if k.runLen = 1 then sk else sk.measured freq rocof
      if k.runLen < need || (s.trkState = 2 && s.rb Reg.LTIME_TRK_CTL 1) then s1
      else
        let s2 := if s1.trk.epoch then s1.correctLock p0 else s1.setEpoch p0
        let a := s2.anchor
        let s3 := (a.setTrk { a.trk with rate := rocof, heldF := 0, rangeRun := 0, rocofRun := 0, disRun := 0 }).enterLocked
        if s3.rb Reg.LTIME_TRK_CTL 1 then s3.enterHoldover else s3

/-- ZERO_CROSSING_EDGE (R63, R67): an edge at the ball counts where it is of the polarity that `ZC_INV`, as last taken, makes the rising crossing, its level stays for 50 µs and the tracker runs; the conductor lags measured up to it are reported. -/
def State.zcEdge (s : State) (stayed falling : Bool) (freq : Nat) (rocof zcDelay diff : Int) (lags : List (Fin 12 × Word)) : State :=
  if s.trk.stopped || ! stayed || falling != s.trk.zcInv || s.isOff then s
  else (s.edgeSeen freq rocof zcDelay diff).condLags lags

/-- SLEW_COMPLETE (R70): the error is within 0.1 µs, and `SLEWING` clears. -/
def State.slewComplete (s : State) : State :=
  let a := s.anchor
  if s.rb Reg.LTIME_TRK_STAT 5 && decide (a.trk.slewNs.natAbs ≤ 100) then
    (a.setTrk { a.trk with slewNs := 0 }).wb Reg.LTIME_TRK_STAT 5 false
  else s

/-- HOLDOVER_TIMEOUT (R65): 1.25 predicted periods since the last qualified edge. -/
def State.holdoverTimeout (s : State) : State :=
  if s.trkState = 1 && ! s.trk.stopped && decide (s.trk.lastEdge + 5 * s.predPeriod / 4 ≤ s.now) && ! s.arrives (fun i => match i with | .zeroCrossingEdge _ stayed falling _ _ _ _ _ => stayed && falling == s.trk.zcInv | _ => false) then
    (s.wb Reg.LTIME_TRK_STAT 2 false).enterHoldover
  else s

/-- HOLD_TX_REACHED (R69): `TX_HOLD` becomes 1 until LOCKED returns. -/
def State.holdTxReached (s : State) : State :=
  if s.trkState = 2 && ! s.trk.stopped && decide (s.rf Reg.LTIME_HOLD_CFG 0 8 ≤ s.holdAge) then s.wb Reg.LTIME_TRK_STAT 8 true else s

/-- HOLD_LONG (R69): the flag, cause bit 3 and a record of severity LASTING. -/
def State.holdLong (s : State) : State :=
  if s.trkState = 2 && ! s.trk.stopped && ! s.rb Reg.LTIME_TRK_STAT 9 && decide (s.rf Reg.LTIME_HOLD_CFG 16 16 ≤ s.holdAge) then
    ((s.wb Reg.LTIME_TRK_STAT 9 true).cause 0x003 3).pageRecord 0x003 0x03 1 (detail 0 0 0)
  else s

/-- A write of 1 to `TRK_CTL.HOLD` (R65, R78). -/
def State.trkHold (s : State) : State :=
  let s1 := s.wb Reg.LTIME_TRK_CTL 1 true
  if s1.trkState = 1 && ! s1.trk.stopped then s1.enterHoldover else s1

/-- The tracker starts in ACQUIRE with the reference settings as written (R64); line time runs on under the holdover rules. -/
def State.trkStart (s : State) : State :=
  let cfg := s.rd Reg.LTIME_TRK_CFG
  let a := (if s.trk.stopped then s.setTrk { s.trk with t0 := s.now, stopped := false } else s).holdRules
  a.setTrk { a.trk with refPort := fld cfg 0 2, refPhase := fld cfg 2 2, zcInv := bit cfg 4 }

/-- A write of 1 to `TRK_CTL.RESTART` (R64): the tracker starts again in ACQUIRE. R64 does not say what the write does while `EN` is 0: that it does nothing is the model's choice (log entry 153). -/
def State.trkRestart (s : State) : State :=
  if s.trk.stopped then s
  else
    let s1 := (s.dropCyc.trkStart).wb Reg.LTIME_TRK_STAT 9 false
    if s.trkState = 0 then s1 else s1.trkChange 0

/-- A write of `TRK_CTL.EN` (R64): 0 stops the tracker and holds line time, 1 while it is stopped starts it. -/
def State.trkEnable (s : State) (en : Bool) : State :=
  if (s.page 0x003).keyed || (s.page 0x003).policy then s
  else
    let s1 := s.wb Reg.LTIME_TRK_CTL 0 en
    if en && s.trk.stopped then s1.trkStart
    else if ! en && ! s.trk.stopped then
      let a := s1.dropCyc.anchor
      let b := a.setTrk { a.trk with stopped := true, lt0 := a.lt, lead := 0, rate := 0, slewNs := 0, runLen := 0 }
      let w := b.rd Reg.LTIME_TRK_STAT
      b.wr Reg.LTIME_TRK_STAT (w &&& 0x00000C08)
    else s1

/-- A write of 1 to `TRK_CTL.SNAP` (R76). -/
def State.snap (s : State) : State :=
  ((s.wr64 Reg.LTIME_SNAP_LT_LO Reg.LTIME_SNAP_LT_HI s.lt).wr64 Reg.LTIME_SNAP_UTC_LO Reg.LTIME_SNAP_UTC_HI s.utc).wr
    Reg.LTIME_SNAP_SEQ (s.rd Reg.LTIME_SNAP_SEQ + 1)

/-- A write of 1 to `TRK_CTL.CYC_APPLY` (R73). -/
def State.cycApply (s : State) : State :=
  if s.trkState = 1 && ! s.trk.stopped && ! s.rb Reg.LTIME_TRK_STAT 12 && s.armedCount == 0 then s.wb Reg.LTIME_TRK_STAT 12 true
  else s.ignored 0x003

/-- A write of 1 to `TRK_CTL.UTC_ARM` (R74). -/
def State.utcArm (s : State) : State := s.setTrk { s.trk with utcArmed := true }

/-- An accepted PPS edge feeds UTC stamping (R74, R75): an armed edge takes `UTC_SET`; a later edge adds one second, or the whole seconds that passed where edges were missing (log entry 9); the third consecutive good edge after an armed one makes UTC valid. -/
def State.utcEdge (s : State) : State :=
  let k := s.trk
  let dt := s.now - k.ppsLast
  let errNs : Int := ((dt : Int) - 1500000000) * 2 / 3
  let good := decide (errNs.natAbs ≤ 10000)
  if k.utcArmed then
    let sec := (s.rd Reg.LTIME_UTC_SET_LO).toNat + (s.rd Reg.LTIME_UTC_SET_HI).toNat * 2 ^ 32
    (if k.ppsLast = 0 then s else s.wr Reg.LTIME_PPS_ERR (sword errNs)).setTrk
      { k with utcArmed := false, utcMarked := true, utcSec := sec, utcT0 := s.now, utcRun := 0, ppsLast := s.now, utcGood := if good then s.now else k.utcGood }
  else
    let run := if ! k.utcMarked then 0 else if good then k.utcRun + 1 else 0
    let valid := decide (3 ≤ run)
    let s1 := (s.wr Reg.LTIME_PPS_ERR (sword errNs)).setTrk
      { k with utcSec := k.utcSec + max 1 ((dt + 750000000) / 1500000000), utcT0 := s.now, utcRun := run, ppsLast := s.now
               utcAvail := k.utcAvail || valid, utcGood := if good then s.now else k.utcGood }
    if valid then (s1.wb Reg.LTIME_TRK_STAT 10 true).wb Reg.LTIME_TRK_STAT 11 false else s1

/-- PPS_TIMEOUT (R75): no good edge within 1.5 s ends validity and begins the hold. -/
def State.ppsTimeout (s : State) : State :=
  if decide (s.trk.utcGood + 2250000000 ≤ s.now) && ! s.arrives (fun i => match i with | .ppsEdge .. => true | _ => false) && s.rb Reg.LTIME_TRK_STAT 10 then
    (((s.wb Reg.LTIME_TRK_STAT 10 false).wb Reg.LTIME_TRK_STAT 11 true).cause 0x003 2).setTrk { s.trk with utcRun := 0, utcHoldAt := s.now }
  else s

/-- UTC_HOLD_EXPIRY (R75): after `UTC_HOLD` seconds stamps read zero until UTC is armed again. -/
def State.utcHoldExpiry (s : State) : State :=
  if s.rb Reg.LTIME_TRK_STAT 11 && decide (s.trk.utcHoldAt + s.rf Reg.LTIME_UTC_CFG 0 16 * 1500000000 ≤ s.now) then
    (s.wb Reg.LTIME_TRK_STAT 11 false).setTrk { s.trk with utcAvail := false, utcMarked := false, utcRun := 0 }
  else s

/-- MET_OK_CHANGE (R62, R483): the reference voltage crosses 10 % of nominal; in DORMANT and OFF `MET_OK` reads 0. -/
def State.metOkChange (s : State) (ok : Bool) : State := s.wb Reg.LTIME_TRK_STAT 3 (ok && ! s.isOff && s.mode != 1)

end Sys2Proof.Machine
end

