-- ==== Sys2Proof/Machine/LinePort.lean ====
section
/-! DEFINITION. Line ports (R93 to R116): receive gain, conductor states and their faults, probes, polarity. -/

namespace Sys2Proof.Machine

/-! ## Conductors and channels -/

/-- Conductor `c` of port `p`. -/
def State.cond (s : State) (p c : Nat) : CondSt := tget {} s.conds (3 * p + c)

/-- The state with conductor `c` of port `p` set. -/
def State.setCond (s : State) (p c : Nat) (v : CondSt) : State := { s with conds := tset {} s.conds (3 * p + c) v }

/-- Channel `ch` of port `p`; 3 is the common mode. -/
def State.chan (s : State) (p ch : Nat) : ChanSt := tget {} s.chans (4 * p + ch)

/-- The state with a channel set. -/
def State.setChan (s : State) (p ch : Nat) (v : ChanSt) : State := { s with chans := tset {} s.chans (4 * p + ch) v }

/-- `COND_STAT_c.STATE`: the first condition of the order of R107 that holds (R116). -/
def CondSt.state (k : CondSt) : Nat :=
  if k.supply then 4 else if k.thermOff then 6 else if k.fold then 2 else if k.opened then 3
  else if k.therm then 5 else if k.limit then 1 else 0

/-- Line time as conductor `c` of port `p` counts it (R67). -/
def State.condLt (s : State) (p c l : Nat) : Nat := (l + 2 ^ 64 - (s.rd (Reg.LTIME_COND_OFS p c)).toNat) % 2 ^ 64

/-- Slices of a receive channel's conductor since line time 0 at line time `l`; the common-mode channel takes the reference's (R67, R203). -/
def State.sliceNo (s : State) (p ch l : Nat) : Nat := (if ch = 3 then l else s.condLt p ch l) * 48 / 2 ^ 32

/-- The present fabric cycle holds a slice boundary of a channel's conductor (R95, R110). -/
def State.atSlice (s : State) (p ch : Nat) : Bool := s.sliceNo p ch s.lt != s.sliceNo p ch (s.ltAt (s.now - 2))

/-- The edges over which a sample carries `GC` are those of the last changes, a thousand of them (R94). -/
def ChanSt.noteGc (k : ChanSt) (e : Nat) : ChanSt := { k with gcAt := (e :: k.gcAt).take 1000 }

/-- `STATE` and `LIM_MS` shown in `COND_STAT_c` (R107, R115). -/
def State.showCond (s : State) (p c : Nat) : State :=
  let k := s.cond p c
  let a := Reg.LFE_COND_STAT p c
  s.wr a (setFld (setFld (s.rd a) 0 3 k.state) 8 8 (min 255 (k.limUs / 1000)))

/-- The conductor set, and its status shown. -/
def State.putCond (s : State) (p c : Nat) (v : CondSt) : State := (s.setCond p c v).showCond p c

/-- States in which a conductor's fixtures are skipped (R108). -/
def CondSt.stopped (k : CondSt) : Bool := k.state == 4 || k.state == 2 || k.state == 3 || k.state == 6

/-- EXTEST, CLAMP or HIGHZ is in force: every line driver is in high impedance and no fixture fires (R565). -/
def State.tapHolds (s : State) : Bool := s.dap.ir == 0x00 || s.dap.ir == 0x03 || s.dap.ir == 0x04

/-- The mode and role permit port `p` to transmit (R225, R482): FIELD, RELAY, FOLLOW and SERVICE with a role in effect; the boundary scan may hold the drivers (R565). -/
def State.mayTransmit (s : State) (p : Nat) : Bool :=
  (s.mode == 4 || s.mode == 5 || s.mode == 6 || s.mode == 10) && s.roleInEffect p != 0 && ! s.tapHolds

/-- Port `p` is muted by surveillance (R367). -/
def State.muted (s : State) (p : Nat) : Bool := s.rb Reg.SRV_MUTE_STAT p

/-- The conductor can drive the line (R105): not SUPPLY, not THERMAL with drivers off, not muted, and the mode permits it. -/
def State.canDrive (s : State) (p c : Nat) : Bool :=
  let st := (s.cond p c).state
  st != 4 && st != 6 && ! s.muted p && s.mayTransmit p

/-- The quiet region is in progress (R223, R224). -/
def State.inQuiet (s : State) : Bool := s.quiet

/-- Superframe number and slice index u of a conductor at line time `l` (R203); an UP port adds `SL_OFS` to every u (R226). -/
def State.sfSlice (s : State) (p c l : Nat) : Nat × Nat :=
  let ofs := if s.rf (Reg.MAC_MAC_CTL p) 0 2 = 2 then s.rf (Reg.MAC_UP_STAT p) 4 6 else 0
  let x := (s.condLt p c l * 48 / 2 ^ 32 + 48 * 2 ^ 32 - ofs) % (48 * 2 ^ 32)
  (x / (48 * s.sfCycles), x % (48 * s.sfCycles))

/-- What drives the line for `dur` edges from line time `l` would meet the quiet region (R105, R223, R224). -/
def State.meetsQuiet (s : State) (l dur : Nat) : Bool :=
  let t := s.sfCycles * 2 ^ 32
  decide (t - s.quietSl * 2 ^ 32 / 48 < l % t + phaseIn s.convFreq s.trk.rate dur)

/-- The regions of conductor `c` of port `p` in force (R204): an UP port has them from its beacon, `B_SL` by the `MODE` the beacon came in (log entry 177). -/
def State.regions (s : State) (p c : Nat) : SfRegions :=
  let plan := s.af (Reg.NBP_BAND p c) 0 3
  let up := s.upPort == some p
  { beacon := (beaconLen plan (if up then s.mac.up.bcnMode else s.af (Reg.MAC_SF_CFG p) 4 2)).2
    serve := if up then s.rf (Reg.MAC_UP_PARAM p) 4 4 else s.af (Reg.MAC_SF_CFG p) 8 4
    cont := if up then s.rf (Reg.MAC_UP_PARAM p) 16 12 else s.af (Reg.MAC_SF_CFG p) 16 12
    quiet := s.quietSl, bandC := ((bandPlan plan).map BandPlan.bandC).getD false, len := 48 * s.sfCycles }

/-- The line time at which slice `u` of superframe `m` starts on conductor `c` of port `p` (R37, R203, R226). -/
def State.slotLt (s : State) (p c m u : Nat) : Nat :=
  let ofs := if s.rf (Reg.MAC_MAC_CTL p) 0 2 = 2 then s.rf (Reg.MAC_UP_STAT p) 4 6 else 0
  wrap64 (m * s.sfCycles * 2 ^ 32 + ((u + ofs) * 2 ^ 32 + 47) / 48 + (s.rd (Reg.LTIME_COND_OFS p c)).toNat)

/-- Superframes since `a` of a count that wraps with the cycle count (R72). -/
def State.sfSince (s : State) (now a : Nat) : Nat :=
  let n := 2 ^ 32 / s.sfCycles
  (now + n - a % n) % n

/-- The superframe number `now` has reached `a` (R72): by less than half of the count. -/
def State.sfReached (s : State) (now a : Nat) : Bool := decide (2 * s.sfSince now a < 2 ^ 32 / s.sfCycles)

/-- The later of two superframe numbers (R72). -/
def State.sfLater (s : State) (a b : Nat) : Nat := if s.sfReached a b then a else b

/-! ## Transmit descriptors and stopping a transmission -/

/-- A transmit descriptor completes with a status. -/
def State.descDone (s : State) (d : Nat) (st : Status) : State := { s with descs := tins s.descs d st }

/-- The own short address on a port: 0 as coordinator, `OWN_ADDR` on an UP port (R234, R266). -/
def State.ownShort (s : State) (p : Nat) : Nat := if s.rf (Reg.MAC_MAC_CTL p) 0 2 = 2 then s.rf (Reg.MAC_OWN_ADDR p) 0 20 else 0

/-- The number of the present superframe (R202, R233). -/
def State.sfNow (s : State) : Nat := s.cycle / sfLen (s.rf (Reg.MAC_SF_STAT 0) 0 3)

/-- A frame the link layer is to send, placed in the outbox with a number of its own. -/
def State.pushOut (s : State) (o : OutFrame) : State :=
  { s with link := { s.link with outbox := s.link.outbox ++ [{ o with id := s.link.nextOut, sf := s.sfNow }], nextOut := s.link.nextOut + 1 } }

/-- A network header (R268). -/
def netHeader (mode hops orig fdst : Nat) (fields : List Byte) : List Byte :=
  leBytes 1 (mode + hops * 16) ++ leBytes 3 orig ++ leBytes 3 fdst ++ fields

/-- A management frame from the node to the coordinator: direct, or with an UP header through its parent (R269, R273, log entry 36). -/
def State.sendUp (s : State) (p mtype : Nat) (body : List Byte) : State :=
  let u := s.mac.up
  let hd := if mtype < 0x20 && u.parent = 0 then [] else netHeader 0 0 (s.ownShort p) 0 []
  s.pushOut { id := 0, port := p, cond := s.rf (Reg.MAC_UP_CFG p) 20 2, peer := u.parent, prio := 2, body := leBytes 1 mtype ++ hd ++ body }

/-- What a relay does with a forwarded frame that failed (R274): ROUTE_ERR for a DOWN frame that ended with TIMEOUT or LINK_LOST, a count for any other. -/
def State.forwardFailed (s : State) (o : OutFrame) (st : Status) : State :=
  let b := if o.mgmt then o.body.drop 1 else o.body
  if leAt b 0 1 % 4 = 1 && (st == Status.timeout || st == Status.linkLost) then s.sendUp o.port 0x22 (leBytes 3 (leAt b 4 3 % 2 ^ 20) ++ leBytes 3 o.peer ++ leBytes 1 st)
  else s.incF Reg.NET_FWD_CNT 16 16

/-- The neighbour of number `short` on port `p` is marked `LOST` (R256). -/
def State.isLost (s : State) (p short : Nat) : Bool := s.link.nbrs.any (fun x => x.1 / 4096 == p && x.2.short == short && x.2.lost)

/-- The descriptor of a transmission that stopped completes, and the frame it carried is no longer kept; its owner sends it again (R91), and for a forwarded one R274 holds. -/
def State.descStop (s : State) (d : Nat) (st : Status) : State :=
  let s1 := { s.descDone d st with link := { s.link with sent := tdel s.link.sent d } }
  match tfind s.link.sent d with
  | some x => if x.out.fwd then s1.forwardFailed x.out st else s1
  | none => s1

/-- The gain of the conductor's channel returns to the value held before the transmission, or with AGC off to the value written (R95). -/
def State.restoreGain (s : State) (p c : Nat) : State :=
  match (s.chan p c).held with
  | none => s
  | some g =>
    let a := Reg.LFE_RX_STAT p c
    let g1 := if s.rb (Reg.LFE_RX_CTL p) c then g else s.rf (Reg.LFE_RX_GAIN p c) 0 4
    (s.wr a (setFld (setFld (s.rd a) 16 4 g1) 20 1 0)).setChan p c { (s.chan p c).noteGc s.now with held := none }

/-- A probe in progress stops as its driver goes to high impedance; a requested one waits again, which is the model's choice (R105, log entry 157). -/
def CondSt.cutProbe (k : CondSt) : CondSt :=
  if k.probing = 0 then k else { k with probing := 0, probeWait := k.probeWait || k.probeReq, probeReq := false }

/-- A conductor after its narrowband or its broadband transmission, as it stands, has ended at edge `e`: the instants that R141, R143 and R167 count from. -/
def CondSt.endNb (k : CondSt) (e : Nat) : CondSt := match k.nb with
  | none => k
  | some x => { k with nb := none, nbEnd := e, nbTx := ((x.start, e) :: k.nbTx).take 64
                       bandcEnd := if ((bandPlan x.plan).map BandPlan.bandC).getD false then e + 1 else k.bandcEnd }
def CondSt.endBb (k : CondSt) (e : Nat) : CondSt := match k.bb with
  | none => k
  | some x => { k with bb := none, bbEnd := e + 1, bbTx := ((x.start, e) :: k.bbTx).take 64 }

/-- A receive window opens on a channel until edge `e`, or carries on to the later of two ends (R81, R218, log entry 175). -/
def State.openRxWin (s : State) (p ch e : Nat) : State :=
  let k := s.chan p ch
  s.setChan p ch (if k.winEnd = 0 || decide (k.winEnd ≤ s.now) then { k with winFrom := s.now, winEnd := e + 1 } else { k with winEnd := max k.winEnd (e + 1) })

/-- The receive window of a channel closes (R218). -/
def State.closeRxWin (s : State) (p ch : Nat) : State :=
  let k := s.chan p ch
  if k.winEnd = 0 then s else s.setChan p ch { k with winEnd := 0, wins := ((k.winFrom, min s.now (k.winEnd - 1)) :: k.wins).take 64 }

/-- A receive window was open on a channel at edge `e` (R144). -/
def ChanSt.windowAt (k : ChanSt) (e : Nat) : Bool :=
  (k.winEnd != 0 && decide (k.winFrom ≤ e) && decide (e < k.winEnd)) || k.wins.any (fun w => decide (w.1 ≤ e) && decide (e ≤ w.2))

/-- A narrowband or broadband transmission was in progress on a conductor at edge `e`. -/
def CondSt.sentAt (k : CondSt) (e : Nat) : Bool :=
  (k.nb.toList ++ k.bb.toList).any (fun x => decide (x.start ≤ e)) || (k.nbTx ++ k.bbTx).any (fun w => decide (w.1 ≤ e) && decide (e < w.2))

/-- The first edge after edge `e` at which a slice of a conductor begins. -/
def State.sliceAfter (s : State) (p c e : Nat) : Nat :=
  let f := wrap64 ((s.condLt p c (s.ltAt e) * 48 / 2 ^ 32 + 1) * 2 ^ 32 / 48 + (s.rd (Reg.LTIME_COND_OFS p c)).toNat)
  ((s.now : Int) + s.edgesTo f).toNat

/-- The edge at which a commanded loopback test began (R562): the first slice boundary after the command at which the conductor neither transmitted nor lay in a receive window; none while that is still to come. -/
def State.loopStart (s : State) (p c : Nat) : Option Nat :=
  let k := s.cond p c
  let ends := s.dap.tstAt :: (((k.nbTx ++ k.bbTx ++ (s.chan p c).wins).map Prod.snd).filter (fun e => decide (s.dap.tstAt < e)))
  let ok := (ends.map (s.sliceAfter p c)).filter (fun e => decide (e ≤ s.now) && ! k.sentAt e && ! (s.chan p c).windowAt e)
  if ok.isEmpty then none else some (ok.foldl min s.now)

/-- A conductor's probe and transmissions stop; their descriptors complete with a status, the driver goes to high impedance and the gain is restored (R98, R105, R108). -/
def State.stopTx (s0 : State) (p c : Nat) (st : Status) : State :=
  let s := if (s0.cond p c).probing = 0 then s0 else s0.setCond p c (s0.cond p c).cutProbe
  let k := s.cond p c
  if k.nb.isNone && k.bb.isNone then s
  else
    let s1 := match k.nb with | some x => s.descStop x.desc st | none => s
    let s2 := match k.bb with | some x => s1.descStop x.desc st | none => s1
    (s2.putCond p c ((k.endNb s.now).endBb s.now)).restoreGain p c

/-- Every transmission of port `p` stops with a status. -/
def State.stopPort (s : State) (p : Nat) (st : Status) : State :=
  (List.range 3).foldl (fun s c => s.stopTx p c st) s

/-- Every transmission of the device stops with a status. -/
def State.stopAll (s : State) (st : Status) : State := (List.range 4).foldl (fun s p => s.stopPort p st) s

/-- After a change of conditions: a conductor that entered a state of R108 stops its transmission, with LINK_LOST. -/
def State.faultStop (s : State) (p c : Nat) : State := if (s.cond p c).stopped then s.stopTx p c .linkLost else s

/-! ## Faults of R106 -/

/-- A detection of R106: the PROT page's cause bit, and its record. -/
def State.protEvent (s : State) (p bit_ sev c : Nat) : State :=
  (s.cause (0x033 + 4 * p) bit_).pageRecord (0x033 + 4 * p) bit_ sev (detail 0 c 0)

/-- CURRENT_LIMIT (R106, R107): the current reached its limit, and was limited for `us` µs: `LIM_MS` accumulates, and entry to LIMIT is reported. -/
def State.currentLimit (s : State) (p c us : Nat) : State :=
  let k := s.cond p c
  let s1 := s.putCond p c { k with limit := true, limUs := k.limUs + us, lastLim := s.now }
  if k.limit then s1 else s1.protEvent p 0 0 c

/-- FOLDBACK (R106, R108): `LIM_MS` has reached `FOLD_MS`. -/
def State.foldback (s : State) (p c : Nat) : State :=
  let k := s.cond p c
  if k.fold || decide (k.limUs < s.rf (Reg.LFE_PROT_CFG p) 0 8 * 1000) then s
  else ((s.putCond p c { k with fold := true, faultSf := (s.sfSlice p c s.lt).1 }).protEvent p 1 1 c).faultStop p c

/-- LIMIT_EXPIRY (R106, R107): one second without limiting. -/
def State.limitExpiry (s : State) (p c : Nat) : State :=
  let k := s.cond p c
  if k.limit && decide (k.lastLim + 1500000000 ≤ s.now) then s.putCond p c { k with limit := false, limUs := 0 } else s

/-- An open coupling is found (R106). -/
def State.openFound (s : State) (p c : Nat) : State :=
  let k := s.cond p c
  if k.opened then s
  else ((s.putCond p c { k with opened := true, faultSf := (s.sfSlice p c s.lt).1 }).protEvent p 2 1 c).faultStop p c

/-- An impedance is reported in `COND_STAT_c.ZMAG`, in 0.1 Ω, saturating (R105, R115). -/
def State.showZ (s : State) (p c z : Nat) : State := s.wf (Reg.LFE_COND_STAT p c) 16 16 (min 65535 z)

/-- `Z_OPEN` in 0.1 Ω and `Z_SHORT_REC` in 0.1 Ω (R115). -/
def State.zOpen (s : State) (p : Nat) : Nat := s.rf (Reg.LFE_Z_THR p) 16 16 * 10
def State.zShort (s : State) (p : Nat) : Nat := s.rf (Reg.LFE_Z_THR p) 0 16

/-- A leg's sense in a transmission that ended: a leg below 60 % or above 140 % of the mean in 16 transmissions in a row is one fault event of the PROT page; a lasting one brings in the spare leg (R99, R547). -/
def State.legCheck (s : State) (p c : Nat) (bad : List Nat) : State :=
  let k := s.cond p c
  let runs := (List.range 9).foldl (fun m l => tset 0 m l (if bad.contains l then tget 0 k.legRun l + 1 else 0)) k.legRun
  let s1 := s.setCond p c { k with legRun := runs }
  (List.range 9).foldl (fun s l =>
    if tget 0 (s.cond p c).legRun l < 16 then s
    else
      let k2 := s.cond p c
      let s2 := s.setCond p c { k2 with legRun := tset 0 k2.legRun l 0 }
      let (s4, lasting) := s2.fault (0x033 + 4 * p) c l
      if lasting then s4.setCond p c { s4.cond p c with legDue := some l } else s4) s1

/-- Conductors whose spare leg is still on the bench, `LEFT` of class 10 (R551). -/
def State.legsLeft (s : State) : Nat :=
  ((List.range 4).flatMap (fun p => (List.range 3).filter (fun c => s.rf (Reg.LFE_LEG_STAT p c) 16 9 = 0))).length

/-- `LEG_STAT_c` after leg `l` of the conductor is replaced or lost (R547, R113): the first time by the spare, then seven legs, then the conductor stops. -/
def State.legReplace (s : State) (p c l : Nat) : State :=
  let a := Reg.LFE_LEG_STAT p c
  let w := s.rd a
  let failed := setBit w (16 + l) true
  let k := { s.cond p c with legDue := none }
  let nFailed := (List.range 9).foldl (fun n i => if bit failed (16 + i) then n + 1 else n) 0
  let svc := setBit failed l false
  let s1 := s.setCond p c k
  if nFailed ≤ 1 then
    let s2 := (s1.wr a (setBit svc 8 true)).pageRecord (0x033 + 4 * p) 0x22 2 (detail 0 c l)
    if s2.legsLeft = 0 then s2.benchEmpty 10 else s2
  else if nFailed = 2 then (s1.wr a svc).pageRecord (0x033 + 4 * p) 0x23 4 (detail 0 c l)
  else
    let s2 := (s1.wr a svc).setCond p c { k with forcedOff := true }
    (s2.wb (Reg.LFE_PORT_CTL p) c false).pageRecord (0x033 + 4 * p) 0x23 5 (detail 0 c l)

/-- LEG_SUBSTITUTION (R547): at the end of the transmission in progress the spare leg replaces the faulty one. -/
def State.legSubst (s : State) (p c : Nat) : State :=
  let k := s.cond p c
  match k.legDue with
  | some l => if k.nb.isNone && k.bb.isNone then s.legReplace p c l else s
  | none => s

/-- A waiting leg substitution is made once the conductor is idle. -/
def State.legIfDue (s : State) (p c : Nat) : State := s.legSubst p c

/-- The cap on a conductor's RMS output in 0.25 dBµV (R102, R106, R113): `TX_LVL_MAX_c`, no higher than 137.0 dBµV, and what the band plan and emission mask permit, which the spec gives no number for (log entry 158); 6 dB lower while the die is in THERMAL. -/
def State.capOf (s : State) (p c : Nat) : Nat :=
  min (min 0x224 (s.af (Reg.LFE_TX_LVL_MAX p c) 0 10)) (Config.planCap p c (s.af (Reg.NBP_BAND p c) 0 3)).toNat - (if (s.cond p c).therm then 24 else 0)

/-- The correction that a cap leaves room for, in 0.1 dB, over an open-circuit level `open_` in 0.1 dBµV (R101, step 3). -/
def State.capRoom (s : State) (p c : Nat) (open_ : Int) : Int := (s.capOf p c * 5 / 2 : Nat) - open_

/-- One update of the gain loop, every 2 µs (R101): the correction moves by the error, up by no more than `UP_STEP`, never above `BOOST_MAX` nor the room under the cap; a current at its peak lowers it by the excess. The second and third components say that the cap and the current bound it. -/
def State.loopStep (s : State) (p c : Nat) (x : Int × Bool × Bool) (u : LoopUpdate) : Int × Bool × Bool :=
  let up : Int := (s.rf (Reg.LFE_LOOP_CFG p) 0 8 : Nat)
  let boost : Int := (5 * s.rf (Reg.LFE_LOOP_CFG p) 8 8 : Nat)
  let want := min (x.1 + min u.err up) boost
  let room := s.capRoom p c u.level
  (min want room - u.excess, decide (room < want), decide (0 < u.excess))

/-- The gain loop over a transmission (R101, R113): from the correction held since the last one, limited by the cap in force, through the updates made every 2 µs to the correction held for the next, with its flags. It is still settling while its last error exceeds 0.5 dB and nothing bounds it. -/
def State.loopShow (s : State) (p c : Nat) (m : LineEnd) : State :=
  match m.loop with
  | [] => s
  | u :: _ =>
    if ! s.rb (Reg.LFE_TX_CTL p) 0 then s
    else
      let start := min (signedField 10 (s.rf (Reg.LFE_LOOP_STAT p c) 0 10)) (s.capRoom p c u.level)
      let (corr, cap, ilim) := m.loop.foldl (s.loopStep p c) (start, false, false)
      let err := ((m.loop.getLast?).map (·.err)).getD 0
      let settling := decide (5 < err.natAbs) && ! cap && ! ilim
      s.wr (Reg.LFE_LOOP_STAT p c) (word (satField 10 corr + (if cap then 2 ^ 16 else 0) + (if ilim then 2 ^ 17 else 0) + (if settling then 2 ^ 18 else 0)))

/-- TRANSMISSION_END (R98, R99, R105, R106): the transmission's descriptor stays with its owner, the driver returns to high impedance, the gain is restored, the impedance is measured where the transmission was longer than 200 µs, and the legs are compared. `m` is what was measured on the conductor. -/
def State.txEnd (s : State) (p c : Nat) (bb : Bool) (m : LineEnd) : State :=
  let k := s.cond p c
  match (if bb then k.bb else k.nb) with
  | none => s
  | some x =>
    let k1 := if bb then k.endBb s.now else k.endNb s.now
    let s1 := (s.putCond p c k1).loopShow p c m
    let s2 := if k1.nb.isNone && k1.bb.isNone then s1.restoreGain p c else s1
    let s3 :=
      -- A conductor of a set that carries no stream sends the preamble alone (R151).
      if 200 * usec < (if bb && ! x.air.streams.contains c then 38400 else x.dur) then
        let s4 := s2.showZ p c m.z
        let run := if s.zOpen p < m.z then (s4.cond p c).openRun + 1 else 0
        let s5 := s4.setCond p c { s4.cond p c with openRun := run }
        if 3 ≤ run then s5.openFound p c else s5
      else s2
    (s3.legCheck p c m.bad).legIfDue p c

/-! ## Probes (R105, R109) -/

/-- A probe of a conductor is requested (R105): one waits, and a further request is served by it. -/
def State.probeRequest (s : State) (p c : Nat) : State := s.setCond p c { s.cond p c with probeWait := true }

/-- Edges a probe lasts: 200 µs (R105). -/
abbrev probeDur : Nat := 200 * usec

/-- A probe can run now: the conductor can drive and is idle, and the probe meets no quiet region (R105). -/
def State.probeFree (s : State) (p c : Nat) : Bool :=
  let k := s.cond p c
  s.canDrive p c && k.nb.isNone && k.bb.isNone && k.probing == 0 && ! s.inQuiet && ! s.meetsQuiet s.lt probeDur

/-- PROBE_START (R105): a waiting probe runs once the conductor can drive, is not transmitting, and no quiet region meets it. -/
def State.probeStart (s : State) (p c : Nat) : State :=
  let k := s.cond p c
  if k.probeWait && s.probeFree p c then s.setCond p c { k with probeWait := false, probeReq := true, probing := s.now + probeDur + 1 }
  else s

/-- PROBE_DONE (R105, R106, R109): the burst is over, and `ZMAG` is reported. `ZMAG` above `Z_SHORT_REC` ends FOLDBACK, above `Z_OPEN` it shows an open coupling, and at or below it ends OPEN; a conductor that returns to NORMAL is reported recovered. -/
def State.probeDone (s : State) (p c z : Nat) : State :=
  let k := s.cond p c
  if k.probing = 0 || decide (s.now + 1 < k.probing) then s
  else
    let s1 := (s.putCond p c { k with probing := 0, probeReq := false }).showZ p c z
    let k1 := s1.cond p c
    let fold := k1.fold && ! decide (s.zShort p < z)
    let backF := k1.fold && ! fold
    let opened := k1.opened && decide (s.zOpen p < z)
    let s2 := s1.putCond p c { k1 with fold := fold, opened := opened, limit := k1.limit && ! backF, limUs := if backF then 0 else k1.limUs
                                       openRun := if decide (s.zOpen p < z) then k1.openRun else 0 }
    let s3 := if decide (s.zOpen p < z) && ! fold then s2.openFound p c else s2
    if (k1.fold || k1.opened) && (s3.cond p c).state == 0 then s3.protEvent p 9 0 c else s3

/-- PROBE_RETRY (R109): every `RETRY_SF` superframes from the one in which FOLDBACK or OPEN was entered, in slice 0 of cycle 0 of the superframe, the conductor is probed; one that cannot drive at that instant is not. -/
def State.probeRetry (s : State) (p c : Nat) : State :=
  let k := s.cond p c
  let (m, u) := s.sfSlice p c s.lt
  let d := s.sfSince m k.faultSf
  if (k.fold || k.opened) && u == 0 && decide (0 < d) && d % s.rf (Reg.LFE_PROT_CFG p) 16 16 == 0 && k.probedSf != m + 1 then
    let k1 := { k with probedSf := m + 1 }
    s.setCond p c (if s.probeFree p c then { k1 with probing := s.now + probeDur + 1, probeReq := false } else k1)
  else s

/-! ## Polarity (R110) -/

/-- The polarity that applies to a conductor (R110, R112): forced, or as detected. -/
def State.polWanted (s : State) (p c : Nat) : Bool :=
  match s.rf (Reg.LFE_POL_CTL p) (2 * c) 2 with
  | 1 => false
  | 2 => true
  | _ => s.rb (Reg.LFE_POL_STAT p) (4 + c)

/-- A wanted polarity that differs from `INV` waits for its boundary (R110). -/
def State.polRefresh (s : State) (p c : Nat) : State :=
  let w := s.polWanted p c
  s.setCond p c { s.cond p c with polPend := if w != s.rb (Reg.LFE_POL_STAT p) c then some w else none }

/-- POLARITY_CHANGE (R110): at a slice boundary at which the conductor neither transmits nor is in a receive window. -/
def State.polarityChange (s : State) (p c : Nat) : State :=
  let k := s.cond p c
  match k.polPend with
  | some w =>
    if k.nb.isNone && k.bb.isNone && ! (s.chan p c).windowAt s.now && s.atSlice p c then
      (s.wb (Reg.LFE_POL_STAT p) c w).setCond p c { k with polPend := none }
    else s
  | none => s

/-- A received frame's common channel phase (R106): the sixteenth inverted frame in a row, from at least three transmitters, detects a transformer reversed against the polarity in force: reversed while `INV` is 0, no longer reversed while it is 1. That a frame whose transmitter has no short address adds none to the three, and that the three may lie anywhere in a run longer than sixteen, is the model's choice (log entry 159). -/
def State.phaseObserved (s : State) (p c : Nat) (inverted : Bool) (src : Nat) : State :=
  let k := s.cond p c
  if ! inverted then s.setCond p c { k with revRun := 0, revSrc := [] }
  else
    let srcs := if src = 0xFFFFE || k.revSrc.contains src then k.revSrc else src :: k.revSrc
    let n := k.revRun + 1
    if 16 ≤ n && 3 ≤ srcs.length then
      let was := s.rb (Reg.LFE_POL_STAT p) (4 + c)
      let det := ! s.rb (Reg.LFE_POL_STAT p) c
      let s1 := (s.setCond p c { k with revRun := 0, revSrc := [] }).wb (Reg.LFE_POL_STAT p) (4 + c) det
      let s2 := if det && ! was then s1.protEvent p 3 2 c else s1
      s2.polRefresh p c
    else s.setCond p c { k with revRun := n, revSrc := srcs }

/-! ## Grid conditions (R106) -/

/-- Twenty degrees of a cycle in units of 2^-32 (R106). -/
abbrev deg20 : Nat := 2 ^ 32 / 18

/-- An angle lies within 20° of another, in units of 2^-32 cycle. -/
def nearAngle (a b : Nat) : Bool := decide ((a + deg20 + 2 ^ 32 - b % 2 ^ 32) % 2 ^ 32 ≤ 2 * deg20)

/-- The nominal lag of a phase behind the reference conductor's own phase (R67). -/
def State.nomLag (s : State) (c : Nat) : Nat := (c * 0x55555555 + c / 2 + 2 ^ 32 - (s.trk.refPhase * 0x55555555 + s.trk.refPhase / 2)) % 2 ^ 32

/-- A run that goes on where its condition holds, and is broken where it does not. -/
def runOn (n : Nat) (b : Bool) : Nat := if b then n + 1 else 0

/-- The lags of one more cycle, measured on the conductors `ms` (R106): the runs of swapped and nominal conductors, and of reversed and nominal sequence. -/
def State.gridCycle (s : State) (ms : List (Fin 12)) : State :=
  let lag := fun (p c : Nat) => (s.rd (Reg.LTIME_COND_OFS p c)).toNat
  let s1 := ms.foldl (fun s x =>
    let p := x.val / 3
    let c := x.val % 3
    let k := s.cond p c
    let n := s.nomLag c
    s.setCond p c { k with swapRun := runOn k.swapRun (nearAngle (lag p c) (n + 2 ^ 31)), nomRun := runOn k.nomRun (nearAngle (lag p c) n) }) s
  (List.range 4).foldl (fun s p =>
    if ! (ms.any (fun x => x.val == 3 * p + 1) && ms.any (fun x => x.val == 3 * p + 2)) then s
    else
      let k := s.cond p 0
      let b := lag p 1 + 2 ^ 32 - lag p 0
      let c := lag p 2 + 2 ^ 32 - lag p 0
      s.setCond p 0 { k with seqRun := runOn k.seqRun (nearAngle b (2 ^ 32 * 2 / 3) && nearAngle c (2 ^ 32 / 3))
                             fwdRun := runOn k.fwdRun (nearAngle b (2 ^ 32 / 3) && nearAngle c (2 ^ 32 * 2 / 3)) }) s1

/-- Conductors other than the tracker's reference whose lag is measured, as index 3 p + c, with their runs (R106). -/
def State.swapOthers (s : State) : List (Nat × CondSt) :=
  s.conds.filter (fun x => x.1 != 3 * s.trk.refPort + s.trk.refPhase && (x.2.swapRun != 0 || x.2.nomRun != 0))

/-- The reference conductor is the one at fault: every other measured conductor deviates, and there are several (R106). -/
def State.refSwapped (s : State) : Bool := decide (2 ≤ s.swapOthers.length) && s.swapOthers.all (fun x => decide (50 ≤ x.2.swapRun))

/-- A conductor is swapped, or back in place (R106): a deviation of every other conductor shows the reference; where several but not all deviate, each is reported (log entry 160). -/
def State.swapFound (s : State) (p c : Nat) : Bool :=
  if p == s.trk.refPort && c == s.trk.refPhase then s.refSwapped else decide (50 ≤ (s.cond p c).swapRun) && ! s.refSwapped
def State.swapGone (s : State) (p c : Nat) : Bool :=
  if p == s.trk.refPort && c == s.trk.refPhase then s.swapOthers.all (fun x => decide (50 ≤ x.2.nomRun)) else decide (50 ≤ (s.cond p c).nomRun) || s.refSwapped

/-- A bit of `GRID_STAT` rises at a detection, with its event, and falls at the return to normal (R106, R115). -/
def State.gridBit (s : State) (p bit_ ev c : Nat) (found gone : Bool) : State :=
  let a := Reg.LFE_GRID_STAT p
  if found && ! s.rb a bit_ then (s.wb a bit_ true).protEvent p ev 1 c
  else if gone && ! found then s.wb a bit_ false else s

/-- LN_SWAP_DETECT (R106): fifty cycles detect, or clear, a swapped line and neutral on a conductor. -/
def State.lnSwap (s : State) (p c : Nat) : State := s.gridBit p c 4 c (s.swapFound p c) (s.swapGone p c)

/-- SEQ_REV_DETECT (R106): fifty cycles detect, or clear, a reversed phase sequence. -/
def State.seqRev (s : State) (p : Nat) : State := s.gridBit p 3 5 0 (decide (50 ≤ (s.cond p 0).seqRun)) (decide (50 ≤ (s.cond p 0).fwdRun))

/-- OPEN_NEUTRAL_DETECT (R106): ten cycles, each with the magnitude of the phasor sum and the three phase voltages in mV, detect an open neutral, or clear it. The nominal phase voltage is `U_DIN` of the MET page. -/
def State.openNeutral (s : State) (p : Nat) (cycles : List (Nat × List Nat)) : State :=
  let un := s.rf (Reg.MET_UDIN p) 0 24
  let l := cycles.drop (cycles.length - 10)
  let bad := fun (x : Nat × List Nat) => decide (un * 3 < 10 * x.1) && x.2.any (fun v => decide (110 * un < 100 * v)) && x.2.any (fun v => decide (100 * v < 90 * un))
  s.gridBit p 4 6 0 (l.length == 10 && l.all bad) (l.length == 10 && l.all (fun x => decide (20 * x.1 < 3 * un)))

/-- VDRV_FAULT (R106, R108): `VDRV_p` in mV out of range: all three drivers of the port stop. Below -0.5 V it is reported as reversed, not as low (log entry 11). -/
def State.vdrvFault (s : State) (p : Nat) (mv : Int) : State :=
  let bitn := if mv < -500 then 7 else if mv < 11000 then 5 else 6
  let s := if 11500 ≤ mv && mv ≤ 18500 then s else s.setCond p 0 { s.cond p 0 with vdrvBad := s.now + 1 }
  if -500 ≤ mv && 11000 ≤ mv && mv ≤ 19000 then s.wf (Reg.LFE_VDRV_MEAS p) 0 16 (satField 16 mv)
  else
    let s1 := (s.wf (Reg.LFE_VDRV_MEAS p) 0 16 (satField 16 mv)).wb (Reg.LFE_GRID_STAT p) bitn true
    let was := (s.cond p 0).supply
    let s2 := (List.range 3).foldl (fun s c => s.putCond p c { s.cond p c with supply := true }) s1
    let s3 := if was then s2 else s2.protEvent p 7 1 0
    (List.range 3).foldl (fun s c => s.faultStop p c) s3

/-- VDRV_RECOVER (R106, R115): 100 ms within 11.5 V to 18.5 V. -/
def State.vdrvRecover (s : State) (p : Nat) (mv : Int) : State :=
  let s := if 11500 ≤ mv && mv ≤ 18500 then s else s.setCond p 0 { s.cond p 0 with vdrvBad := s.now + 1 }
  let s1 := s.wf (Reg.LFE_VDRV_MEAS p) 0 16 (satField 16 mv)
  if 11500 ≤ mv && mv ≤ 18500 && (s.cond p 0).supply && decide ((s.cond p 0).vdrvBad + 100 * msec ≤ s.now + 1) then
    let w := s1.rd (Reg.LFE_GRID_STAT p)
    let s2 := s1.wr (Reg.LFE_GRID_STAT p) (w &&& 0x1F)
    (List.range 3).foldl (fun s c => s.putCond p c { s.cond p c with supply := false }) s2
  else s1

/-- The DRV die of ports `2d` and `2d + 1` shows temperature `t` in 0.1 °C against the maximum `tmax` (R106): the thermal states, with their hysteresis. -/
def State.drvTemp (s : State) (d : Nat) (t tmax : Int) : State :=
  let ports := [2 * d, 2 * d + 1]
  let s1 := ports.foldl (fun s p => s.wf (Reg.LFE_DRV_TEMP p) 0 16 (satField 16 t)) s
  ports.foldl (fun s p =>
    let k := s.cond p 0
    let off := if tmax + 100 < t then true else if t ≤ tmax then false else k.thermOff
    let th := if tmax < t then true else if t ≤ tmax - 100 then false else (k.therm || k.thermOff)
    let s2 := (List.range 3).foldl (fun s c => s.putCond p c { s.cond p c with thermOff := off, therm := th || off }) s
    let s3 := if th && ! k.therm then s2.protEvent p 8 0 0 else s2
    (List.range 3).foldl (fun s c => s.faultStop p c) s3) s1

/-! ## Band C (R141, R148) -/

/-- Band C: the pause after the last band C transmission still runs (R141). -/
def State.inPause (s : State) (p c : Nat) : Bool :=
  let k := s.cond p c
  k.bandcEnd != 0 && decide (s.now < k.bandcEnd - 1 + s.rf (Reg.NBP_CSMA_C_CFG1 p) 16 16 * msec)

/-- `CSMA_C_STAT_c` as it reads (R141, R148): `PAUSE` in the pause, and `BUSY` then too, and for `BUSY_MS` from the last busy level measured (log entry 166). -/
def State.csmaStat (s : State) (p c : Nat) (w : Word) : Word :=
  let k := s.cond p c
  let busy := k.busyAt != 0 && decide (s.now < k.busyAt - 1 + s.rf (Reg.NBP_CSMA_C_CFG0 p) 8 8 * msec)
  setBit (setBit w 0 (busy || s.inPause p c)) 1 (s.inPause p c)

/-! ## Receive gain (R94, R95) -/

/-- A receive sample in its 16-bit container (R94): the 14-bit sample, `OVR`, and `GC` on the first sample at a new gain code. -/
def container (sample : Int) (ovr gc : Bool) : Nat := (sample % 2 ^ 14).toNat + (if ovr then 2 ^ 14 else 0) + (if gc then 2 ^ 15 else 0)

/-- The sample of a channel taken at edge `e`, the one before it `step` edges earlier, carries `GC` (R94, R96). -/
def ChanSt.gcMark (k : ChanSt) (e step : Nat) : Bool := k.gcAt.any (fun g => decide (g ≤ e) && decide (e < g + step))

/-- The gain code in use on a channel changes (R94, R95): its first sample carries `GC`. -/
def State.setGain (s : State) (p ch g : Nat) : State :=
  if s.rf (Reg.LFE_RX_STAT p ch) 16 4 = g then s
  else (s.wf (Reg.LFE_RX_STAT p ch) 16 4 g).setChan p ch ((s.chan p ch).noteGc s.now)

/-- Frames whose preamble has come and whose end is still to come on a channel: the reception of each waits in the queue (R95, R144, R167). A broadband frame is decoded across the receive set. -/
def State.decoding (s : State) (p ch : Nat) : Bool :=
  s.pending.any (fun i => match i with
    | .nbFrameRx _ q c x => q.val == p && c.val == ch && decide (x.start ≤ s.now)
    | .bbFrameRx _ q _ x => q.val == p && decide (x.start ≤ s.now)
    | _ => false)

/-- `AGC_HOLD` of a channel (R95): as written, and for the length of a frame being decoded. -/
def State.agcHeld (s : State) (p ch : Nat) : Bool := s.rb (Reg.LFE_RX_CTL p) (4 + ch) || s.decoding p ch

/-- AGC_OVERLOAD (R95): more than 16 overload samples in 1 µs lower the gain by 6 dB, two codes. The rule names the transmit hold and `AGC_EN` without saying whether an overload lowers a held gain, or counts while `AGC_EN` is 0: both are the model's choice (log entries 161 and 162). -/
def State.agcOverload (s : State) (p ch : Nat) : State :=
  let a := Reg.LFE_RX_STAT p ch
  let s1 := s.wr a (satInc (s.rd a) 0 16)
  if s.rb (Reg.LFE_RX_CTL p) ch then s1.setGain p ch (s.rf a 16 4 - 2) else s1

/-- AGC_STEP_UP (R95): a slice with a low peak raises the gain by one code at the slice boundary, once a slice, unless the channel is held, and never above `GAIN_MAX`. -/
def State.agcStepUp (s : State) (p ch : Nat) : State :=
  let a := Reg.LFE_RX_STAT p ch
  let g := s.rf a 16 4
  let n := s.sliceNo p ch s.lt + 1
  if s.rb (Reg.LFE_RX_CTL p) ch && ! s.agcHeld p ch && ! s.rb a 20 && decide (g < s.rf (Reg.LFE_RX_GAIN p ch) 4 4) && s.atSlice p ch && (s.chan p ch).lastUp != n then
    let s1 := s.setGain p ch (g + 1)
    s1.setChan p ch { s1.chan p ch with lastUp := n }
  else s

/-- A transmission starts on conductor `c`: with AGC on, the gain is held at `TX_GAIN` (R95). -/
def State.holdGain (s : State) (p c : Nat) : State :=
  if s.rb (Reg.LFE_RX_CTL p) c && (s.chan p c).held.isNone then
    let g := s.rf (Reg.LFE_RX_STAT p c) 16 4
    let s1 := (s.setGain p c (s.rf (Reg.LFE_RX_GAIN p c) 8 4)).wb (Reg.LFE_RX_STAT p c) 20 true
    s1.setChan p c { s1.chan p c with held := some g }
  else s

/-- After a write of `RX_GAIN_ch` or `RX_CTL`: with AGC off, the gain in use is the value written (R95). -/
def State.gainRefresh (s : State) (p ch : Nat) : State :=
  if s.rb (Reg.LFE_RX_CTL p) ch then s else s.setGain p ch (s.rf (Reg.LFE_RX_GAIN p ch) 0 4)

end Sys2Proof.Machine
end

