-- ==== Sys2Proof/Machine/Crc.lean ====
section
/-! DEFINITION. The cyclic checks of the spec (R125, R237, R477), bit by bit. -/

namespace Sys2Proof.Machine

/-- One bit of a reflected CRC register. -/
def crcReflBit (poly c : Nat) : Nat := if c % 2 = 1 then Nat.xor (c / 2) poly else c / 2

/-- One byte into a reflected CRC register. -/
def crcReflByte (poly c : Nat) (b : Byte) : Nat :=
  (List.range 8).foldl (fun c _ => crcReflBit poly c) (Nat.xor c b.toNat)

/-- One bit of a CRC register of `w` bits that shifts left. -/
def crcLeftBit (w poly c : Nat) : Nat :=
  if c / 2 ^ (w - 1) % 2 = 1 then Nat.xor (c * 2 % 2 ^ w) poly else c * 2 % 2 ^ w

/-- One byte into a CRC register of `w` bits that shifts left. -/
def crcLeftByte (w poly c : Nat) (b : Byte) : Nat :=
  (List.range 8).foldl (fun c _ => crcLeftBit w poly c) (Nat.xor c (b.toNat * 2 ^ (w - 8)))

/-- CRC-32C of a byte string (R237). -/
def crc32c (bs : List Byte) : Nat := Nat.xor (bs.foldl (crcReflByte 0x82F63B78) 0xFFFFFFFF) 0xFFFFFFFF

/-- The register of a check unit's CRC before any byte, by `POLY` (R477). -/
def chkInit : Nat → Nat
  | 0 => 0x00
  | 1 => 0xFFFF
  | _ => 0xFFFFFFFF

/-- The register of a check unit's CRC after one more byte, by `POLY` (R477). -/
def chkByte (poly c : Nat) (b : Byte) : Nat :=
  match poly with
  | 0 => crcLeftByte 8 0x07 c b
  | 1 => crcLeftByte 16 0x1021 c b
  | 2 => crcReflByte 0xEDB88320 c b
  | _ => crcReflByte 0x82F63B78 c b

/-- The CRC value of a register, by `POLY` (R477). -/
def chkFinal (poly c : Nat) : Nat :=
  match poly with
  | 0 => c
  | 1 => Nat.xor c 0xFFFF
  | _ => Nat.xor c 0xFFFFFFFF

/-- Bytes the CRC takes in a record, by `POLY` (R477). -/
def chkWidth : Nat → Nat
  | 0 => 1
  | 1 => 2
  | _ => 4

/-- CRC-16 over header bits, first bit first (R125). -/
def hcs16 (bits : List Bool) : Nat :=
  Nat.xor (bits.foldl (fun r b =>
    let fb := (r / 2 ^ 15 % 2 == 1) != b
    let sh := r * 2 % 2 ^ 16
    if fb then Nat.xor sh 0x1021 else sh) 0xFFFF) 0xFFFF

end Sys2Proof.Machine
end

