-- ==== Sys2Proof/Machine/Rings.lean ====
section
/-! DEFINITION. Host rings (R324 to R337), completions, doorbells, held completions (R344, R345), the delivery of uplink messages (R334), and the security state's part of a submission's checks (R504). -/

namespace Sys2Proof.Machine

/-! ## Ring state -/

/-- Ring `r`. -/
def State.ring (s : State) (r : Nat) : RingSt := tget {} s.rings r

/-- The state with ring `r` set. -/
def State.setRing (s : State) (r : Nat) (v : RingSt) : State := { s with rings := tset {} s.rings r v }

/-- A register of ring `r`'s control block, in the message window (R335). -/
def ringReg (r off : Nat) : Nat := msgBase + 0x80000 * r + off

/-- `LOG2N`, `TYPE`, `VEC`, `IRQ_EN` and `IRQ_GAP` of ring `r` (R335). -/
def State.log2n (s : State) (r : Nat) : Nat := s.rf (ringReg r 0x2000) 0 4
def State.ringRx (s : State) (r : Nat) : Bool := s.rb (ringReg r 0x2000) 4
def State.ringVec (s : State) (r : Nat) : Nat := s.rf (ringReg r 0x2000) 8 9
def State.irqEn (s : State) (r : Nat) : Bool := s.rb (ringReg r 0x2000) 17
def State.irqGap (s : State) (r : Nat) : Nat := s.rf (ringReg r 0x2000) 24 8 * usec

/-- A 64-bit base address in a register pair, low 12 bits 0 (R335). -/
def State.ringBase (s : State) (r off : Nat) : Nat :=
  (s.rd (ringReg r (off + 4))).toNat * 2 ^ 32 + (s.rd (ringReg r off)).toNat / 4096 * 4096

/-- The ALIVE value after `a` (R327): 255 is followed by 1. -/
def nextAlive (a : Nat) : Nat := a % 255 + 1

/-- `PHASE` of CQ index `i` on a ring of 2^k entries (R327). -/
def phaseOf (k i : Nat) : Nat := 1 - i / 2 ^ k % 2

/-- Bytes written to host memory (R334, R342): as memory writes through the tunnel, or as one DATA_WR packet in bulk mode. -/
def State.dmaWrite (s : State) (addr : Nat) (b : List Byte) : State :=
  if s.activeMode = 3 then s.bulkSend 0x84 0 addr b else { s with hostMem := cellsWrite s.hostMem addr b }

/-- The host function may access the device: PRESENT, with no red card (R344, R519). -/
def State.hostServed (s : State) : Bool := s.hostPresent && ! s.host.carded

/-! ## Completions -/

/-- The 64 bytes of a completion entry (R329). -/
def cplBytes (alive phase : Nat) (c : Cpl) : List Byte :=
  let body := leBytes 1 alive ++ leBytes 1 (phase + (if c.held then 2 else 0)) ++ leBytes 1 c.status ++ leBytes 1 c.op
    ++ leBytes 2 c.idx ++ leBytes 2 c.cid ++ takeBytes c.result 0 52
  body ++ leBytes 4 (crc32c body)

/-- The ring's vector after an entry is written (R325): at once, or once at the end of the gap. -/
def State.ringIrq (s : State) (r : Nat) : State :=
  if ! s.irqEn r then s
  else if s.irqGap r = 0 then s.raiseVec (s.ringVec r)
  else
    let g := s.ring r
    if s.now < g.gapEnd then s.setRing r { g with gapOwed := true }
    else (s.setRing r { g with gapEnd := s.now + s.irqGap r, gapOwed := false }).raiseVec (s.ringVec r)

/-- A completion entry goes to the CQ (R327, R329); in bulk mode as a COMPLETE packet (R342), whose `ADDR` names its ring index (log entry 192). -/
def State.writeCpl (s : State) (r : Nat) (c : Cpl) : State :=
  let g := s.ring r
  let k := s.log2n r
  let b := cplBytes g.cqAlive (phaseOf k g.cqTail) c
  let s1 := s.setRing r { g with cqTail := (g.cqTail + 1) % 65536, cqAlive := nextAlive g.cqAlive, written := g.written ++ [b] }
  let s2 := if s.activeMode = 3 then s1.bulkSend 0x82 r g.cqTail b
    else s1.dmaWrite (s.ringBase r 0x200C + g.cqTail % 2 ^ k * 64) b
  s2.ringIrq r

/-- The ring takes completions (R336, R344). -/
def State.ringOpen (s : State) (r : Nat) : Bool :=
  s.hostServed && ((s.ring r).state == 1 || (s.ring r).state == 2)

/-- CQ slots that hold no entry the host has yet to consume (R330). -/
def State.cqRoom (s : State) (r : Nat) : Nat := 2 ^ s.log2n r - (s.ring r).written.length

/-- A completion is posted (R329, R331): written where the ring is open with a slot free and none is held before it, else held (R344). -/
def State.post (s : State) (r : Nat) (c : Cpl) : State :=
  let g := s.ring r
  let s1 := s.setRing r { g with lastBad := if c.status = Status.done then g.lastBad else c.status % 256 }
  if s1.ringOpen r && g.held.isEmpty && s1.cqRoom r != 0 then s1.writeCpl r c
  else s1.setRing r { s1.ring r with held := g.held ++ [{ c with held := ! s1.ringOpen r }] }

/-- A submission resolves (R331): its completion is posted. -/
def State.complete (s : State) (r : Nat) (c : Cpl) : State :=
  (s.setRing r { s.ring r with work := (s.ring r).work - 1 }).post r c

/-- The completions held for ring `r` are written, in order, with `HELD` set, once the ring is open (R345); the CQ never overflows (R330). -/
def State.writeHeld (s : State) (r : Nat) : State :=
  if ! s.ringOpen r then s
  else
    let h := (s.ring r).held
    let n := s.cqRoom r
    (h.take n).foldl (fun s c => s.writeCpl r c) (s.setRing r { s.ring r with held := h.drop n })

/-- Every ring writes what it holds. -/
def State.writeAllHeld (s : State) : State := (s.rings.map Prod.fst).foldl (fun s r => s.writeHeld r) s

/-- `HELD_CNT` (R347). -/
def State.heldCnt (s : State) : Nat := (s.rings.map (fun x => x.2.held.length)).foldl (· + ·) 0

/-- `RINGS_ACTIVE` (R347). -/
def State.ringsActive (s : State) : Nat := (s.rings.filter (fun x => x.2.state == 1)).length

/-- Pending vectors whose mask is clear are sent (R326). -/
def State.flushVecs (s : State) : State :=
  if ! s.canSignal then s
  else (List.range 512).foldl (fun s v =>
    if s.rb (msgBase + 0x8002000 + 4 * (v / 32)) (v % 32) && ! s.vecMasked v then (s.setPba v false).raiseVec v else s) s

/-! ## Uplink messages and receive buffers (R334) -/

/-- The result part of MSG_RECV (R333): entry bytes 8 on. -/
def msgRecvResult (btag : Nat) (m : UpMsg) (retOfs retLen lt : Nat) : List Byte :=
  leBytes 4 btag ++ leBytes 3 (m.src % 2 ^ 20) ++ leBytes 1 (m.flags % 8) ++ leBytes 4 m.msgId ++ leBytes 2 m.plain.length
    ++ leBytes 2 retOfs ++ leBytes 2 retLen ++ [0, 0] ++ leBytes 4 m.rxCyc ++ leBytes 4 (if m.flags / 2 % 2 = 1 then m.execCyc else 0)
    ++ leBytes 8 lt

/-- The receive buffer posted earliest over all open rings: its ring and itself (R334). -/
def State.firstBuf (s : State) : Option (Nat × RxBuf) :=
  (s.rings.filter (fun x => s.ringOpen x.1)).foldl (fun (acc : Option (Nat × RxBuf)) x =>
    match x.2.bufs with
    | [] => acc
    | b :: _ => match acc with
      | none => some (x.1, b)
      | some (_, a) => if b.seq < a.seq then some (x.1, b) else acc) none

/-- One uplink message goes to the buffer posted earliest (R334): its plaintext, then a MSG_RECV completion. -/
def State.deliverTo (s : State) (r : Nat) (b : RxBuf) (m : UpMsg) (st retOfs retLen : Nat) : State :=
  let g := s.ring r
  let s1 := s.setRing r { g with bufs := g.bufs.filter (fun x => x.seq != b.seq) }
  (s1.dmaWrite b.addr m.plain).complete r
    { idx := b.idx, op := 0x81, status := st, cid := b.cid, result := msgRecvResult b.btag m retOfs retLen s.lt }

/-- Uplink messages are delivered, oldest first, while buffers are posted (R334, R345). -/
def State.deliverUplink (s : State) : State :=
  s.host.uplink.foldl (fun s m => match s.firstBuf with
    | some (r, b) =>
      let s1 := s.deliverTo r b m Status.done 0 0
      { s1 with host := { s1.host with uplink := s1.host.uplink.drop 1 } }
    | none => s) s

/-- Buffers of ring `r` returned unused complete as RXBUF_RETURN with FLUSHED (R334). -/
def State.returnBufs (s : State) (r : Nat) : State :=
  let bs := (s.ring r).bufs
  bs.foldl (fun s b => s.complete r { idx := b.idx, op := 0x83, status := Status.flushed, cid := b.cid, result := leBytes 4 b.btag })
    (s.setRing r { s.ring r with bufs := [] })

/-! ## Fetching and checking a submission (R330, R331, R504) -/

/-- A submission accepted by its ring. -/
structure Sub where
  ring : Nat
  idx : Nat
  cid : Nat
  op : Nat
  /-- The operation part (R328). -/
  part : List Byte
deriving DecidableEq, Repr

/-- `UTAG` of a submission (R332). -/
def Sub.utag (c : Sub) : Nat := leAt c.part 40 4

/-- Operations allowed on a ring's type (R332, and the chapters that define 0x40 to 0x7F). -/
def opOnRing (rx : Bool) (op : Nat) : Bool :=
  if rx then op == 0x00 || op == 0x20
  else op == 0x00 || op == 0x01 || op == 0x02 || op == 0x08 || op == 0x09 || op == 0x0A || op == 0x10 || op == 0x11
    || op == 0x40 || op == 0x41 || op == 0x44 || op == 0x45 || op == 0x48 || op == 0x50 || op == 0x51
    || (decide (0x60 ≤ op) && decide (op ≤ 0x6C)) || op == 0x70 || op == 0x71

/-- The security state permits a submission (R504); the operations of R455 have their own column there. -/
def State.lcPermits (s : State) (op : Nat) : Bool :=
  let lc := s.sec.lc
  if s.sec.recovery then op == 0x00 || op == 0x61 || op == 0x69 || op == 0x6A
  else if op = 0x00 || op = 0x40 then true
  else if op = 0x01 || op = 0x02 || op = 0x10 || op = 0x11 || op = 0x20 || op = 0x50 || op = 0x70 || op = 0x71 then lc == 1 || lc == 2
  else if decide (0x60 ≤ op) && decide (op ≤ 0x6C) then true
  else decide (lc < 3)

/-- Fetching stops: entry to DORMANT or OFF has begun (R491). -/
def State.powerDown (s : State) : Bool := s.rb Reg.SYS_MODE_STAT 9 && decide (s.rf Reg.SYS_MODE_STAT 4 4 < 2)

/-- The ring's next entry can be fetched (R330): the ring is ACTIVE, the host is served, an entry waits, and a CQ slot is free. -/
def State.canFetch (s : State) (r : Nat) (e : List Byte) : Bool :=
  let g := s.ring r
  g.state == 1 && s.hostServed && ! s.powerDown && g.sqHead != g.sqTail && decide (g.reserved < 2 ^ s.log2n r)
    && (match g.delivered with | [] => true | d :: _ => d == e)

/-- An entry is fetched (R330, R331): the head and the expected ALIVE advance, a CQ slot is reserved; the answer is the submission, with the status of the first check of R331 it fails. -/
def State.fetch (s : State) (r : Nat) (e : List Byte) : State × Sub × Option Status :=
  let g := s.ring r
  let crcOk := crc32c (takeBytes e 0 60) == leAt e 60 4
  let sub : Sub := { ring := r, idx := g.sqHead, cid := if crcOk then leAt e 2 2 else 0, op := leAt e 12 1, part := takeBytes e 12 48 }
  let bad := ! crcOk || leAt e 0 1 != g.sqAlive
  let s1 := s.setRing r { g with sqHead := (g.sqHead + 1) % 65536, sqAlive := nextAlive g.sqAlive, reserved := g.reserved + 1
                                 work := g.work + 1, chk := if bad then min 65535 (g.chk + 1) else g.chk, delivered := g.delivered.drop 1 }
  (s1, sub,
    if bad then some .checkFail
    else if leAt e 1 1 != 1 || ! opOnRing (s.ringRx r) sub.op then some .refused
    else if sub.op != 1 && sub.op != 2 && sub.op != 0x50 && ! s.lcPermits sub.op then some .refused
    else none)

/-- A submission resolves with a status and a result part. -/
def State.finish (s : State) (c : Sub) (st : Status) (result : List Byte) : State :=
  s.complete c.ring { idx := c.idx, op := c.op, status := st, cid := c.cid, result := result }

/-- A submission resolves with a status and its `UTAG` alone. -/
def State.finishTag (s : State) (c : Sub) (st : Status) : State := s.finish c st (leBytes 4 c.utag)

/-- The command of operation `op` takes the ring's next entry, when it is one of its own: a failed check completes it, else `body` carries it out (R331). A failed CRC returns an empty result part. -/
def State.submit (s : State) (r : Nat) (e : List Byte) (mine : Nat → Bool) (body : State → Sub → State) : State :=
  if ! mine (leAt e 12 1) || ! s.canFetch r e then s
  else
    match s.fetch r e with
    | (s1, c, some st) => if crc32c (takeBytes e 0 60) == leAt e 60 4 then s1.finishTag c st else s1.finish c st []
    | (s1, c, none) => body s1 c

/-! ## Ring control and doorbells (R336, R337) -/

/-- Ring indices and ALIVE values as enabling sets them (R336). Completions still owed keep their slots. -/
def RingSt.enabled (g : RingSt) : RingSt :=
  { g with state := 1, sqHead := 0, sqTail := 0, cqHead := 0, cqTail := 0, sqAlive := 1, cqAlive := 1
           reserved := g.work + g.held.length, written := [], delivered := [], gapEnd := 0, gapOwed := false, drainAt := 0 }

/-- A write of `RING_CTL.EN` 1 (R336, R345). -/
def State.ringEnable (s : State) (r : Nat) : State :=
  let g := s.ring r
  if g.state != 0 then s.wb (ringReg r 0x2014) 0 true
  else if decide (4 ≤ s.log2n r) && decide (s.log2n r ≤ 12) && s.ringBase r 0x2004 != 0 && s.ringBase r 0x200C != 0 then
    (((s.wb (ringReg r 0x2014) 0 true).setRing r g.enabled).writeHeld r).deliverUplink
  else s.setRing r { g with rejected := min 255 (g.rejected + 1) }

/-- A write of `RING_CTL.EN` 0 (R336). -/
def State.ringDisable (s : State) (r : Nat) : State :=
  let g := s.ring r
  let s1 := s.wb (ringReg r 0x2014) 0 false
  if g.state = 1 then (s1.setRing r { g with state := 2, drainAt := s.fabric + 1 }).returnBufs r
  else if g.state = 3 then (s1.setRing r { g with state := 0 }).returnBufs r
  else s1

/-- RING_DRAIN_DONE (R336): every reserved completion is written and consumed. -/
def State.ringDrainDone (s : State) (r : Nat) : State :=
  let g := s.ring r
  if g.state = 2 && g.reserved = 0 && g.held.isEmpty && g.work = 0 then s.setRing r { g with state := 0 } else s

/-- The completion that an entry's bytes spell (R329), held. -/
def heldOf (b : List Byte) : Cpl :=
  { idx := leAt b 4 2, op := leAt b 3 1, status := leAt b 2 1, cid := leAt b 6 2, result := takeBytes b 8 52, held := true }

/-- A completion entry that did not reach host memory: its 64 bytes stand as if nothing had written them (log entry 5). -/
def State.hostErase (s : State) (addr : Nat) : State := { s with hostMem := cellsWrite s.hostMem addr (List.replicate 64 memDefault) }

/-- The last `n` completions written to ring `r` did not reach host memory: they are owed again, ahead of those held before, and the CQ tail and ALIVE stand where they stood (R336, R344). -/
def State.cqUnwrite (s : State) (r n : Nat) : State :=
  let g := s.ring r
  let k := min n g.written.length
  let keep := g.written.length - k
  if k = 0 then s
  else ((List.range k).foldl (fun s j => s.hostErase (s.ringBase r 0x200C + (g.cqTail + 65536 - k + j) % 2 ^ s.log2n r * 64)) s).setRing r
    { g with written := g.written.take keep, held := (g.written.drop keep).map heldOf ++ g.held
             cqTail := (g.cqTail + 65536 - k) % 65536, cqAlive := (g.cqAlive + 254 * 255 - 1 - k) % 255 + 1 }

/-- RING_DMA_ERROR (R336): the ring stops; `failed` is how many of its last completions the failed writes carried (0 where a read failed). -/
def State.ringError (s : State) (r failed : Nat) : State :=
  let g := s.ring r
  if g.state = 1 || g.state = 2 then
    let s1 := s.cqUnwrite r failed
    (s1.setRing r { s1.ring r with state := 3 }).cause 0x01A 3
  else s

/-- Every ring goes to IDLE, as a function-level reset leaves it (R336). -/
def State.ringsReset (s : State) : State :=
  (s.rings.map Prod.fst).foldl (fun s r =>
    if (s.ring r).state = 0 then s
    else ((s.wb (ringReg r 0x2014) 0 false).setRing r { s.ring r with state := 0 }).returnBufs r) s

/-- A doorbell is rejected (R337). -/
def State.dbReject (s : State) (r : Nat) : State :=
  ((s.setRing r { s.ring r with rejected := min 255 ((s.ring r).rejected + 1) }).inc Reg.HFN_DB_BAD).cause 0x01A 4

/-- The ring counts as ACTIVE for a doorbell of the present fabric cycle (R337). -/
def State.dbActive (s : State) (r : Nat) : Bool :=
  (s.ring r).state == 1 || ((s.ring r).state == 2 && (s.ring r).drainAt == s.fabric + 1)

/-- A write of the SQ_TAIL doorbell (R337). -/
def State.sqDoorbell (s : State) (r t : Nat) : State :=
  let g := s.ring r
  let v := t % 65536
  let n := 2 ^ s.log2n r
  if v = g.sqTail then s
  else if s.dbActive r && decide ((v + 65536 - g.sqHead) % 65536 ≤ n) && decide ((v + 65536 - g.sqTail) % 65536 ≤ n) then
    s.setRing r { g with sqTail := v }
  else s.dbReject r

/-- A write of the CQ_HEAD doorbell (R337): consumed slots are free again (R330). A draining ring takes it too, since the drain ends only when every completion is consumed (log entry 22). -/
def State.cqDoorbell (s : State) (r t : Nat) : State :=
  let g := s.ring r
  let v := t % 65536
  let n := 2 ^ s.log2n r
  let d := (v + 65536 - g.cqHead) % 65536
  if v = g.cqHead then s
  else if (g.state == 1 || g.state == 2) && decide ((g.cqTail + 65536 - v) % 65536 ≤ n) && decide (d ≤ n) then
    (s.setRing r { g with cqHead := v, reserved := g.reserved - d, written := g.written.drop d }).writeHeld r
  else s.dbReject r

/-- IRQ_GAP_EXPIRY (R325): the gap ends, and one message covers the entries written in it. -/
def State.irqGapEnd (s : State) (r : Nat) : State :=
  let g := s.ring r
  if g.gapOwed && decide (g.gapEnd ≤ s.now) then
    let s1 := s.setRing r { g with gapOwed := false, gapEnd := s.now + s.irqGap r }
    if s1.irqEn r then s1.raiseVec (s1.ringVec r) else s1
  else s

/-- MSIX_UNMASK (R326): clearing a vector's mask sends its pending message. -/
def State.msixUnmask (s : State) (v : Nat) : State :=
  let s1 := s.wb (msgBase + 0x8000000 + 16 * v + 12) 0 false
  if s1.rb (msgBase + 0x8002000 + 4 * (v / 32)) (v % 32) && s1.canSignal then (s1.setPba v false).raiseVec v else s1

/-- What a read of `RING_STAT`, `CQ_STAT` and `RING_ERR` returns (R335). -/
def State.ringView (s : State) (r off : Nat) : Word :=
  let g := s.ring r
  if off = 0x2018 then word (g.state + g.sqAlive * 2 ^ 8 + g.sqHead * 2 ^ 16)
  else if off = 0x201C then word (g.cqTail + phaseOf (s.log2n r) g.cqTail * 2 ^ 16 + min 255 g.held.length * 2 ^ 24)
  else word (g.chk + g.lastBad * 2 ^ 16 + g.rejected * 2 ^ 24)

/-! ## Fixture submissions (R332, R333) -/

/-- The result part of a fixture submission: `UTAG`, the index, and the entry as stored (R333). -/
def State.fixResult (s : State) (c : Sub) (i : Nat) : List Byte := leBytes 4 c.utag ++ leBytes 2 i ++ [0, 0] ++ (s.fixt i).bytes

/-- The index a fixture submission names (R332). -/
def Sub.fixIdx (c : Sub) : Nat := leAt c.part 2 2 % 2 ^ 13

/-- FIX_WRITE (R88, R90, R332). -/
def State.fixWrite (s : State) (c : Sub) : State :=
  let i := c.fixIdx
  let b := takeBytes c.part 4 32
  if s.pastCommit i && s.inRange true i then
    let s := s.wb Reg.FIX_ENT_STAT 0 true
    { s with fix := { s.fix with held := s.fix.held ++ [{ idx := i, bytes := b, host := true, sub := some (c.ring, c.idx, c.cid, c.utag) }] } }
  else
    let (s1, st) := s.applyWrite true i b
    s1.finish c st (s1.fixResult c i)

/-- FIX_DISARM (R90, R332). -/
def State.fixDisarm (s : State) (c : Sub) : State :=
  let (s1, st) := s.disarm true c.fixIdx
  s1.finish c st (s1.fixResult c c.fixIdx)

/-- FIX_READ (R87, R332). -/
def State.fixRead (s : State) (c : Sub) : State := s.finish c .done (s.fixResult c c.fixIdx)

/-- FIX_HELD_WRITE_APPLY (R90): the oldest held WRITE whose occurrence has fired or been skipped is checked and applied, and its command completes. -/
def State.applyHeld (s : State) : State :=
  match s.fix.held.find? (fun h => ! s.pastCommit h.idx) with
  | none => s
  | some h =>
    let s1 := { s with fix := { s.fix with held := s.fix.held.erase h } }
    let (s2, st) := s1.applyWrite h.host h.idx h.bytes
    match h.sub with
    | none => (s2.entDone st).wb Reg.FIX_ENT_STAT 0 s2.entBusy
    | some (r, i, cid, utag) =>
      (s2.wr Reg.FIX_ENT_STAT (setFld (setBit (s2.rd Reg.FIX_ENT_STAT) 0 s2.entBusy) 8 8 st)).complete r
        { idx := i, op := 0x08, status := st, cid := cid
          result := leBytes 4 utag ++ leBytes 2 h.idx ++ [0, 0] ++ (s2.fixt h.idx).bytes }

/-- Held WRITEs of a FIX page that is soft reset are abandoned; a submission among them completes with REFUSED_BY_STATE (R92). -/
def State.dropHeld (s : State) : State :=
  s.fix.held.foldl (fun s h => match h.sub with
    | none => s
    | some (r, i, cid, utag) =>
      s.complete r { idx := i, op := 0x08, status := Status.refused, cid := cid
                     result := leBytes 4 utag ++ leBytes 2 h.idx ++ [0, 0] ++ (s.fixt h.idx).bytes })
    { s with fix := { s.fix with held := [] } }

/-- RXBUF_POST (R332, R334): a buffer is posted, and a waiting uplink message takes it. A misaligned address is refused (log entry 23). -/
def State.rxbufPost (s : State) (c : Sub) : State :=
  let addr := leAt c.part 8 8
  if addr % 64 ≠ 0 then s.finish c .refused (leBytes 4 (leAt c.part 4 4))
  else
    let g := s.ring c.ring
    let b : RxBuf := { idx := c.idx, cid := c.cid, btag := leAt c.part 4 4, addr := addr, seq := s.host.bufSeq }
    let s1 := (s.setRing c.ring { g with bufs := g.bufs ++ [b] })
    { s1 with host := { s1.host with bufSeq := s1.host.bufSeq + 1 } }.deliverUplink

end Sys2Proof.Machine
end

