-- ==== Sys2Proof/Machine/Store.lean ====
section
/-! DEFINITION. Storage (R409 to R425): drives, blocks, the configuration vault, the scorebook ring, archives, and the submissions that read them. -/

namespace Sys2Proof.Machine

/-! ## Drives -/

/-- `NV_STAT.STATE` of a drive: 0 ABSENT, 1 INIT, 2 READY, 3 RESYNC, 4 FAILED, 5 FOREIGN (R426). -/
def State.drive (s : State) (n : Nat) : Nat := s.rf (Reg.NV_NV_STAT n) 0 3

/-- The drive is READY. -/
def State.driveReady (s : State) (n : Nat) : Bool := s.drive n == 2

/-- A drive is READY. -/
def State.anyDrive (s : State) : Bool := s.driveReady 0 || s.driveReady 1

/-- `STO_STAT.REDUNDANT` and `NO_STORE` follow the drives (R410, R423, R427). -/
def State.showStore (s : State) : State :=
  let w := s.rd Reg.STO_STO_STAT
  let red := s.sto.mode != 0 && s.driveReady 0 && s.driveReady 1
  s.wr Reg.STO_STO_STAT (setBit (setBit (setBit w 0 red) 1 s.sto.resync.isSome) 2 (! s.anyDrive))

/-- A drive is adopted (R411, R424): a new label, then a resync from the other drive where the mode mirrors and one is there; a drive below the managed capacity fails. -/
def State.adoptDrive (s : State) (n cap : Nat) : State :=
  let src := s.driveReady (1 - n)
  if s.sto.mode != 0 && src then
    if cap < s.rf (Reg.NV_NV_CAP (1 - n)) 0 23 then s.wf (Reg.NV_NV_STAT n) 0 3 4
    else
      let s1 := (s.wf (Reg.NV_NV_STAT n) 0 3 3).record 0x01F 0x1633 0 (detail 0 n 0)
      { s1.wf Reg.STO_STO_STAT 8 8 0 with sto := { s1.sto with resync := some n } }.showStore
  else ((s.wf (Reg.NV_NV_STAT n) 0 3 2).cause (0x01C + n) 1).showStore

/-- DRIVE_ATTACH (R409 to R411): a drive appears, while the storage ports are powered (R482) and outside recovery (R580). `identify` says whether it meets R409, `label` what its label says, where one is valid: whether it names this device, its mode and its role. A label of this device and mode in the other role makes the drive FOREIGN too (log entry 193). -/
def State.driveAttach (s : State) (n : Nat) (identify : Bool) (label : Option (Bool × Nat × Nat)) (extents speed width : Nat) : State :=
  let cap := min extents 7629394
  if s.sec.recovery || (decide (s.mode < 3) && ! s.boot.running) || ! s.rb (Reg.NV_NV_CTL n) 0 || (s.sto.mode = 0 && s.driveReady (1 - n)) then s
  else
    let s0 := (s.wr (Reg.NV_NV_STAT n) (word (1 + speed % 8 * 2 ^ 4 + width % 8 * 2 ^ 8))).wr (Reg.NV_NV_CAP n) (word cap)
    if s.sec.crk.isNone then s0
    else if ! identify then (s0.wf (Reg.NV_NV_STAT n) 0 3 4).pageRecord (0x01C + n) 0x23 1 (detail 0 n 0)
    else match label with
      | none => s0.adoptDrive n cap
      | some (own, mode, role) => if own && mode == s.sto.mode && role == n then ((s0.wf (Reg.NV_NV_STAT n) 0 3 2).cause (0x01C + n) 1).showStore
        else (((s0.wf (Reg.NV_NV_STAT n) 0 3 5).cause 0x01F 5).record 0x01F 0x1639 1 (detail 0 n 0))

/-- DRIVE_ACCEPT (R411): a write of `STO_CTL.ACCEPT_n` adopts a foreign drive. -/
def State.driveAccept (s : State) (n : Nat) : State :=
  if s.drive n = 5 then s.adoptDrive n (s.rf (Reg.NV_NV_CAP n) 0 23) else s

/-- DRIVE_LOSS (R423): the drive is declared lost. `cause` is 0 for a command not completed in 2 s, 1 for a fatal controller, 2 for a link down or a removal. Its state then reads ABSENT when it is gone, FAILED otherwise (log entry 24). In SPAN the archive records it held a part of are gone. That the loss of the last drive in MIRROR is LOST, for R423 has it continue on the other, is the model's reading (log entry 195). -/
def State.driveLoss (s : State) (n cause : Nat) : State :=
  if s.drive n = 0 then s
  else
    let s0 := if cause = 0 then s.wr (Reg.NV_NV_ERR n) (satInc (s.rd (Reg.NV_NV_ERR n)) 16 16) else s
    let s1 := ((s0.wf (Reg.NV_NV_STAT n) 0 3 (if cause = 2 then 0 else 4)).cause (0x01C + n) 0).cause 0x01F 0
    let s2 := match s.sto.resync with
      | some m => { s1 with sto := { s1.sto with resync := none } }.wf (Reg.NV_NV_STAT m) 0 3 (if m = n then s1.drive n else 4)
      | none => s1
    let sev := if s.sto.mode = 2 && s2.anyDrive then 4 else 5
    let left := fun (rs : List ArchRec) => if s.sto.mode = 1 then rs.filter (fun r => r.on / 2 ^ n % 2 == 0) else rs
    let s3 := { s2 with sto := { s2.sto with survArch := left s2.sto.survArch, metArch := left s2.sto.metArch } }
    (s3.record 0x01F 0x1632 sev (detail 0 n 0)).showStore

/-- RESYNC_DONE (R424). -/
def State.resyncDone (s : State) : State :=
  match s.sto.resync with
  | none => s
  | some n =>
    let s1 := { s with sto := { s.sto with resync := none } }
    (((((s1.wf (Reg.NV_NV_STAT n) 0 3 2).cause (0x01C + n) 1).cause 0x01F 1).wf Reg.STO_STO_STAT 8 8 100).record 0x01F 0x1634 2 (detail 0 n 0)).showStore

/-- An extent that fails is retired (R425): replaced from over-provisioning, or the surveillance archive shrinks. -/
def State.extentRetire (s : State) : State :=
  let f := s.rf Reg.STO_OP_FREE 0 24
  let s0 := { s with sto := { s.sto with extGone := s.sto.extGone + 1 } }
  if f = 0 then { s0 with sto := { s0.sto with shrunk := s0.sto.shrunk + 1 } }.record 0x01F 0x1636 4 (detail 0 0 0)
  else
    let s1 := (s0.wf Reg.STO_OP_FREE 0 24 (f - 1)).record 0x01F 0x1636 2 (detail 0 0 0)
    let s2 := if f = 1 then s1.benchEmpty 13 else s1
    if 4 * (f - 1) < s.sto.opBoot then s2.cause 0x01F 4 else s2

/-- A media error in a 1 MiB extent, 256 blocks, of a drive: the third retires the extent (R425). -/
def State.mediaError (s : State) (n lba : Nat) : State :=
  let k := n * 2 ^ 48 + lba / 256
  let e := tget 0 s.sto.extErr k + 1
  if e < 3 then { s with sto := { s.sto with extErr := tset 0 s.sto.extErr k e } }
  else { s with sto := { s.sto with extErr := tset 0 s.sto.extErr k 0 } }.extentRetire

/-- `n` sealed blocks are written, each under a write counter of its own (R412); a mirrored block counts once (log entry 194). -/
def State.wroteBlocks (s : State) (n : Nat) : State := { s with sto := { s.sto with wcnt := s.sto.wcnt + n } }

/-- BLOCK_REPAIR (R423): a block of `region` at logical block `lba` failed on drive `n`. It is rewritten from the mirror, or from the working copy where it belongs to the endpoint store, or is lost with its records, whose `RSEQ` values `gone` lists. The media error counts against its extent (R425). -/
def State.blockRepair (s : State) (n region lba : Nat) (gone : List Nat) : State :=
  let s1 := ((s.incF (Reg.NV_NV_ERR n) 0 16).cause (0x01C + n) 2).mediaError n lba
  let archive := region == 3 || region == 4
  let mirror := s.driveReady (1 - n) && (s.sto.mode == 2 || (s.sto.mode == 1 && ! archive))
  let s2 := s1.wroteBlocks 1
  if mirror || region = 1 then s2.record 0x01F 0x1635 2 (detail 0 n lba)
  else
    let left := fun (k : Nat) (rs : List ArchRec) => if region = k then rs.filter (fun r => ! gone.contains r.rseq) else rs
    { s1 with sto := { s1.sto with survArch := left 3 s1.sto.survArch, metArch := left 4 s1.sto.metArch } }.record 0x01F 0x1635 3 (detail 0 n lba)

/-- SMART_POLL (R425): the SMART log of drive `n` and the extents that failed since. -/
def State.smartPoll (s : State) (n used spare thr retired : Nat) (temp : Int) : State :=
  if s.drive n = 0 then s
  else
    let w := s.rd (Reg.NV_NV_WEAR n)
    let worn := fun (u sp th : Nat) => decide (100 ≤ u) || decide (sp < th)
    let u := min used 255
    let s1 := (s.wr (Reg.NV_NV_WEAR n) (word (u + min spare 255 * 2 ^ 8 + min thr 255 * 2 ^ 16))).wf (Reg.NV_NV_TEMP n) 0 16 (satField 16 temp)
    let warn := s.rf Reg.STO_WEAR_THR 0 8
    let s2 := if fld w 0 8 < warn && warn ≤ u then (s1.cause (0x01C + n) 3).record 0x01F 0x1638 0 (detail 0 n 0) else s1
    let s3 := if worn u spare thr && ! worn (fld w 0 8) (fld w 8 8) (fld w 16 8) then
        let s4 := s2.record 0x01F 0x1638 1 (detail 0 n 0)
        { s4 with sto := { s4.sto with wearAlert := true } }
      else s2
    (List.range retired).foldl (fun s _ => s.extentRetire) s3

/-! ## The vault (R414 to R417) -/

/-- The committed generation of a datum. -/
def VaultSt.ptr (v : VaultSt) (d : Nat) : Nat := tget 0 v.ptrs d

/-- A datum is protected against rollback (R414): all but the lease tables. -/
def rollbackProtected (d : Nat) : Bool := decide (d < 4)

/-- A commit of datum `d` is requested; VAULT_COMMIT carries it out. -/
def State.commitReq (s : State) (d : Nat) (x : Datum) (who : Waiter) : State :=
  { s with sto := { s.sto with vault := { s.sto.vault with waiting := s.sto.vault.waiting ++ [{ num := d, datum := x, who := who }] } } }

/-- The state with the vault set. -/
def State.setVault (s : State) (v : VaultSt) : State := { s with sto := { s.sto with vault := v } }

/-- The slot of copy `c` of datum `d` that a commit writes: the one that does not hold the committed generation (R415). -/
def VaultSt.target (v : VaultSt) (d c : Nat) : Nat :=
  match tfind v.slots (6 * d + 2 * c) with
  | some x => if x.ok && x.gen == v.ptr d then 6 * d + 2 * c + 1 else 6 * d + 2 * c
  | none => 6 * d + 2 * c

/-- The three copies written with generation `g`; `oks` says which verify (R415). -/
def VaultSt.writeCopies (v : VaultSt) (d g : Nat) (x : Datum) (oks : List Bool) : VaultSt :=
  (List.range 3).foldl (fun v c => { v with slots := tins v.slots (v.target d c) { gen := g, ok := (oks[c]?).getD false, datum := x } }) v

/-- The pointer of datum `d` advances to `g`, and the commit record goes to the other sector (R417). -/
def VaultSt.advancePtr (v : VaultSt) (d g : Nat) : VaultSt :=
  let seq := v.seq + 1
  let rp := if rollbackProtected d then v.rp + 1 else v.rp
  let ptrs := tset 0 v.ptrs d g
  { v with ptrs := ptrs, seq := seq, rp := rp, steps := if rollbackProtected d then v.steps + 1 else v.steps
           sectors := tins v.sectors (seq % 2) { ok := true, seq := seq, rp := rp, ptrs := ptrs } }

/-- The waiter of a commit gets its answer. -/
def State.answer (s : State) (w : Waiter) (st : Status) : State :=
  match w with
  | .none => s
  | .sub r i cid op utag => s.complete r { idx := i, op := op, status := st, cid := cid, result := leBytes 4 utag }

/-- `VAULT_STAT.OTP_LEFT` follows the counter (R417). -/
def State.showOtp (s : State) : State := s.wf Reg.STO_VAULT_STAT 16 15 (16384 - s.sto.vault.steps)

/-- The oldest waiting commit of datum `d` is carried out (R415, R417); `oks` says which copies verify. Copy 2 needs a READY drive. The answer says what was committed, for the owner of the datum. -/
def State.vaultCommit (s : State) (d : Nat) (oks : List Bool) : State × Option Datum :=
  match s.sto.vault.waiting.find? (fun q => q.num == d) with
  | none => (s, none)
  | some q =>
    let v := { s.sto.vault with waiting := s.sto.vault.waiting.erase q }
    let s0 := s.setVault v
    if rollbackProtected d && decide (16384 ≤ v.steps) then (s0.answer q.who .resourceRetry, none)
    else
      let real := [(oks[0]?).getD false, (oks[1]?).getD false, (oks[2]?).getD false && s.anyDrive]
      let g := v.ptr d + 1
      let w := v.writeCopies d g q.datum real
      if real.all id then
        let s1 := (s0.setVault (w.advancePtr d g)).showOtp
        let s2 := if rollbackProtected d && decide (w.steps + 1 = 16384) then
            s1.benchEmpty 18 else s1
        (s2.answer q.who .done, some q.datum)
      else (((s0.setVault w).record 0x01F 0x163A 0 (detail 0 d 0)).answer q.who .resourceRetry, none)

/-- The slot taken in copy `c` of datum `d` (R416 step 1): the highest generation that passes its CRC and does not lie above the pointer. -/
def VaultSt.taken (v : VaultSt) (d c : Nat) (readable : Bool) : Option VaultSlot :=
  let pick (k : Nat) : Option VaultSlot := match tfind v.slots k with
    | some x => if readable && x.ok && decide (x.gen ≤ v.ptr d) then some x else none
    | none => none
  match pick (6 * d + 2 * c), pick (6 * d + 2 * c + 1) with
  | some a, some b => if a.gen < b.gen then some b else some a
  | some a, none => some a
  | none, x => x

/-- The winner among the copies taken (R416 steps 2 to 4). -/
def voteWinner (xs : List (Option VaultSlot)) : Option VaultSlot :=
  let ts := xs.filterMap id
  let top := ts.foldl (fun (acc : Option VaultSlot) x => match acc with
    | none => some x
    | some y => if y.gen < x.gen then some x else some y) none
  if ts.length = 3 then
    match ts.find? (fun x => decide (2 ≤ (ts.filter (fun y => y.datum == x.datum)).length)) with
    | some x => some x
    | none => top
  else top

/-- A datum is read from its copies by vote, and copies that differ are repaired (R416). Where none is taken the datum is lost. -/
def State.vaultRead (s0 : State) (d : Nat) : State × Option Datum :=
  -- A copy in the boot flash that fails its own check is read once more (R475).
  let bad := ((List.range 4).filter (fun k => match tfind s0.sto.vault.slots (6 * d + k) with | some x => ! x.ok | none => false)).length
  let s := if bad = 0 then s0 else s0.addF Reg.XSPI_XSPI_ERR 0 16 bad
  let v := s.sto.vault
  let xs := [v.taken d 0 true, v.taken d 1 true, v.taken d 2 s.anyDrive]
  match voteWinner xs with
  | none =>
    -- With no commit record left of those the counter tells of, every protected datum is lost.
    if v.ptr d = 0 && ! (v.seq == 0 && v.steps != 0 && rollbackProtected d) then (s, none)
    else ((s.record 0x01F 0x1631 5 (detail 0 d 0)).incF Reg.STO_VAULT_STAT 8 8, none)
  | some w =>
    let differ := (List.range 3).filter (fun c => match xs[c]? with
      | some (some x) => x.datum != w.datum || x.gen != w.gen
      | _ => c != 2 || s.anyDrive)
    let fix (v : VaultSt) (c : Nat) : VaultSt :=
      let k0 := 6 * d + 2 * c
      let key := match xs[c]? with
        | some (some x) => if tfind v.slots k0 == some x then k0 + 1 else k0
        | _ => match tfind v.slots k0, tfind v.slots (k0 + 1) with
          | some a, some b => if b.gen < a.gen then k0 + 1 else k0
          | _, _ => k0
      { v with slots := tins v.slots key { w with ok := true } }
    if differ.isEmpty then (s, some w.datum)
    else
      let s1 := (s.setVault (differ.foldl fix v)).cause 0x01F 2
      ((s1.record 0x01F 0x1630 2 (detail 0 d w.gen)).incF Reg.STO_VAULT_STAT 0 8, some w.datum)

/-- The commit sectors at boot (R417): the one of higher `SEQ` that passes its CRC and whose `RP_SEQ` equals the counter, or the counter plus one, in which case the counter advances. -/
def State.commitBoot (s : State) : State :=
  let v := s.sto.vault
  let fits (r : CommitRec) : Bool := r.ok && (r.rp == v.steps || r.rp == v.steps + 1)
  let a := tget {} v.sectors 0
  let b := tget {} v.sectors 1
  let pick := if fits a && fits b then some (if a.seq < b.seq then b else a) else if fits a then some a else if fits b then some b else none
  match pick with
  | some r => (s.setVault { v with seq := r.seq, rp := r.rp, ptrs := r.ptrs, steps := r.rp }).showOtp
  | none => (s.setVault { v with seq := 0, rp := v.steps, ptrs := [] }).showOtp

/-! ## The scorebook ring (R420 to R422) -/

/-- Records the ring holds at most (R413, R421): region 5, or the DRAM ring where no drive is READY. -/
def State.scbCap (s : State) : Nat :=
  if s.anyDrive then s.sto.scbGib * 262144 * 127 else 524288

/-- The scorebook's record numbers and counts are shown (R428). -/
def State.showScb (s : State) : State :=
  let n := s.scb.oldest + s.scb.ring.length
  let s1 := (s.wr64 Reg.SCB_SCB_WR_LO Reg.SCB_SCB_WR_HI n).wr64 Reg.SCB_SCB_OLD_LO Reg.SCB_SCB_OLD_HI s.scb.oldest
  (s1.wf Reg.SCB_SCB_STAGE 0 7 s.scb.stage.length).wr Reg.SCB_SCB_PERM (word (min s.scb.perm.length 520192))

/-- One record is stored (R420, R421): appended to the ring, the oldest giving way, and copied to region 6, or to the fallback area, where it is DEGRADED or LOST and there is room. -/
def State.storeRecord (s : State) (r : ScbRec) : State :=
  let b := s.scb
  let ring := b.ring ++ [r]
  let beyond := ring.length - s.scbCap
  let keep := decide (4 ≤ r.sev)
  let perm := if keep && s.anyDrive && decide (b.perm.length < 520192) then b.perm ++ [r] else b.perm
  let fb := if keep && ! s.anyDrive && decide (b.fallback.length < 32768) then b.fallback ++ [r] else b.fallback
  { s with scb := { b with ring := ring.drop beyond, oldest := b.oldest + beyond, perm := perm, fallback := fb } }

/-- SCOREBOOK_STORE (R420, R482): the staged records move to the ring, in order, while CC 90 runs. -/
def State.scorebookStore (s : State) : State :=
  if s.mode < 4 then s
  else
    let st := s.scb.stage
    let s1 := st.foldl (fun s x => s.storeRecord x.body) { s with scb := { s.scb with stage := [] } }
    -- Blocks of 127 records (R413).
    let n := s.scb.oldest + s.scb.ring.length
    (if st.isEmpty || ! s.anyDrive then s1 else s1.wroteBlocks ((n + st.length - 1) / 127 - n / 127 + 1)).showScb

/-- A record's 32 bytes (R418). -/
def ScbRec.bytes (r : ScbRec) : List Byte :=
  leBytes 8 r.lt ++ leBytes 8 r.utc ++ leBytes 2 r.src ++ leBytes 2 r.event ++ leBytes 1 r.sev ++ leBytes 1 r.rep ++ takeBytes r.detail 0 10

/-- Records of a list numbered from `base`, from number `first` on, of the severities in `mask`, at most `n`: the records and the next number to ask for (R422). -/
def pickRecords (mask : Nat) : Nat → Nat → Nat → List ScbRec → List ScbRec × Nat
  | _, num, _, [] => ([], num)
  | 0, num, _, _ => ([], num)
  | n + 1, num, first, r :: rs =>
    if num < first || mask / 2 ^ r.sev % 2 = 0 then pickRecords mask (n + 1) (num + 1) first rs
    else
      let (xs, nx) := pickRecords mask n (num + 1) first rs
      (r :: xs, nx)

/-- SCB_READ (R421, R422, R504): records go to the host buffer. -/
def State.scbRead (s : State) (c : Sub) : State :=
  let n := leAt c.part 4 4
  let perm := decide (leAt c.part 1 1 / 64 % 2 = 1)
  let first := leAt c.part 16 8
  let base := if perm then 0 else s.scb.oldest
  if ! s.anyDrive || n = 0 || 131072 < n then s.finishTag c .refused
  else
    let (rs, nx) := pickRecords (leAt c.part 1 1 % 64) n base first (if perm then s.scb.perm else s.scb.ring)
    let skip := if first < base then 1 else 0
    let unv := if s.sec.lc = 3 then 2 else 0
    let s1 := s.dmaWrite (leAt c.part 8 8) (rs.flatMap ScbRec.bytes)
    s1.finish c .done (leBytes 4 c.utag ++ leBytes 4 rs.length ++ leBytes 8 (max nx first) ++ leBytes 1 (skip + unv))

/-! ## Archives (R413, R422) -/

/-- Managed capacity in 1 MiB extents (R410): both drives' in SPAN, else one drive's. -/
def State.managedExt (s : State) : Nat :=
  let a := s.rf (Reg.NV_NV_CAP 0) 0 23
  let b := s.rf (Reg.NV_NV_CAP 1) 0 23
  if s.sto.mode = 1 then a + b else if a = 0 then b else a

/-- `OP_FREE` at boot: the unallocated extents, without those retired before (R413, R425, R427). -/
def State.showOp (s : State) : State :=
  let n := min (2 ^ 24 - 1) (s.managedExt * s.sto.opPct / 100 - s.sto.extGone)
  { s.wf Reg.STO_OP_FREE 0 24 n with sto := { s.sto with opBoot := n } }

/-- Bytes a surveillance archive holds (R413): what the other regions leave of the managed capacity. -/
def State.survCap (s : State) : Nat :=
  -- In SPAN the mirrored regions lie on both drives (R410).
  let k := if s.sto.mode = 1 then 2 else 1
  let managed := s.managedExt * 1048576
  managed * (100 - s.sto.opPct) / 100 - s.sto.metGb * 1000000000
    - k * (s.sto.spoolGb * 1000000000 + s.sto.scbGib * 1073741824 + 613560320 + 2 * 16777216) - s.sto.shrunk * 1048576

/-- An archive that keeps at most `cap` bytes: the oldest records give way (R413). -/
def archTrim (cap : Nat) (rs : List ArchRec) : List ArchRec :=
  (rs.foldr (fun r (acc : List ArchRec × Nat) =>
    if acc.2 + r.bytes.length ≤ cap then (r :: acc.1, acc.2 + r.bytes.length) else (acc.1, cap + 1)) ([], 0)).1

/-- The drives that alone hold a part of the `n` bytes from `pos` on (R410, R423): in SPAN the 1 MiB extents alternate, from `NV_0`, and all lie on one drive while the other is not READY. -/
def State.archOn (s : State) (pos n : Nat) : Nat :=
  if s.sto.mode ≠ 1 then 0
  else if ! s.driveReady 1 then 1
  else if ! s.driveReady 0 then 2
  else if pos / 1048576 = (pos + n - 1) / 1048576 then 2 ^ (pos / 1048576 % 2) else 3

/-- Blocks of 4,064 payload bytes that `n` bytes from `pos` on touch (R412, R413). -/
def blocksOf (pos n : Nat) : Nat := (pos + n - 1) / 4064 - pos / 4064 + 1

/-- A record enters the surveillance archive. -/
def State.archSurv (s : State) (r : ArchRec) : State :=
  let r1 := { r with on := s.archOn s.sto.survPos r.bytes.length }
  { s with sto := { s.sto with survArch := archTrim s.survCap (s.sto.survArch ++ [r1]), survPos := s.sto.survPos + r.bytes.length
                               wcnt := s.sto.wcnt + blocksOf s.sto.survPos r.bytes.length } }

/-- A record enters the metrology archive. -/
def State.archMet (s : State) (r : ArchRec) : State :=
  let r1 := { r with on := s.archOn s.sto.metPos r.bytes.length }
  { s with sto := { s.sto with metArch := archTrim (s.sto.metGb * 1000000000) (s.sto.metArch ++ [r1]), metPos := s.sto.metPos + r.bytes.length
                               wcnt := s.sto.wcnt + blocksOf s.sto.metPos r.bytes.length } }

/-- Whole records from `first` on that fit in `n` bytes (R422). -/
def pickArch : Nat → List ArchRec → List ArchRec
  | _, [] => []
  | n, r :: rs => if r.bytes.length ≤ n then r :: pickArch (n - r.bytes.length) rs else []

/-- ARCH_READ (R422): archive bytes go to the host buffer. -/
def State.archRead (s : State) (c : Sub) : State :=
  let n := leAt c.part 4 4
  let first := leAt c.part 16 8
  let arch := if leAt c.part 1 1 % 2 = 0 then s.sto.survArch else s.sto.metArch
  if ! s.anyDrive || n = 0 || n % 64 ≠ 0 || 16777216 < n then s.finishTag c .refused
  else
    let rs := pickArch n (arch.filter (fun r => decide (first ≤ r.rseq)))
    let old := (arch.head?.map ArchRec.rseq).getD first
    let nx := match rs.getLast? with
      | some r => r.rseq + 1
      | none => max first old
    let bytes := rs.flatMap ArchRec.bytes
    let skip := if first < old then 1 else 0
    (s.dmaWrite (leAt c.part 8 8) bytes).finish c .done
      (leBytes 4 c.utag ++ leBytes 4 bytes.length ++ leBytes 8 nx ++ leBytes 1 skip)

/-! ## The spool (R344, R413) -/

/-- Bytes of the message spool in use: uplink messages, and completions held beyond the 256 of a ring's staging queue. -/
def State.spoolBytes (s : State) : Nat :=
  (s.host.uplink.map (fun m => m.plain.length)).foldl (· + ·) 0
    + 64 * (s.rings.map (fun x => x.2.held.length - 256)).foldl (· + ·) 0

/-- `SPOOL_USE` (R427). -/
def State.spoolUse (s : State) : Nat := min 65535 (s.spoolBytes * 65536 / (s.sto.spoolGb * 1000000000))

/-- The spool is full (R413). -/
def State.spoolAtEnd (s : State) : Bool := decide (s.sto.spoolGb * 1000000000 ≤ s.spoolBytes)

/-- Event 0x1637 is written once per filling (R413). -/
def State.spoolCheck (s : State) : State :=
  if s.spoolAtEnd then
    if s.sto.spoolFull then s
    else { (s.cause 0x01F 3).record 0x01F 0x1637 0 (detail 0 0 0) with sto := { ((s.cause 0x01F 3).record 0x01F 0x1637 0 (detail 0 0 0)).sto with spoolFull := true } }
  else { s with sto := { s.sto with spoolFull := false } }

end Sys2Proof.Machine
end

