-- ==== Sys2Proof/Machine/Ctl.lean ====
section
/-! DEFINITION. Control outputs (R395 to R402): arming, interlocks, firing, feedback and resolution. -/

namespace Sys2Proof.Machine

/-- Output `n`. -/
def State.out (s : State) (n : Nat) : CtlOut := tget {} s.ctl.outs n

/-- The state with output `n` set. -/
def State.setOut (s : State) (n : Nat) (v : CtlOut) : State := { s with ctl := { s.ctl with outs := tset {} s.ctl.outs n v } }

/-- `OUT_STAT_n.STATE`: 0 IDLE, 1 ARMED, 2 PULSE, 3 CONFIRM, 4 LOCKOUT (R408). -/
def State.outState (s : State) (n : Nat) : Nat := s.rf (Reg.CTL_OUT_STAT n) 0 3

/-- The state with `OUT_STAT_n.STATE` set. -/
def State.setOutState (s : State) (n v : Nat) : State := s.wf (Reg.CTL_OUT_STAT n) 0 3 v

/-- `OP_TIME_n`, µs (R396). -/
def State.opTime (s : State) (n : Nat) : Nat := s.rf (Reg.CTL_OP_TIME n) 0 16

/-- Interlocks that permit, as a mask: the level equals its bit of `ILK_LVL` (R395). -/
def State.permits (s : State) : Nat :=
  let lvl := s.rf Reg.CTL_ILK_CFG 0 4
  15 - Nat.xor s.ctl.ilk lvl % 16

/-- Every interlock named by output `n` permits (R395). -/
def State.ilkOk (s : State) (n : Nat) : Bool :=
  let m := s.rf (Reg.CTL_OUT_CFG n) 8 4
  (List.range 4).all (fun i => m / 2 ^ i % 2 == 0 || s.permits / 2 ^ i % 2 == 1)

/-- `ILK_STAT` follows the interlocks (R408). -/
def State.showIlk (s : State) : State := s.wr Reg.CTL_ILK_STAT (word (s.ctl.ilk % 16 + s.permits * 16))

/-- The modes and security states in which a control output may be armed (R397 check 2, R502). -/
def State.ctlMode (s : State) : Bool :=
  (s.mode == 4 || s.mode == 5 || s.mode == 6 || s.mode == 7 || s.mode == 8 || s.mode == 10) && decide (s.sec.lc < 3)

/-- The result part of CTL_ARM (R402). -/
def State.armResult (s : State) (n utag : Nat) : List Byte :=
  let o := s.out n
  leBytes 4 utag ++ leBytes 1 n ++ leBytes 1 ((if o.fired then 1 else 0) + (if o.disarmed then 2 else 0) + (if o.ilk then 4 else 0)) ++ [0, 0]
    ++ leBytes 8 (if o.fired then o.edgeLt else 0) ++ leBytes 4 (sword o.err).toNat ++ leBytes 2 (min 65535 o.fbTime) ++ leBytes 2 (s.opTime n)

/-- A request for output `n` has been answered with a status: as a completion, or in `ARM_RES` (R397, R408). -/
def State.armAnswer (s : State) (n : Nat) (sub : Option (Nat × Nat × Nat × Nat)) (st : Status) : State :=
  match sub with
  | some (r, i, cid, utag) => s.complete r { idx := i, op := 0x44, status := st, cid := cid, result := s.armResult n utag }
  | none => s.wr Reg.CTL_ARM_RES (satInc (setFld (s.rd Reg.CTL_ARM_RES) 0 8 st) 16 16)

/-- An operation resolves (R400, R401): the output returns to IDLE, or to LOCKOUT after `LOCK_N` failures in a row; its fixture is released and its request answered. -/
def State.outResolve (s : State) (n : Nat) (st : Status) : State :=
  let o := s.out n
  let s1 := (s.setFix o.fix ((s.fixt o.fix).setArm false))
  let s2 := { s1 with fix := { s1.fix with commits := tdel s1.fix.commits o.fix } }
  let lock := decide (s.rf (Reg.CTL_OUT_CFG n) 12 4 ≤ o.fails)
  let s3 := (s2.setOutState n (if lock then 4 else 0)).wf (Reg.CTL_OUT_STAT n) 8 8 st
  let s4 := if st = .done then s3.cause 0x02C n else s3
  let s5 := if lock then s4.record 0x02C 0x1B30 1 (detail 0 n 0) else s4
  let s6 := s5.armAnswer n o.sub st
  s6.setOut n { o with sub := none, pulse := false, conf := false, pulseEnd := if o.pulse then s.now + 1 else o.pulseEnd }

/-- The first firmware fixture index that holds no armed entry (R87, R396, log entry 26). -/
def State.freeFirmware (s : State) : Option Nat :=
  ((List.range (s.rf Reg.FIX_FIX_CFG 0 14 - 16)).map (· + 16)).find? (fun i => ! (s.fixt i).armed)

/-- The target of an operation (R396, R37, R67). -/
def State.ctlTarget (s : State) (n cyc ph : Nat) : Nat :=
  let cfg := s.rd (Reg.CTL_OUT_CFG n)
  wrap64 (cyc % 2 ^ 32 * 2 ^ 32 + ph % 2 ^ 32 + (s.rd (Reg.LTIME_COND_OFS (fld cfg 0 2) (fld cfg 2 2))).toNat)

/-- The status of an arming request under the checks of R397, in their order. -/
def State.armStatus (s : State) (n cyc ph : Nat) : Status :=
  let tgt := s.ctlTarget n cyc ph
  let lead := s.edgesTo tgt - (s.opTime n * usec : Nat)
  if ! s.rb Reg.CTL_CTL_CTL n then .refused
  else if ! s.ctlMode then .refused
  else if s.outState n ≠ 0 then .refused
  else if s.trkState ≠ 1 || s.trk.stopped then .refused
  else if ! s.ilkOk n then .refused
  else if lead < (1100 * usec : Nat) || decide (65535 * 2 ^ 32 < (tgt + 2 ^ 64 - s.lt) % 2 ^ 64) then .deadlineMissed
  else .done

/-- Output `n` is armed, or the request refused (R396, R397). -/
def State.outArm (s : State) (n cyc ph : Nat) (sub : Option (Nat × Nat × Nat × Nat)) : State :=
  let st := s.armStatus n cyc ph
  match st, s.freeFirmware with
  | 0, some i =>
    let tgt := s.ctlTarget n cyc ph
    let o := s.out n
    let s1 := (s.wr64 (Reg.CTL_TGT_LT_LO n) (Reg.CTL_TGT_LT_HI n) tgt).setFix i { lt := tgt, target := 0x02C, action := 0x07, flags := 1, arg0 := n }
    (s1.setOut n { fix := i, sub := sub, fails := o.fails, pulseEnd := o.pulseEnd }).setOutState n 1
  | 0, none => s.armAnswer n sub .resourceRetry
  | _, _ => match sub with
    | some (r, i, cid, utag) => s.complete r { idx := i, op := 0x44, status := st, cid := cid, result := leBytes 4 utag ++ leBytes 1 n }
    | none => s.armAnswer n none st

/-- CTL_ARM (R397). -/
def State.ctlArm (s : State) (c : Sub) : State :=
  let n := leAt c.part 1 1 % 8
  if 8 ≤ leAt c.part 1 1 then s.finishTag c .refused
  else s.outArm n (leAt c.part 4 4) (leAt c.part 8 4) (some (c.ring, c.idx, c.cid, c.utag))

/-- An armed output is disarmed (R400). -/
def State.outDisarm (s : State) (n : Nat) : State :=
  if s.outState n ≠ 1 then s
  else (s.setOut n { s.out n with disarmed := true }).outResolve n .refused

/-- The edge of output `n` falls in the present fabric cycle (R90, R400). -/
def State.edgeNow (s : State) (n : Nat) : Bool :=
  let d := s.edgesTo (s.fixt (s.out n).fix).lt - (s.opTime n * usec : Nat)
  decide (0 ≤ d) && decide (d < 2 - s.now % 2)

/-- A DISARM by submission or register (R400): without effect in the fabric cycle of the edge. -/
def State.ctlDisarmOut (s : State) (n : Nat) : State := if s.edgeNow n then s else s.outDisarm n

/-- CTL_DISARM (R400); its own completion is DONE (log entry 27). -/
def State.ctlDisarm (s : State) (c : Sub) : State :=
  let n := leAt c.part 1 1 % 8
  (s.ctlDisarmOut n).finish c .done (leBytes 4 c.utag ++ leBytes 1 n)

/-- A write of `ARM_CMD.CLR_LOCK` (R401). -/
def State.clrLock (s : State) (n : Nat) : State :=
  if s.outState n = 4 then (s.setOut n { s.out n with fails := 0 }).setOutState n 0 else s

/-- Output `n` is released: a loss of permit (R398), or the end of its pulse. -/
def State.outStop (s : State) (n : Nat) : State :=
  (s.setOut n { s.out n with ilk := true }).outResolve n .refused

/-- INTERLOCK_CHANGE (R395, R398): input `i` settles at a level; a loss of permit disarms, or releases, every output that names it. -/
def State.interlockChange (s : State) (i : Nat) (level : Bool) : State :=
  let was := s.permits
  let base := s.ctl.ilk - s.ctl.ilk / 2 ^ i % 2 * 2 ^ i
  let lv := if level then base + 2 ^ i else base
  let s1 := { s with ctl := { s.ctl with ilk := lv } }.showIlk
  if s1.permits = was then s1
  else
    (List.range 8).foldl (fun s n =>
      if s.ilkOk n then s
      else if s.outState n = 1 then
        let o := s.out n
        (s.setOut n { o with ilk := true }).skip o.fix .refused |>.outResolve n .refused
      else if (s.out n).pulse then s.outStop n
      else s) (s1.cause 0x02C 16)

/-- The tolerance of output `n`'s edge, in fast-clock edges (R396): 10 µs, wider above an `OP_TIME` of 20,000 µs. -/
def State.edgeTol (s : State) (n : Nat) : Int := (15000 + (s.opTime n - 20000) * 3 / 10 : Nat)

/-- The armed operation's own fixture fires (R396, R398, R399), or is skipped where the edge is out of its tolerance, the mode forbids it or an interlock does not permit. -/
def State.outFire (s : State) (n i : Nat) : State :=
  let d := s.edgesTo (s.fixt i).lt - (s.opTime n * usec : Nat)
  if d > s.edgeTol n then s
  else if d < -(s.edgeTol n) then (s.skip i .deadlineMissed).outResolve n .deadlineMissed
  else if ! s.ctlMode then (s.skip i .refused).outResolve n .refused
  else if ! s.ilkOk n then ((s.setOut n { s.out n with ilk := true }).skip i .refused).outResolve n .refused
  else
    let o := s.out n
    let err := -(d * 2 / 3)
    let fb := s.rb (Reg.CTL_OUT_CFG n) 5
    let s1 := s.setOut n { o with pulse := true, conf := fb, fired := true, edgeAt := s.now, edgeLt := s.lt, err := err, outcome := Status.done }
    let s2 := ((s1.wr (Reg.CTL_FIRE_ERR n) (sword err)).incF (Reg.CTL_FIRES n) 0 16).setOutState n (if fb then 3 else 2)
    let f := s2.fixt i
    let s3 := s2.setFix i { f with result := Status.done, fireErr := satField 16 (-d), fires := (f.fires + 1) % 65536, flags := f.flags / 2 * 2 }
    { s3 with fix := { s3.fix with commits := tdel s3.fix.commits i, firedAt := tins s3.fix.firedAt i (s.fabric + 1) } }

/-- CTL_FIRE (R396, R91): only the fixture that the output's own armed operation entered drives it; every other one is skipped at its line time. -/
def State.ctlFire (s : State) (i : Nat) : State :=
  let f := s.fixt i
  let n := f.arg0 % 8
  if ! f.armed || f.action != 0x07 || ! s.trk.epoch then s
  else if s.outState n = 1 && (s.out n).fix = i then s.outFire n i
  else
    let d := s.edgesTo f.lt
    if d > 0 then s else s.skip i .refused

/-- A feedback failure (R401). -/
def State.fbFail (s : State) (n : Nat) (st : Status) : State :=
  let o := s.out n
  let s1 := (((s.incF (Reg.CTL_FIRES n) 16 16).cause 0x02C (8 + n)).record 0x02C (0x1B00 + 8 + n) 0 (detail st n 0)).faultEvent 0x02C
  let s2 := s1.1.setOut n { o with conf := false, outcome := st, fails := o.fails + 1 }
  if o.pulse then s2 else s2.outResolve n st

/-- `OP_TIME` after a feedback at `fb` µs (R399). -/
def adaptOp (op fb : Nat) : Nat :=
  let q : Int := Int.tdiv ((fb : Int) - (op : Int)) 4
  (max 0 (min 50000 ((op : Int) + q))).toNat

/-- CTLFB_EDGE (R395, R399, R400): the feedback input has been at a level for 50 µs; its first edge counts. -/
def State.feedbackEdge (s : State) (n : Nat) (level : Bool) : State :=
  let o := s.out n
  let at_ := s.now - 50 * usec
  let w := s.rd (Reg.CTL_FB_WIN n)
  let lo := fld w 0 16
  let hi := fld w 16 16
  let near := o.pulse || (o.pulseEnd != 0 && decide (at_ < o.pulseEnd + hi * usec))
  let s1 := if near then s else (s.cause 0x02C 17).record 0x02C 0x1B11 0 (detail 0 n 0)
  if ! o.conf || level != s.rb (Reg.CTL_OUT_CFG n) 6 then s1
  else
    let fb := (at_ - o.edgeAt) / usec
    let s2 := (s1.wf (Reg.CTL_OUT_STAT n) 16 16 (min 65535 fb)).setOut n { o with fbTime := fb }
    if fb < lo then s2.fbFail n .checkFail
    else if hi < fb then s2.fbFail n .timeout
    else
      let s3 := if s.rb (Reg.CTL_OUT_CFG n) 7 then s2.wf (Reg.CTL_OP_TIME n) 0 16 (adaptOp (s.opTime n) fb) else s2
      let s4 := s3.setOut n { s3.out n with conf := false, outcome := Status.done, fails := 0 }
      if o.pulse then s4.setOutState n 2 else s4.outResolve n .done

/-- A feedback edge that came within `FB_MAX` is still in its filter: the arrival wins (R16, R399, log entry 106). -/
def State.feedbackNear (s : State) (n : Nat) : Bool :=
  s.pending.any (fun i => match i with
    | .ctlfbEdge t k level => k.val == n && level == s.rb (Reg.CTL_OUT_CFG n) 6 &&
        decide (t ≤ (s.out n).edgeAt + (s.rf (Reg.CTL_FB_WIN n) 16 16 + 50) * usec)
    | _ => false)

/-- FEEDBACK_TIMEOUT (R399, R400): `FB_MAX` passes with no feedback. -/
def State.feedbackTimeout (s : State) (n : Nat) : State :=
  let o := s.out n
  if o.conf && decide (o.edgeAt + s.rf (Reg.CTL_FB_WIN n) 16 16 * usec ≤ s.now) && ! s.feedbackNear n then s.fbFail n .timeout else s

/-- PULSE_END (R395, R400): `PULSE_MS` has elapsed; the operation resolves unless feedback is still awaited. A pulse that `SAFE_N` let run returns the output to IDLE. -/
def State.pulseEnd (s : State) (n : Nat) : State :=
  let o := s.out n
  if ! o.pulse || decide (s.now < o.edgeAt + s.rf (Reg.CTL_OUT_CFG n) 16 16 * msec) then s
  else if o.safe then (s.setOut n { o with disarmed := true }).outResolve n .refused
  else if o.conf then s.setOut n { o with pulse := false, pulseEnd := s.now + 1 }
  else s.outResolve n o.outcome

/-- The mode leaves those of R397: armed outputs are disarmed, pulses in progress run to their end (R400). -/
def State.ctlModeLeft (s : State) : State :=
  if s.ctlMode then s
  else (List.range 8).foldl (fun s n =>
    if s.outState n = 1 then s.outDisarm n
    else if (s.out n).pulse then s.setOut n { s.out n with safe := true } else s) s

/-- An output is in LOCKOUT: `ALERT_N` (R401). -/
def State.anyLockout (s : State) : Bool := (List.range 8).any (fun n => s.outState n == 4)

end Sys2Proof.Machine
end

