-- ==== Sys2Proof/Machine/Metro.lean ====
section
/-! DEFINITION. Metrology (R376 to R388): intervals and their aggregates, records, dips and swells, snapshots. -/

namespace Sys2Proof.Machine

/-! ## Arithmetic of aggregates (R383) -/

/-- Bits of the square root, from the highest down. -/
def sqrtBits (n : Nat) : Nat → Nat → Nat
  | 0, r => r
  | k + 1, r => if (r + 2 ^ k) * (r + 2 ^ k) ≤ n then sqrtBits n k (r + 2 ^ k) else sqrtBits n k r

/-- The whole part of a square root. -/
def isqrt (n : Nat) : Nat := sqrtBits n 64 0

/-- Bits of the cube root, from the highest down. -/
def cbrtBits (n : Nat) : Nat → Nat → Nat
  | 0, r => r
  | k + 1, r => if (r + 2 ^ k) * (r + 2 ^ k) * (r + 2 ^ k) ≤ n then cbrtBits n k (r + 2 ^ k) else cbrtBits n k r

/-- The whole part of a cube root. -/
def icbrt (n : Nat) : Nat := cbrtBits n 20 0

/-- Element-wise sum of lists, the longer one's tail kept. -/
def addLists : List Nat → List Nat → List Nat
  | [], ys => ys
  | xs, [] => xs
  | x :: xs, y :: ys => (x + y) :: addLists xs ys

/-- Element-wise sum of signed lists, the longer one's tail kept. -/
def addInts : List Int → List Int → List Int
  | [], ys => ys
  | xs, [] => xs
  | x :: xs, y :: ys => (x + y) :: addInts xs ys

/-- What a port measured in one 10/12-cycle interval (R382, R387): whole cycles and duration in µs; magnitudes, 128 per conductor A, B, C (U in mV, I in mA, their THD, 62 voltage and 62 current harmonics in 0.01 %); means (P and Q of A, B, C, then u2 and u0); the lags of the three voltage fundamentals; whether a sample saturated (R378). -/
structure MetVals where
  cycles : Nat
  dur : Nat
  rms : List Nat
  mean : List Int
  lag : List Nat
  ovld : Bool
deriving DecidableEq, Repr

/-- A 10/12-cycle interval as a sum of one: squares of its magnitudes, its means weighted by its duration. -/
def metAccOf (v : MetVals) (flagged coef : Bool) (lt utc : Nat) : MetAcc :=
  { n := 1, cycles := v.cycles, dur := v.dur, sq := v.rms.map (fun x => x * x), mean := v.mean.map (fun x => x * (v.dur : Int)), lag := v.lag
    ltStart := lt, utcStart := utc, flagged := flagged || v.ovld, ovld := v.ovld, coef := coef }

/-- An aggregate with one interval more (R383, R384). -/
def MetAcc.add (a b : MetAcc) : MetAcc :=
  if a.n = 0 then b
  else { n := a.n + b.n, cycles := a.cycles + b.cycles, dur := a.dur + b.dur, sq := addLists a.sq b.sq, mean := addInts a.mean b.mean, lag := b.lag
         ltStart := a.ltStart, utcStart := a.utcStart, flagged := a.flagged || b.flagged, ovld := a.ovld || b.ovld, coef := a.coef || b.coef }

/-- Magnitude `i` of an aggregate: the root of the mean of squares (R383). -/
def MetAcc.mag (a : MetAcc) (i : Nat) : Nat := isqrt ((a.sq[i]?).getD 0 / max 1 a.n)

/-- Mean `i` of an aggregate, weighted by duration (R383). -/
def MetAcc.avg (a : MetAcc) (i : Nat) : Int := (a.mean[i]?).getD 0 / (max 1 a.dur : Nat)

/-! ## Ports -/

/-- Metrology of port `p`. -/
def State.metPort (s : State) (p : Nat) : MetPort := tget {} s.met.ports p

/-- The state with metrology of port `p` set. -/
def State.setMetPort (s : State) (p : Nat) (v : MetPort) : State := { s with met := { s.met with ports := tset {} s.met.ports p v } }

/-! ## Samples and what is computed of them (R379, R380, R382, R404) -/

/-- Nanoseconds of an edge. -/
def edgeNs (e : Nat) : Int := ((e * 2 / 3 : Nat) : Int)

/-- Word `w` of the coefficients of channel `n` for a sample taken at edge `e` (R380): the bank in force since the last swap, or the one before it. -/
def State.metCoef (s : State) (n w e : Nat) : Word :=
  let pg := s.page 0x081
  let bank := if pg.swapCycle ≠ 0 && e / 2 + 1 < pg.swapCycle then 1 - pg.active else pg.active
  s.rd (bankKey bank (0x81400 + 16 * n + 4 * w))

/-- A code of channel `6p + 3k + c` as a line value, 1 mV or 1 mA (R377, R404); nothing where `SCALE` is 0. How offset and gain code enter is the model's reading (log entry 183). -/
def State.metReading (s : State) (p k c e : Nat) (x : Int) : Int :=
  let n := 6 * p + 3 * k + c
  let w3 := s.metCoef n 3 e
  let g := signedField 32 (s.metCoef n 1 e).toNat
  let pga : Int := if k = 1 then 4 ^ fld w3 16 2 else 1
  (x - signedField 16 (fld w3 0 16) * 256) * ((s.metCoef n 0 e).toNat : Int) * (2 ^ 24 + g) / (2 ^ 47 * pga)

/-- The readings of a channel, each stamped in ns (R379): the decimation delay taken out, `PHASE_CORR` added as a delay. -/
def State.metSeries (s : State) (p k c : Nat) (xs : List MetSample) : List (Int × Int) :=
  xs.map (fun x => (edgeNs x.at_ - (Config.metDelay : Int) + signedField 32 (s.metCoef (6 * p + 3 * k + c) 2 x.at_).toNat, s.metReading p k c x.at_ ((x.v[3 * k + c]?).getD 0)))

/-- 256 points a cycle of a channel, on line time from `l0` for `n` cycles (R382, log entry 184). -/
def State.metPoints (s : State) (p k c : Nat) (xs : List MetSample) (l0 n : Nat) : List Int :=
  let y := s.metSeries p k c xs
  (List.range (256 * n)).map (fun j => Config.resample y (edgeNs ((s.now : Int) + s.edgesTo (wrap64 (l0 + j * 2 ^ 24))).toNat))

/-- Instants in ns at which phase A's voltage crosses zero rising, between samples (R382, R383). -/
def crossings : List (Int × Int) → List Int
  | a :: b :: l => (if a.2 < 0 && decide (0 ≤ b.2) then [a.1 + (b.1 - a.1) * (-a.2) / (b.2 - a.2)] else []) ++ crossings (b :: l)
  | _ => []

/-- Component `k` of the DFT of a list of points, real and imaginary part (R382). -/
def dftAt (xs : List Int) (k : Nat) : Int × Int :=
  let n := xs.length
  let z := xs.zipIdx
  ((z.map (fun x => x.1 * Config.cosine (x.2 * k % n) n)).sum / 2 ^ 30, (z.map (fun x => x.1 * Config.cosine ((x.2 * k + 3 * n / 4) % n) n)).sum / 2 ^ 30)

/-- Mean of squares, and its root. -/
def rmsOf (xs : List Int) : Nat := isqrt ((xs.map (fun x => (x * x).toNat)).sum / max 1 xs.length)

/-- The harmonic subgroup of order `h` of `n` cycles (R382): component `h` and the two next to it. -/
def subgroup (xs : List Int) (n h : Nat) : Nat :=
  let sq := fun k => let x := dftAt xs k; (x.1 * x.1 + x.2 * x.2).toNat
  isqrt (2 * (sq (h * n - 1) + sq (h * n) + sq (h * n + 1))) / max 1 xs.length

/-- A ratio in 0.01 %; to nothing it has no stated value. -/
def share (x y : Nat) : Nat := if y = 0 then Config.noFundamental x else 10000 * x / y

/-- THD and the harmonics 2 to 63 of `n` cycles of points, 0.01 % of the fundamental (R382, R387). -/
def harmonics (xs : List Int) (n : Nat) : Nat × List Nat :=
  let f := subgroup xs n 1
  let hs := (List.range 62).map (fun i => subgroup xs n (i + 2))
  (share (isqrt ((hs.map (fun x => x * x)).sum)) f, hs.map (fun x => share x f))

/-- Magnitude of a phasor. -/
def absOf (x : Int × Int) : Nat := isqrt (x.1 * x.1 + x.2 * x.2).toNat

/-- `a + u b + v c` of phasors, where `u` and `v` are the turns by 120° and 240° or the reverse; the halves of the square root of 3 in units of 2^-20. -/
def sequence3 (rev : Bool) (a b c : Int × Int) : Int × Int :=
  let r : Int := (isqrt (3 * 2 ^ 40) : Nat)
  let turn := fun (up : Bool) (x : Int × Int) => let q := if up then r else -r
    ((-x.1 * 2 ^ 20 - q * x.2) / 2 ^ 21, (q * x.1 - x.2 * 2 ^ 20) / 2 ^ 21)
  let y := turn (! rev) b
  let z := turn rev c
  (a.1 + y.1 + z.1, a.2 + y.2 + z.2)

/-- Everything R382 computes of an interval of `n` cycles that began at line time `l0`. -/
def State.metVals (s : State) (p : Nat) (xs : List MetSample) (l0 n dur : Nat) : MetVals :=
  let pts := fun k => (List.range 3).map (fun c => s.metPoints p k c xs l0 n)
  let us := pts 0
  let is := pts 1
  let v1 := us.map (fun x => dftAt x n)
  let i1 := is.map (fun x => dftAt x n)
  let at3 := fun (l : List (Int × Int)) (c : Nat) => (l[c]?).getD (0, 0)
  let m : Int := (max 1 (256 * n) : Nat)
  let pos := absOf (sequence3 false (at3 v1 0) (at3 v1 1) (at3 v1 2))
  let neg := absOf (sequence3 true (at3 v1 0) (at3 v1 1) (at3 v1 2))
  let zsq := absOf (((v1.map Prod.fst).sum, (v1.map Prod.snd).sum))
  { cycles := n, dur := dur
    rms := (us.zip is).flatMap (fun x => let a := harmonics x.1 n; let b := harmonics x.2 n; [rmsOf x.1, rmsOf x.2, a.1, b.1] ++ a.2 ++ b.2)
    mean := (List.range 3).flatMap (fun c =>
        let pw := (((us[c]?).getD []).zip ((is[c]?).getD [])).map (fun x => x.1 * x.2)
        let a := at3 v1 c
        let b := at3 i1 c
        [pw.sum / m / 100000, 2 * (a.2 * b.1 - a.1 * b.2) / (m * m) / 100000]) ++ [(share neg pos : Int), (share zsq pos : Int)]
    lag := (List.range 3).map (fun c => (s.rd (Reg.LTIME_COND_OFS p c)).toNat), ovld := xs.any MetSample.sat }

/-- The 10 s interval meets a crossing at `t` ns (R382, R383): with valid UTC it ends on a UTC 10 s boundary, else after 500 or 600 cycles; its frequency in 2^-16 Hz is that of its whole cycles. -/
def State.tensCross (s : State) (nom : Nat) (m : MetPort) (t : Int) : MetPort :=
  let (a, n, l, b) := m.tens
  let now := t.toNat
  let utc := s.utc - ((edgeNs s.now) - t).toNat
  let valid := s.rb Reg.LTIME_TRK_STAT 10
  let here := if valid then utc / 10000000000 else 0
  if n = 0 && l = 0 then { m with tens := (now, 0, now, here) }
  else if valid && here ≠ b then
    { m with freq10 := if n = 0 then m.freq10 else n * 65536 * 1000000000 / max 1 (l - a), tens := (now, 0, now, here) }
  else
    let n1 := n + 1
    if ! valid && decide (50 * nom ≤ n1) then { m with freq10 := n1 * 65536 * 1000000000 / max 1 (now - a), tens := (now, 0, now, here) }
    else { m with tens := (a, n1, now, b) }

/-- Power-quality processing runs (R381, R502). -/
def State.metRuns (s : State) (p : Nat) : Bool :=
  s.rb Reg.MET_MET_CTL p && (decide (4 ≤ s.mode) && s.mode != 11) && decide (s.sec.lc < 3) && ! s.sec.recovery

/-- `BANK_STAT.EPOCH` of page 0x081. -/
def State.metEpoch (s : State) : Nat := (s.page 0x081).epoch

/-! ## Records (R386, R387) -/

/-- A metrology record's 32-byte header (R386). -/
def metHeader (rtype port rseq flags lt utc dur cycles epoch : Nat) : List Byte :=
  leBytes 1 rtype ++ leBytes 1 1 ++ leBytes 1 port ++ leBytes 1 flags ++ leBytes 4 rseq ++ leBytes 8 lt ++ leBytes 8 utc
    ++ leBytes 4 dur ++ leBytes 2 cycles ++ leBytes 2 epoch

/-- The 32-byte port block (R387). -/
def metPortBlock (freq : Nat) (a : MetAcc) (pst plt : List Nat) : List Byte :=
  let three (l : List Nat) : List Byte := (List.range 3).flatMap (fun i => leBytes 2 ((l[i]?).getD 0xFFFF))
  leBytes 4 freq ++ leBytes 2 (a.avg 6).toNat ++ leBytes 2 (a.avg 7).toNat ++ three pst ++ three plt ++ List.replicate 12 0

/-- The 272-byte conductor block (R387): magnitudes lie 128 apart by conductor: U, I, THD of each, then the harmonics. -/
def metCondBlock (a : MetAcc) (c : Nat) : List Byte :=
  let m (i : Nat) : Nat := a.mag (128 * c + i)
  leBytes 4 (m 0) ++ leBytes 4 (m 1) ++ leBytes 4 (sword (a.avg (2 * c))).toNat ++ leBytes 4 (sword (a.avg (2 * c + 1))).toNat
    ++ leBytes 2 (m 2) ++ leBytes 2 (m 3) ++ (List.range 124).flatMap (fun h => leBytes 2 (m (4 + h))) ++ leBytes 4 ((a.lag[c]?).getD 0)

/-- A record with its CRC (R387). -/
def withCrc (b : List Byte) : List Byte := b ++ leBytes 4 (crc32c b)

/-- A record of type 16 or 17 (R387). -/
def metRecord (rtype port rseq flags epoch freq : Nat) (a : MetAcc) (pst plt : List Nat) : List Byte :=
  withCrc (metHeader rtype port rseq flags a.ltStart a.utcStart a.dur a.cycles epoch ++ metPortBlock freq a pst plt
    ++ metCondBlock a 0 ++ metCondBlock a 1 ++ metCondBlock a 2)

/-- `RFLAGS` of an aggregate (R386). -/
def State.metFlags (s : State) (a : MetAcc) (short : Bool) : Nat :=
  (if s.rb Reg.LTIME_TRK_STAT 10 then 1 else 0) + (if a.flagged then 2 else 0) + (if a.ovld then 4 else 0) + (if a.coef then 8 else 0)
    + (if short then 16 else 0)

/-- A metrology record takes its number and is staged (R386, R387); without credit the oldest staged interval record is discarded. Staged records go to the archive while a drive is READY and `ARCH_EN` is 1. -/
def State.metEmit (s : State) (credit : Bool) (mk : Nat → List Byte) : State :=
  if ! s.rb Reg.MET_MET_CTL 4 then s
  else
    let n := (s.met.rseq + 1) % 2 ^ 32
    let r : ArchRec := { rseq := n, bytes := mk n }
    let s1 := { s with met := { s.met with rseq := n } }
    if s.anyDrive then (s1.met.stage ++ [r]).foldl (fun s x => s.archMet x) { s1 with met := { s1.met with stage := [] } }
    else if credit then { s1 with met := { s1.met with stage := s1.met.stage ++ [r] } }
    else
      match s1.met.stage.find? (fun x => leAt x.bytes 0 1 == 16) with
      | some x => { s1 with met := { s1.met with stage := s1.met.stage.erase x ++ [r] } }.inc Reg.MET_ARCH_DROP
      | none => if leAt r.bytes 0 1 = 16 then s1.inc Reg.MET_ARCH_DROP else { s1 with met := { s1.met with stage := s1.met.stage ++ [r] } }

/-! ## Intervals (R383, R384) -/

/-- Cycles in a nominal 10/12-cycle interval (R383, R185). -/
def State.metNom (s : State) : Nat := if s.rb (Reg.NBP_MAP_CFG 0) 0 then 12 else 10

/-- The live values of a completed interval, changed together (R405). -/
def State.metLive (s : State) (p : Nat) (a : MetAcc) : State :=
  let s1 := (List.range 3).foldl (fun s c =>
    let b := 0x82040 + 16 * (3 * p + c)
    (((s.wr b (word (a.mag (128 * c)))).wr (b + 4) (word (a.mag (128 * c + 1)))).wr (b + 8) (sword (a.avg (2 * c)))).wr (b + 12) (sword (a.avg (2 * c + 1)))) s
  let s2 := (s1.wr (0x82100 + 8 * p) (word (s1.metPort p).freq10)).wr (0x82104 + 8 * p) (word ((a.avg 6).toNat % 65536 + (a.avg 7).toNat % 65536 * 65536))
  s2.wr 0x82180 (s2.rd 0x82180 + 1)

/-- The 150/180-cycle interval closes: a record of type 16 (R383, R386). -/
def State.metClose3 (s : State) (p : Nat) (credit short : Bool) : State :=
  let m := s.metPort p
  if m.acc3.n = 0 then s
  else
    let fl := s.metFlags m.acc3 short
    (s.setMetPort p { m with acc3 := {} }).metEmit credit
      (fun q => metRecord 16 p q fl s.metEpoch m.freq10 m.acc3 [0xFFFF, 0xFFFF, 0xFFFF] [0xFFFF, 0xFFFF, 0xFFFF])

/-- Plt of a conductor: the cube root of the mean of the cubes of 12 Pst (R382). -/
def pltOf (ps : List (List Nat)) (c : Nat) : Nat :=
  icbrt ((ps.map (fun l => let x := (l[c]?).getD 0; x * x * x)).foldl (· + ·) 0 / 12)

/-- The ten-minute interval closes: a record of type 17 with its Pst, and with Plt where it closes two hours (R382, R383, R387). -/
def State.metClose10 (s : State) (p : Nat) (credit : Bool) : State :=
  let m := s.metPort p
  let pst := m.flick.map Config.flickPst
  let ps := m.pst ++ [pst]
  let full := decide (12 ≤ ps.length)
  let plt := if full then [pltOf ps 0, pltOf ps 1, pltOf ps 2] else [0xFFFF, 0xFFFF, 0xFFFF]
  let fl := s.metFlags m.acc10 false
  (s.setMetPort p { m with acc10 := {}, pst := if full then [] else ps }).metEmit credit
    (fun q => metRecord 17 p q fl s.metEpoch m.freq10 m.acc10 pst plt)

/-- METRO_INTERVAL (R379 to R384, R405): a 10/12-cycle interval of port `p`, of samples `xs`, ends at a rising crossing of its phase A; `cut` says that the UTC ten-minute boundary ends it early. An interval with fewer cycles is not at its end. With no valid UTC the ten-minute interval is counted in cycles. -/
def State.metEnd (s : State) (p : Nat) (xs : List MetSample) (credit cut : Bool) : State :=
  let cr := crossings (s.metSeries p 0 0 xs)
  let n := cr.length + 1
  if ! s.metRuns p || (if cut then decide (s.metNom < n) else n != s.metNom) then s
  else
    let t0 := ((xs.head?).map MetSample.at_).getD s.now
    let l0 := s.ltAt t0
    let dur := (s.now - t0) / usec
    let m0 := (cr ++ [edgeNs s.now]).foldl (s.tensCross s.metNom) (s.metPort p)
    let m := { m0 with flick := (List.range 3).map (fun c => (s.metSeries p 0 c xs).foldl (fun st (x : Int × Int) => Config.flickStep st x.2) ((m0.flick[c]?).getD 0)) }
    let v := s.metVals p xs l0 n dur
    let utc0 := if s.utc = 0 then 0 else s.utc - dur * 1000
    let a := metAccOf v m.flag (m.epoch != s.metEpoch) l0 utc0
    let run := m.dip.isSome || m.swell.isSome
    let m1 := { m with acc3 := m.acc3.add a, acc10 := m.acc10.add a, flag := run, epoch := s.metEpoch }
    let s1 := ((s.setMetPort p m1).metLive p a).wr Reg.MET_MET_STAT
      (setBit (setBit (s.rd Reg.MET_MET_STAT) p false) (4 + p) run)
    let s2 := if v.ovld then s1.cause 0x083 2 else s1
    let s3 := if 15 ≤ m1.acc3.n then s2.metClose3 p credit false else s2
    if ! s.rb Reg.LTIME_TRK_STAT 10 && decide (3000 * s.metNom ≤ m1.acc10.cycles) then s3.metClose10 p credit else s3

/-- METRO_INTERVAL (R383). -/
def State.metInterval (s : State) (p : Nat) (xs : List MetSample) (credit : Bool) : State := s.metEnd p xs credit false

/-- A UTC ten-minute boundary lies between two instants, `dur` µs before now and now (R383). -/
def State.tenMinutes (s : State) (dur : Nat) : Bool := decide ((s.utc - dur * 1000) / 600000000000 ≠ s.utc / 600000000000)

/-- METRO_UTC_BOUNDARY (R383): the interval that ends at the first rising crossing after a UTC ten-minute boundary closes every interval in progress; the 150/180-cycle one is marked `SHORT` unless it is whole. -/
def State.metBoundary (s : State) (p : Nat) (xs : List MetSample) (credit : Bool) : State :=
  let dur := (s.now - ((xs.head?).map MetSample.at_).getD s.now) / usec
  if ! s.metRuns p || ! s.rb Reg.LTIME_TRK_STAT 10 || ! s.tenMinutes dur then s
  else ((s.metEnd p xs credit true).metClose3 p credit true).metClose10 p credit

/-! ## Dips and swells (R385) -/

/-- An event record of type 18 (R386, R387). -/
def State.eventRecord (s : State) (p kind : Nat) (e : VoltEvt) (thr : Nat) (credit : Bool) : State :=
  let fl := s.metFlags {} false
  let body := leBytes 1 kind ++ leBytes 1 e.conds ++ leBytes 2 (thr * 50) ++ leBytes 4 e.level ++ List.replicate 8 0
  s.metEmit credit (fun q => withCrc (metHeader 18 p q fl e.lt e.utc ((s.now - e.at_) / usec) 0 s.metEpoch ++ body))

/-- Conductors whose value meets a test, as a mask. -/
def condMask (f : Nat → Bool) : Nat := (List.range 3).foldl (fun m c => if f c then m + 2 ^ c else m) 0

/-- DIP_SWELL_DETECT (R384, R385): at a half cycle, Urms(1/2) over the samples of the last cycle begins, carries on or ends a dip and a swell of port `p`. -/
def State.dipSwell (s : State) (p : Nat) (xs : List MetSample) (credit : Bool) : State :=
  if ! s.metRuns p then s
  else
    let cfg := s.act Reg.MET_EVT_CFG
    let dip := fld cfg 0 8
    let swl := fld cfg 8 9
    let hy := fld cfg 20 4
    let ud := s.rf (Reg.MET_UDIN p) 0 24
    let v (c : Nat) : Nat := rmsOf ((s.metSeries p 0 c xs).map Prod.snd)
    let lo := min (v 0) (min (v 1) (v 2))
    let hi := max (v 0) (max (v 1) (v 2))
    let under := condMask (fun c => decide (20 * v c < ud * dip))
    let beyond := condMask (fun c => decide (ud * swl < 20 * v c))
    let m := s.metPort p
    let s1 := match m.dip with
      | none => if under = 0 then s
          else s.setMetPort p { m with dip := some { at_ := s.now, lt := s.lt, utc := s.utc, conds := under, level := lo }, flag := true }
      | some e =>
        let e1 := { e with conds := Nat.lor e.conds under, level := min e.level lo }
        if (List.range 3).all (fun c => decide (ud * (dip + hy) < 20 * v c)) then
          (((s.setMetPort p { m with dip := none }).incF (Reg.MET_EVT_CNT p) 0 16).cause 0x083 0).eventRecord p 1 e1 dip credit
        else s.setMetPort p { m with dip := some e1 }
    let m1 := s1.metPort p
    let s2 := match m1.swell with
      | none => if beyond = 0 then s1
          else s1.setMetPort p { m1 with swell := some { at_ := s.now, lt := s.lt, utc := s.utc, conds := beyond, level := hi }, flag := true }
      | some e =>
        let e1 := { e with conds := Nat.lor e.conds beyond, level := max e.level hi }
        if (List.range 3).all (fun c => decide (20 * v c < ud * (swl - hy))) then
          (((s1.setMetPort p { m1 with swell := none }).incF (Reg.MET_EVT_CNT p) 16 16).cause 0x083 1).eventRecord p 2 e1 swl credit
        else s1.setMetPort p { m1 with swell := some e1 }
    s2.wr Reg.MET_MET_STAT (setBit (s2.rd Reg.MET_MET_STAT) (4 + p) (s2.metPort p).flag)

/-! ## Snapshots (R388) -/

/-- A snapshot trigger (R388): ignored and counted while one is held or being taken. -/
def State.snapTrigger (s : State) : State :=
  if s.rf Reg.MET_SNAP_STAT 0 2 ≠ 0 then s.incF Reg.MET_SNAP_STAT 16 16
  else (s.wb Reg.MET_SNAP_STAT 1 true).wr64 Reg.MET_SNAP_LT_LO Reg.MET_SNAP_LT_HI s.lt

/-- The trigger line time of the snapshot. -/
def State.snapLt (s : State) : Nat := (s.rd Reg.MET_SNAP_LT_HI).toNat * 2 ^ 32 + (s.rd Reg.MET_SNAP_LT_LO).toNat

/-- MET_SNAP_DONE (R388): `SNAP_CYC` cycles of all 24 channels have been captured, `xs` their codes sample by sample in channel order. The upper byte of a container repeats the sign, which is the model's reading (log entry 185). -/
def State.snapDone (s : State) (xs : List (List Int)) : State :=
  if ! s.rb Reg.MET_SNAP_STAT 1 || decide ((s.lt + 2 ^ 64 - s.snapLt) % 2 ^ 64 < s.rf Reg.MET_SNAP_CFG 0 4 * 2 ^ 32) then s
  else
    let d := xs.flatMap (fun x => (List.range 24).flatMap (fun n => leBytes 4 (((x[n]?).getD 0) % (2 ^ 32 : Int)).toNat))
    ({ s with met := { s.met with snap := d } }.wf Reg.MET_SNAP_STAT 0 2 1).cause 0x083 3

/-- Bytes of a capture copied to the host by a submission laid out as CAP_READ (R375, R388): the range, and the result part. -/
def State.copyCapture (s : State) (c : Sub) (data : List Byte) (lt : Nat) : State :=
  let ofs := leAt c.part 4 4
  let n := leAt c.part 16 4
  let got := (data.drop ofs).take n
  (s.dmaWrite (leAt c.part 8 8) got).finish c .done (leBytes 4 c.utag ++ leBytes 4 got.length ++ leBytes 8 lt)

/-- A CAP_READ or MET_SNAP_READ length is a multiple of 64 up to 16 MiB (R375). -/
def Sub.capLenOk (c : Sub) : Bool := leAt c.part 16 4 % 64 == 0 && decide (leAt c.part 16 4 ≤ 16777216)

/-- MET_SNAP_READ (R388): its completion clears `HELD`. -/
def State.snapRead (s : State) (c : Sub) : State :=
  if ! s.rb Reg.MET_SNAP_STAT 0 || ! c.capLenOk then s.finishTag c .refused
  else (s.copyCapture c s.met.snap s.snapLt).wb Reg.MET_SNAP_STAT 0 false

end Sys2Proof.Machine
end

