-- ==== Sys2Proof/Machine/Hkc.lean ====
section
/-! DEFINITION. The housekeeping converter (R389 to R394): regular scans, the injected group, calibration, windows. -/

namespace Sys2Proof.Machine

/-- The conversion in progress is of an input with window `LIM_i`: its bit in `LIM_STAT`, and the cause when it lies outside (R394). -/
def State.hkcLimit (s : State) (i code : Nat) : State :=
  let w := s.rd (Reg.HKC_LIM i)
  if ! bit w 31 then s
  else if code < fld w 0 12 || fld w 16 12 < code then (s.wb Reg.HKC_LIM_STAT i true).cause 0x00C 1
  else s.wb Reg.HKC_LIM_STAT i false

/-- The maximum junction temperature of the ordering code, 0.1 °C (R5, chapter 24). -/
def State.tjMax (s : State) : Int := if s.rb Reg.SYS_ORD_CODE 0 then 1250 else 1050

/-- The CL die's temperature is watched (R539): above the maximum for 1 ms is a fault of the HKC page, lasting at once. -/
def State.dieCheck (s : State) (t : Int) : State × Bool :=
  if t ≤ s.tjMax then ({ s with hkc := { s.hkc with hotFrom := 0 } }, false)
  else if s.hkc.hotFrom = 0 then ({ s with hkc := { s.hkc with hotFrom := s.now + 1 } }, false)
  else if decide (s.hkc.hotFrom - 1 + msec ≤ s.now) && ! s.rb (Reg.FAULT_STAT 0x00C) 8 then (s.lastingAtOnce 0x00C, true)
  else (s, false)

/-- One result of input `i`: `RES_i`, the registers that show it, and its window (R389, R391, R394). -/
def State.hkcResult (s : State) (i code : Nat) (value : Int) : State :=
  let s1 := s.wr (Reg.HKC_RES i) (word (code % 4096 + 4096 + satField 16 value * 65536))
  let s2 := if i = 3 || i = 4 then s1.drvTemp (i - 3) value s1.tjMax
    else if 14 ≤ i && i ≤ 17 then s1.wf (Reg.LFE_VDRV_MEAS (i - 14)) 0 16 (satField 16 value)
    else s1
  s2.hkcLimit i (code % 4096)

/-- The HKC converts (R390): its clock runs, and it is enabled. -/
def State.hkcRuns (s : State) : Bool := s.rb Reg.HKC_HKC_CTL 0 && decide (2 ≤ s.mode)

/-- HKC_REGULAR_SCAN (R391): one scan of the list; `rs` are the codes and values in list order. The second component says that the CL die has been too hot for 1 ms. -/
def State.hkcScan (s : State) (rs : List (Nat × Int)) : State × Bool :=
  if ! s.hkcRuns || s.rb Reg.HKC_HKC_STAT 0 then (s, false)
  else
    let n := s.rf Reg.HKC_REG_CFG 0 6
    let ins := (List.range n).map (fun k => s.rf (Reg.HKC_REG_SEQ (k / 4)) (8 * (k % 4)) 5)
    (ins.zip rs).foldl (fun (acc : State × Bool) x =>
      let s1 := acc.1.hkcResult x.1 x.2.1 x.2.2
      if x.1 = 0 then let (s2, hot) := s1.dieCheck x.2.2; (s2, acc.2 || hot) else (s1, acc.2)) (s, false)

/-- An injected-group trigger (R392, R393): ignored and counted while a group is pending or running; during a calibration its results are late, but it goes ahead of one requested in the same fabric cycle. -/
def State.hkcTrigger (s : State) : State :=
  if ! s.hkcRuns then s
  else if s.hkc.inj then (s.inc Reg.HKC_INJ_OVR).cause 0x00C 3
  else if s.rb Reg.HKC_HKC_STAT 0 && s.hkc.calAt = s.fabric + 1 then
    { (s.wb Reg.HKC_HKC_STAT 0 false).wb Reg.HKC_HKC_STAT 1 true with hkc := { s.hkc with inj := true, late := false, calWait := true } }
  else { s.wb Reg.HKC_HKC_STAT 1 true with hkc := { s.hkc with inj := true, late := s.rb Reg.HKC_HKC_STAT 0 } }

/-- Fast-clock edges of one conversion (R390): 200 ns in the modes of codes 4 to 11, 203.5 ns below. -/
def State.hkcConv (s : State) : Nat := if 4 ≤ s.mode then 300 else 305

/-- A calibration starts, or waits behind an injected group (R393). -/
def State.hkcCal (s : State) : State :=
  if ! s.hkcRuns || s.rb Reg.HKC_HKC_STAT 0 || s.hkc.calWait then s
  else if s.hkc.inj then { s with hkc := { s.hkc with calWait := true } }
  else { s.wb Reg.HKC_HKC_STAT 0 true with hkc := { s.hkc with calAt := s.fabric + 1 } }

/-- HKC_INJ_DONE (R392, R393, R394): the group's results, with the line time at which its first conversion started. -/
def State.hkcInjDone (s : State) (rs : List (Nat × Int)) : State :=
  if ! s.hkc.inj || s.rb Reg.HKC_HKC_STAT 0 then s
  else
    let n := s.rf Reg.HKC_INJ_CFG 0 2 + 1
    let ins := (List.range n).map (fun k => s.rf Reg.HKC_INJ_SEQ (8 * k) 5)
    let late := s.hkc.late
    let s1 := (((List.range n).zip (ins.zip rs))).foldl (fun s x =>
      (s.wr (Reg.HKC_INJ_RES x.1) (word (x.2.2.1 % 4096 + (if late then 4096 else 0) + satField 16 x.2.2.2 * 65536))).hkcLimit x.2.1 (x.2.2.1 % 4096)) s
    let s2 := if late then s1.addF Reg.HKC_HKC_STAT 16 16 n else s1
    let s3 := ((s2.wb Reg.HKC_HKC_STAT 1 false).wr64 Reg.HKC_INJ_LT_LO Reg.HKC_INJ_LT_HI (s.ltAt (s.now - n * s.hkcConv))).cause 0x00C 0
    let s4 := { s3 with hkc := { s3.hkc with inj := false, late := false, calWait := false } }
    if s.hkc.calWait then s4.wb Reg.HKC_HKC_STAT 0 true else s4

/-- HKC_CAL_DONE (R393). -/
def State.hkcCalDone (s : State) : State :=
  if s.rb Reg.HKC_HKC_STAT 0 then (s.wb Reg.HKC_HKC_STAT 0 false).cause 0x00C 2 else s

end Sys2Proof.Machine
end

