-- ==== Sys2Proof/Machine/Crypto.lean ====
section
/-! DEFINITION. The algorithms of the security core as uninterpreted functions (log entry 4), and the key derivations over them (R432 to R434, R442). -/

namespace Sys2Proof.Machine

/-- KMAC256 under the customisation `CIMAINO-KDF`, 256 bits (R432). -/
def kdf (key label : List Byte) : List Byte := takeBytes (Config.cryptoBytes 1 (key ++ label)) 0 32

/-- SHAKE256, 256 bits (R429). -/
def shake (x : List Byte) : List Byte := takeBytes (Config.cryptoBytes 2 x) 0 32

/-- Two byte strings added bit by bit. -/
def xorBytes (a b : List Byte) : List Byte := (a.zip b).map (fun p => p.1 ^^^ p.2)

/-- The key stream of AES-256-GCM. -/
def gcmStream (key iv : List Byte) (n : Nat) : List Byte := takeBytes (Config.cryptoBytes 3 (key ++ iv)) 0 n

/-- The tag of AES-256-GCM, cut to `n` bytes. -/
def gcmTag (n : Nat) (key iv aad ct : List Byte) : List Byte :=
  takeBytes (Config.cryptoBytes 4 (key ++ iv ++ leBytes 8 aad.length ++ aad ++ ct)) 0 n

/-- AES-256-GCM encryption: ciphertext and tag (R238, R287). -/
def gcmSeal (n : Nat) (key iv aad pt : List Byte) : List Byte × List Byte :=
  let ct := xorBytes pt (gcmStream key iv pt.length)
  (ct, gcmTag n key iv aad ct)

/-- AES-256-GCM decryption: the plaintext where the tag passes (R251, R440). -/
def gcmOpen (key iv aad ct tag : List Byte) : Option (List Byte) :=
  if gcmTag tag.length key iv aad ct = tag then some (xorBytes ct (gcmStream key iv ct.length)) else none

/-- An ML-DSA-65 signature, hedged with drawn randomness (R442). -/
def dsaSign (seed ctx msg rnd : List Byte) : List Byte := takeBytes (Config.cryptoBytes 5 (seed ++ ctx ++ rnd ++ msg)) 0 3309

/-- ML-DSA-65 verification (R442). -/
def dsaVerify (pk ctx msg sig : List Byte) : Bool := (Config.cryptoBytes 6 (pk ++ ctx ++ sig ++ msg)).head? == some 1

/-- ML-DSA-65 public key of a seed (R443). -/
def dsaPublic (seed : List Byte) : List Byte := takeBytes (Config.cryptoBytes 7 seed) 0 1952

/-- ML-KEM-768 encapsulation key of a seed, and decapsulation (R448). -/
def kemPublic (seed : List Byte) : List Byte := takeBytes (Config.cryptoBytes 8 seed) 0 1184
def kemDecaps (seed ct : List Byte) : List Byte := takeBytes (Config.cryptoBytes 9 (seed ++ ct)) 0 32

/-- ASCII bytes. -/
def ascii (s : List Char) : List Byte := s.map (fun c => BitVec.ofNat 8 c.toNat)

/-- Context strings of R442: firmware, co-signature, identity, attestation, host session, exclusion list. -/
def ctxFw : List Byte := ascii ['C', 'I', 'M', 'A', 'I', 'N', 'O', '-', 'F', 'W']
def ctxFwc : List Byte := ascii ['C', 'I', 'M', 'A', 'I', 'N', 'O', '-', 'F', 'W', 'C']
def ctxId : List Byte := ascii ['C', 'I', 'M', 'A', 'I', 'N', 'O', '-', 'I', 'D']
def ctxAt : List Byte := ascii ['C', 'I', 'M', 'A', 'I', 'N', 'O', '-', 'A', 'T']
def ctxHs : List Byte := ascii ['C', 'I', 'M', 'A', 'I', 'N', 'O', '-', 'H', 'S']
def ctxXl : List Byte := ascii ['C', 'I', 'M', 'A', 'I', 'N', 'O', '-', 'X', 'L']

/-! ## Labels and derivations -/

/-- The 24-byte label of R432. -/
def keyLabel (purpose a b epoch dir qual : Nat) : List Byte :=
  leBytes 1 purpose ++ leBytes 8 a ++ leBytes 8 b ++ leBytes 2 epoch ++ leBytes 1 dir ++ leBytes 4 qual

/-- `DUS`, where present. -/
def State.dus (s : State) : Option (List Byte) := if s.sec.dusSet then some Config.dus else none

/-- The EBK of an endpoint, derived from `CRK` (R433, R434). -/
def State.ebk (s : State) (long : Nat) : Option (List Byte) := s.sec.crk.map (fun k => kdf k (keyLabel 1 long 0 0 0 0))

/-- The NK of a network, derived from `CRK` (R433, R434). -/
def State.nk (s : State) (net : Nat) : Option (List Byte) := s.sec.crk.map (fun k => kdf k (keyLabel 2 0 0 0 0 net))

/-- `NET_ID` of port `p`'s network: its own, or the upstream one on an UP port (R226, R230). -/
def State.netId (s : State) (p : Nat) : Nat :=
  if s.rf (Reg.MAC_MAC_CTL p) 0 2 = 2 then s.mac.up.net.getD (s.rf (Reg.MAC_UP_NET p) 0 16) else s.rf (Reg.MAC_NET_ID p) 0 16

/-- The NK a port works under: on an UP port the one installed (R434). -/
def State.portNk (s : State) (p : Nat) : Option (List Byte) :=
  if s.rf (Reg.MAC_MAC_CTL p) 0 2 = 2 then tfind s.sec.own 2 else s.nk (s.netId p)

/-- The link key of a source for its receiver (R238, R433). -/
def State.linkKeyOf (s : State) (p src dst epoch : Nat) : Option (List Byte) := (s.portNk p).map (fun k => kdf k (keyLabel 4 src dst epoch 0 0))

/-- The group link key (R264, R433). -/
def State.groupKeyOf (s : State) (p src addr epoch : Nat) : Option (List Byte) := (s.portNk p).map (fun k => kdf k (keyLabel 5 src 0 epoch 0 addr))

/-- The association key of a node (R257, R433); its own from the EBK installed. -/
def State.assocKey (s : State) (long : Nat) (own : Bool) : Option (List Byte) :=
  (if own then tfind s.sec.own 1 else s.ebk long).map (fun k => kdf k (keyLabel 3 long 0 0 0 0))

/-- The message key of an endpoint for a direction (R287, R433). -/
def State.msgKey (s : State) (long epoch dir : Nat) : Option (List Byte) := (s.ebk long).map (fun k => kdf k (keyLabel 6 long 0 epoch dir 0))

/-- The device's own long address: `SERIAL` (log entry 33). -/
def State.ownLong (s : State) : Nat := (s.rd Reg.OTP_SERIAL_HI).toNat * 2 ^ 32 + (s.rd Reg.OTP_SERIAL_LO).toNat

end Sys2Proof.Machine
end

