-- ==== Sys2Proof/Machine/Phy.lean ====
section
/-! DEFINITION. The narrowband and broadband physical layers as arithmetic on bits (R117 to R168): headers, codes, scrambler, interleavers, tone mapping and frame lengths. -/

namespace Sys2Proof.Machine

/-! ## Bits -/

/-- The bits of a byte string, least significant bit of the first byte first (R124, R132). -/
def bitsOf (bs : List Byte) : List Bool := bs.flatMap (fun b => (List.range 8).map (fun i => b.getLsbD i))

/-- Bits `lo` to `lo + width - 1` of a little-endian byte string. -/
def bitsAt (bs : List Byte) (lo width : Nat) : Nat := ofLE bs / 2 ^ lo % 2 ^ width

/-- A header check sequence as it stands in the header: its bit 15 comes first (R125). -/
def hcsField (v : Nat) : Nat := (List.range 16).foldl (fun a i => a + (v / 2 ^ (15 - i) % 2) * 2 ^ i) 0

/-! ## Narrowband header (R124, R125, R127) -/

/-- The fields of a narrowband header. -/
structure NbHdr where
  typ : Nat
  mode : Nat
  mapId : Nat
  len : Nat
  seed : Nat
  rv : Nat
  nrt : Nat
deriving DecidableEq, Repr

/-- The fields 8 header bytes spell (R124). -/
def NbHdr.ofBytes (h : List Byte) : NbHdr :=
  { typ := bitsAt h 0 2, mode := bitsAt h 2 2, mapId := bitsAt h 4 8, len := bitsAt h 12 11
    seed := bitsAt h 23 15, rv := bitsAt h 38 2, nrt := bitsAt h 40 6 }

/-- Header bits [47:0] of a frame (R124). -/
def NbHdr.value (h : NbHdr) : Nat :=
  h.typ + h.mode * 2 ^ 2 + h.mapId * 2 ^ 4 + h.len * 2 ^ 12 + h.seed * 2 ^ 23 + h.rv * 2 ^ 38 + h.nrt * 2 ^ 40

/-- A header completed with its check sequence (R125). -/
def nbHeader (v : Nat) : List Byte :=
  let b := leBytes 6 v
  b ++ leBytes 2 (hcsField (hcs16 (bitsOf b)))

/-- `HCS` passes (R125). -/
def nbHcsOk (h : List Byte) : Bool := bitsAt h 48 16 == hcsField (hcs16 (bitsOf (takeBytes h 0 6)))

/-- The header passes R127; `mapHeld` says whether `MAP_ID` names a tone map held for the transmitter. -/
def nbHdrOk (h : List Byte) (mapHeld : Bool) : Bool :=
  let x := NbHdr.ofBytes h
  nbHcsOk h && x.typ != 3 && x.seed != 0 && ! (x.typ != 1 && x.len == 0 && x.nrt != 0) && (x.mode != 0 || mapHeld)

/-! ## Broadband header (R157, R158) -/

/-- The fields of a broadband header. -/
structure BbHdr where
  typ : Nat
  nss : Nat
  rob : Bool
  cset : Nat
  mapId : Nat
  len : Nat
  seed : Nat
  rv : Nat
  nrt : Nat
deriving DecidableEq, Repr

/-- The fields 10 header bytes spell (R157). -/
def BbHdr.ofBytes (h : List Byte) : BbHdr :=
  { typ := bitsAt h 0 2, nss := bitsAt h 2 2, rob := bitsAt h 4 1 == 1, cset := bitsAt h 5 3, mapId := bitsAt h 8 8
    len := bitsAt h 16 16, seed := bitsAt h 32 15, rv := bitsAt h 47 2, nrt := bitsAt h 49 6 }

/-- Header bits [63:0] of a broadband frame (R157). -/
def BbHdr.value (h : BbHdr) : Nat :=
  h.typ + h.nss * 2 ^ 2 + (if h.rob then 2 ^ 4 else 0) + h.cset * 2 ^ 5 + h.mapId * 2 ^ 8 + h.len * 2 ^ 16 +
  h.seed * 2 ^ 32 + h.rv * 2 ^ 47 + h.nrt * 2 ^ 49

/-- A broadband header completed with its check sequence (R157). -/
def bbHeader (v : Nat) : List Byte :=
  let b := leBytes 8 v
  b ++ leBytes 2 (hcsField (hcs16 (bitsOf b)))

/-- Members of a conductor set. -/
def csetList (m : Nat) : List Nat := (List.range 3).filter (fun c => decide (m / 2 ^ c % 2 = 1))

/-- The broadband header passes R158, with `rxSet` channels in the receive set (R152). -/
def bbHdrOk (h : List Byte) (rxSet : Nat) (mapHeld : Bool) : Bool :=
  let x := BbHdr.ofBytes h
  (bitsAt h 64 16 == hcsField (hcs16 (bitsOf (takeBytes h 0 8)))) && x.typ != 3 && x.nss != 0 && x.seed != 0 &&
  decide (x.nss ≤ (csetList x.cset).length) && decide (x.nss ≤ rxSet) && ! (x.rob && x.nss != 1) &&
  ! (x.typ == 0 && x.len == 0 && x.nrt != 0) && (x.rob || mapHeld)

/-! ## Scrambler and pilots (R123, R128) -/

/-- One clock of the 15-stage generator: stage b_i is bit i - 1; the output, then the next state (R128). -/
def scrClock (r : Nat) : Bool × Nat :=
  let y := (r / 2 ^ 13 + r / 2 ^ 14) % 2
  (y == 1, (r * 2 + y) % 2 ^ 15)

/-- `n` outputs of the generator from state `r`. -/
def scrBits (r n : Nat) : List Bool :=
  ((List.range n).foldl (fun (x : List Bool × Nat) _ => ((scrClock x.2).1 :: x.1, (scrClock x.2).2)) ([], r)).1.reverse

/-- Payload bits scrambled from `SEED` (R128). -/
def scramble (seed : Nat) (bits : List Bool) : List Bool := (bits.zip (scrBits seed bits.length)).map (fun p => p.1 != p.2)

/-- Narrowband pilot positions: `(i + 2s) mod 8 = 0` (R123). -/
def nbPilot (s i : Nat) : Bool := (i + 2 * s) % 8 == 0

/-- Data-tone positions of symbol `s` of a band plan, ascending (R123). -/
def nbData (n s : Nat) : List Nat := (List.range n).filter (fun i => ! nbPilot s i)

/-- The residue of R156: below N_SS the tone is the pilot of that stream. -/
def bbResidue (s i : Nat) : Nat := (i + 5 * s) % 32

/-- Broadband data tones in a symbol of `nss` streams (R156). -/
def bbD (nss : Nat) : Nat := 1728 - 54 * nss

/-! ## Array LDPC codes (R129 to R131, R160, R161) -/

/-- An entry of the parity-check matrix: row a p + r, column b p + c (R129). -/
def ldpcEntry (p a r b c : Nat) : Bool := c == (r + (a * b + a) % p) % p

/-- A row of the parity-check matrix of `nb` block columns, column k as bit k (R129). -/
def ldpcRow (p nb row : Nat) : Nat :=
  (List.range nb).foldl (fun m b => m + 2 ^ (b * p + (row % p + (row / p * b + row / p) % p) % p)) 0

/-- Rows with column `k` cleared by adding a pivot row. -/
def clearCol (k piv : Nat) (rows : List Nat) : List Nat := rows.map (fun r => if r.testBit k then r ^^^ piv else r)

/-- One step of the reduction of R131: the first remaining row with a 1 in column `k` becomes its pivot row. -/
def reduceStep (k : Nat) (x : List Nat × List (Nat × Nat)) : List Nat × List (Nat × Nat) :=
  match x.1.find? (fun r => r.testBit k) with
  | none => x
  | some piv => (clearCol k piv (x.1.erase piv), (k, piv) :: x.2.map (fun y => (y.1, if y.2.testBit k then y.2 ^^^ piv else y.2)))

/-- Pivot columns and their reduced rows, pivots taken from the highest column downwards (R131). -/
def reduced (cols : Nat) (rows : List Nat) : List (Nat × Nat) :=
  ((List.range cols).reverse.foldl (fun x k => reduceStep k x) (rows, [])).2

/-- Information positions of a code, ascending (R131). -/
def infoPositions (cols : Nat) (piv : List (Nat × Nat)) : List Nat :=
  let pm := piv.foldl (fun m y => m ||| 2 ^ y.1) 0
  (List.range cols).filter (fun k => ! pm.testBit k)

/-- The sum over GF(2) of a number's bits, for numbers of up to 16,384 bits. -/
def parityBit (n : Nat) : Bool := ((List.range 14).reverse.foldl (fun n i => n ^^^ (n >>> 2 ^ i)) n).testBit 0

/-- A codeword, position k as bit k: information bits in the lowest information positions, each parity bit the sum its reduced row selects (R131). -/
def ldpcEncode (cols : Nat) (piv : List (Nat × Nat)) (info : List Bool) : Nat :=
  let w := ((infoPositions cols piv).zip info).foldl (fun m x => if x.2 then m ||| 2 ^ x.1 else m) 0
  piv.foldl (fun m y => if parityBit (y.2 &&& w) then m ||| 2 ^ y.1 else m) w

/-- The information positions from the `n`-th on, shortened: encoded as 0, and not sent (R126, R132). -/
def shortenMask (cols : Nat) (piv : List (Nat × Nat)) (n : Nat) : Nat := ((infoPositions cols piv).drop n).foldl (fun m k => m ||| 2 ^ k) 0

/-- The bits of a codeword at some positions in turn, shortened ones skipped. -/
def sentBits (cw cut : Nat) (order : List Nat) : List Bool := order.filterMap (fun k => if cut.testBit k then none else some (cw.testBit k))

/-- The reduced rows of the narrowband code with J block rows (R130). -/
def nbCode (j : Nat) : List (Nat × Nat) := reduced 732 ((List.range (j * 61)).map (ldpcRow 61 12))

/-- J of a narrowband rate code: 1/2, 2/3, 5/6 (R130, R181). -/
def nbJ : Nat → Nat
  | 0 => 6
  | 1 => 4
  | _ => 2

/-- Information bits K of a narrowband codeword by rate code (R130). -/
def nbK : Nat → Nat
  | 0 => 371
  | 1 => 491
  | _ => 611

/-- Information bits K_B of a broadband codeword by rate code (R161). -/
def bbK : Nat → Nat
  | 0 => 3696
  | 1 => 5104
  | 2 => 6512
  | _ => 6864

/-- Codewords a payload of `len` bytes takes (R132, R162). -/
def codewords (k len : Nat) : Nat := (8 * len + k - 1) / k

/-- Bits of the payload stream up to the pad bits: `n` sent bits a whole codeword, the last one shortened, and `nrt` whole retransmitted ones (R132 to R134, R162). -/
def streamBits (n k len nrt : Nat) : Nat :=
  let c := codewords k len
  (if c = 0 then 0 else n * c - (k * c - 8 * len)) + n * nrt

/-- The codeword position sent at output index `o` under version `v` (R133). -/
def nbInterleave (o v : Nat) : Nat := (97 * ((o + 183 * v) % 732)) % 732

/-- The codeword position sent at output index `o` under version `v` (R163). -/
def bbInterleave (o v : Nat) : Nat := 623 + (1601 * ((o + 1980 * v) % 7921)) % 7921

/-! ## Mapping to tones (R135 to R137, R164, R165, R180) -/

/-- Bits a tone carries by `MOD` code (R180). -/
def modBits (m : Nat) : Nat := if m = 0 then 0 else if m = 1 then 1 else 2 * (m - 1)

/-- The level of a group of bits, first bit most significant: Gray-decoded, (2^m - 1) - 2L (R135). -/
def qamLevel (bits : List Bool) : Int :=
  let g := bits.foldl (fun a b => 2 * a + (if b then 1 else 0)) 0
  let l := (List.range bits.length).foldl (fun a i => Nat.xor a (g / 2 ^ i)) 0
  (2 ^ bits.length - 1 : Nat) - 2 * (l : Int)

/-- The data tone a symbol's filling starts at: `(s * 37) mod D_s` (R136), `(s * 331) mod D` (R164). -/
def nbFirstTone (s d : Nat) : Nat := s * 37 % d
def bbFirstTone (s d : Nat) : Nat := s * 331 % d

/-- Copies r of a robust mode (R137). -/
def robustR : Nat → Nat
  | 1 => 4
  | 2 => 6
  | _ => 12

/-- The data tone that carries bit `w` in symbol `c` of a robust block (R137). -/
def robustTone (w c r wd : Nat) : Nat := (w + c * wd / r) % wd

/-- W of a robust mode: the least D_s, since every block holds symbols of each residue (R137). -/
def BandPlan.w (b : BandPlan) : Nat := b.d.foldl min 1000

/-- Payload symbols of a frame in a robust mode (R137). -/
def robustSymbols (b : BandPlan) (mode len nrt : Nat) : Nat :=
  let r := robustR mode
  r * ((streamBits 732 (nbK 0) len nrt + b.w - 1) / b.w)

/-- The fewest symbols whose capacity holds `need` bits, from symbol `s` on; `none` within the fuel (R134, R164). -/
def symbolsFor (cap : Nat → Nat) : Nat → Nat → Nat → Option Nat
  | _, _, 0 => some 0
  | 0, _, _ + 1 => none
  | fuel + 1, s, need + 1 => (symbolsFor cap fuel (s + 1) (need + 1 - cap s)).map (· + 1)

/-- Payload symbols of a BB-ROBUST frame: 1,674 coded bits a symbol (R165). -/
def bbRobustSymbols (len nrt : Nat) : Nat := (streamBits 7921 (bbK 0) len nrt + 1673) / 1674

/-! ## Frame lengths (R121, R153, R142, R166) -/

/-- Fast-clock edges of a narrowband frame: (2 + H + N_P) * 720 µs. -/
def nbEdges (b : BandPlan) (np : Nat) : Nat := (2 + b.h + np) * 720 * usec

/-- Fast-clock edges of a broadband frame: (2 + N_SS + N_P) * 25.6 µs. -/
def bbEdges (nss np : Nat) : Nat := (2 + nss + np) * 256 * (usec / 10)

/-- The acknowledgement hold of R212 in edges: 720 µs + (2 + H) * 720 µs + 20 µs. -/
def ackHold (b : BandPlan) : Nat := (720 + (2 + b.h) * 720 + 20) * usec

/-! ## Slices of symbols (R177, R178) -/

/-- Nanoseconds from the frame start to the centre of narrowband symbol `s`. -/
def nbCentre (s : Nat) : Nat := (2 + s) * 720000 + 400000

/-- Nanoseconds from the frame start to the centre of broadband symbol `s`. -/
def bbCentre (nss s : Nat) : Nat := (if s = 0 then 2 else 1 + nss + s) * 25600 + 15360

/-- The slice of a symbol whose centre lies `tc` ns after a frame start in slice `k0`, at nominal frequency `f` (R178). -/
def symbolSlice (k0 tc f : Nat) : Nat := (k0 + tc * 48 * f / 1000000000) % 48

/-! ## Uplink subchannels (R138, R139) -/

/-- Positions of subchannel `j`. -/
def subTones (j : Nat) : List Nat := (List.range 16).map (16 * j + ·)

/-- The scrambler seed of a multi-user frame (R139). -/
def muSeed (addr : Nat) : Nat := addr % 32767 + 1

/-! ## Frames down to tone values (R118, R122, R123, R126, R132 to R134, R150, R151, R154 to R156, R159, R162) -/

/-- The core sample a narrowband symbol sends as sample `n` of 0 to 1,183: prefix, core, postfix (R118). -/
def nbCoreIndex (n : Nat) : Nat := (n + 896) % 1024

/-- The core sample a broadband symbol sends as sample `n` of 0 to 5,247 (R150). -/
def bbCoreIndex (n : Nat) : Nat := (n + 3072) % 4096

/-- Preamble tones of tones `first` to `first + n - 1`, each with its phase in units of pi / M: the m-th tone whose index is a multiple of 4 has phase m² (R122). -/
def nbPreamble (first n : Nat) : List (Nat × Nat) :=
  let ks := (List.range n).filterMap (fun i => if (first + i) % 4 == 0 then some (first + i) else none)
  ks.zipIdx.map (fun y => (y.1, y.2 * y.2 % (2 * ks.length)))

/-- The sign of a preamble segment, negative in the last of nine (R122). -/
def nbSegmentNeg (seg : Nat) : Bool := seg == 8

/-- Broadband preamble tones with their phases in units of pi / 216 (R154). -/
def bbPreamble : List (Nat × Nat) := (List.range 216).map (fun m => (40 + 8 * m, m * m % 432))

/-- The segment sample the r-th lowest member of `CSET` sends as sample `n` of a preamble segment: delayed cyclically by 128 r (R154). -/
def bbPreambleIndex (r n : Nat) : Nat := (n + 512 - 128 * r % 512) % 512

/-- The phase of a channel-estimation tone in units of pi / 1728: minus i² (R155). -/
def bbCePhase (i : Nat) : Nat := (3456 - i * i % 3456) % 3456

/-- The conductor that carries stream `q` of a conductor set (R151). -/
def streamConductor (cset q : Nat) : Option Nat := (csetList cset)[q]?

/-- Pilots of `syms` narrowband symbols over `n` positions in generator order, each with its sign, true for -1 (R123); position `tone85` is a pilot of every payload symbol, from symbol `h` on (R141). A pilot that is not sent keeps its place in the sequence (log entry 163). -/
def nbPilots (n syms h : Nat) (tone85 : Option Nat) : List ((Nat × Nat) × Bool) :=
  let ps := (List.range syms).flatMap (fun s => ((List.range n).filter (fun i => nbPilot s i || (decide (h ≤ s) && tone85 == some i))).map (fun i => (s, i)))
  ps.zip (scrBits (2 ^ 15 - 1) ps.length)

/-- Pilots of the header and `np` payload symbols of `nss` broadband streams in generator order: symbol, position and stream, with the sign; the header symbol counts one stream (R156). -/
def bbPilots (nss np : Nat) : List ((Nat × Nat × Nat) × Bool) :=
  let ps := (List.range (np + 1)).flatMap (fun s => (List.range 1728).filterMap (fun i =>
    let r := bbResidue s i
    if r < (if s = 0 then 1 else nss) then some (s, i, r) else none))
  ps.zip (scrBits (2 ^ 15 - 1) ps.length)

/-- J of a broadband rate code (R161). -/
def bbJ : Nat → Nat
  | 0 => 48
  | 1 => 32
  | 2 => 16
  | _ => 12

/-- The reduced rows of the broadband code with J block rows (R160, R161). -/
def bbCode (j : Nat) : List (Nat × Nat) := reduced 8544 ((List.range (j * 89)).map (ldpcRow 89 96))

/-- The coded bits h of a narrowband header, in ascending position order (R126). -/
def nbHeaderBits (header : List Byte) : List Bool :=
  let piv := nbCode 2
  sentBits (ldpcEncode 732 piv (bitsOf header)) (shortenMask 732 piv 64) (List.range 732)

/-- The coded bits h of a broadband header: the first 623 positions are shortened too (R159). -/
def bbHeaderBits (header : List Byte) : List Bool :=
  let piv := bbCode 16
  sentBits (ldpcEncode 8544 piv (List.replicate 623 false ++ bitsOf header)) (shortenMask 8544 piv 703) ((List.range 8544).drop 623)

/-- A sequence cut into cwPieces of `k`. -/
def cwPieces (k : Nat) : Nat → List Bool → List (List Bool)
  | 0, _ => []
  | n + 1, bs => bs.take k :: cwPieces k n (bs.drop k)

/-- The bits of one new narrowband codeword in the order they are sent (R132, R133). -/
def nbSend (rate : Nat) (info : List Bool) : List Bool :=
  let piv := nbCode (nbJ rate)
  sentBits (ldpcEncode 732 piv info) (shortenMask 732 piv info.length) ((List.range 732).map (nbInterleave · 0))

/-- A retransmitted narrowband codeword under version `v`: all 732 positions, shortened ones carrying 0 (R133). -/
def nbResend (rate v : Nat) (info : List Bool) : List Bool :=
  sentBits (ldpcEncode 732 (nbCode (nbJ rate)) info) 0 ((List.range 732).map (nbInterleave · v))

/-- The bits of one new broadband codeword in the order they are sent (R162, R163). -/
def bbSend (rate : Nat) (info : List Bool) : List Bool :=
  let piv := bbCode (bbJ rate)
  sentBits (ldpcEncode 8544 piv (List.replicate 623 false ++ info)) (shortenMask 8544 piv (623 + info.length)) ((List.range 7921).map (bbInterleave · 0))

/-- A retransmitted broadband codeword under version `v`: all 7,921 positions (R162, R163). -/
def bbResend (rate v : Nat) (info : List Bool) : List Bool :=
  sentBits (ldpcEncode 8544 (bbCode (bbJ rate)) (List.replicate 623 false ++ info)) 0 ((List.range 7921).map (bbInterleave · v))

/-- The information words of a frame's codewords: its scrambled bytes in pieces of K bits (R128, R132, R162). -/
def infoWords (bb : Bool) (rate seed : Nat) (body : List Byte) : List (List Bool) :=
  let k := if bb then bbK rate else nbK rate
  cwPieces k (codewords k body.length) (scramble seed (bitsOf body))

/-- The payload stream of a frame up to the pad bits: the new codewords, then the retransmitted ones, each at its own rate (R132 to R134, R162). -/
def payloadStream (bb : Bool) (rate : Nat) (new : List (List Bool)) (rv : Nat) (again : List (Nat × List Bool)) : List Bool :=
  (new.map (fun w => if bb then bbSend rate w else nbSend rate w)).flatten ++
  (again.map (fun x => if bb then bbResend x.1 rv x.2 else nbResend x.1 rv x.2)).flatten

/-- Outputs of the scrambler that runs on after a frame's information bits: its pad bits (R128, R134). -/
def padBits (seed info n : Nat) : List Bool := (scrBits seed (info + n)).drop info

/-! ## Payload bit rates (R145, R171), in bit/s times the number of symbols averaged -/

/-- Four symbols' worth of the narrowband payload rate with every tone at `b` bits: sum of D_s x b x K / 732 over 720 µs each. -/
def nbRate4 (p : BandPlan) (b rate : Nat) : Nat := p.d.foldl (· + ·) 0 * b * nbK rate * 1000000 / (732 * 720)

/-- The payload rate of a robust mode: W / r x K / 732 over 720 µs. -/
def nbRobustRate (p : BandPlan) (mode : Nat) : Nat := p.w * nbK 0 * 1000000 / (robustR mode * 732 * 720)

/-- The broadband payload rate: N_SS x D x b x K_B / 7,921 over 25.6 µs. -/
def bbRate (nss b rate : Nat) : Nat := nss * bbD nss * b * bbK rate * 10000000 / (7921 * 256)

end Sys2Proof.Machine
end

