-- ==== Sys2Proof/Machine/Maps.lean ====
section
/-! DEFINITION. Cycle-sliced channel adaptation (R175 to R200): map sets and their pool, observations, map changes, filters. -/

namespace Sys2Proof.Machine

/-! ## Registers of the MAP pages (R185) -/

/-- A register of the MAP page of a port's PHY. -/
def mapReg (bb : Bool) (p off : Nat) : Nat := ((if bb then 0x051 else 0x041) + 4 * p) * 0x1000 + off

/-- The MAP page of a port's PHY. -/
def mapPage (bb : Bool) (p : Nat) : Nat := (if bb then 0x051 else 0x041) + 4 * p

/-- The nominal frequency of the device, or of the tracked beacon for the UP port's peers (R178, R185). -/
def State.fNom (s : State) (p : Nat) : Nat :=
  let own := s.rb (Reg.NBP_MAP_CFG 0) 0
  let b := if s.roleInEffect p == 2 && ! s.mac.up.beacon.isEmpty then bitsAt s.mac.up.beacon 5 1 == 1 else own
  if b then 60 else 50

/-! ## Map sets -/

/-- A link direction in the tables: a narrowband one is of a conductor, a broadband one of the port (R175). -/
def linkKey (peer p : Nat) (bb : Bool) (c : Nat) (rx : Bool) : Nat :=
  peer + p * 2 ^ 20 + (if bb then 2 ^ 22 else c * 2 ^ 23) + (if rx then 2 ^ 25 else 0)

/-- The link a map set belongs to. -/
def MapSet.link (m : MapSet) : Nat := linkKey m.peer m.port m.bb m.cond m.rx

/-- Map sets held for a link direction. -/
def State.setsOf (s : State) (k : Nat) : List MapSet := s.maps.sets.filter (fun m => m.link == k)

/-- The set a header names, if held (R176). -/
def State.setNamed (s : State) (k id : Nat) : Option MapSet := (s.setsOf k).find? (fun m => m.mapId == id)

/-- The current set of a link direction (R176). -/
def State.curSet (s : State) (k : Nat) : Option MapSet := (s.setsOf k).find? (fun m => m.current)

/-- A set as its header block is rewritten: `GEN` counts every rewrite (R182). -/
def MapSet.rewritten (old new : MapSet) : MapSet :=
  if old.current == new.current && old.retiring == new.retiring && old.effCyc == new.effCyc && old.effSlice == new.effSlice && old.suspect == new.suspect
    && old.obs.map (fun x => (x.1, x.2.length)) == new.obs.map (fun x => (x.1, x.2.length)) && old.groups == new.groups then new
  else { new with gen := (old.gen + 1) % 2 ^ 32 }

/-- The sets with those of a link that meet a condition changed. -/
def State.mapSets (s : State) (f : MapSet → MapSet) : State := { s with maps := { s.maps with sets := s.maps.sets.map (fun m => m.rewritten (f m)) } }

/-- A map-change body given to the link layer for a peer, on the PHY of its link (R188, R189). -/
def State.sendMap (s : State) (p : Nat) (bb : Bool) (c peer : Nat) (body : List Byte) : State :=
  s.pushOut { id := 0, port := p, bb := bb, cond := c, peer := peer, prio := 3, body := leBytes 1 6 ++ body }

/-- Blocks a group map takes (R182). -/
def groupBlocks (bb : Bool) (plan : Nat) : Nat :=
  if bb then 21 else if ((bandPlan plan).map BandPlan.n).getD 0 ≤ 248 then 1 else 2

/-- Block intervals in use. -/
def MapSet.used (m : MapSet) : List (Nat × Nat) := (m.header, 1) :: m.blocks

/-- Blocks taken by group maps. The example of the chapter counts these alone in `POOL_FREE`, not the header block (log entry 31). -/
def State.blocksUsed (s : State) : Nat := ((s.maps.sets.flatMap MapSet.blocks).map Prod.snd).foldl (· + ·) 0

/-- Blocks of the pool (R183). -/
abbrev poolBlocks : Nat := 8388608

/-- `POOL_FREE` shown in NBP page 0x041 (R185). -/
def State.showMapPool (s : State) : State := s.wr (Reg.NBP_POOL_FREE 0) (word (poolBlocks - s.blocksUsed))

/-- The first run of `n` free blocks, tried at block 0 and after each interval in use (log entry 31). -/
def firstFit (used : List (Nat × Nat)) (n : Nat) : Option Nat :=
  let cands := 0 :: used.map (fun u => u.1 + u.2)
  let ok := cands.filter (fun a => decide (a + n ≤ poolBlocks) && ! used.any (fun u => meets a n u.1 u.2))
  ok.foldl (fun m a => match m with
    | none => some a
    | some b => some (min a b)) none

/-- A map set with its blocks allocated, or `none` (R182, R183). -/
def allocSet (used : List (Nat × Nat)) (m : MapSet) : Option MapSet :=
  match firstFit used 1 with
  | none => none
  | some h =>
    let n := groupBlocks m.bb m.plan
    let r := m.groups.foldl (fun (acc : Option (List (Nat × Nat))) _ => match acc with
      | none => none
      | some bs => (firstFit ((h, 1) :: bs ++ used) n).map (fun a => bs ++ [(a, n)])) (some [])
    r.map (fun bs => { m with header := h, blocks := bs })

/-! ### Merging groups (R183) -/

/-- Two tone entries merged: the lower `MOD`, the higher `ATT`. -/
def mergeEntry (a b : Nat) : Nat := min (a % 8) (b % 8) + max (a / 8) (b / 8) * 8

/-- Two group maps merged. -/
def mergeGroup (a b : GroupMap) : GroupMap :=
  { rate := min a.rate b.rate, maps := (a.maps.zip b.maps).map (fun p => (p.1.zip p.2).map (fun e => mergeEntry e.1 e.2)) }

/-- Bits a group map loads in a symbol. -/
def GroupMap.bits (g : GroupMap) : Nat := ((g.maps.flatMap id).map (fun e => modBits (e % 8))).foldl (· + ·) 0

/-- Slices of a group. -/
def sliceCount (part : List Nat) (g : Nat) : Nat := (part.filter (· == g)).length

/-- Bits lost over the cycle when groups `a` and `b` merge. -/
def mergeLoss (m : MapSet) (a b : Nat) : Nat :=
  let ga := (m.groups[a]?).getD {}
  let gb := (m.groups[b]?).getD {}
  let mm := (mergeGroup ga gb).bits
  sliceCount m.part a * (ga.bits - mm) + sliceCount m.part b * (gb.bits - mm)

/-- Pairs of groups adjacent in the partition's slice order. -/
def adjacent (part : List Nat) : List (Nat × Nat) :=
  ((part.zip (part.drop 1 ++ part.take 1)).filter (fun p => p.1 != p.2)).map (fun p => (min p.1 p.2, max p.1 p.2))

/-- The least element of a list by a cost. -/
def argMin {α : Type} (cost : α → Nat) : List α → Option α
  | [] => none
  | x :: xs => match argMin cost xs with
    | none => some x
    | some y => if cost x ≤ cost y then some x else some y

/-- A set with the cheapest pair of adjacent groups merged. -/
def mergeOnce (m : MapSet) : Option MapSet :=
  (argMin (fun p => mergeLoss m p.1 p.2) (adjacent m.part)).map (fun p =>
    let g := mergeGroup ((m.groups[p.1]?).getD {}) ((m.groups[p.2]?).getD {})
    { m with
      part := m.part.map (fun x => if x = p.2 then p.1 else if p.2 < x then x - 1 else x)
      groups := (m.groups.set p.1 g).eraseIdx p.2 })

/-- A map set allocated, merging groups while it does not fit (R183); at most 12 groups. -/
def fitSet (used : List (Nat × Nat)) : Nat → MapSet → Option MapSet
  | 0, _ => none
  | n + 1, m => match allocSet used m with
    | some x => some x
    | none => match mergeOnce m with
      | none => none
      | some y => fitSet used n y

/-- A set is stored, or the allocation fails: counted, its cause set, and a record (R183). The second component is the set as stored. -/
def State.storeSet (s : State) (m : MapSet) : State × Option MapSet :=
  match fitSet (s.maps.sets.flatMap MapSet.used) 12 m with
  | some x => ({ s with maps := { s.maps with sets := s.maps.sets ++ [x] } }.showMapPool, some x)
  | none =>
    let p := mapPage m.bb m.port
    ((((s.inc (Reg.NBP_POOL_FAIL 0)).cause p 2).pageRecord p 2 0 (detail Status.resourceRetry m.port m.peer)), none)

/-- Map sets that meet a condition are released (R183, R191). -/
def State.dropSets (s : State) (f : MapSet → Bool) : State :=
  { s with maps := { s.maps with sets := s.maps.sets.filter (fun m => ! f m)
                                 cache := s.maps.cache.filter (fun m => ! f m.2) } }.showMapPool

/-- The next `MAP_ID` of a link direction: increasing modulo 255, skipping 0 (R176). -/
def State.newMapId (s : State) (k : Nat) : State × Nat :=
  let id := tget 0 s.maps.nextId k % 255 + 1
  ({ s with maps := { s.maps with nextId := tins s.maps.nextId k id } }, id)

/-! ### The store as bytes (R181, R182) -/

/-- Entries of a group map, conductor by conductor. -/
def GroupMap.entries (g : GroupMap) : List Byte := (g.maps.flatMap id).map (BitVec.ofNat 8)

/-- A group map record (R181). -/
def groupBytes (bb : Bool) (plan : Nat) (g : GroupMap) : List Byte :=
  let n := if bb then 1728 else ((bandPlan plan).map BandPlan.n).getD 0
  leBytes 1 g.rate ++ leBytes 1 (if bb then 3 else 1) ++ leBytes 2 n ++ leBytes 4 (crc32c g.entries) ++ g.entries

/-- `PART` as 24 bytes, low nibble for even slices (R182). -/
def partBytes (part : List Nat) : List Byte :=
  (List.range 24).map (fun i => BitVec.ofNat 8 ((part[2 * i]?).getD 0 + (part[2 * i + 1]?).getD 0 * 16))

/-- A mask of group numbers. -/
def maskOf (l : List Nat) : Nat := (List.range 12).foldl (fun m g => if l.contains g then m + 2 ^ g else m) 0

/-- The header block of a map set (R182). -/
def MapSet.headerBytes (m : MapSet) : List Byte :=
  let flags := 1 + (if m.current then 2 else 0) + (if m.retiring then 4 else 0)
  let obsN := (List.range 12).foldl (fun a g => a + (tget [] m.obs g).length * 4 ^ g) 0
  let b := leBytes 4 (m.peer + (if m.rx then 2 ^ 20 else 0) + m.port * 2 ^ 21 + (if m.bb then 2 ^ 23 else 0) + m.cond * 2 ^ 24) ++
    leBytes 1 m.mapId ++ leBytes 1 m.groups.length ++ leBytes 1 m.plan ++ leBytes 1 flags ++ leBytes 4 m.effCyc ++ leBytes 1 m.effSlice ++
    [0, 0, 0] ++ partBytes m.part ++
    (List.range 12).flatMap (fun g => match m.blocks[g]? with
      | some x => leBytes 4 (x.1 + x.2 * 2 ^ 24)
      | none => [0, 0, 0, 0]) ++
    leBytes 2 (maskOf m.suspect) ++ leBytes 3 obsN ++ List.replicate 155 0 ++ leBytes 4 m.gen
  b ++ leBytes 4 (crc32c b)

/-- The 256 bytes of block `n` of the store, as `WIN` shows them (R185). A free block's content is not defined; it reads 0 (log entry 31). -/
def State.blockBytes (s : State) (n : Nat) : List Byte :=
  match s.maps.sets.find? (fun m => m.used.any (fun u => decide (u.1 ≤ n) && decide (n < u.1 + u.2))) with
  | none => List.replicate 256 0
  | some m =>
    if m.header = n then m.headerBytes
    else match m.blocks.findIdx? (fun u => decide (u.1 ≤ n) && decide (n < u.1 + u.2)) with
      | none => List.replicate 256 0
      | some g => takeBytes (groupBytes m.bb m.plan ((m.groups[g]?).getD {})) (256 * (n - ((m.blocks[g]?).getD (0, 0)).1)) 256

/-! ## Filters (R195 to R200) -/

/-- A band of Hz hits a tone: f_lo - 2 df ≤ k df ≤ f_hi + 2 df, in eighths of a Hz (R196). -/
def hits (bb : Bool) (k lo hi : Nat) : Bool :=
  let d := if bb then 390625 else 12500
  decide (8 * lo ≤ (k + 2) * d) && decide (k * d ≤ 8 * hi + 2 * d)

/-- An entry of `NOTCH` or `EXCL` in the active bank (R200): low, high, bit 30, where valid. -/
def State.filtEntry (s : State) (a : Nat) : Option (Nat × Nat × Bool) :=
  let w := s.act a
  let lo := fld w 0 28
  let hi := fld (s.act (a + 4)) 0 28
  if bit w 31 && decide (lo ≤ hi) then some (lo, hi, bit w 30) else none

/-- Valid exclusion entries of a port (R200). -/
def State.exclBands (s : State) (p : Nat) : List (Nat × Nat × Bool) := (List.range 64).filterMap (fun n => s.filtEntry (Reg.LFE_EXCL p n))

/-- Valid notch entries of a port. -/
def State.notchBands (s : State) (p : Nat) : List (Nat × Nat × Bool) := (List.range 64).filterMap (fun n => s.filtEntry (Reg.LFE_NOTCH p n))

/-- Mask byte of a tone: narrowband by tone, broadband by segment of 27 positions (R200). -/
def State.maskByte (s : State) (p : Nat) (bb : Bool) (k : Nat) : Nat :=
  let i := if bb then (k - 37) / 27 else k
  let a := (if bb then Reg.LFE_BB_MASK p 0 else Reg.LFE_NB_MASK p 0) + i / 4 * 4
  fld (s.act a) (8 * (i % 4)) 8

/-- Stages 3 to 5 remove a tone (R195). -/
def State.toneOff (s : State) (p : Nat) (bb : Bool) (k : Nat) : Bool :=
  s.maskByte p bb k == 255 || (s.notchBands p).any (fun e => hits bb k e.1 e.2.1) || (s.exclBands p).any (fun e => hits bb k e.1 e.2.1)

/-- A tone is dark in proposals: hit by `EXCL`, or by a `NOTCH` with bit 30 (R199). -/
def State.toneDark (s : State) (p : Nat) (bb : Bool) (k : Nat) : Bool :=
  (s.notchBands p).any (fun e => e.2.2 && hits bb k e.1 e.2.1) || (s.exclBands p).any (fun e => hits bb k e.1 e.2.1)

/-- Tones of a PHY: of the band plan, or the 1,728 broadband ones (R119, R149). -/
def tonesOf (bb : Bool) (plan : Nat) : List Nat :=
  if bb then (List.range 1728).map (37 + ·)
  else match bandPlan plan with
    | some b => (List.range b.n).map (b.first + ·)
    | none => []

/-- What the filters leave of a robust frame: no tone left in the band refuses it (R197). -/
def State.robustLeft (s : State) (p : Nat) (bb : Bool) (plan : Nat) : Bool := (tonesOf bb plan).any (fun k => ! s.toneOff p bb k)

/-- The choice of R197 over some tones with their map entries: 0 send, 1 robust, 2 refuse. -/
def State.tonesVerdict (s : State) (p : Nat) (bb : Bool) (ts : List (Nat × Nat)) : Nat :=
  let loaded := ts.filter (fun t => t.2 % 8 != 0)
  let gone := (loaded.filter (fun t => s.toneOff p bb t.1)).length
  if ts.all (fun t => s.toneOff p bb t.1) then 2
  else if s.rf (mapReg bb p 0x040) 16 8 * loaded.length < 64 * gone then 1 else 0

/-- The choice of R197 for one stream of one group map. -/
def State.mapVerdict (s : State) (p : Nat) (bb : Bool) (plan : Nat) (m : List Nat) : Nat := s.tonesVerdict p bb ((tonesOf bb plan).zip m)

/-- The choice over every group a frame uses and every stream (R197). -/
def State.verdict (s : State) (p : Nat) (bb : Bool) (plan : Nat) (maps : List (List Nat)) : Nat :=
  (maps.map (s.mapVerdict p bb plan)).foldl max 0

/-! ## Frames under a map -/

/-- Group of the slice of narrowband symbol `t` (R178). -/
def MapSet.groupAt (m : MapSet) (k0 f t : Nat) : GroupMap :=
  (m.groups[(m.part[symbolSlice k0 (nbCentre t) f]?).getD 0]?).getD {}

/-- Capacity of a narrowband payload symbol: the bits of its data tones under the map of its slice (R136). -/
def MapSet.nbCap (m : MapSet) (b : BandPlan) (k0 f t : Nat) : Nat :=
  let es := ((m.groupAt k0 f t).maps[0]?).getD []
  ((nbData b.n t).map (fun i => modBits ((es[i]?).getD 0 % 8))).foldl (· + ·) 0

/-- Capacity of a broadband payload symbol over its streams (R164). -/
def MapSet.bbCap (m : MapSet) (conds : List Nat) (nss k0 f t : Nat) : Nat :=
  let g := (m.groups[(m.part[symbolSlice k0 (bbCentre nss t) f]?).getD 0]?).getD {}
  (((conds.take nss).map (fun c =>
    let es := (g.maps[c]?).getD []
    (((List.range 1728).filter (fun i => decide (nss ≤ bbResidue t i))).map (fun i => modBits ((es[i]?).getD 0 % 8))).foldl (· + ·) 0))).foldl (· + ·) 0

/-- Payload symbols of a `MODE` 0 narrowband frame (R134, R136). The information bits of a codeword are those of the first group's rate. -/
def MapSet.nbSymbols (m : MapSet) (b : BandPlan) (k0 f len nrt : Nat) : Option Nat :=
  symbolsFor (m.nbCap b k0 f) 4096 b.h (streamBits 732 (nbK (m.groupAt k0 f b.h).rate) len nrt)

/-- Payload symbols of a mapped broadband frame (R164). -/
def MapSet.bbSymbols (m : MapSet) (conds : List Nat) (nss k0 f len nrt : Nat) : Option Nat :=
  let r := ((m.groups[(m.part[symbolSlice k0 (bbCentre nss 1) f]?).getD 0]?).getD {}).rate
  symbolsFor (m.bbCap conds nss k0 f) 513 1 (streamBits 7921 (bbK r) len nrt)

/-! ## Observations (R186, R187) -/

/-- Γ of a modulation code at a rate code, in 0.5 dB (R186). -/
def gamma (md rate : Nat) : Int :=
  let base : Int := match md with
    | 1 => 8 | 2 => 14 | 3 => 27 | 4 => 39 | 5 => 51 | 6 => 63 | _ => 75
  base + (match rate with
    | 0 => -3 | 1 => 0 | 2 => 4 | _ => 5)

/-- The highest modulation a tone's SNR reaches, 0 where none (R186). -/
def bestMod (top rate : Nat) (margin snr : Int) : Nat :=
  (List.range (top + 1)).foldl (fun m k => if k ≠ 0 ∧ gamma k rate + margin ≤ snr then max m k else m) 0

/-- A tone's candidate entry: `ATT` only where the highest modulation is exceeded by more than 3 dB (R186). -/
def toneEntry (top rate : Nat) (margin snr : Int) : Nat :=
  let m := bestMod top rate margin snr
  let beyond := snr - (gamma m rate + margin)
  let att := if m = top && decide (6 < beyond) then min 31 beyond.toNat else 0
  m + att * 8

/-- Rates in 24ths, by code. -/
def rate24 : Nat → Nat
  | 0 => 12
  | 1 => 16
  | 2 => 20
  | _ => 21

/-- The candidate of one observation: the rate of largest capacity, ties to the lower (R186), with tones dark in proposals off (R199). -/
def State.candidate (s : State) (p : Nat) (bb : Bool) (plan : Nat) (snrs : List (List Int)) : GroupMap :=
  let top := if bb then 7 else 5
  let margin : Int := s.rf (mapReg bb p 0x054) 0 8
  let dark := (tonesOf bb plan).map (s.toneDark p bb)
  let at_ := fun r => { rate := r, maps := snrs.map (fun l => (l.zip dark).map (fun e => if e.2 then 0 else toneEntry top r margin e.1)) : GroupMap }
  let n := if bb then 4 else 3
  (List.range n).foldl (fun g r => if g.bits * rate24 g.rate < (at_ r).bits * rate24 r then at_ r else g) (at_ 0)

/-- Two candidates agree to within one modulation code on every tone. -/
def nearMaps (a b : GroupMap) : Bool :=
  (a.maps.flatMap id).length == (b.maps.flatMap id).length &&
  ((a.maps.flatMap id).zip (b.maps.flatMap id)).all (fun e => decide (e.1 % 8 ≤ e.2 % 8 + 1) && decide (e.2 % 8 ≤ e.1 % 8 + 1))

/-- An observation is consistent with the first of a series (R187). -/
def State.consistent (s : State) (p : Nat) (bb : Bool) (a b : Obs) : Bool :=
  nearMaps a.cand b.cand && decide ((b.pilot - a.pilot).natAbs ≤ s.rf (mapReg bb p 0x050) 16 8) &&
  decide (b.sf - a.sf ≤ s.rf (mapReg bb p 0x050) 24 8) && decide (a.sf ≤ b.sf)

/-- The first slice 0 of a superframe of the timing conductor at least `MC_LEAD` cycles ahead (R191). -/
def State.mcEff (s : State) (p : Nat) (bb : Bool) (cond : Nat) : Nat :=
  let S := sfLen (s.rf (Reg.MAC_SF_STAT 0) 0 3)
  let l := s.condLt p cond s.lt
  let c := l / 2 ^ 32 + s.rf (mapReg bb p 0x040) 24 8 + (if l % 2 ^ 32 = 0 then 0 else 1)
  ((c + S - 1) / S * S) % 2 ^ 32

/-! ### The map-change body (R188, R189) -/

/-- Runs of equal entries, as pairs of length minus 1 and entry (R189). -/
def runs : List Byte → List Byte
  | [] => []
  | b :: bs => match runs bs with
    | n :: e :: rest => if e = b ∧ n.toNat < 255 then (n + 1) :: e :: rest else 0 :: b :: n :: e :: rest
    | _ => [0, b]

/-- Runs expanded; none where a byte is left over (R189, R190). -/
def unruns : List Byte → Option (List Byte)
  | [] => some []
  | [_] => none
  | n :: e :: rest => (unruns rest).map (List.replicate (n.toNat + 1) e ++ ·)

/-- A group block: runs, or raw entries where they are shorter (R189). -/
def groupBlock (g : Nat) (m : GroupMap) : List Byte :=
  let r := runs m.entries
  let raw := decide (m.entries.length < r.length)
  let d := if raw then m.entries else r
  leBytes 1 g ++ leBytes 1 (m.rate + (if raw then 4 else 0)) ++ leBytes 2 d.length ++ d

/-- Group blocks packed into segments of at most `cap` bytes, none spanning two (R189). -/
def packBlocks (cap : Nat) : List (List Byte) → List (List Byte)
  | [] => [[]]
  | b :: bs => match packBlocks cap bs with
    | seg :: rest => if (b ++ seg).length ≤ cap then (b ++ seg) :: rest else b :: seg :: rest
    | [] => [b]

/-- The map-change bodies that carry the groups `gs` of a set over the base set (R188). -/
def mcBodies (m : MapSet) (base : Nat) (gs : List Nat) : List (List Byte) :=
  let blocks := gs.map (fun g => groupBlock g ((m.groups[g]?).getD {}))
  let segs := packBlocks (if m.bb then 65400 else 1900) blocks
  let hd := fun (i : Nat) => leBytes 1 1 ++ leBytes 1 ((if m.bb then 1 else 0) + m.cond * 2) ++ leBytes 1 m.mapId ++ leBytes 1 base ++
    leBytes 4 m.effCyc ++ leBytes 1 m.effSlice ++ leBytes 1 (i + (segs.length - 1) * 16) ++ leBytes 1 m.groups.length ++ leBytes 1 m.plan ++ partBytes m.part
  segs.zipIdx.map (fun x => hd x.2 ++ x.1)

/-- Groups of the new set that differ from the base set under the same partition. -/
def changedGroups (base : Option MapSet) (m : MapSet) : List Nat :=
  match base with
  | none => List.range m.groups.length
  | some b => if b.part = m.part then (List.range m.groups.length).filter (fun g => b.groups[g]? != m.groups[g]?) else List.range m.groups.length

/-- A group map with the tones that proposals leave dark off (R199). -/
def State.darkened (s : State) (p : Nat) (bb : Bool) (plan : Nat) (g : GroupMap) : GroupMap :=
  let dark := (tonesOf bb plan).map (s.toneDark p bb)
  { g with maps := g.maps.map (fun l => (l.zip dark).map (fun e => if e.2 then e.1 / 8 * 8 else e.1)) }

/-- A new receive set is proposed: stored, and its map change given to the link layer as bodies (R187, R191, R199). A receiver holds two sets of a link at most (R176): a set that still waits, or still retires, makes room (log entry 170). -/
def State.propose (s : State) (m : MapSet) : State × List (List Byte) :=
  let old := s.curSet m.link
  let s0 := s.dropSets (fun x => x.link == m.link && ! x.current)
  let (s1, id) := s0.newMapId m.link
  let m1 := { m with mapId := id, groups := m.groups.map (s.darkened m.port m.bb m.plan), effCyc := s1.mcEff m.port m.bb m.cond, effSlice := 0, current := false, retiring := false, waiting := true, seen := false, stale := false
                     gen := (m.gen + 1) % 2 ^ 32 }
  match s1.storeSet m1 with
  | (s2, none) => (s2, [])
  | (s2, some x) => (s2, mcBodies x ((old.map (·.mapId)).getD 0) (changedGroups old x))

/-- The consistent observations so far of a group of a link received (R187); for a link that holds no set they stand apart. -/
def State.series (s : State) (k g : Nat) : List Obs := match s.curSet k with
  | some m => tget [] m.obs g
  | none => tget [] s.maps.pre k
def State.setSeries (s : State) (k g : Nat) (l : List Obs) : State :=
  if (s.curSet k).isSome then s.mapSets (fun m => if m.link == k && m.current then { m with obs := tset [] m.obs g l } else m)
  else { s with maps := { s.maps with pre := tset [] s.maps.pre k l } }

/-- An observation of group `g` of a link the CM9640 receives (R186, R187). The bodies are those of a map change it leads to. -/
def State.observe (s : State) (p : Nat) (bb : Bool) (c peer plan g : Nat) (snrs : List (List Int)) (pilot : Int) : State × List (List Byte) :=
  let k := linkKey peer p bb c true
  let o : Obs := { sf := s.sfNow, pilot := pilot, cand := s.candidate p bb plan snrs }
  let base : MapSet := (s.curSet k).getD { peer := peer, port := p, rx := true, bb := bb, cond := c, mapId := 0, plan := plan, part := List.replicate 48 0, groups := [] }
  let ser := match s.series k g with
    | [] => [o]
    | f :: r => if s.consistent p bb f o then f :: r ++ [o] else [o]
  match ser with
  | [a, b, d] =>
    let newG := mergeGroup (mergeGroup a.cand b.cand) d.cand
    let s1 := s.setSeries k g []
    if base.groups[g]? = some newG then
      (s1.mapSets (fun m => if m.link == k && m.current then { m with suspect := m.suspect.filter (· != g) } else m), [])
    else
      s1.propose { base with groups := if base.groups.isEmpty then [newG] else base.groups.set g newG
                             obs := tdel base.obs g, suspect := base.suspect.filter (· != g) }
  | _ => (s.setSeries k g ser, [])

/-! ## Steps (R192, R193) -/

/-- A pilot differs from the mean of the two symbols before by more than `STEP_DB` in gain or `STEP_DEG` in phase (R192). -/
def PilotObs.stepped (db deg : Nat) (x : PilotObs) : Bool :=
  decide (2 * 50 * db < (2 * x.gain - x.gain1 - x.gain2).natAbs) || decide (2 * 100 * deg < (2 * x.phase - x.phase1 - x.phase2).natAbs)

/-- The step symbol of a received frame (R192): the first in which at least half of the pilots differ. -/
def State.stepSymbol (s : State) (p : Nat) (bb : Bool) (pilots : List (List PilotObs)) : Option Nat :=
  let a := mapReg bb p 0x050
  let far := PilotObs.stepped (s.rf a 0 8) (s.rf a 8 8)
  (pilots.zipIdx.find? (fun x => decide (2 ≤ x.2) && ! x.1.isEmpty && decide (x.1.length ≤ 2 * (x.1.filter far).length))).map Prod.snd

/-- A step in a received frame: counted, and its cause set (R193). -/
def State.stepCount (s : State) (p : Nat) (bb : Bool) (c : Nat) : State :=
  (s.inc (mapReg bb p (0x058 + 4 * c))).cause (mapPage bb p) 3

/-- The groups of the symbols from the step symbol onwards become suspect in a set (R193). -/
def State.stepSuspect (s : State) (k id : Nat) (groups : List Nat) : State :=
  s.mapSets (fun m => if m.link == k && (m.mapId == id || (id == 0 && m.current)) then { m with suspect := m.suspect ++ groups.eraseDups.filter (fun g => ! m.suspect.contains g) } else m)

/-! ## Map changes received and applied (R188 to R191) -/

/-- The group blocks of a body: group, `GRATE`, tone data; `none` where they do not parse (R189). -/
def parseBlocks : Nat → List Byte → Option (List (Nat × Nat × List Byte))
  | _, [] => some []
  | 0, _ => none
  | n + 1, b => if b.length < 4 then none
    else
      let l := leAt b 2 2
      if b.length < 4 + l then none
      else (parseBlocks n (b.drop (4 + l))).map (fun r => (leAt b 0 1 % 16, leAt b 1 1, takeBytes b 4 l) :: r)

/-- The tone maps some tone data spells: exactly the count of R181, codes valid for the PHY (R190). -/
def toneMaps (bb : Bool) (n : Nat) (grate : Nat) (d : List Byte) : Option GroupMap :=
  let rate := grate % 4
  match (if grate / 4 % 2 = 1 then some d else unruns d) with
  | none => none
  | some bs =>
    let es := bs.map (fun b => b.toNat)
    if es.length ≠ (if bb then 3 * n else n) || es.any (fun e => ! bb && decide (5 < e % 8)) || (! bb && rate == 3) then none
    else some { rate := rate, maps := if bb then [es.take n, (es.drop n).take n, es.drop (2 * n)] else [es] }

/-- Slices' groups of a body. -/
def partOf (b : List Byte) : List Nat := (List.range 48).map (fun k => (leAt b (k / 2) 1) / (if k % 2 = 0 then 1 else 16) % 16)

/-- The link of a map change received from `peer` on port `p`. -/
def mcLink (peer p : Nat) (b : List Byte) : Nat := linkKey peer p (leAt b 1 1 % 2 == 1) (leAt b 1 1 / 2 % 4) false

/-- The set that the received segments spell, under the conditions of R190. -/
def State.mcSet (s : State) (peer p : Nat) (segs : List (List Byte)) : Option MapSet :=
  let b := (segs[0]?).getD []
  let bb := leAt b 1 1 % 2 == 1
  let c := leAt b 1 1 / 2 % 4
  let plan := s.af (Reg.NBP_BAND p c) 0 3
  let n := if bb then 1728 else ((bandPlan plan).map BandPlan.n).getD 0
  let G := leAt b 10 1
  let part := partOf (takeBytes b 12 24)
  let base := if leAt b 3 1 = 0 then none else s.setNamed (mcLink peer p b) (leAt b 3 1)
  let eff := leAt b 4 4 * 2 ^ 32 + leAt b 8 1 * 2 ^ 32 / 48
  let ahead := (eff + 2 ^ 64 - s.condLt p c s.lt) % 2 ^ 64
  -- No group block spans two segments (R189).
  match segs.foldr (fun x acc => match acc, parseBlocks 64 (x.drop 36) with
      | some l, some r => some (r ++ l)
      | _, _ => none) (some []) with
  | none => none
  | some bl =>
    let got := fun g => match bl.find? (fun x => x.1 == g) with
      | some x => toneMaps bb n x.2.1 x.2.2
      | none => base.bind (fun m => m.groups[g]?)
    let gs := (List.range G).filterMap got
    if b.length < 36 || leAt b 0 1 != 1 || segs.any (fun x => takeBytes x 0 9 != takeBytes b 0 9 || takeBytes x 10 3 != takeBytes b 10 3) || G == 0 || decide (12 < G) || part.any (fun g => decide (G ≤ g)) || gs.length != G ||
       bl.any (fun x => (toneMaps bb n x.2.1 x.2.2).isNone) || leAt b 2 1 == 0 || decide (2 < c) || decide (47 < leAt b 8 1) ||
       leAt b 11 1 != (if bb then 0 else plan) || decide (ahead < 2 * 2 ^ 32 / 48) || decide (128 * 2 ^ 32 < ahead) then none
    else some { peer := peer, port := p, rx := false, bb := bb, cond := c, mapId := leAt b 2 1, plan := leAt b 11 1, part := part, groups := gs
                effCyc := leAt b 4 4, effSlice := leAt b 8 1 }

/-- MAP_CHANGE (R188 to R190): a body received from a peer. A complete change that passes waits for its effective instant, superseding one that waits; any other is rejected and counted. -/
def State.mapChange (s : State) (peer p : Nat) (b : List Byte) : State :=
  let bb := leAt b 1 1 % 2 == 1
  let c := leAt b 1 1 / 2 % 4
  let k := mcLink peer p b
  let old : McSegs := (s.maps.segs.find? (fun g => g.peer == peer && g.port == p && g.bb == bb && g.cond == c && g.mapId == leAt b 2 1 && g.count == leAt b 9 1 / 16 + 1)).getD
    { peer := peer, port := p, bb := bb, cond := c, mapId := leAt b 2 1, count := leAt b 9 1 / 16 + 1, segs := [] }
  let g : McSegs := { old with segs := tins old.segs (leAt b 9 1 % 16) b }
  let rest := s.maps.segs.filter (fun x => ! (x.peer == peer && x.port == p && x.bb == bb && x.cond == c))
  if ! (List.range g.count).all (fun i => (tfind g.segs i).isSome) && decide (leAt b 9 1 % 16 < g.count) then { s with maps := { s.maps with segs := rest ++ [g] } }
  else
    let s1 := { s with maps := { s.maps with segs := rest } }
    let rej := (s1.incF (mapReg bb p 0x064) 16 16).cause (mapPage bb p) 1
    match (if g.segs.length = g.count then s1.mcSet peer p (g.segs.map Prod.snd) else none) with
    | none => rej
    | some m =>
      let s2 := s1.dropSets (fun x => x.link == k && (x.waiting || x.mapId == m.mapId) && ! x.current)
      match s2.storeSet m with
      | (s3, none) => { s3 with maps := { s3.maps with sel := tins s3.maps.sel k { tget ({} : TxSel) s3.maps.sel k with next := 0, eff := 0 } } }
      | (s3, some x) =>
        let sel := tget ({} : TxSel) s3.maps.sel k
        { s3 with maps := { s3.maps with sel := tins s3.maps.sel k { sel with next := x.mapId, eff := wrap64 (x.effCyc * 2 ^ 32 + x.effSlice * 2 ^ 32 / 48 + (s.rd (Reg.LTIME_COND_OFS p c)).toNat) } } }

/-- The effective instant of a map set, in its timing conductor's slices, has come (R179, R190). -/
def State.setDue (s : State) (m : MapSet) : Bool := ! ltFuture (m.effCyc * 2 ^ 32 + m.effSlice * 2 ^ 32 / 48) (s.condLt m.port m.cond s.lt)

/-- MAP_CHANGE_APPLY (R179, R190, R191): waiting sets of a link whose instant has come become current, and the set before retires. A transmit set's change is counted as applied. -/
def State.mapApply (s : State) (k : Nat) : State :=
  match (s.setsOf k).find? (fun m => m.waiting && s.setDue m) with
  | none => s
  | some n =>
    let old := s.curSet k
    -- What was observed and suspected of the groups that both sets share goes on (R187, R193).
    let same := fun (g : Nat) => match old with
      | some o => decide (o.groups[g]? = n.groups[g]?)
      | none => false
    let s0 := s.dropSets (fun m => m.link == k && m.retiring)
    let s1 := s0.mapSets (fun m => if m.link != k then m
      else if m.mapId = n.mapId then { m with waiting := false, current := true
                                              obs := match old with | some o => o.obs.filter (fun x => same x.1) | none => m.obs
                                              suspect := match old with | some o => o.suspect.filter same | none => m.suspect }
      else if m.current then { m with current := false, retiring := true } else m)
    if n.rx then s1
    else
      let s2 := { s1 with maps := { s1.maps with sel := tins s1.maps.sel k { cur := n.mapId, next := 0, eff := 0 } } }
      (s2.incF (mapReg n.bb n.port 0x064) 0 16).cause (mapPage n.bb n.port) 0

/-- MAP_CHANGE_RESEND (R191): a frame still named the old set one superframe after the effective instant; the change is sent again with a later instant. The bodies go to the link layer. -/
def State.mapResend (s : State) (k : Nat) : State × List (List Byte) :=
  match (s.setsOf k).find? (fun m => m.rx && m.current && m.stale) with
  | none => (s, [])
  | some m =>
    let m1 := { m with effCyc := s.mcEff m.port m.bb m.cond, effSlice := 0, stale := false }
    let old := (s.setsOf k).find? (fun x => x.retiring)
    (s.mapSets (fun x => if x.link == k && x.mapId == m.mapId then m1 else x), mcBodies m1 ((old.map (·.mapId)).getD 0) (changedGroups old m1))

/-- OLD_SET_RELEASE (R191): `OLD_HOLD` superframes after the effective instant the old set's blocks are released. -/
def State.oldRelease (s : State) (k : Nat) : State :=
  match s.curSet k with
  | none => s
  | some m =>
    let S := sfLen (s.rf (Reg.MAC_SF_STAT 0) 0 3)
    if s.rf (mapReg m.bb m.port 0x040) 8 8 * S ≤ (s.cycle + 2 ^ 32 - m.effCyc) % 2 ^ 32 && cycReached m.effCyc s.cycle then s.dropSets (fun x => x.link == k && x.retiring) else s

/-- A frame named a set of a link the CM9640 receives: the first frame under a new set counts the change as applied, and one that still names the old set a superframe after the instant is noted (R191). -/
def State.sawSet (s : State) (k id : Nat) : State :=
  match s.setNamed k id with
  | none => s
  | some m =>
    if m.retiring then s.mapSets (fun x => if x.link == k && x.current && cycReached ((x.effCyc + s.sfCycles) % 2 ^ 32) s.cycle then { x with stale := true } else x)
    else if m.seen || ! s.setDue m then s
    else ((s.mapSets (fun x => if x.link == k && x.mapId == id then { x with seen := true } else x)).incF (mapReg m.bb m.port 0x064) 0 16).cause (mapPage m.bb m.port) 0

/-- The effective instant of a map change is set as the frame that carries its first segment goes out (R191): the set and the segments that wait take it. -/
def State.mcStamp (s : State) (o : OutFrame) : State × OutFrame :=
  if ! o.mgmt || leAt o.body 0 1 != 6 || leAt o.body 10 1 % 16 != 0 then (s, o)
  else
    let id := leAt o.body 3 1
    let k := linkKey o.peer o.port (leAt o.body 2 1 % 2 == 1) (if leAt o.body 2 1 % 2 = 1 then 0 else leAt o.body 2 1 / 2 % 4) true
    let eff := s.mcEff o.port (leAt o.body 2 1 % 2 == 1) (leAt o.body 2 1 / 2 % 4)
    let put := fun (y : OutFrame) => { y with body := takeBytes y.body 0 5 ++ leBytes 4 eff ++ y.body.drop 9 }
    let s1 := s.mapSets (fun m => if m.link == k && m.mapId == id then { m with effCyc := eff } else m)
    ({ s1 with link := { s1.link with outbox := s1.link.outbox.map (fun y =>
        if y.mgmt && y.port == o.port && y.peer == o.peer && leAt y.body 0 1 == 6 && takeBytes y.body 2 2 == takeBytes o.body 2 2 then put y else y) } }, put o)

/-- Every default map set leaves the excluded tones dark (R175, R199). -/
def State.darkenDefaults (s : State) : State :=
  s.mapSets (fun m => if m.peer = 0xFFFFF then { m with groups := m.groups.map (s.darkened m.port m.bb m.plan) } else m)

/-! ## The map cache (R184) -/

/-- Map sets of a PHY resident in its port's cache. -/
def State.resident (s : State) (bb : Bool) (p : Nat) : List MapSet := (s.maps.cache.filter (fun x => x.1 == p && x.2.bb == bb)).map Prod.snd

/-- `CACHE_STAT` [15:0] shown: the group maps of the page's own PHY (log entry 171). -/
def State.showCache (s : State) (p : Nat) : State :=
  [false, true].foldl (fun s bb => s.wf (mapReg bb p 0x06C) 0 16 (((s.resident bb p).map (fun m => m.groups.length)).foldl (· + ·) 0)) s

/-- Group maps of cache entries. -/
def cacheSize (l : List (Nat × MapSet)) : Nat := (l.map (fun x => x.2.groups.length)).foldl (· + ·) 0

/-- A map set is fetched into its port's cache, which holds 1,024 group maps of both PHYs; the oldest make room (R184, log entry 31). -/
def State.cacheFetch (s : State) (m : MapSet) : State :=
  if (s.resident m.bb m.port).any (fun x => x.link == m.link && x.mapId == m.mapId && x.groups == m.groups) then s
  else
    let mine := s.maps.cache.filter (fun x => x.1 == m.port && ! (x.2.link == m.link && x.2.mapId == m.mapId)) ++ [(m.port, m)]
    let others := s.maps.cache.filter (fun x => x.1 != m.port)
    let trim := (List.range mine.length).foldl (fun (l : List (Nat × MapSet)) _ => if 1024 < cacheSize l then l.drop 1 else l) mine
    ({ s with maps := { s.maps with cache := others ++ trim } }).showCache m.port

/-- A map set is resident (R184). -/
def State.isResident (s : State) (m : MapSet) : Bool := (s.resident m.bb m.port).any (fun x => x.link == m.link && x.mapId == m.mapId)

/-- The `MAP_ID` that a frame to a peer uses now: the selection of R179, or the default set for group and broadcast frames (R175, R185); 0 for none. -/
def State.txMapId (s : State) (p : Nat) (bb : Bool) (c peer : Nat) : Nat :=
  if 0xFFFF0 ≤ peer then
    let a := mapReg bb p (0x044 + 4 * c)
    if s.ab a 8 then s.af a 0 8 else 0
  else
    let x := tget ({} : TxSel) s.maps.sel (linkKey peer p bb c false)
    if x.next ≠ 0 && ! ltFuture x.eff s.lt then x.next else x.cur

end Sys2Proof.Machine
end

