-- ==== Sys2Proof/Machine/Queue.lean ====
section
/-! DEFINITION. The queue manager (R302 to R320): credits, granule writes, lines, release, flush, the cell pool. -/

namespace Sys2Proof.Machine

/-- A queue. -/
def State.queue (s : State) (q : Nat) : QueueSt := tget {} s.queues q

/-- The state with a queue set. -/
def State.setQueue (s : State) (q : Nat) (v : QueueSt) : State := { s with queues := tset {} s.queues q v }

/-- Cells an item of `n` bytes takes (R302). -/
def cellsOf (n : Nat) : Nat := (n + 111) / 112

/-- Cells of complete items. -/
def QueueSt.doneCells (g : QueueSt) : Nat := (g.items.map (fun i => cellsOf i.bytes.length)).foldl (· + ·) 0

/-- Cells of the open item. -/
def QueueSt.openCells (g : QueueSt) : Nat := match g.opened with
  | some i => cellsOf i.bytes.length
  | none => 0

/-- `CELLS` of the descriptor: cells held, open item included (R307). -/
def QueueSt.cells (g : QueueSt) : Nat := g.doneCells + g.openCells

/-- `ALLOC` of the descriptor: every queue R305 gives a use is assigned (R306, log entry 30). -/
def queueAlloc (q : Nat) : Bool :=
  decide (q < 0x240000) && ! (decide (0x1FFFE0 ≤ q) && decide (q ≤ 0x1FFFFF) && (q % 2 == 1 || q == 0x1FFFFC))

/-- System queues: groups 32 to 35 (R305). -/
def queueSystem (q : Nat) : Bool := decide (0x200000 ≤ q)

/-- Free cells, reserved ones included, and cells reserved by credits (R318). -/
def State.poolFree (s : State) : Nat := s.rf Reg.QMG_POOL_FREE 0 27
def State.poolRsv (s : State) : Nat := s.rf Reg.QMG_POOL_RSV 0 27

/-- Cells that a queue may be granted (R308). -/
def State.poolFor (s : State) (q : Nat) : Nat :=
  let un := s.poolFree - s.poolRsv
  if queueSystem q || decide (s.rf Reg.QMG_POOL_LOW 0 27 ≤ un) then un else 0

/-- The pool registers set; `LOW` follows the threshold, and its cause is set when it rises (R308). -/
def State.setPool (s : State) (free rsv : Nat) : State :=
  let s1 := (s.wr Reg.QMG_POOL_FREE (word (free % 2 ^ 27))).wr Reg.QMG_POOL_RSV (word (rsv % 2 ^ 27))
  let low := decide (free - rsv < s1.rf Reg.QMG_POOL_LOW 0 27)
  let s2 := s1.wb Reg.QMG_QMG_STAT 0 low
  if low && ! s.rb Reg.QMG_QMG_STAT 0 then s2.cause 0x020 0 else s2

/-- A flush was accepted for the queue in the present fabric cycle (R316). -/
def State.flushedNow (s : State) (q : Nat) : Bool := (s.queue q).flushAt == s.fabric + 1

/-- The queue selected by `Q_SEL`. -/
def State.qSel (s : State) : Nat := s.rf Reg.QMG_Q_SEL 0 22

/-- A flush of the queue that waits in the present fabric cycle (R316): an engine's request, or the command of `Q_CMD`. -/
def State.flushWaits (s : State) (q : Nat) : Bool :=
  s.pending.any (fun i => match i with
    | .queueFlush t k => t / 2 == s.fabric && k == q
    | .qFlush t _ => t / 2 == s.fabric && s.qSel == q
    | _ => false)

/-- A flush of the queue falls in the present fabric cycle: what else meets the queue in it comes after (R316). -/
def State.flushComes (s : State) (q : Nat) : Bool := s.flushedNow q || s.flushWaits q

/-! ## Cells (R302 to R304) -/

/-- Cells in use: those of items, open items included, and those a flush removed that have not returned. -/
def State.usedCells (s : State) : List Nat :=
  s.queues.flatMap (fun x => x.2.items.flatMap QItem.cells ++ (match x.2.opened with | some i => i.cells | none => []) ++ x.2.returning)

/-- The first cell of the pool not in `used`, counted from `v` on (R303). -/
def freeCell (size : Nat) (used : List Nat) (v : Nat) : Nat :=
  ((List.range (used.length + 1)).map (fun j => (v + j) % size)).find? (fun i => ! used.contains i) |>.getD (v % size)

/-- `n` cells are taken from the pool; which free cells they are the spec leaves open, so each is one next to a free value. -/
def State.takeCells (s : State) : Nat → State × List Nat
  | 0 => (s, [])
  | n + 1 =>
    let (s1, l) := s.takeCells n
    let i := freeCell (max 1 s1.qmg.size) (s1.usedCells ++ l) s1.free.toNat
    (s1.drawn, l ++ [i])

/-- Cells the hot store holds: 512 fewer for every shared macro retired (R304, R544). -/
def State.hotCells (s : State) : Nat := s.qmg.hotSize - 512 * s.bench.retired.length

/-- Cells are written (R304): new ones enter the hot store, and where it is full the least recently written leave for DRAM. A cell that lies in DRAM stays there when a further granule enters it (log entry 180). -/
def State.cellsWritten (s : State) (new again : List Nat) : State :=
  let w := new ++ again.filter s.qmg.hot.contains
  { s with qmg := { s.qmg with hot := (w.reverse ++ s.qmg.hot.filter (fun i => ! w.contains i)).take s.hotCells } }

/-- Cells return to the pool and leave the hot store (R304, log entry 180). -/
def State.cellsFreed (s : State) (l : List Nat) : State := { s with qmg := { s.qmg with hot := s.qmg.hot.filter (fun i => ! l.contains i) } }

/-! ## Credits (R308, R309) -/

/-- Credits granted to a request for `n` (R308). -/
def State.grantable (s : State) (q n : Nat) : Nat :=
  let g := s.queue q
  min n (min (g.limit - g.cells - g.credits) (s.poolFor q))

/-- A credit request: the grant is added to the producer's credits and reserves cells (R308). -/
def State.creditRequest (s : State) (q n : Nat) : State :=
  if ! queueAlloc q then s
  else
    let k := s.grantable q n
    let s0 := if ! queueSystem q && decide (s.poolFree - s.poolRsv < s.rf Reg.QMG_POOL_LOW 0 27) then s.setPool s.poolFree s.poolRsv else s
    (s0.setQueue q { s0.queue q with credits := (s0.queue q).credits + k }).setPool s.poolFree (s.poolRsv + k)

/-- A credit return: unneeded credits and their reservations are freed (R309). -/
def State.creditReturn (s : State) (q n : Nat) : State :=
  let g := s.queue q
  let k := min n g.credits
  (s.setQueue q { g with credits := g.credits - k }).setPool s.poolFree (s.poolRsv - k)

/-! ## Writing (R311, R312) -/

/-- A queue error of R311: `LAST_ERR`, `ERR_N` and `ERR`. -/
def QueueSt.error (g : QueueSt) (st : Status) : QueueSt := { g with err := true, lastErr := st, errN := min 255 (g.errN + 1) }

/-- A CREDIT_VIOLATION: counted, its cause set, and a fault event of page 0x020 (R311, R318). -/
def State.violation (s : State) : State := ((((s.inc Reg.QMG_VIOL_CNT).cause 0x020 1)).faultEvent 0x020).1

/-- Steps 3 and 5 of R314 on the open item: its cells return to the pool after CELL_RETURN_DONE, and their number is added to the credits. -/
def State.discardOpen (s : State) (q : Nat) : State :=
  let g := s.queue q
  let n := g.openCells
  (s.setQueue q { g with opened := none, credits := g.credits + n, returning := g.returning ++ (match g.opened with | some i => i.cells | none => []), discAt := s.fabric + 1 }).setPool s.poolFree (s.poolRsv + n)

/-- An accepted granule: bytes enter the open item, a cell or more is opened with credits, and `ITEM_END` closes the item (R309, R311, R312). -/
def State.granule (s : State) (q : Nat) (bytes : List Byte) (start end_ : Bool) (owner : Nat) : State :=
  let g := s.queue q
  let it : QItem := match g.opened with
    | some i => if start then { bytes := [], owner := owner } else i
    | none => { bytes := [], owner := owner }
  let n := cellsOf (it.bytes.length + bytes.length) - cellsOf it.bytes.length
  let (s0, new) := s.takeCells n
  let s1 := s0.cellsWritten new (if it.bytes.length % 112 = 0 then [] else it.cells.getLast?.toList)
  let it1 := { it with bytes := it.bytes ++ bytes, epoch := g.epoch, cells := it.cells ++ new }
  let g1 := { g with credits := g.credits - n }
  let g2 := if end_ then
      { g1 with opened := none, iseq := (g.iseq + 1) % 2 ^ 16, items := g1.items ++ [{ it1 with iseq := g.iseq, visAt := s.fabric + 1 }] }
    else { g1 with opened := some it1 }
  (s1.setQueue q g2).setPool (s1.poolFree - n) (s1.poolRsv - n)

/-- Cells a granule needs beyond those of the item it enters. -/
def QueueSt.needs (g : QueueSt) (start : Bool) (n : Nat) : Nat :=
  let len := match g.opened with
    | some i => if start then 0 else i.bytes.length
    | none => 0
  cellsOf (len + n) - cellsOf len

/-- A producer write of a granule of 1 or 4 bytes under the rows of R311, and R316 where a flush falls in the same cycle. -/
def State.queueWrite (s : State) (q writer epoch : Nat) (bytes : List Byte) (start end_ : Bool) : State :=
  let g := s.queue q
  if s.flushComes q || (bytes.length != 1 && bytes.length != 4) then s
  else if writer ≠ Config.queueProd q || ! queueAlloc q then (s.setQueue q (g.error .creditViolation)).violation
  else if epoch % 16 ≠ g.epoch then s.inc Reg.QMG_STALE_CNT
  else if ! start && g.opened.isNone then s.setQueue q (g.error .refused)
  else
    let again := start && g.opened.isSome
    let s1 := if again then (s.setQueue q (g.error .refused)).discardOpen q else s
    if (s1.queue q).credits < (s1.queue q).needs start bytes.length then
      let s2 := s1.discardOpen q
      (s2.setQueue q ((s2.queue q).error .creditViolation)).violation
    else s1.granule q bytes start end_ 0

/-- An item is written whole by its producer within credit: the message layer's write of R295. -/
def State.writeItem (s : State) (q : Nat) (bytes : List Byte) (owner : Nat) : State := s.granule q bytes true true owner

/-! ## Reading (R313, R317) -/

/-- The head item, once visible (R312). -/
def State.headItem (s : State) (q : Nat) : Option QItem := match (s.queue q).items with
  | i :: _ => if i.visAt ≤ s.fabric then some i else none
  | [] => none

/-- Lines of an item of `n` bytes (R313). -/
def linesOf (n : Nat) : Nat := (n + 63) / 64

/-- A line with the poisoned 64-bit words of the item returned as 0 (R317). -/
def poisonLine (line : List Byte) (k : Nat) (poison : List Nat) : List Byte :=
  (List.range 8).flatMap (fun w => if poison.contains (8 * k + w) then List.replicate 8 0 else takeBytes line (8 * w) 8)

/-- Bytes of free values, one draw a byte. -/
def State.freeBytes (s : State) (n : Nat) : List Byte := (List.range n).map (fun i => BitVec.ofNat 8 (Config.freeWord (s.draws + i)).toNat)

/-- The line and tag a READ_LINE returns are kept with the queue. -/
def State.putLine (s : State) (q : Nat) (line : List Byte) (tag : Nat) (cursor : Nat) : State :=
  s.setQueue q { s.queue q with line := line, tag := tag, cursor := cursor, cut := false }

/-- Register addresses of the ECC counters of a queue's group (R320). -/
def groupCorr (q : Nat) : Nat := 0x022 * 0x1000 + 0x040 + 4 * (q / 65536)
def groupUncorr (q : Nat) : Nat := 0x022 * 0x1000 + 0x0D0 + 4 * (q / 65536)

/-- Corrected words found by a read of the queue (R317). -/
def State.queueCorrected (s : State) (q : Nat) : Nat → State
  | 0 => s
  | n + 1 => ((s.inc (groupCorr q)).corrected 0x022).queueCorrected q n

/-- An uncorrectable word of the head item (R317); the second component says that page 0x022 reached its fault threshold. -/
def State.queuePoison (s : State) (q word_ : Nat) : State × Bool :=
  let g := s.queue q
  let its := match g.items with
    | i :: r => { i with poison := if i.poison.contains word_ then i.poison else word_ :: i.poison } :: r
    | [] => []
  let s1 := (s.setQueue q { g with items := its, lastErr := Status.checkFail }).inc (groupUncorr q)
  let (s2, b) := s1.uncorrected 0x022
  (s2.pageRecord 0x022 0x1C 0 (detail Status.checkFail 0 q), b)

/-- Every uncorrectable word of a line. -/
def State.queuePoisons (s : State) (q k : Nat) : List Nat → State × Bool
  | [] => (s, false)
  | w :: ws =>
    let (s1, b) := s.queuePoison q (8 * k + w)
    let (s2, c) := s1.queuePoisons q k ws
    (s2, b || c)

/-- READ_LINE (R313, R315, R316): `corr` words corrected and the words `bad` of the line found uncorrectable by the read (R317). Past the last line the spec states no result: line and tag are free values. -/
def State.readLine (s : State) (q corr : Nat) (bad : List Nat) : State × Bool :=
  let g := s.queue q
  if s.flushComes q || g.cut then (s.putLine q (List.replicate 64 0) 1024 0, false)
  else match s.headItem q with
    | none => (s.putLine q (List.replicate 64 0) 2048 g.cursor, false)
    | some i =>
      let n := i.bytes.length
      if linesOf n ≤ g.cursor then (({ s with draws := s.draws + 65 }).putLine q (s.freeBytes 64) (Config.freeWord (s.draws + 64)).toNat g.cursor, false)
      else
        let (s1, b) := (s.queueCorrected q corr).queuePoisons q g.cursor (bad.filter (· < 8))
        let p := match (s1.queue q).items with
          | j :: _ => j.poison
          | [] => []
        let k := g.cursor
        let hit := p.any (fun w => decide (8 * k ≤ w) && decide (w < 8 * k + 8))
        let tag := min 64 (n - 64 * k) + (if k = 0 then 128 else 0) + (if k + 1 = linesOf n then 256 else 0) + (if hit then 512 else 0)
        (s1.putLine q (poisonLine (takeBytes i.bytes (64 * k) 64) k p) tag (k + 1), b)

/-- The cells of the line a READ_LINE would return that lie in the hot store, and those that lie in DRAM (R304, R313). -/
def State.lineCells (s : State) (q : Nat) : List Nat × List Nat :=
  match s.headItem q with
  | none => ([], [])
  | some i =>
    let k := (s.queue q).cursor
    let l := ((List.range (cellsOf i.bytes.length)).filter (fun j => decide (112 * j < 64 * k + 64) && decide (64 * k < 112 * j + 112))).filterMap (fun j => i.cells[j]?)
    (l.filter s.qmg.hot.contains, l.filter (fun c => ! s.qmg.hot.contains c))

/-- REWIND (R313). -/
def State.rewind (s : State) (q : Nat) : State := s.setQueue q { s.queue q with cursor := 0 }

/-- RELEASE (R313, R309): the head item leaves and its cells return to the pool; none in the cycle of a flush (R316). -/
def State.release (s : State) (q : Nat) : State :=
  match s.headItem q with
  | none => s
  | some i =>
    if s.flushComes q then s
    else
      let g := s.queue q
      ((s.cellsFreed i.cells).setQueue q { g with items := g.items.drop 1, cursor := 0 }).setPool (s.poolFree + cellsOf i.bytes.length) s.poolRsv

/-! ## Flush (R314 to R316) -/

/-- The messages whose items a flush would remove. -/
def State.flushOwners (s : State) (q : Nat) : List Nat :=
  if s.flushedNow q then []
  else
    let g := s.queue q
    ((g.items.map (·.owner)) ++ (match g.opened with
      | some i => [i.owner]
      | none => [])).filter (· ≠ 0)

/-- A flush of the queue: one in a fabric cycle (R314, R316). -/
def State.flushQueue (s : State) (q : Nat) : State :=
  if s.flushedNow q then s
  else
    let g := s.queue q
    let n := g.openCells
    (s.setQueue q { g with
      items := [], opened := none, credits := g.credits + n, returning := g.returning ++ (g.items ++ g.opened.toList).flatMap QItem.cells
      epoch := (g.epoch + 1) % 16, cut := decide (0 < g.cursor), cursor := 0, flushAt := s.fabric + 1 }).setPool s.poolFree (s.poolRsv + n)

/-- CELL_RETURN_DONE (R314): the cells a flush removed count as free. -/
def State.cellReturnDone (s : State) (q : Nat) : State :=
  let g := s.queue q
  ((s.cellsFreed g.returning).setQueue q { g with returning := [] }).setPool (s.poolFree + g.returning.length) s.poolRsv

/-! ## The command interface (R319) -/

/-- The descriptor of a queue as 32 bytes (R307). The cell indices of an empty queue are values the spec leaves open. -/
def State.descBytes (s : State) (q : Nat) : List Byte :=
  let g := s.queue q
  let all := g.items ++ g.opened.toList
  let fr := s.free.toNat % 2 ^ 26
  let head := match all with
    | i :: _ => (i.cells.head?).getD 0
    | [] => fr + 2 ^ 31
  let tail := match all.getLast? with
    | some i => (i.cells.getLast?).getD 0
    | none => fr
  let flags := (if queueAlloc q then 1 else 0) + (if s.flushedNow q || g.discAt == s.fabric + 1 then 2 else 0) + (if g.opened.isSome then 4 else 0) + (if g.err then 8 else 0)
  leBytes 4 head ++ leBytes 4 tail ++ leBytes 4 g.cells ++ leBytes 4 g.limit ++ leBytes 4 (g.credits + g.epoch * 2 ^ 28) ++
  leBytes 3 g.items.length ++ leBytes 1 flags ++ leBytes 2 (Config.queueProd q) ++ leBytes 2 (Config.queueCons q) ++
  leBytes 1 g.lastErr ++ leBytes 1 g.errN ++ leBytes 2 g.iseq

/-- `Q_CMD_STAT` after a command: `RESULT`, and one more command completed (R319). -/
def State.qDone (s : State) (st : Status) : State :=
  let w := s.rd Reg.QMG_Q_CMD_STAT
  s.wr Reg.QMG_Q_CMD_STAT (wrapInc (setFld w 8 8 st) 16 16)

/-- Q_CMD READ. -/
def State.qRead (s : State) : State :=
  let b := s.descBytes s.qSel
  let s1 := if ((s.queue s.qSel).items ++ (s.queue s.qSel).opened.toList).isEmpty then s.drawn else s
  ((List.range 8).foldl (fun s n => s.wr (Reg.QMG_Q_DESC n) (word (leAt b (4 * n) 4))) s1).qDone .done

/-- Q_CMD SET_LIMIT: refused below `CELLS` + `CREDITS` (R319). -/
def State.qSetLimit (s : State) : State :=
  let g := s.queue s.qSel
  let v := s.rf Reg.QMG_Q_LIMIT 0 27
  if v < g.cells + g.credits then s.qDone .refused else (s.setQueue s.qSel { g with limit := v }).qDone .done

/-- Q_CMD CLEAR_ERR. -/
def State.qClearErr (s : State) : State :=
  (s.setQueue s.qSel { s.queue s.qSel with err := false, lastErr := 0, errN := 0 }).qDone .done

end Sys2Proof.Machine
end

