-- ==== Sys2Proof/Machine/Air.lean ====
section
/-! DEFINITION. What the link, network and message layers share: the endpoint table, the outbox, and the resolution of messages and transactions (R282 to R297). -/

namespace Sys2Proof.Machine

/-! ## The endpoint table (R282, R283) -/

/-- An endpoint record. -/
def State.ep (s : State) (a : Nat) : EpRec := tget {} s.net.eps a

/-- Records in `STATE` ASSOC shown in `EP_CNT` (R299). -/
def State.showEp (s : State) : State :=
  s.wr Reg.NET_EP_CNT (word (s.net.eps.filter (fun x => x.2.state == 1)).length)

/-- The state with a record set, not yet stored (R282). -/
def State.setEp (s : State) (a : Nat) (v : EpRec) : State :=
  ({ s with net := { s.net with eps := tset {} s.net.eps a { v with dirty := true } } }).showEp

/-- The record whose long address is `long`, in ASSOC or quarantine. -/
def State.epByLong (s : State) (long : Nat) : Option Nat := (s.net.eps.find? (fun x => x.2.long == long && x.2.state != 0)).map Prod.fst

/-- Group and broadcast addresses (R234). -/
def isGroup (a : Nat) : Bool := (decide (0xFFFF0 ≤ a) && decide (a ≤ 0xFFFFD)) || a == 0xFFFFF

/-- Assignable addresses (R234). -/
def isUnicast (a : Nat) : Bool := decide (1 ≤ a) && decide (a ≤ 0xFFFEF)

/-- Where `LAST_DN_ID` of a group or broadcast address lies in record 0 (R283). -/
def groupSlot (a : Nat) : Nat := if a = 0xFFFFF then 14 else a - 0xFFFF0

/-- `LAST_DN_ID` of an address (R289). -/
def State.lastDn (s : State) (a : Nat) : Nat :=
  if isGroup a then ((s.ep 0).groupDn[groupSlot a]?).getD 0 else (s.ep a).lastDn

/-- A list with position `i` set, padded with zeros. -/
def setNth (l : List Nat) (i v : Nat) : List Nat := (l ++ List.replicate (i + 1 - l.length) 0).set i v

/-- `LAST_DN_ID` of an address set (R289). -/
def State.setLastDn (s : State) (a id : Nat) : State :=
  if isGroup a then s.setEp 0 { s.ep 0 with groupDn := setNth (s.ep 0).groupDn (groupSlot a) id }
  else s.setEp a { s.ep a with lastDn := id }

/-- An identifier is ahead of another under serial comparison (R289). -/
def idAhead (id last : Nat) : Bool :=
  let d := (id + 2 ^ 32 - last % 2 ^ 32) % 2 ^ 32
  id != 0 && (last == 0 || (decide (1 ≤ d) && decide (d ≤ 2 ^ 31 - 1)))

/-- An endpoint record as 512 bytes (R283). -/
def EpRec.bytes (e : EpRec) (a : Nat) : List Byte :=
  let coop := (List.range 4).flatMap (fun i => leBytes 3 ((e.coopSet[i]?).getD 0xFFFFF))
  let route := takeBytes (e.route.flatMap (leBytes 3)) 0 42
  let b := leBytes 8 e.long ++ leBytes 3 (a % 2 ^ 20 + e.state * 2 ^ 20) ++
    leBytes 1 ((if e.noRoute then 1 else 0) + (if e.lost then 2 else 0)) ++ leBytes 2 e.cap ++
    leBytes 1 (e.port + e.cond * 4 + (if e.bb then 16 else 0)) ++ leBytes 1 e.hops ++ leBytes 3 e.parent ++ leBytes 1 e.route.length ++ route ++
    leBytes 2 e.groups ++ leBytes 4 e.leaseEnd ++ leBytes 4 e.lastSf ++ leBytes 2 e.kepoch ++ leBytes 2 e.mkepoch ++ leBytes 4 e.lastDn ++
    leBytes 4 e.upHi ++ leBytes 4 e.upMap ++ leBytes 2 e.segSz ++ leBytes 1 e.routeMode ++ leBytes 1 e.lq ++ leBytes 4 e.coopFcnt ++ coop ++
    leBytes 4 e.pathCost ++ leBytes 4 e.done ++ leBytes 4 e.failed ++ leBytes 4 e.upDone ++ leBytes 4 e.upDup ++ takeBytes e.host 0 320 ++
    (if a = 0 then (List.range 15).flatMap (fun i => leBytes 4 ((e.groupDn[i]?).getD 0)) else List.replicate 60 0)
  b ++ leBytes 4 (crc32c b)

/-- A saturating 32-bit count raised by one. -/
def sat32 (n : Nat) : Nat := min 0xFFFFFFFF (n + 1)

/-- The first hop towards an endpoint (R273). -/
def EpRec.firstHop (e : EpRec) (a : Nat) : Nat := (e.route[0]?).getD a

/-- The DOWN header to an endpoint along its route (R268, R273). -/
def EpRec.downHeader (e : EpRec) (a : Nat) : List Byte :=
  netHeader 1 0 0 a (leBytes 1 e.route.length ++ e.route.flatMap (leBytes 3))

/-- A routing management frame to an endpoint, routed DOWN (R269, R272). -/
def State.sendDown (s : State) (a mtype : Nat) (body : List Byte) : State :=
  let e := s.ep a
  s.pushOut { id := 0, port := e.port, bb := e.bb, cond := e.cond, peer := e.firstHop a, prio := 2, body := leBytes 1 mtype ++ e.downHeader a ++ body }

/-- A direct management frame to a neighbour (R239). -/
def State.sendMgmt (s : State) (p c peer mtype prio : Nat) (body : List Byte) : State :=
  s.pushOut { id := 0, port := p, cond := c, peer := peer, prio := prio, body := leBytes 1 mtype ++ body }

/-! ## Messages -/

/-- A message context. -/
def State.mrec (s : State) (m : Nat) : Option MsgRec := tfind s.msg.msgs m

/-- Messages in flight: for each destination the first `MSG_WIN` not resolved (R292). -/
def State.inWindow (s : State) (m : Nat) : Bool := match s.mrec m with
  | none => false
  | some r => decide ((s.msg.msgs.filter (fun x => x.2.kind == 0 && x.2.dst == r.dst && decide (x.1 < m))).length < s.rf Reg.NET_NET_CFG 4 4)

/-- `INFLIGHT` shown (R301). -/
def State.showMsg (s : State) : State :=
  (s.wr Reg.MSG_INFLIGHT (word (s.msg.msgs.filter (fun x => x.2.kind == 0 && s.inWindow x.1)).length)).wr Reg.MSG_TXN_OPEN (word s.msg.txns.length)

/-- The state with a message context set. -/
def State.setMsg (s : State) (m : Nat) (r : MsgRec) : State := { s with msg := { s.msg with msgs := tins s.msg.msgs m r } }

/-- The item of a message leaves its downlink queue, and its cells return (R313). -/
def State.dropItem (s : State) (q m : Nat) : State :=
  let g := s.queue q
  let n := ((g.items.filter (fun i => i.owner == m)).map (fun i => cellsOf i.bytes.length)).foldl (· + ·) 0
  let gone := (g.items.filter (fun i => i.owner == m)).flatMap QItem.cells
  if n = 0 then s
  else ((s.cellsFreed gone).setQueue q { g with items := g.items.filter (fun i => i.owner != m), cursor := 0 }).setPool (s.poolFree + n) s.poolRsv

/-- A frame whose message has been resolved: it is not sent again (R295, log entry 191). -/
def SentFrame.orphan (x : SentFrame) : Bool := x.out.msg == some (0, 0)

/-- Frames of a message not yet sent are dropped from the outbox, those that wait to be sent again end with the message, and sent ones lose it. -/
def State.dropFrames (s0 : State) (m : Nat) (st : Status) : State :=
  let again := s0.link.sent.filter (fun x => (x.2.out.msg.map Prod.fst) == some m && x.2.again)
  let s := again.foldl (fun s x => { s.descDone x.1 st with link := { s.link with sent := tdel s.link.sent x.1 } }) s0
  { s with link := { s.link with
      outbox := s.link.outbox.filter (fun o => (o.msg.map Prod.fst) != some m)
      sent := s.link.sent.map (fun x => (x.1, if (x.2.out.msg.map Prod.fst) == some m then { x.2 with out := { x.2.out with msg := some (0, 0) } } else x.2)) } }

/-- The result part of a MSG_SEND (R333). -/
def msgResult (utag msgId dst sends rxCyc rdlen : Nat) : List Byte :=
  leBytes 4 utag ++ leBytes 4 msgId ++ leBytes 3 dst ++ leBytes 1 sends ++ leBytes 4 rxCyc ++ leBytes 2 rdlen

/-- The status of a transaction: that of the first member neither DONE nor DONE_LATE, else DONE_LATE where one is, else DONE (R297). -/
def txnStatus (ms : List Member) : Nat :=
  match ms.find? (fun m => m.status != some Status.done && m.status != some Status.doneLate) with
  | some m => m.status.getD 0
  | none => if ms.any (fun m => m.status == some Status.doneLate) then Status.doneLate else Status.done

/-- The report buffer of a transaction (R297). -/
def txnReport (ms : List Member) : List Byte :=
  ms.flatMap (fun m => leBytes 3 m.dst ++ leBytes 1 (m.status.getD 0) ++ leBytes 4 m.rxCyc ++ leBytes 4 m.arrCyc ++ leBytes 1 m.sends ++ [0, 0, 0])

/-- A transaction whose every member has resolved writes its report and one completion (R297). -/
def State.txnCheck (s : State) (t : Nat) : State :=
  match tfind s.msg.txns t with
  | none => s
  | some x =>
    if x.members.any (fun m => m.status.isNone) then s
    else
      let nD := (x.members.filter (fun m => m.status == some Status.done)).length
      let nL := (x.members.filter (fun m => m.status == some Status.doneLate)).length
      let (r, idx, cid, utag) := x.sub
      let s1 := (({ s with msg := { s.msg with txns := tdel s.msg.txns t } }).dmaWrite x.addr (txnReport x.members)).cause 0x074 1
      (s1.complete r { idx := idx, op := 2, status := txnStatus x.members, cid := cid
                       result := leBytes 4 utag ++ leBytes 4 x.txnId ++ leBytes 4 nD ++ leBytes 4 nL ++ leBytes 4 (x.members.length - nD - nL) }).showMsg

/-- A member of a transaction resolves. -/
def State.memberDone (s : State) (t i : Nat) (v : Member) : State :=
  match tfind s.msg.txns t with
  | none => s
  | some x => ({ s with msg := { s.msg with txns := tins s.msg.txns t { x with members := x.members.set i v } } }).txnCheck t

/-- Counters of a completion (R283, R301). -/
def State.countMsg (s : State) (dst : Nat) (st : Status) : State :=
  let ok := decide (st ≤ 1)
  let s1 := if ok then s.inc Reg.MSG_MSG_DONE else (s.inc Reg.MSG_MSG_FAIL).cause 0x074 0
  if isGroup dst then s1
  else
    let e := s1.ep dst
    s1.setEp dst (if ok then { e with done := sat32 e.done } else { e with failed := sat32 e.failed })

/-- A message resolves: its context, item and frames go, counters move, and its submission or its transaction's member completes (R296, R297). -/
def State.msgResolve (s : State) (m : Nat) (st : Status) (rxCyc arrCyc : Nat) (receipt : List Byte) : State :=
  match s.mrec m with
  | none => s
  | some r =>
    let s1 := (({ s with msg := { s.msg with msgs := tdel s.msg.msgs m } }).dropItem (2 * r.dst) m).dropFrames m st
    if r.kind = 1 then s1
    else
      let s2 := (s1.countMsg r.dst st).showMsg
      match r.txn with
      | some (t, i) => s2.memberDone t i { dst := r.dst, status := some st, rxCyc := rxCyc, arrCyc := arrCyc, sends := r.sends }
      | none =>
        let (ring, idx, cid, utag) := r.sub
        let s3 := if receipt.isEmpty then s2 else s2.dmaWrite r.rbufAddr (receipt.take r.rbufLen)
        s3.complete ring { idx := idx, op := 1, status := st, cid := cid, result := msgResult utag r.msgId r.dst r.sends rxCyc receipt.length }

/-- DONE, or DONE_LATE where the message was reached at or after D (R296). -/
def MsgRec.reached (r : MsgRec) (cyc : Nat) : Status := match r.deadline with
  | some d => if cycReached d cyc then Status.doneLate else Status.done
  | none => Status.done

/-- Segments of a message (R286). -/
def MsgRec.segments (r : MsgRec) : Nat := (r.data.length + r.segSz - 1) / r.segSz

/-- A segment was acknowledged on the first hop; with the last one the message is handed off (R295). -/
def State.segAcked (s : State) (m k : Nat) : State :=
  match s.mrec m with
  | none => s
  | some r =>
    let a := if r.acked.contains k then r.acked else k :: r.acked
    let r1 := { r with acked := a }
    if a.length < r.segments || r.handed then s.setMsg m r1
    else
      let r2 := { r1 with handed := true, tmoSf := s.sfNow + s.rf Reg.NET_RCPT_CFG 0 8 }
      if r.rr then s.setMsg m r2
      else (s.setMsg m r2).msgResolve m (r.reached s.cycle) 0 0 []

/-- Sending may go on: before D, or past it with `LATE_OK`, and always before `EXEC_CYC` (R295). -/
def State.maySend (s : State) (r : MsgRec) : Bool :=
  (match r.deadline with
    | some d => ! cycReached d s.cycle || r.lateOk
    | none => true) && ! (r.exec && cycReached r.execCyc s.cycle)

/-- MESSAGE_DEADLINE (R295, R296): D or `EXEC_CYC` comes before hand-off. -/
def State.msgDeadline (s : State) (m : Nat) : State :=
  match s.mrec m with
  | none => s
  | some r => if r.kind = 1 || r.handed || s.maySend r then s else s.msgResolve m .deadlineMissed 0 0 []

/-- RECEIPT_TIMEOUT (R295, R296): the whole message goes again under the same identifier, or the message ends with TIMEOUT (log entry 34 for a message that may not be sent any more). -/
def State.receiptTimeout (s : State) (m : Nat) : State :=
  match s.mrec m with
  | none => s
  | some r =>
    if ! r.handed || ! r.rr || ! s.sfReached s.sfNow r.tmoSf || s.arrives (fun i => match i with | .reportRx .. => true | _ => false) then s
    else if s.rf Reg.NET_NET_CFG 0 4 ≤ r.sends || ! s.maySend r then s.msgResolve m .timeout 0 0 []
    else s.setMsg m { r with acked := [], handed := false, begun := false }

/-- The message a REPORT from `src` answers (R288). -/
def State.reported (s : State) (src msgId : Nat) : Option Nat :=
  (s.msg.msgs.find? (fun x => x.2.kind == 0 && x.2.dst == src && x.2.msgId == msgId && x.2.rr)).map Prod.fst

/-- A REPORT body ends its message (R288, R296). -/
def State.reportEnds (s : State) (src msgId : Nat) (body : List Byte) : State :=
  match s.reported src msgId with
  | none => s
  | some m =>
    let rx := leAt body 2 4
    let st := match leAt body 0 1 with
      | 0 => ((s.mrec m).map (fun r => r.reached rx)).getD 0
      | x => x
    let raw := leAt body 0 1
    -- `RESULT` is one of four (R60, R288); a body with another is no REPORT body.
    if raw ≠ Status.done && raw ≠ Status.deadlineMissed && raw ≠ Status.authFail && raw ≠ Status.refused then s
    else s.msgResolve m st rx s.cycle (takeBytes body 8 (min 1024 (leAt body 6 2)))

/-- Every message that meets a condition resolves with a status. -/
def State.resolveWhere (s : State) (f : Nat × MsgRec → Bool) (st : Status) : State :=
  ((s.msg.msgs.filter f).map Prod.fst).foldl (fun s m => s.msgResolve m st 0 0 []) s

/-- The transmit descriptors of frames that carry a message complete with a status; a transmission under way runs to its end (R315). -/
def State.descsOf (s : State) (m : Nat) (st : Status) : State :=
  let hit := fun (x : Nat × SentFrame) => (x.2.out.msg.map Prod.fst) == some m
  (s.link.sent.filter hit).foldl (fun s x => { s.descDone x.1 st with link := { s.link with sent := tdel s.link.sent x.1 } }) s

/-- A flush of a queue, with the work its items carried (R314, R315). -/
def State.flushWork (s : State) (q : Nat) : State :=
  (s.flushOwners q).foldl (fun s m => (s.descsOf m .flushed).msgResolve m .flushed 0 0 []) (s.flushQueue q)

/-- Place of a credit request in a fabric cycle (R310): system queues first, then by queue number. -/
def creditRank (q : Nat) : Nat := if queueSystem q then q else q + 2 ^ 22

/-- A list of requests without the first equal to one. -/
def State.servedOut (s : State) (x : Bool × Nat × Nat) : State := { s with qmg := { s.qmg with served := s.qmg.served.erase x } }

/-- A credit request or return of the present fabric cycle has been served before its turn. -/
def State.servedNow (s : State) (x : Bool × Nat × Nat) : State :=
  { s with qmg := { s.qmg with turn := s.fabric + 1, served := (if s.qmg.turn = s.fabric + 1 then s.qmg.served else []) ++ [x] } }

/-- Credit returns and requests that still wait in the present fabric cycle. -/
def State.creditWaits (s : State) : List (Bool × Nat × Nat) :=
  let all := s.pending.filterMap (fun i => match i with
    | .creditReturn t q n => if t / 2 = s.fabric then some (true, q, n) else none
    | .creditRequest t q n => if t / 2 = s.fabric then some (false, q, n) else none
    | _ => none)
  if s.qmg.turn = s.fabric + 1 then s.qmg.served.foldl (fun l x => l.erase x) all else all

/-- Credits are granted after a flush of the queue in the same cycle (R316). -/
def State.creditAfterFlush (s : State) (q n : Nat) : State := (if s.flushWaits q then s.flushWork q else s).creditRequest q n

/-- CREDIT_REQUEST (R308, R310, R316): returns of the same fabric cycle come first, then the requests that go before this one, system queues before all others and lower numbers first. One served before its turn is not served again. -/
def State.creditTurn (s : State) (q n : Nat) : State :=
  if s.qmg.turn = s.fabric + 1 && s.qmg.served.contains (false, q, n) then s.servedOut (false, q, n)
  else
    let back := s.creditWaits.filter (·.1)
    let first := (s.creditWaits.filter (fun x => ! x.1 && decide (creditRank x.2.1 < creditRank q))).foldl (fun l x => l.takeWhile (fun y => decide (creditRank y.2.1 ≤ creditRank x.2.1)) ++ x :: l.dropWhile (fun y => decide (creditRank y.2.1 ≤ creditRank x.2.1))) []
    let s1 := back.foldl (fun s x => (s.creditReturn x.2.1 x.2.2).servedNow x) s
    (first.foldl (fun s x => (s.creditAfterFlush x.2.1 x.2.2).servedNow x) s1).creditAfterFlush q n

/-- CREDIT_RETURN (R309, R316). -/
def State.creditBack (s : State) (q n : Nat) : State :=
  if s.qmg.turn = s.fabric + 1 && s.qmg.served.contains (true, q, n) then s.servedOut (true, q, n) else s.creditReturn q n

/-- RELEASE (R313, R317): the work a poisoned item carried completes with CHECK_FAIL. -/
def State.releaseWork (s : State) (q : Nat) : State :=
  match s.headItem q with
  | some i => if i.poison.isEmpty || i.owner = 0 || s.flushedNow q then s.release q
              else ((s.release q).descsOf i.owner .checkFail).msgResolve i.owner .checkFail 0 0 []
  | none => s.release q

/-- ROUTE_WAIT_EXPIRY (R274): messages to an endpoint that have waited `ROUTE_WAIT_SF` superframes with NO_ROUTE complete with NO_ROUTE. -/
def State.routeWaitExpiry (s : State) (a : Nat) : State :=
  let n := s.rf Reg.NET_RCPT_CFG 16 8
  if s.arrives (fun i => match i with | .nbrReport .. => true | .assocReq .. => true | _ => false) then s
  else s.resolveWhere (fun x => x.2.dst == a && (s.ep a).noRoute && (match x.2.routeSf with
    | some f => s.sfReached s.sfNow (f + n)
    | none => false)) .noRoute

/-! ## Submissions (R293, R294) -/

/-- The checks 3 to 6 of R294 on one message; `free` says that a message context is free. -/
def State.msgStatus (s : State) (dst id exec execCyc : Nat) (deadline : Option Nat) (mlen : Nat) (member free : Bool) : Option Status :=
  let ahead : Int := signedField 32 ((execCyc + 2 ^ 32 - s.cycle) % 2 ^ 32)
  if (isGroup dst && member) || (! isGroup dst && (! isUnicast dst || (s.ep dst).state != 1)) then some .endpointUnknown
  else if ! idAhead id (s.lastDn dst) then some .duplicate
  else if (exec == 1 && decide (ahead < (s.rf Reg.NET_NET_CFG 16 8 : Int))) || (match deadline with
      | some d => cycReached d s.cycle
      | none => false) then some .deadlineMissed
  else if ! free || decide (s.grantable (2 * dst) (cellsOf mlen) < cellsOf mlen) then some .resourceRetry
  else none

/-- Conductors a FLOOD frame is originated on (R280): every conductor of every COORD port where narrowband is enabled. -/
def State.floodConds (s : State) : List (Nat × Nat) :=
  (List.range 4).flatMap (fun p => if s.roleInEffect p = 1 then
    ((List.range 3).filter (fun c => s.rb (Reg.NBP_NB_CTL p) c && s.af (Reg.NBP_BAND p c) 0 3 != 0)).map (fun c => (p, c)) else [])

/-- The message header and segment `k` of a message (R286). -/
def MsgRec.segment (r : MsgRec) (k : Nat) : List Byte :=
  leBytes 1 (r.kind + 16) ++ leBytes 1 ((if r.rr then 1 else 0) + (if r.exec then 2 else 0) + (if r.txn.isSome then 4 else 0) + (if r.sec then 8 else 0)) ++
  leBytes 4 r.msgId ++ leBytes 2 (k + (r.segments - 1) * 64) ++ leBytes 2 r.data.length ++ leBytes 2 r.mkepoch ++
  (if r.exec then leBytes 4 r.execCyc else []) ++ (r.data.drop (k * r.segSz)).take r.segSz

/-- A pair enters the duplicate cache, which holds 256 pairs; the oldest gives way (R280). -/
def State.floodEnter (s : State) (orig fseq : Nat) : State :=
  let l := s.net.floods ++ [(orig, fseq, s.sfNow)]
  { s with net := { s.net with floods := if 256 < l.length then l.drop 1 else l } }

/-- The FLOOD frames of a group or broadcast message are placed in the outbox: each segment under one `FSEQ`, on every conductor (R280). -/
def State.floodPush (s : State) (m : Nat) : State :=
  match s.mrec m with
  | none => s
  | some r => (List.range r.segments).foldl (fun s k =>
      let fs := s.net.fseq % 65536
      let hd := netHeader 2 (s.rf Reg.NET_FLOOD_CFG 0 4) 0 r.dst (leBytes 2 fs)
      let s1 := ({ s with net := { s.net with fseq := s.net.fseq + 1 } }).floodEnter 0 fs
      s1.floodConds.foldl (fun s x => s.pushOut
        { id := 0, port := x.1, cond := x.2, peer := r.dst, mgmt := false, prio := r.prio, ar := false, body := hd ++ r.segment k
          msg := some (m, k), flood := some (0, fs) }) s1) s

/-- A message is accepted: its context, its identifier, its credits, and, where it is sent in the clear, its item (R289, R292, R308). -/
def State.msgAccept (s : State) (r : MsgRec) : State :=
  let m := s.msg.next
  let n := cellsOf (r.data.length + (if r.plain then 16 else 0))
  -- Its wait for a route starts at once where there is none (R274).
  let r := if ! isGroup r.dst && (s.ep r.dst).noRoute then { r with routeSf := some s.sfNow } else r
  let s1 := (({ s with msg := { s.msg with next := m + 1 } }).setMsg m r).setLastDn r.dst r.msgId
  let s2 := s1.creditRequest (2 * r.dst) n
  let s3 := if r.plain then s2 else s2.writeItem (2 * r.dst) r.data m
  (if isGroup r.dst && ! r.plain then s3.floodPush m else s3).showMsg

/-- The mode permits transmission in the security state (R225, R294 check 2, R502). -/
def State.txPermitted (s : State) : Bool :=
  (s.mode == 4 || s.mode == 5 || s.mode == 6 || s.mode == 10) && s.sec.lc != 3 && (s.sec.lc != 0 || s.mode == 10)

/-- Check 2 of R294: the mode permits transmission, and the security state messages (R502, R504). -/
def State.sendPermitted (s : State) : Bool := s.txPermitted && s.lcPermits 0x01

/-- Deadline D of a submission (R294). -/
def State.deadlineOf (s : State) (flags execCyc dlCyc : Nat) : Option Nat :=
  if flags / 4 % 2 = 1 then some dlCyc
  else if flags / 2 % 2 = 1 then some ((execCyc + 2 ^ 32 - s.rf Reg.NET_NET_CFG 8 8) % 2 ^ 32) else none

/-- `DL_CYC` lies later than `EXEC_CYC` - `EXEC_GUARD` (R294 check 1). -/
def State.dlLate (s : State) (flags execCyc dlCyc : Nat) : Bool :=
  let g := (execCyc + 2 ^ 32 - s.rf Reg.NET_NET_CFG 8 8) % 2 ^ 32
  flags / 4 % 2 == 1 && flags / 2 % 2 == 1 && ! cycReached dlCyc g

/-- The message epoch a new message takes (R283, R435); group messages take that of record 0 (log entry 35). -/
def State.msgEpoch (s : State) (dst : Nat) : Nat := if isGroup dst then (s.ep 0).mkepoch else (s.ep dst).mkepoch

/-- MSG_SEND (R293, R294): the payload is what the device reads at the payload address. -/
def State.msgSend (s : State) (c : Sub) (payload : List Byte) (free : Bool) : State :=
  let b := c.part
  let flags := leAt b 1 1
  let dst := leAt b 4 4 % 2 ^ 20
  let id := leAt b 8 4
  let plen := leAt b 28 2
  let sec := flags / 16 % 2 == 1
  let execCyc := leAt b 12 4
  let d := s.deadlineOf flags execCyc (leAt b 16 4)
  let mlen := plen + (if sec then 16 else 0)
  let answer := fun (x : State) (st : Status) => x.finish c st (msgResult c.utag id dst 0 0 0)
  if plen = 0 || decide (16384 < plen) || decide (1024 < leAt b 30 2) || id == 0 || s.dlLate flags execCyc (leAt b 16 4)
     || (isGroup dst && flags % 2 == 1) || (! sec && s.rb Reg.NET_NET_CFG 24) then (answer s .refused).countMsg 0xFFFFF .refused
  else if ! s.sendPermitted then (answer s .refused).countMsg 0xFFFFF .refused
  else match s.msgStatus dst id (flags / 2 % 2) execCyc d mlen false free with
    | some st =>
      let s1 := if st = Status.duplicate then s.addF Reg.MSG_MSG_DUP 0 16 1 else s
      (answer s1 st).countMsg 0xFFFFF st
    | none => s.msgAccept
        { sub := (c.ring, c.idx, c.cid, c.utag), dst := dst, msgId := id, rr := flags % 2 == 1, exec := flags / 2 % 2 == 1
          lateOk := flags / 8 % 2 == 1, sec := sec, prio := leAt b 2 1 % 4, execCyc := execCyc, deadline := d
          data := takeBytes payload 0 plen, plain := sec, mkepoch := s.msgEpoch dst, segSz := (s.ep dst).segSz
          rbufLen := leAt b 30 2, rbufAddr := leAt b 32 8 }

/-- One member of a transaction is checked and queued, or resolves at once (R294, R297). -/
def State.txnMember (s : State) (c : Sub) (t i : Nat) (e : List Byte) (payload : List Byte) (free : Bool) : State :=
  let b := c.part
  let flags := leAt b 1 1
  let dst := leAt e 0 4 % 2 ^ 20
  let plen := leAt e 16 2
  let sec := flags / 16 % 2 == 1
  let d := s.deadlineOf flags (leAt b 12 4) (leAt b 16 4)
  match s.msgStatus dst (leAt e 4 4) 1 (leAt b 12 4) d (plen + (if sec then 16 else 0)) true free with
  | some st =>
    let s1 := if st = Status.duplicate then s.addF Reg.MSG_MSG_DUP 0 16 1 else s
    (s1.countMsg 0xFFFFF st).memberDone t i { dst := dst, status := some st }
  | none => s.msgAccept
      { sub := (c.ring, c.idx, c.cid, c.utag), txn := some (t, i), dst := dst, msgId := leAt e 4 4, rr := true, exec := true
        lateOk := flags / 8 % 2 == 1, sec := sec, prio := leAt b 2 1 % 4, execCyc := leAt b 12 4, deadline := d
        data := takeBytes payload 0 plen, plain := sec, mkepoch := s.msgEpoch dst, segSz := (s.ep dst).segSz }

/-- TXN_SEND (R293, R294, R297): the member list and the payloads are what the device reads from host memory. -/
def State.txnSend (s : State) (c : Sub) (list : List Byte) (payloads : List (List Byte)) (free : List Bool) : State :=
  let b := c.part
  let flags := leAt b 1 1
  let n := leAt b 4 4 % 2 ^ 17
  let refuse := (s.finish c .refused (leBytes 4 c.utag ++ leBytes 4 (leAt b 8 4))).countMsg 0xFFFFF .refused
  let entries := (List.range n).map (fun i => takeBytes list (24 * i) 24)
  if n = 0 || decide (65536 < n) || flags / 2 % 2 == 0 || s.dlLate flags (leAt b 12 4) (leAt b 16 4) || (flags / 16 % 2 == 0 && s.rb Reg.NET_NET_CFG 24)
     || entries.any (fun e => leAt e 4 4 == 0 || leAt e 16 2 == 0 || decide (16384 < leAt e 16 2)) then refuse
  else if ! s.sendPermitted then refuse
  else
    let t := s.msg.next
    let x : TxnRec := { sub := (c.ring, c.idx, c.cid, c.utag), txnId := leAt b 8 4, addr := leAt b 32 8, members := entries.map (fun e => { dst := leAt e 0 4 % 2 ^ 20 }) }
    let s1 := ({ s with msg := { s.msg with next := t + 1, txns := tins s.msg.txns t x } }).showMsg
    (entries.zipIdx.foldl (fun s e => s.txnMember c t e.2 e.1 ((payloads[e.2]?).getD []) ((free[e.2]?).getD true)) s1)

end Sys2Proof.Machine
end

