-- ==== Sys2Proof/Machine/Net.lean ====
section
/-! DEFINITION. Relaying (R268 to R281): routes and parents, forwarding, flooding and cooperative frames. -/

namespace Sys2Proof.Machine

/-! ## The network header (R268) -/

/-- `NMODE` of a network header. -/
def netMode (b : List Byte) : Nat := leAt b 0 1 % 4

/-- `HOPS`. -/
def netHops (b : List Byte) : Nat := leAt b 0 1 / 16

/-- `ORIG`. -/
def netOrig (b : List Byte) : Nat := leAt b 1 3 % 2 ^ 20

/-- `FDST`. -/
def netDst (b : List Byte) : Nat := leAt b 4 3 % 2 ^ 20

/-- Length of a network header. -/
def netLen (b : List Byte) : Nat := match netMode b with
  | 1 => 8 + 3 * (leAt b 7 1 % 16)
  | 2 => 9
  | 3 => 18
  | _ => 7

/-! ## Parents and routes (R271) -/

/-- Cost of a link of quality `lq` (R271). -/
def State.linkCost (s : State) (lq : Nat) : Nat := 1 + (s.rf Reg.NET_ROUTE_CFG 0 8 - lq) / 12

/-- The route to a node by its ancestors' parents, at most 15 hops. -/
def routeOf (eps : List (Nat × EpRec)) : Nat → Nat → List Nat
  | 0, _ => []
  | n + 1, a =>
    let p := (tget ({} : EpRec) eps a).parent
    if p = 0 then [] else routeOf eps n p ++ [p]

/-- The cost of the path to a node (R271). -/
def pathCostOf (cost : Nat → Nat) (eps : List (Nat × EpRec)) : Nat → Nat → Nat
  | 0, _ => 0
  | n + 1, a =>
    let e := tget ({} : EpRec) eps a
    cost e.lq + (if e.parent = 0 then 0 else pathCostOf cost eps n e.parent)

/-- Every associated node's stored route, hop count, cost and first-hop link follow from the parents (R271). -/
def State.rebuildRoutes (s : State) : State :=
  let fresh := fun (x : Nat × EpRec) =>
    let r := routeOf s.net.eps 15 x.1
    let top := tget ({} : EpRec) s.net.eps ((r[0]?).getD x.1)
    let v := { x.2 with route := r.take 14, hops := r.length + 1, pathCost := min 65535 (pathCostOf s.linkCost s.net.eps 15 x.1)
                        port := top.port, cond := top.cond, bb := top.bb }
    (x.1, if v = x.2 then v else { v with dirty := true })
  { s with net := { s.net with eps := s.net.eps.map (fun x => if x.2.state = 1 then fresh x else x) } }

/-- Hops from a node to the deepest one whose route passes through it. -/
def State.depthBelow (s : State) (a : Nat) : Nat :=
  ((s.net.eps.filter (fun x => x.2.state == 1 && x.2.route.contains a)).map (fun x => x.2.hops - (s.ep a).hops)).foldl max 0

/-- Parents a node may take, with the path cost each gives (R271): neighbours it reported that are the coordinator or relay-capable nodes with a route that does not pass through it and is not itself about to change, where neither it nor a node behind it comes above `MAX_HOPS`. -/
def State.parents (s : State) (a : Nat) : List (Nat × Nat × Nat) :=
  (s.ep a).nbrs.filterMap (fun n =>
    let e := s.ep n.1
    let c := s.linkCost n.2.1
    if n.1 = 0 then some (0, 0, c)
    else if e.state = 1 && bit (word e.cap) 7 && ! e.noRoute && decide (e.hops + s.depthBelow a < s.rf Reg.NET_ROUTE_CFG 12 4) && n.1 != a && ! e.route.contains a
      && ! s.net.pendRoute.any (fun x => x.1 == n.1 || e.route.contains x.1)
      then some (n.1, e.hops, e.pathCost + c) else none)

/-- The best parent: lowest path cost, then fewer hops, then the lower address (R271). -/
def State.bestParent (s : State) (a : Nat) : Option (Nat × Nat × Nat) :=
  argMin (fun x => x.2.2 * 2 ^ 32 + x.2.1 * 2 ^ 24 + x.1) (s.parents a)

/-- PARENT_SET goes to a node, two superframes ahead, along its route, or along the new one where its own has failed (R272). -/
def State.sendParent (s : State) (a n hops : Nat) : State :=
  let e := s.ep a
  let r := if e.noRoute then (if n = 0 then [] else (s.ep n).route ++ [n]) else e.route
  let top := s.ep ((r[0]?).getD a)
  let link := if r.isEmpty then e else top
  let hd := netHeader 1 0 0 a (leBytes 1 r.length ++ r.flatMap (leBytes 3))
  let s1 := s.pushOut { id := 0, port := link.port, bb := link.bb, cond := link.cond, peer := (r[0]?).getD a, prio := 2
                        body := leBytes 1 0x21 ++ hd ++ leBytes 3 n ++ leBytes 1 hops ++ leBytes 4 (s.sfNow + 2) }
  { s1 with net := { s1.net with pendRoute := s1.net.pendRoute.filter (fun x => x.1 != a) ++ [(a, n, hops, s.sfNow + 2)] } }

/-- A node is given a better parent, or a new one where its route has failed (R271). -/
def State.choose (s : State) (a : Nat) : State :=
  match s.bestParent a with
  | none => s
  | some (n, h, cost) =>
    let e := s.ep a
    if s.net.pendRoute.any (fun x => x.1 == a && x.2.1 == n) then s
    else if e.noRoute || decide (cost + s.rf Reg.NET_ROUTE_CFG 8 4 < e.pathCost) then s.sendParent a n (h + 1) else s

/-- Every associated node is given its best parent (R271). -/
def State.chooseAll (s : State) : State := ((s.net.eps.filter (fun x => x.1 != 0 && x.2.state == 1)).map Prod.fst).foldl (fun s a => s.choose a) s

/-- PARENT_SET names the superframe it applies from as it goes out (R272): two after this one, for the node and for the stored route. -/
def State.parentStamp (s : State) (o : OutFrame) : State × OutFrame :=
  if ! o.mgmt || leAt o.body 0 1 != 0x21 || o.fwd then (s, o)
  else
    let a := netDst (o.body.drop 1)
    let n := o.body.length - 4
    ({ s with net := { s.net with pendRoute := s.net.pendRoute.map (fun x => if x.1 = a then (x.1, x.2.1, x.2.2.1, s.sfNow + 2) else x) } },
     { o with body := takeBytes o.body 0 n ++ leBytes 4 (s.sfNow + 2) })

/-- `NO_ROUTE` for every node whose route passes through a lost hop; each is given a new parent where it has one (R274). -/
def State.hopLost (s : State) (h : Nat) : State :=
  let hit := (s.net.eps.filter (fun x => x.2.state == 1 && (x.1 == h || x.2.route.contains h))).map Prod.fst
  let s1 := hit.foldl (fun s a => s.setEp a { s.ep a with noRoute := true }) s
  let s2 := { s1 with msg := { s1.msg with msgs := s1.msg.msgs.map (fun x => (x.1, if hit.contains x.2.dst && x.2.routeSf.isNone then { x.2 with routeSf := some s.sfNow } else x.2)) } }
  let s3 := if hit.isEmpty then s2 else s2.cause 0x072 3
  hit.foldl (fun s a => s.choose a) s3

/-- A coordinator's neighbour is lost: besides R274, messages whose sending had begun over it end with LINK_LOST where no new route was found (R256, R296). -/
def State.nbrLostRoute (s : State) (a : Nat) : State :=
  let through := fun (d : Nat) => d == a || (s.ep d).route.contains a
  let s1 := (s.setEp a { s.ep a with lost := true }).hopLost a
  s1.resolveWhere (fun x => x.2.kind == 0 && x.2.begun && ! x.2.handed && ! isGroup x.2.dst && through x.2.dst &&
    ! s1.net.pendRoute.any (fun y => y.1 == x.2.dst)) .linkLost

/-- Routes whose superframe has come take effect at the coordinator (R272). -/
def State.routesApply (s : State) : State :=
  -- A PARENT_SET that has not gone out yet changes nothing.
  let waits := fun (a : Nat) => s.link.outbox.any (fun o => o.mgmt && ! o.fwd && leAt o.body 0 1 == 0x21 && netDst (o.body.drop 1) == a)
  let comes := fun (x : Nat × Nat × Nat × Nat) => s.sfReached s.sfNow x.2.2.2 && ! waits x.1
  let due := s.net.pendRoute.filter comes
  let s0 := { s with net := { s.net with pendRoute := s.net.pendRoute.filter (fun x => ! comes x) } }
  let s1 := due.foldl (fun (s : State) x =>
    let e := s.ep x.1
    let lq := ((e.nbrs.find? (fun n => n.1 == x.2.1)).map (fun n => n.2.1)).getD e.lq
    let c := ((e.nbrs.find? (fun n => n.1 == x.2.1)).map (fun n => n.2.2)).getD e.cond
    let s2 := s.setEp x.1 { e with parent := x.2.1, lq := lq, noRoute := false, cond := if x.2.1 = 0 then c else e.cond }
    let s3 := { s2 with msg := { s2.msg with msgs := s2.msg.msgs.map (fun (m : Nat × MsgRec) => (m.1, if m.2.dst = x.1 then { m.2 with routeSf := none } else m.2)) } }
    (s3.incF Reg.NET_ROUTE_CNT 0 16).cause 0x072 0) s0
  if due.isEmpty then s1 else s1.rebuildRoutes

/-- The neighbour that is the node's parent is marked `UPSTREAM`, and no other (R255, R267). -/
def State.markUpstream (s : State) (p : Nat) : State :=
  { s with link := { s.link with nbrs := s.link.nbrs.map (fun x => if x.1 / 4096 = p then (x.1, { x.2 with upstream := x.2.short == s.mac.up.parent }) else x) } }

/-- PARENT_SET_APPLY (R272): at `EFF_SF` the stored routes change, and a node takes its new parent. -/
def State.parentApply (s : State) : State :=
  let s1 := s.routesApply
  match s1.mac.up.newParent with
  | some (p, h, sf) =>
    if s1.sfReached s1.sfNow sf then
      let s2 := { s1 with mac := { s1.mac with up := { s1.mac.up with parent := p, hops := h, newParent := none } } }
      (match s2.upPort with | some q => s2.markUpstream q | none => s2)
    else s1
  | none => s1

/-! ## Up the tree -/

/-- A management frame of MTYPE 0x01 to 0x05 to an associated node: direct, or with a DOWN header through its relays (log entry 36). -/
def State.sendNode (s : State) (a mtype : Nat) (body : List Byte) : State :=
  let e := s.ep a
  let hd := if e.route.isEmpty then [] else e.downHeader a
  s.pushOut { id := 0, port := e.port, bb := e.bb, cond := e.cond, peer := e.firstHop a, prio := if mtype ≤ 2 then 1 else 2, body := leBytes 1 mtype ++ hd ++ body }

/-- A body of MTYPE 0x01 to 0x05 without the network header it travelled under; its own length is `n`. -/
def withoutHeader (n : Nat) (b : List Byte) : List Byte := if b.length ≤ n then b else b.drop (netLen b)

/-! ## Forwarding (R273, R274) -/

/-- The frame a relay builds for a received body: where it goes and its body, or `none` where it is discarded. `pre` is what stands before the network header (`MTYPE` of a management frame). -/
def State.forward (s : State) (p : Nat) (d : Delivered) (pre b : List Byte) : State :=
  let own := s.ownShort p
  let out := fun (peer : Nat) (nb : List Byte) =>
    let o : OutFrame := { id := 0, port := p, bb := d.bb, cond := d.cond, peer := peer, mgmt := d.mgmt, prio := d.prio, body := pre ++ nb, fwd := true }
    -- A next hop already marked `LOST` fails it at once (R274).
    if s.isLost p peer then s.forwardFailed o .linkLost else (s.incF Reg.NET_FWD_CNT 0 16).pushOut o
  let drop_ := s.incF Reg.NET_FWD_CNT 16 16
  match netMode b with
  | 0 => if 15 ≤ netHops b then drop_ else out s.mac.up.parent (putBytes b 0 (leBytes 1 (leAt b 0 1 + 16)))
  | 1 =>
    let rlen := leAt b 7 1 % 16
    let nx := leAt b 7 1 / 16
    if nx < rlen && leAt b (8 + 3 * nx) 3 % 2 ^ 20 == own then
      let peer := if nx + 1 = rlen then netDst b else leAt b (8 + 3 * (nx + 1)) 3 % 2 ^ 20
      out peer (putBytes (putBytes b 0 (leBytes 1 ((leAt b 0 1 + 16) % 256))) 7 (leBytes 1 (rlen + (nx + 1) * 16)))
    else drop_
  | _ => drop_

/-- The outbox without the frames that meet a condition. -/
def State.cutOutbox (s : State) (f : OutFrame → Bool) : State := { s with link := { s.link with outbox := s.link.outbox.filter (fun o => ! f o) } }

/-- FORWARD_HOLD_EXPIRY (R273): frames held for forwarding for 8 superframes are discarded, those sent without success among them. -/
def State.forwardExpiry (s : State) : State :=
  let old := fun (o : OutFrame) => o.fwd && s.sfReached s.sfNow (o.sf + 8)
  let n := (s.link.outbox.filter old).length
  let sent := s.link.sent.filter (fun x => old x.2.out && x.2.endAt != 0 || old x.2.out && (x.2.again || x.2.repair.isSome))
  let s1 := sent.foldl (fun s x => { s.descDone x.1 .timeout with link := { s.link with sent := tdel s.link.sent x.1 } }) s
  (s1.addF Reg.NET_FWD_CNT 16 16 (n + sent.length)).cutOutbox old

/-! ## Flooding (R280) -/

/-- The scheduled rebroadcasts set. -/
def State.floodKeep (s : State) (l : List FloodTx) : State := { s with net := { s.net with floodTx := l } }

/-- A FLOOD frame received: the pair is cached, and the frame delivered and scheduled once; a pair already cached counts towards the cancelling of its rebroadcast. The second component says that the frame is delivered. -/
def State.floodRx (s : State) (p c prio : Nat) (b : List Byte) (relay : Bool) : State × Bool :=
  let orig := netOrig b
  let fs := leAt b 7 2
  if s.net.floods.any (fun x => x.1 == orig && x.2.1 == fs) then
    let n := s.rf Reg.NET_FLOOD_CFG 8 3
    let bump := s.net.floodTx.map (fun x => if x.orig == orig && x.fseq == fs then { x with heard := x.heard + 1 } else x)
    let cut := bump.filter (fun x => decide (n ≤ x.heard))
    ((({ s with mac := { s.mac with cont := s.mac.cont.filter (fun y => ! cut.any (fun x => x.out == some y.1)) } }.cutOutbox (fun o => cut.any (fun x => x.out == some o.id))).floodKeep (bump.filter (fun x => decide (x.heard < n)))).addF Reg.NET_FLOOD_CNT 16 16 cut.length, false)
  else
    let s1 := s.floodEnter orig fs
    let fd := netDst b
    let mine := fd == 0xFFFFF || (isGroup fd && bit (word s.mac.up.groups) (fd - 0xFFFF0))
    if relay && decide (0 < netHops b) then
      let x : FloodTx := { orig := orig, fseq := fs, port := p, cond := c, prio := prio, body := putBytes b 0 (leBytes 1 (leAt b 0 1 - 16))
                           boundary := s1.free.toNat % s1.rf Reg.NET_FLOOD_CFG 4 4 }
      ({ s1.drawn with net := { s1.net with floodTx := s1.net.floodTx ++ [x] } }, mine)
    else (s1, mine)

/-- FLOOD_REBROADCAST (R212, R214, R280): a scheduled rebroadcast enters the contention region with the boundary drawn for it as its counter; it is counted as it goes out, and until then hearing the pair again can cancel it. -/
def State.floodSend (s : State) (orig fseq : Nat) : State :=
  match s.net.floodTx.find? (fun x => x.orig == orig && x.fseq == fseq && x.out.isNone) with
  | none => s
  | some x =>
    let id := s.link.nextOut
    let s1 := s.floodKeep (s.net.floodTx.map (fun y => if y = x then { y with out := some id } else y))
    { s1 with mac := { s1.mac with cont := tins s1.mac.cont id { out := id, counter := some x.boundary } } }.pushOut
      { id := 0, port := x.port, cond := x.cond, peer := netDst x.body, mgmt := false, prio := x.prio, ar := false, body := x.body, flood := some (orig, fseq) }

/-- A rebroadcast leaves the list of those scheduled: sent, which is counted, or given up. -/
def State.floodGone (s : State) (id : Nat) (sent : Bool) : State :=
  if s.net.floodTx.any (fun x => x.out == some id) then
    let s1 := s.floodKeep (s.net.floodTx.filter (fun x => x.out != some id))
    if sent then s1.incF Reg.NET_FLOOD_CNT 0 16 else s1
  else s

/-- FLOOD_DUP_EXPIRY (R280): pairs leave the cache after `DUP_SF` superframes. -/
def State.floodExpiry (s : State) : State :=
  { s with net := { s.net with floods := s.net.floods.filter (fun x => ! s.sfReached s.sfNow (x.2.2 + s.rf Reg.NET_FLOOD_CFG 16 8)) } }

/-! ## Reports and orders received -/

/-- The first delivered body of a type, taken from the inbox. -/
def State.takeInbox (s : State) (f : Delivered → Bool) : Option (State × Delivered) :=
  (s.link.inbox.find? f).map (fun d => ({ s with link := { s.link with inbox := s.link.inbox.erase d } }, d))

/-- COOP_SET of a node: up to four relays at hop count 1 that report it well enough, best first (R279); that of two with equal quality the lower address comes first is the model's choice (log entry 190). -/
def State.coopSetOf (s : State) (a : Nat) : List Nat :=
  let l := s.net.eps.filterMap (fun x => if x.2.state = 1 && x.2.hops = 1 && bit (word x.2.cap) 7 then
    (x.2.nbrs.find? (fun n => n.1 == a && decide (s.rf Reg.NET_COOP_CFG 4 8 ≤ n.2.1))).map (fun n => (x.1, n.2.1)) else none)
  ((l.mergeSort (fun x y => decide (y.2 ≤ x.2))).take 4).map Prod.fst

/-- NBR_REPORT (R271, R272): the reported qualities are kept, the last hop's quality and cooperative proposals follow, and every node's parent is chosen anew. -/
def State.nbrReport (s : State) (body : List Byte) : State :=
  let a := netOrig body
  let b := body.drop (netLen body)
  let n := min 16 (leAt b 0 1)
  let l := (List.range n).map (fun i => (leAt b (1 + 5 * i) 3 % 2 ^ 20, leAt b (4 + 5 * i) 1, leAt b (5 + 5 * i) 1 % 4))
  let e := s.ep a
  if e.state ≠ 1 then s
  else
    let lq := ((l.find? (fun x => x.1 == e.parent)).map (fun x => x.2.1)).getD e.lq
    let s1 := (s.setEp a { e with nbrs := l, lq := lq }).rebuildRoutes
    let touched := (e.nbrs ++ l).map (fun x => x.1)
    let s2 := (touched.filter (fun x => x != 0 && (s1.ep x).state == 1)).foldl (fun s x =>
      if (s.ep x).coopSet = s.coopSetOf x then s else s.setEp x { s.ep x with coopSet := s.coopSetOf x }) s1
    s2.chooseAll

/-- ROUTE_ERR (R274). -/
def State.routeErr (s : State) (body : List Byte) : State :=
  let b := body.drop (netLen body)
  ((s.incF Reg.NET_ROUTE_CNT 16 16).cause 0x072 1).hopLost (leAt b 3 3 % 2 ^ 20)

/-- PARENT_SET received by a node (R272). -/
def State.parentSet (s : State) (body : List Byte) : State :=
  let b := body.drop (netLen body)
  { s with mac := { s.mac with up := { s.mac.up with newParent := some (leAt b 0 3 % 2 ^ 20, leAt b 3 1, leAt b 4 4) } } }

/-- GROUP_SET received by a node (R281). -/
def State.groupSet (s : State) (body : List Byte) : State :=
  { s with mac := { s.mac with up := { s.mac.up with groups := leAt (body.drop (netLen body)) 0 2 % 2 ^ 14 } } }

/-- NBR_REPORT_SEND (R272): the best 16 of the measured neighbours heard within 16 superframes go up to the coordinator. -/
def State.nbrReportSend (s : State) (p : Nat) (lqs : List (Nat × Nat × Nat)) : State :=
  let heard := fun (a : Nat) => s.link.nbrs.any (fun x => x.1 / 4096 == p && x.2.short == a && ! x.2.lost && decide (s.sfSince s.sfNow x.2.lastSf ≤ 16))
  let best := ((lqs.filter (fun x => heard x.1)).mergeSort (fun x y => decide (y.2.1 ≤ x.2.1))).take 16
  let body := leBytes 1 best.length ++ best.flatMap (fun x => leBytes 3 x.1 ++ leBytes 1 x.2.1 ++ leBytes 1 (x.2.2 % 4))
  let s1 := s.sendUp p 0x20 body
  { s1 with mac := { s1.mac with up := { s1.mac.up with reportSf := s.sfNow, lostDue := false } } }

/-! ## Cooperative frames (R276 to R279) -/

/-- Relays of the active COOP slot set of an endpoint, and the set's first entry (R276): two to four COOP entries that agree in place and conductor, each naming a relay at hop count 1. -/
def State.coopSlots (s : State) (x : Nat) : Option (SlotEntry × List Nat) :=
  let p := (s.ep x).port
  let bank := (s.page (0x061 + 4 * p)).active
  let es := ((s.schedValid p bank).map (s.schedEntry p bank)).filter (fun e => e.kind == 8 && e.peer2 == x)
  match es with
  | [] => none
  | e :: _ =>
    let same := es.filter (fun f => f.start == e.start && f.len == e.len && f.cond == e.cond && f.repExp == e.repExp && f.ph == e.ph)
    if 2 ≤ same.length && same.length ≤ 4 && same.all (fun f => (s.ep f.peer).hops == 1 && (s.ep f.peer).state == 1) then some (e, same.map (·.peer)) else none

/-- A downlink segment to an endpoint may go cooperatively (R276). -/
def State.coopFits (s : State) (x : Nat) : Bool :=
  s.rb Reg.NET_COOP_CFG 0 && (s.ep x).routeMode != 1 && (s.ep x).hops == 2 && (s.coopSlots x).isSome

/-- The first occurrence of a slot that starts at least `lead` superframes from now: superframe and cycle. -/
def State.slotFrom (s : State) (e : SlotEntry) (lead : Nat) : Nat × Nat :=
  let S := sfLen (s.rf (Reg.MAC_SF_STAT 0) 0 3)
  let m0 := s.sfNow + lead
  let per := 2 ^ e.repExp
  let base := m0 + (e.ph + per - m0 % per) % per
  let starts := fun m => m * S * 48 + e.start
  let m := if starts base < (s.cycle + lead * S) * 48 + sliceOf s.lt then base + per else base
  (m, (m * S + e.start / 48) % 2 ^ 32)

/-- The first occurrence of a COOP slot that starts at least one superframe from now (R277). -/
def State.coopOccurrence (s : State) (e : SlotEntry) : Nat × Nat := s.slotFrom e 1

/-- Cycles from now to the first routed opportunity of an endpoint: a transmitting slot to its first hop (R276). That the contention region is none is the model's reading (log entry 189). -/
def State.routedAhead (s : State) (x : Nat) : Option Nat :=
  let e := s.ep x
  let bank := (s.page (0x061 + 4 * e.port)).active
  let es := ((s.schedValid e.port bank).map (s.schedEntry e.port bank)).filter (fun y => (y.kind == 1 || y.kind == 4) && y.peer == e.firstHop x)
  (es.map (fun y => (s.slotFrom y 0).2 - s.cycle)).min?

/-- A segment to an endpoint goes cooperatively (R276): in mode 2 while a COOP slot starts before the message's deadline, in mode 0 where it starts before the next routed opportunity. -/
def State.coopWanted (s : State) (r : MsgRec) : Bool :=
  s.coopFits r.dst && (match s.coopSlots r.dst with
    | none => false
    | some (e, _) =>
      let c := (s.coopOccurrence e).2
      if (s.ep r.dst).routeMode = 2 then (match r.deadline with | some d => ! cycReached d c | none => true)
      else match s.routedAhead r.dst with | some a => decide (c - s.cycle < a) | none => true)

/-- A cooperative frame's attempt failed: it is tried again, or goes back to routed unicast (R279). -/
def State.coopFailed (s : State) (w : CoopWait) : State :=
  let rest := s.net.coop.filter (fun y => ! (y.msg == w.msg && y.seg == w.seg))
  let lim := s.rf (Reg.MAC_LL_CFG (s.ep w.dst).port) 0 4
  -- BUSY is no failed attempt (R247, R279, log entry 189).
  if w.busy then { s with net := { s.net with coop := rest ++ [{ w with results := 0, relays := [], busy := false }] } }
  else if lim ≤ w.tries + 1 then
    (({ s with net := { s.net with coop := rest ++ [{ w with tries := w.tries + 1, unicast := true }] } }).incF Reg.NET_COOP_CNT 16 16).cause 0x072 2
  else { s with net := { s.net with coop := rest ++ [{ w with tries := w.tries + 1, results := 0, relays := [] }] } }

/-- COOP_RESULT (R279): any OK acknowledges the frame; the attempt fails when every relay that carried it has reported otherwise. -/
def State.coopResult (s : State) (body : List Byte) : State :=
  let b := body.drop (netLen body)
  let r := leAt b 9 1
  match s.net.coop.find? (fun w => ! w.unicast && w.cyc == leAt b 0 4 && w.u == leAt b 4 2 && w.dst == leAt b 6 3 % 2 ^ 20) with
  | none => s
  | some w0 =>
    let w := { w0 with busy := w0.busy || r % 8 == 3 }
    if r % 8 = 0 then
      (({ s with net := { s.net with coop := s.net.coop.filter (fun y => ! (y.msg == w.msg && y.seg == w.seg)) } }).incF Reg.NET_COOP_CNT 0 16).segAcked w.msg w.seg
    else if w.results + 1 < w.relays.length then
      { s with net := { s.net with coop := s.net.coop.map (fun y => if y.msg == w.msg && y.seg == w.seg then { w with results := w.results + 1 } else y) } }
    else s.coopFailed w

/-- COOP_WAIT_EXPIRY (R279): frames whose slot passed `COOP_WAIT_SF` superframes ago without a result count as failed. -/
def State.coopExpiry (s : State) : State :=
  if s.arrives (fun i => match i with | .coopResult .. => true | _ => false) then s
  else (s.net.coop.filter (fun w => ! w.unicast && ! w.relays.isEmpty && s.sfReached s.sfNow (w.sf + s.rf Reg.NET_COOP_CFG 12 4))).foldl (fun s w => s.coopFailed w) s

/-- COOP_CARRY (R278): a carry is held for its slot; carries whose slot has passed are discarded. -/
def State.coopCarry (s : State) (p cond : Nat) (b : List Byte) : State :=
  let c : Carry := { port := p, cond := cond, cyc := leAt b 7 4, u := leAt b 11 2 % 4096, seed := leAt b 13 2 % 2 ^ 15, mode := leAt b 15 1 % 4
                     frame := takeBytes b 18 (leAt b 16 2), dst := netDst b }
  { s with net := { s.net with carries := s.net.carries.filter (fun x => ! cycReached ((x.cyc + 64) % 2 ^ 32) s.cycle) ++ [c] } }

end Sys2Proof.Machine
end

