-- ==== Sys2Proof/Machine/Link.lean ====
section
/-! DEFINITION. The link layer (R234 to R267): frames as bytes, neighbours, the duplicate window, acknowledgements and repairs, and the delivery of bodies. -/

namespace Sys2Proof.Machine

/-! ## Frames as bytes (R235 to R238) -/

/-- A link-layer frame as its fields (R235). -/
structure LlFrame where
  fctl : Nat
  seq : Nat
  net : Nat
  dst : Nat
  src : Nat
  ird : Option Nat
  kepoch : Nat
  fcnt : Nat
  head : List Byte
  body : List Byte
  tag : List Byte
deriving DecidableEq, Repr

/-- `FTYPE`. -/
def LlFrame.ftype (f : LlFrame) : Nat := f.fctl % 8
/-- `PRIO`. -/
def LlFrame.prio (f : LlFrame) : Nat := f.fctl / 8 % 4
/-- `AR`. -/
def LlFrame.ar (f : LlFrame) : Bool := f.fctl / 32 % 2 == 1
/-- `SEC`. -/
def LlFrame.sec (f : LlFrame) : Bool := f.fctl / 64 % 2 == 1
/-- `DST_L`. -/
def LlFrame.dstL (f : LlFrame) : Bool := f.fctl / 128 % 2 == 1
/-- `SRC_L`. -/
def LlFrame.srcL (f : LlFrame) : Bool := f.fctl / 256 % 2 == 1

/-- The frame `LEN` bytes spell; `none` where they are too few for their fields (R235). -/
def LlFrame.parse (b : List Byte) : Option LlFrame :=
  let fctl := leAt b 0 2
  let nd := if fctl / 128 % 2 = 1 then 8 else 3
  let ns := if fctl / 256 % 2 = 1 then 8 else 3
  let o := 6 + nd + ns
  let ni := if fctl / 512 % 2 = 1 then 6 else 0
  let sec := decide (fctl / 64 % 2 = 1)
  let h := o + ni + (if sec then 6 else 0)
  let t := if sec then 12 else 0
  if b.length < h + t + 4 then none
  else some
    { fctl := fctl, seq := leAt b 2 2 % 4096, net := leAt b 4 2
      dst := if nd = 3 then leAt b 6 3 % 2 ^ 20 else leAt b 6 8, src := if ns = 3 then leAt b (6 + nd) 3 % 2 ^ 20 else leAt b (6 + nd) 8
      ird := if ni = 0 then none else some (leAt b o 6), kepoch := if sec then leAt b (o + ni) 2 else 0, fcnt := if sec then leAt b (o + ni + 2) 4 else 0
      head := b.take h, body := takeBytes b h (b.length - h - t - 4), tag := takeBytes b (b.length - 4 - t) t }

/-- `FCS` passes (R237). -/
def fcsOk (b : List Byte) : Bool := decide (4 ≤ b.length) && leAt b (b.length - 4) 4 == crc32c (b.take (b.length - 4))

/-- The IV of a secured frame (R238). -/
def linkIv (long fcnt : Nat) : List Byte := leBytes 8 long ++ leBytes 4 fcnt

/-- The IRD that repairs a frame (R252): seed, first codeword, map. -/
def irdValue (seed : Nat) (r : Repair) : Nat := seed % 2 ^ 15 + r.first * 2 ^ 16 + r.map * 2 ^ 24

/-! ## Neighbours (R255, R267) -/

/-- A neighbour record. -/
def State.nbr (s : State) (k : Nat) : NbrRec := tget {} s.link.nbrs k

/-- Records of port `p` shown in `NBR_STAT`. -/
def State.showNbr (s : State) (p : Nat) : State :=
  s.wf (Reg.MAC_NBR_STAT p) 0 13 (s.link.nbrs.filter (fun x => x.1 / 4096 == p)).length

/-- The state with a neighbour record set. -/
def State.setNbr (s : State) (k : Nat) (v : NbrRec) : State := { s with link := { s.link with nbrs := tins s.link.nbrs k v } }

/-- The record of a neighbour, by short address, or by long one for a node without a short one. -/
def State.findNbr (s : State) (p short : Nat) (long : Option Nat) : Option Nat :=
  (s.link.nbrs.find? (fun x => x.1 / 4096 == p && (match long with
    | some l => x.2.long == l
    | none => x.2.short == short))).map Prod.fst

/-- The long address of a node as far as it is known: from the endpoint table on a coordinator's port; 0 where unknown (log entry 37). -/
def State.longOf (s : State) (p short : Nat) : Nat :=
  if s.rf (Reg.MAC_MAC_CTL p) 0 2 = 2 then ((s.findNbr p short none).map (fun k => (s.nbr k).long)).getD 0 else (s.ep short).long

/-- The record freed where the table is full: the oldest `LAST_SF` among neighbours not heard for 2 superframes and not `UPSTREAM` (R255). -/
def State.victim (s : State) (p : Nat) : Option Nat :=
  (argMin (fun (x : Nat × NbrRec) => x.2.lastSf) (s.link.nbrs.filter (fun x => x.1 / 4096 == p && ! x.2.upstream && s.sfReached s.sfNow (x.2.lastSf + 2)))).map Prod.fst

/-- A record for a new neighbour (R255); `none` where the table is full, which is counted. -/
def State.makeNbr (s : State) (p short : Nat) (long : Option Nat) : State × Option Nat :=
  match s.findNbr p short long with
  | some k => (s, some k)
  | none =>
    let used := (s.link.nbrs.filter (fun x => x.1 / 4096 == p)).map (fun x => x.1 % 4096)
    let up := s.rf (Reg.MAC_MAC_CTL p) 0 2 = 2 && short == s.mac.up.parent && long.isNone
    let v : NbrRec := { long := long.getD (s.longOf p short), short := short, upstream := up, lastSf := s.sfNow
                        kepoch := if up then s.mac.up.kepoch else (s.ep short).kepoch }
    let idx := match (List.range 4096).find? (fun i => ! used.contains i) with
      | some i => some (4096 * p + i)
      | none => s.victim p
    match idx with
    | some k => ((s.setNbr k v).showNbr p, some k)
    | none => ((s.incF (Reg.MAC_NBR_STAT p) 16 16).cause (0x063 + 4 * p) 8, none)

/-- The table of port `p` has no room for a new neighbour, and none may give way (R255). -/
def State.nbrFull (s : State) (p short : Nat) (long : Option Nat) : Bool :=
  (s.findNbr p short long).isNone && decide (4096 ≤ (s.link.nbrs.filter (fun x => x.1 / 4096 == p)).length) && (s.victim p).isNone

/-- Counters of a pair are reset by association and by a key-epoch change (R248, R249). -/
def NbrRec.restart (r : NbrRec) : NbrRec := { r with txFcnt := 0, rxFmax := 0, rxMap := 0, fresh := true }

/-- NBR_EXPIRY (R255): neighbours of a port unheard for 255 superframes are freed. -/
def State.nbrExpiry (s : State) (p : Nat) : State :=
  ({ s with link := { s.link with nbrs := s.link.nbrs.filter (fun x => ! (x.1 / 4096 == p && s.sfReached s.sfNow (x.2.lastSf + 255))) } }).showNbr p

/-- A neighbour record as 32 bytes (R267). -/
def NbrRec.bytes (r : NbrRec) : List Byte :=
  leBytes 8 r.long ++ leBytes 3 (r.short + 2 ^ 20 + (if r.upstream then 2 ^ 21 else 0)) ++
  leBytes 1 ((if r.lost then 1 else 0) + r.heard % 8 * 2 + (if r.secure then 16 else 0)) ++ leBytes 4 r.txFcnt ++ leBytes 4 r.rxFmax ++ leBytes 8 r.rxMap ++
  leBytes 2 r.kepoch ++ leBytes 1 (min 15 r.tries + min 15 r.busy * 16) ++ leBytes 1 r.lastSf

/-! ## The duplicate window (R249, R250) -/

/-- What the window makes of a sequence number: 0 accept, 1 duplicate, 2 behind; with the counter it implies and the record after acceptance. `cnt` is the counter the frame carries, or its sequence number where it carries none. -/
def NbrRec.window (r : NbrRec) (seq cnt : Nat) : Nat × Nat × NbrRec :=
  let d := (seq + 4096 - r.rxFmax % 4096) % 4096
  let i := (4096 - d) % 4096
  if r.fresh then (0, cnt, { r with rxFmax := cnt, rxMap := 1, fresh := false })
  else if 1 ≤ d && d ≤ 2047 then (0, r.rxFmax + d, { r with rxFmax := r.rxFmax + d, rxMap := (r.rxMap * 2 ^ d + 1) % 2 ^ 64 })
  else if d = 0 || 4033 ≤ d then
    (if r.rxMap / 2 ^ i % 2 = 1 then (1, r.rxFmax - i, r) else (0, r.rxFmax - i, { r with rxMap := r.rxMap + 2 ^ i }))
  else (2, 0, r)

/-! ## Counters -/

/-- `LL_DROP` [15:0] (R266). -/
def State.llDrop (s : State) (p : Nat) : State := s.incF (Reg.MAC_LL_DROP p) 0 16

/-- A tag failure (R251 check 7). -/
def State.tagFail (s : State) (p obj : Nat) : State :=
  ((s.incF (Reg.MAC_LL_AUTH p) 0 16).cause (0x063 + 4 * p) 9).pageRecord (0x063 + 4 * p) 9 0 (detail Status.authFail p obj)

/-! ## Leases (R262) -/

/-- The coordinator renews a node's lease to the start of superframe `m + 256` (log entry 186). -/
def State.renew (s : State) (a m : Nat) : State :=
  let e := s.ep a
  if e.state ≠ 1 then s else s.setEp a { e with leaseEnd := s.sfLater e.leaseEnd (m + 256), lastSf := s.sfLater e.lastSf m, lost := false }

/-- `LEASE_LEFT` and `LEASE_HELD` shown (R232, R266). -/
def State.showLease (s : State) : State :=
  match s.upPort with
  | none => s
  | some p =>
    let u := s.mac.up
    let left := if u.leased && ! s.sfReached s.sfNow (u.leaseM + 256) then min 256 (256 - s.sfSince s.sfNow u.leaseM) else 0
    (s.wf (Reg.MAC_OWN_ADDR p) 20 9 left).wb (Reg.MAC_UP_STAT p) 11 u.leased

/-- The node renews its own lease to `m + 256` (log entry 186). -/
def State.renewOwn (s : State) (m : Nat) : State :=
  ({ s with mac := { s.mac with up := { s.mac.up with leaseM := if s.mac.up.leased then s.sfLater s.mac.up.leaseM m else m, leased := true } } }).showLease

/-! ## Reassembly (R291) -/

/-- A segment of a message from `src` (R286, R291). -/
def State.reasmAdd (s : State) (src : Nat) (b : List Byte) : State :=
  let kind := leAt b 0 1 % 16
  let flags := leAt b 1 1
  let id := leAt b 2 4
  let seg := leAt b 6 2
  let hl := if flags / 2 % 2 = 1 then 16 else 12
  let n := seg / 64 % 64 + 1
  if b.length < hl || leAt b 0 1 / 16 != 1 || decide (1 < kind) || id == 0 || decide (n ≤ seg % 64) || decide (61 < n) || leAt b 8 2 == 0 || decide (16400 < leAt b 8 2) then s
  else
    let same := fun (r : Reasm) => r.src == src && r.kind == kind && r.msgId == id
    let mine := s.msg.reasm.filter (fun r => r.src == src && r.kind == kind && decide (r.segs.length < r.count))
    let beyond := (s.msg.reasm.find? same).isNone && decide (4 ≤ mine.length)
    let s1 := if beyond then
        let s2 := (s.inc Reg.MSG_REASM_DROP).cause 0x074 2
        (match mine with
          | o :: _ => { s2 with msg := { s2.msg with reasm := s2.msg.reasm.erase o } }
          | [] => s2)
      else s
    let r0 : Reasm := (s1.msg.reasm.find? same).getD
      { src := src, kind := kind, flags := flags, msgId := id, mlen := leAt b 8 2, count := n, mkepoch := leAt b 10 2
        execCyc := if hl = 16 then leAt b 12 4 else 0, segs := [], sf := s.sfNow }
    let r1 : Reasm := { r0 with segs := if (tfind r0.segs (seg % 64)).isSome then r0.segs else tins r0.segs (seg % 64) (b.drop hl) }
    let whole := decide (r1.segs.length = r1.count) && r0.segs.length != r1.count
    let data := takeBytes (r1.segs.flatMap Prod.snd) 0 r1.mlen
    let r2 : Reasm := if whole then { r1 with rxCyc := s.cycle, plain := if flags / 8 % 2 = 1 then none else some data } else r1
    { s1 with msg := { s1.msg with reasm := s1.msg.reasm.filter (fun r => ! same r) ++ [r2] } }

/-! ## Delivery (R251 check 8) -/

/-- A body goes to its handler. -/
def State.toInbox (s : State) (d : Delivered) : State := { s with link := { s.link with inbox := s.link.inbox ++ [d] } }

/-- The port works for an upstream coordinator: it is the UP port. -/
def State.isUp (s : State) (p : Nat) : Bool := s.upPort == some p && s.rf (Reg.MAC_MAC_CTL p) 0 2 == 2

/-- A management body is delivered, forwarded, or dropped as reserved (R239, R257, R269, R273). -/
def State.deliverMgmt (s : State) (p : Nat) (d : Delivered) : State :=
  let mt := leAt d.body 0 1
  let b := d.body.drop 1
  let relay := s.isUp p && s.mode == 5
  let plain := match mt with | 3 => 4 | 4 => 5 | 5 => 5 | _ => 0
  let routed := decide (0x20 ≤ mt) || (mt == 1 && d.srcLong.isNone) || (mt == 2 && d.srcLong.isNone && s.isUp p && d.mtype != 2) ||
    (decide (3 ≤ mt) && decide (mt ≤ 5) && decide (plain < b.length))
  if mt = 0 || (decide (9 ≤ mt) && decide (mt < 0x20)) || decide (0x24 < mt) then s.llDrop p
  else if mt = 1 && relay && d.srcLong.isSome then
    -- A relay passes a request on, its sealed body unchanged.
    s.sendUp p 1 b
  else if routed && s.isUp p && (netMode b == 0 || netDst b != s.ownShort p) then (if relay then s.forward p d (leBytes 1 mt) b else s.llDrop p)
  else if mt = 2 && routed then
    -- The parent sends the response to the node by its long address (R257 step 3).
    let x := b.drop (netLen b)
    s.pushOut { id := 0, port := p, bb := d.bb, cond := d.cond, peer := 0xFFFFE, long := some (leAt x 0 8), prio := 1, sec := false, body := leBytes 1 2 ++ x }
  else s.toInbox { d with mtype := mt, body := b }

/-- A data body is reassembled, forwarded, flooded or delivered (R268, R273, R280). -/
def State.deliverData (s : State) (p : Nat) (d : Delivered) : State :=
  let b := d.body
  let relay := s.isUp p && s.mode == 5
  match netMode b with
  | 0 => if s.isUp p then (if relay then s.forward p d [] b else s) else s.reasmAdd (netOrig b) (b.drop 7)
  | 1 => if s.isUp p && netDst b == s.ownShort p then s.toInbox { d with mtype := 0x100, body := b }
         else if relay then s.forward p d [] b else s
  | 2 =>
    let (s1, mine) := s.floodRx p d.cond d.prio b relay
    if mine && s.isUp p then s1.toInbox { d with mtype := 0x100, body := b } else s1
  | _ => s.toInbox { d with mtype := 0x103, body := b }

/-- The node that originated an accepted frame: its network header's `ORIG`, or the sender itself. -/
def originOf (d : Delivered) : Nat :=
  if d.mgmt then
    let mt := leAt d.body 0 1
    if 0x20 ≤ mt then netOrig (d.body.drop 1) else if 3 ≤ mt && mt ≤ 5 && 6 < d.body.length then netOrig (d.body.drop 1) else d.src
  else netOrig d.body

/-- An accepted frame: the neighbour is heard, leases are renewed, and the body goes on. -/
def State.llAccept (s : State) (p k : Nat) (sec : Bool) (d : Delivered) : State :=
  let r := s.nbr k
  let s1 := ((s.inc (Reg.MAC_LL_RX_OK p)).setNbr k { r with lost := false, secure := sec, lastSf := s.sfNow, heard := (r.heard ||| 2 ^ d.cond) })
  let s2 := if s.isUp p then (if d.src = 0 && s.mac.up.leased && originOf d == 0 && d.srcLong.isNone then s1.renewOwn d.sf else s1)
            else if d.srcLong.isNone then s1.renew (originOf d) s.sfNow else s1
  if d.mgmt then s2.deliverMgmt p d else s2.deliverData p d

/-! ## Reception (R251) -/

/-- Address forms and version R236 and R257 allow. -/
def LlFrame.formOk (f : LlFrame) : Bool :=
  let mt := leAt f.body 0 1
  f.fctl / 4096 % 16 == 1 && decide (f.ftype ≤ 1) &&
  (! f.srcL || (f.ftype == 1 && ! f.sec && ! f.dstL && mt == 1)) && (! f.dstL || (f.ftype == 1 && ! f.sec && ! f.srcL && mt == 2))

/-- The frame is for this receiver (R251 check 4). -/
def State.forMe (s : State) (p : Nat) (f : LlFrame) : Bool :=
  if f.dstL then f.dst == s.ownLong
  else if f.dst = 0xFFFFF then true
  else if isGroup f.dst then bit (word s.mac.up.groups) (f.dst - 0xFFFF0)
  else f.dst == s.ownShort p && f.dst != 0xFFFFE

/-- An association body, sealed end to end (R251 check 5, R258). -/
def LlFrame.sealed (f : LlFrame) : Bool := f.ftype == 1 && (leAt f.body 0 1 == 1 || leAt f.body 0 1 == 2)

/-- The key epochs a receiver takes from a neighbour: the one in use, for 16 superframes the one before it, and on the UP port any later one (R435). -/
def State.epochOk (s : State) (p short e : Nat) (r : NbrRec) : Bool :=
  e == r.kepoch || (if s.isUp p then decide (r.kepoch ≤ e + 1) else ((s.ep short).graceSf != 0 && ! s.sfReached s.sfNow (s.ep short).graceSf && e == (s.ep short).kprev))

/-- The key of a received frame (R238, R264). -/
def State.rxKey (s : State) (p : Nat) (f : LlFrame) (long : Nat) : Option (List Byte) :=
  if isGroup f.dst && ! f.dstL then s.groupKeyOf p long f.dst f.kepoch else s.linkKeyOf p long s.ownLong f.kepoch

/-- A decoded frame whose `FCS` passed goes through checks 2 to 8 of R251. `sf0` is the superframe in which it began. -/
def State.llReceive (s : State) (p : Nat) (bb : Bool) (c sf0 : Nat) (b : List Byte) : State :=
  match LlFrame.parse b with
  | none => s.llDrop p
  | some f =>
    if ! f.formOk then s.llDrop p
    else if f.net ≠ s.netId p then s
    else
      let long := if f.srcL then some f.src else none
      let short := if f.srcL then 0xFFFFE else f.src
      match s.makeNbr p short long with
      | (s1, none) => s1
      | (s1, some k) =>
        let s2 := s1.setNbr k { s1.nbr k with lastSf := s.sfNow, heard := ((s1.nbr k).heard ||| 2 ^ c) }
        if ! s2.forMe p f then s2
        else if ! f.sec && s2.rb (Reg.MAC_LL_CFG p) 8 && ! f.sealed then s2.incF (Reg.MAC_LL_AUTH p) 16 16
        else
          let r := s2.nbr k
          let uni := f.dstL || ! isGroup f.dst
          let former := f.sec && f.kepoch != r.kepoch && uni
          let w := if former || ! uni then (0, f.fcnt, r) else r.window f.seq (if f.sec then f.fcnt else f.seq)
          -- The counter the window implies must be the one the frame carries (R250), for a duplicate too.
          let stale := w.1 == 2 || (f.sec && (w.2.1 != f.fcnt || f.fcnt % 4096 != f.seq))
          if w.1 = 1 && ! stale then
            let s3 := s2.inc (Reg.MAC_LL_DUP p)
            if s3.rb Reg.SCB_SCB_CFG 0 then s3.pageRecord (0x063 + 4 * p) 0x21 0 (detail Status.duplicate p short) else s3
          else if stale then s2.llDrop p
          else
            let d : Delivered := { port := p, bb := bb, cond := c, src := short, srcLong := long, mgmt := f.ftype == 1, mtype := if f.dstL then 2 else 0, body := f.body
                                   prio := f.prio, sf := sf0, cyc := s.cycle }
            if ! f.sec then (s2.setNbr k w.2.2).llAccept p k false d
            else
              let opened := if s2.epochOk p short f.kepoch r then
                  (s2.rxKey p f r.long).bind (fun key => gcmOpen key (linkIv r.long f.fcnt) f.head f.body f.tag) else none
              match opened with
              | none => s2.tagFail p short
              | some pt =>
                let s3 := if s2.isUp p && decide (r.kepoch < f.kepoch) then s2.setNbr k (({ r.restart with kepoch := f.kepoch } : NbrRec).window f.seq f.fcnt).2.2
                          else if former then s2 else s2.setNbr k w.2.2
                s3.llAccept p k true { d with body := pt }

/-! ## Building a frame (R235, R248) -/

/-- A frame for a neighbour, as bytes: fresh counter from the neighbour's record, or the group counter. `none` where the key it needs does not exist (log entry 38), or no neighbour record can be made. -/
def State.buildFrame (s : State) (o : OutFrame) (ird : Option Nat) : State × Option (List Byte × Nat) :=
  let uni := o.long.isSome || ! isGroup o.peer
  let s0 := if uni then s.makeNbr o.port o.peer o.long else (s, some 0)
  match s0 with
  | (s1, none) => (s1, none)
  | (s1, some k) =>
    let r := s1.nbr k
    let ep := if uni then r.kepoch else (s1.ep 0).kepoch
    let cnt := if uni then r.txFcnt else s1.link.groupSeq
    let srcL := ! o.sec && leAt o.body 0 1 == 1 && o.mgmt && s1.ownShort o.port == 0xFFFFE
    let fctl := (if o.mgmt then 1 else 0) + o.prio % 4 * 8 + (if uni then 32 else 0) + (if o.sec then 64 else 0) +
      (if o.long.isSome then 128 else 0) + (if srcL then 256 else 0) + (if ird.isSome then 512 else 0) + 4096
    let head := leBytes 2 fctl ++ leBytes 2 (cnt % 4096) ++ leBytes 2 (s1.netId o.port) ++
      (match o.long with | some l => leBytes 8 l | none => leBytes 3 o.peer) ++
      (if srcL then leBytes 8 s1.ownLong else leBytes 3 (s1.ownShort o.port)) ++
      (match ird with | some v => leBytes 6 v | none => []) ++ (if o.sec then leBytes 2 ep ++ leBytes 4 cnt else [])
    let key := if ! o.sec then some [] else if uni then s1.linkKeyOf o.port s1.ownLong r.long ep else s1.groupKeyOf o.port s1.ownLong o.peer ep
    match key with
    | none => (s1, none)
    | some kk =>
      let x := if o.sec then gcmSeal 12 kk (linkIv s1.ownLong cnt) head o.body else (o.body, [])
      let raw := head ++ x.1 ++ x.2
      let s2 := if uni then s1.setNbr k { r with txFcnt := (r.txFcnt + 1) % 2 ^ 32 } else { s1 with link := { s1.link with groupSeq := s1.link.groupSeq + 1 } }
      (s2, some (raw ++ leBytes 4 (crc32c raw), cnt))

/-! ## Acknowledgements (R241 to R245) -/

/-- The failed codewords' first index and map over `n` bits; `none` where they span more (R242). -/
def failMap (n : Nat) (cw : List Bool) : Option (Nat × Nat) :=
  let bad := (List.range cw.length).filter (fun i => cw[i]? == some false)
  match bad with
  | [] => some (0, 0)
  | f :: _ => if bad.all (fun i => decide (i < f + n)) then some (f, (bad.map (fun i => 2 ^ (i - f))).foldl (· + ·) 0) else none

/-- `ARES` with `CW_FIRST` and `CW_MAP` (R242). -/
def aresOf (n : Nat) (cw : List Bool) (bytes : List Byte) (busy : Bool) : Nat × Nat × Nat :=
  if cw.all id then (if ! fcsOk bytes then (2, 0, 0) else if busy then (3, 0, 0) else (0, 0, 0))
  else match failMap n cw with
    | some (f, m) => (1, f, m)
    | none => (2, 0, 0)

/-- A narrowband acknowledgement header (R243). -/
def nbAck (a : Nat × Nat × Nat) (seed : Nat) (irOk : Bool) : List Byte :=
  nbHeader (1 + 4 + a.1 * 2 ^ 5 + a.2.2 % 2 ^ 16 * 2 ^ 7 + seed * 2 ^ 23 + a.2.1 % 64 * 2 ^ 38 + (if irOk then 2 ^ 44 else 0))

/-- A multi-user acknowledgement header (R244): `acc` holds bit j for subchannel j. -/
def muAck (acc : Nat) : List Byte := nbHeader (1 + 4 + 2 ^ 4 + acc % 2 ^ 18 * 2 ^ 5 + 0x7FFF * 2 ^ 23 + acc / 2 ^ 18 % 2 * 2 ^ 38)

/-- A broadband acknowledgement header (R245). -/
def bbAck (a : Nat × Nat × Nat) (seed cond : Nat) (irOk : Bool) : List Byte :=
  bbHeader (1 + 2 ^ 2 + 2 ^ 4 + 2 ^ (cond + 5) + a.2.2 % 2 ^ 24 * 2 ^ 8 + seed * 2 ^ 32 + a.1 * 2 ^ 47 + (if irOk then 2 ^ 49 else 0) + a.2.1 % 256 * 2 ^ 50)

/-- The line receive queue a frame would enter (R305). -/
def rxQueue (p : Nat) (bb : Bool) (c prio : Nat) : Nat := 0x200100 + p * 64 + (if bb then 32 else 0) + c * 8 + prio

/-- Acknowledgement descriptors are numbered apart from transmit descriptors, from 2^31 (R81: `ARG1`). -/
abbrev ackBase : Nat := 2 ^ 31

/-- An acknowledgement is entered for the edge `at_`: its ACK_TX fixture takes a free firmware index (R142, R166, R241). -/
def State.enterAck (s : State) (p : Nat) (bb : Bool) (c : Nat) (hdr : List Byte) (at_ : Nat) : State :=
  match s.freeFix with
  | none => s
  | some i =>
    let d := ackBase + s.link.nextAck
    let f : Fixture := { lt := s.ltAt at_, target := 0x031 + 4 * p, action := 3, flags := 1, arg0 := c, arg1 := d }
    let s1 := { s with link := { s.link with acks := tins s.link.acks d { port := p, bb := bb, cond := c, hdr := hdr, at_ := at_ }, nextAck := s.link.nextAck + 1 } }
    if ! ltFuture f.lt s.lt || decide (s.edgesTo f.lt < (150 * usec : Nat)) then s1 else s1.setFix i f

/-! ## The sender's outcomes (R246 to R248, R253, R254, R256) -/

/-- A sent frame, by its descriptor. -/
def State.sentOf (s : State) (d : Nat) : Option SentFrame := tfind s.link.sent d

/-- The state with a sent frame set. -/
def State.setSent (s : State) (d : Nat) (x : SentFrame) : State := { s with link := { s.link with sent := tins s.link.sent d x } }

/-- A sent frame is no longer kept. -/
def State.dropSent (s : State) (d : Nat) : State := { s with link := { s.link with sent := tdel s.link.sent d } }

/-- NEIGHBOUR_LOST (R256): marked, its queued frames completed with LINK_LOST, the cause and record, and routing told. -/
def State.nbrLost (s : State) (p k : Nat) : State :=
  let r := s.nbr k
  let tgt := fun (o : OutFrame) => o.port == p && o.peer == r.short && o.long.isNone && ! isGroup o.peer
  let fwd := s.link.outbox.filter (fun o => tgt o && o.fwd)
  let gone := s.link.sent.filter (fun x => tgt x.2.out)
  let s1 := (s.setNbr k { r with lost := true }).cutOutbox tgt
  let s2 := gone.foldl (fun s x => (s.descDone x.1 .linkLost).dropSent x.1) s1
  let s3 := ((s2.cause (0x063 + 4 * p) 7).pageRecord (0x063 + 4 * p) 7 0 (detail Status.linkLost p r.short))
  let s4 := (fwd ++ (gone.map (fun x => x.2.out)).filter (·.fwd)).foldl (fun s o => s.forwardFailed o .linkLost) s3
  -- A node reports the loss at once (R272).
  if s.isUp p then { s4 with mac := { s4.mac with up := { s4.mac.up with lostDue := true } } } else s4.nbrLostRoute r.short

/-- A frame was acknowledged OK, or repaired whole: its descriptor completes, and its message moves on (R247, R295). Its lease is renewed only by an acknowledgement of this very frame with `ARES` OK (R262): not by the `IR_OK` of another frame's, nor by the `ACC` bit of a multi-user one, neither of which renews at the coordinator (log entry 186). -/
def State.frameOk (s : State) (d : Nat) (x : SentFrame) (renews : Bool) : State :=
  let o := x.out
  let s1 := (s.dropSent d).descDone d .done
  let s2 := match s1.findNbr o.port o.peer o.long with
    | some k => s1.setNbr k { s1.nbr k with tries := 0, busy := 0, lastSf := s.sfNow }
    | none => s1
  let s3 := if s.isUp o.port then (if renews && o.peer = 0 && o.long.isNone then s2.renewOwn x.startSf else s2)
            else s2
  -- The acknowledgement of a slot grant (R221, R239).
  let s4 := if o.mgmt && leAt o.body 0 1 = 7 then
      { s3 with mac := { s3.mac with grantsOut := s3.mac.grantsOut.map (fun g =>
          if g.port = o.port && g.peer = o.peer && leBytes 1 7 ++ g.body = o.body then { g with acked := s.sfNow + 1 } else g) } }
    else s3
  match o.msg with
  | some (m, k) => if o.coop.isSome then s4 else s4.segAcked m k
  | none => s4

/-- A frame has failed for good with TIMEOUT (R247, R256, R274). -/
def State.frameTimeout (s : State) (d : Nat) (x : SentFrame) : State :=
  let o := x.out
  let s1 := ((s.dropSent d).descDone d .timeout).incF (Reg.MAC_LL_TX o.port) 16 16
  let s2 := if o.fwd then s1.forwardFailed o .timeout else s1
  match s2.findNbr o.port o.peer o.long with
  | none => s2
  | some k =>
    let r := s2.nbr k
    let s3 := s2.setNbr k { r with tries := r.tries + 1 }
    if s.rf (Reg.MAC_LL_CFG o.port) 4 4 ≤ r.tries + 1 && ! r.lost then s3.nbrLost o.port k else s3

/-- A failed attempt: the whole frame is to be sent again, or it has failed for good (R247). -/
def State.attemptFailed (s : State) (d : Nat) (x : SentFrame) : State :=
  if x.orphan then (s.dropSent d).descDone d .timeout
  else if s.rf (Reg.MAC_LL_CFG x.out.port) 0 4 ≤ x.tries + 1 then s.frameTimeout d x
  else s.setSent d { x with tries := x.tries + 1, busy := 0, wait := false, again := true, repair := none, endAt := 0 }

/-- Bits of a map. -/
def popCount (n : Nat) : Nat := ((List.range 24).filter (fun i => decide (n / 2 ^ i % 2 = 1))).length

/-- The frame whose repair frame `d` carries. -/
def State.carriedBy (s : State) (d : Nat) : Option (Nat × SentFrame) :=
  s.link.sent.find? (fun x => (x.2.repair.bind (·.carrier)) == some d)

/-- The carrying frame's acknowledgement says how its repair went (R254): `ok` for `IR_OK`, `none` where the acknowledgement is missing. -/
def State.repairOutcome (s : State) (d : Nat) (ok : Option Bool) : State :=
  match s.carriedBy d with
  | none => s
  | some (e, y) => match y.repair with
    | none => s
    | some r =>
      let abandon := fun (s : State) => (s.addF (Reg.MAC_LL_IR y.out.port) 16 16 (popCount r.map)).attemptFailed e y
      match ok with
      | none => abandon s
      | some true => s.frameOk e y false
      | some false => if 3 ≤ r.ver then abandon s else s.setSent e { y with repair := some { r with carrier := none } }

/-- The result a relay sends for a cooperative frame (R279). -/
def coopBody (c : Carry) (r : Nat) : List Byte := leBytes 4 c.cyc ++ leBytes 2 c.u ++ leBytes 3 c.dst ++ leBytes 1 r

/-- The acknowledgement of frame `d` is missing (R246, R247, R254). -/
def State.ackMissing (s : State) (d : Nat) : State :=
  match s.sentOf d with
  | none => s
  | some x =>
    if ! x.wait || x.endAt = 0 then s
    else match x.coop with
      | some c => ((s.dropSent d).descDone d .timeout).sendUp x.out.port 0x23 (coopBody c 4)
      | none => (s.repairOutcome d none).attemptFailed d x

/-- The deadline of an acknowledgement's preamble, in edges after the frame's end (R246). -/
def ackDeadline (bb : Bool) : Nat := if bb then 425400 else 2170 * usec

/-- A preamble detected by the deadline of an acknowledgement belongs to a frame still being received: its reception waits in the queue (R246). -/
def State.ackComing (s : State) (x : SentFrame) : Bool :=
  let open_ := fun (t : Nat) => decide (x.endAt ≤ t + 1) && decide (t < x.endAt + ackDeadline x.out.bb) && decide (t ≤ s.now)
  s.pending.any (fun i => match i with
    | .nbFrameRx _ q c y => ! x.out.bb && q.val == x.out.port && c.val == x.out.cond && open_ y.start
    | .bbFrameRx _ q _ y => x.out.bb && q.val == x.out.port && open_ y.start
    | _ => false)

/-- ACK_TIMEOUT (R16, R246): no preamble by the deadline; one detected in the deadline's own tick counts. -/
def State.ackTimeout (s : State) (d : Nat) : State :=
  match s.sentOf d with
  | none => s
  | some x => if x.endAt ≠ 0 && decide (x.endAt - 1 + ackDeadline x.out.bb < s.now) && ! s.ackComing x then s.ackMissing d else s

/-- BUSY results in a row of the neighbour a frame went to (R267). -/
def State.nbrBusy (s : State) (o : OutFrame) (b : Bool) : State :=
  match s.findNbr o.port o.peer o.long with
  | some k => s.setNbr k { s.nbr k with busy := if b then (s.nbr k).busy + 1 else 0 }
  | none => s

/-- An acknowledgement's outcome for frame `d` (R247, R254). -/
def State.ackOutcome (s : State) (d ares first map : Nat) (irOk : Bool) : State :=
  match s.sentOf d with
  | none => s
  | some x =>
    match x.coop with
    | some c => ((s.dropSent d).descDone d (if ares = 0 then Status.done else Status.timeout)).sendUp x.out.port 0x23 (coopBody c ares)
    | none =>
      let s1 := s.repairOutcome d (some irOk)
      match ares with
      | 0 => s1.frameOk d x x.mu.isNone
      | 1 => if x.orphan then s1.attemptFailed d x else (s1.nbrBusy x.out false).setSent d { x with wait := false, repair := some { first := first, map := map }, busy := 0 }
      | 2 => (s1.nbrBusy x.out false).attemptFailed d x
      | _ =>
        let b := x.busy + 1
        let s2 := s1.nbrBusy x.out true
        if x.orphan then s2.attemptFailed d x
        else if s.rf (Reg.MAC_LL_CFG x.out.port) 0 4 ≤ b then
          let s3 := (s2.dropSent d).descDone d .resourceRetry
          if x.out.fwd then s3.forwardFailed x.out .resourceRetry else s3
        else s2.setSent d { x with busy := b, wait := false, again := true, endAt := 0 }

/-- ACK_RX (R243 to R247): the first received acknowledgement. It acts on the frame waiting on its conductor whose `SEED` it names; where it names another, that frame's acknowledgement is missing. -/
def State.ackRx (s : State) : State :=
  match s.takeInbox (fun d => d.mtype == 0x200 || d.mtype == 0x201) with
  | none => s
  | some (s1, a) =>
    let h := a.body
    let waits := fun (x : Nat × SentFrame) => x.2.wait && x.2.endAt != 0 && x.2.out.port == a.port && x.2.out.bb == a.bb && (a.bb || x.2.out.cond == a.cond)
    let w := s1.link.sent.filter waits
    if ! a.bb && bitsAt h 4 1 = 1 then
      w.foldl (fun s x => match x.2.mu with
        | some j => if (if j = 18 then bitsAt h 38 1 else bitsAt h (5 + j) 1) = 1 then s.ackOutcome x.1 0 0 0 false else s.ackMissing x.1
        | none => s.ackMissing x.1) s1
    else
      let f := if a.bb then (bitsAt h 32 15, bitsAt h 47 2, bitsAt h 50 8, bitsAt h 8 24, bitsAt h 49 1 == 1)
               else (bitsAt h 23 15, bitsAt h 5 2, bitsAt h 38 6, bitsAt h 7 16, bitsAt h 44 1 == 1)
      w.foldl (fun s x => if x.2.seed = f.1 then s.ackOutcome x.1 f.2.1 f.2.2.1 f.2.2.2.1 f.2.2.2.2 else s.ackMissing x.1) s1

/-- IR_HOLD_EXPIRY (R253). -/
def State.irExpiry (s : State) : State := { s with link := { s.link with holds := s.link.holds.filter (fun h => ! s.sfReached s.sfNow h.endSf) } }

/-- A received IRD (R252, R253): `repaired` is the frame its resent codewords complete, where every codeword now decodes. The second component is `IR_OK`; the codewords recovered are counted when the last of them decodes (log entry 187), and the repaired frame is received. -/
def State.irRepair (s : State) (p : Nat) (bb : Bool) (c sf0 nrt ird src : Nat) (repaired : Option (List Byte)) : State × Bool :=
  let seed := ird % 2 ^ 15
  let map := ird / 2 ^ 24 % 2 ^ 24
  match s.link.holds.find? (fun h => h.port == p && h.bb == bb && (bb || h.cond == c) && h.seed == seed) with
  | none => (s, false)
  | some h =>
    -- Every failed codeword can decode only where each is sent again.
    let all := h.failed.all (fun i => decide (ird / 2 ^ 16 % 256 ≤ i) && decide (map / 2 ^ (i - ird / 2 ^ 16 % 256) % 2 = 1))
    if nrt ≠ popCount map || ! all then (s, false)
    else match repaired with
      | none => (s, false)
      | some b =>
        let s1 := { s with link := { s.link with holds := s.link.holds.erase h } }
        let s2 := s1.addF (Reg.MAC_LL_IR p) 0 16 h.failed.length
        if ! fcsOk b then (s2.incF (Reg.MAC_LL_DROP p) 16 16, false)
        else match LlFrame.parse b with
          | none => (s2.llDrop p, true)
          | some f => if f.src ≠ src then (s2.llDrop p, true) else (s2.llReceive p bb c sf0 b, true)

end Sys2Proof.Machine
end

