-- ==== Sys2Proof/Machine/Wave.lean ====
section
/-! DEFINITION. The signals on the line (R117 to R123, R126, R135 to R139, R149 to R156, R159, R164, R165, R195, R196): what a transmission carries on each tone, and the terms its samples are the sums of. -/

namespace Sys2Proof.Machine

/-! ## Coding a frame -/

/-- A list dealt out in groups of the sizes given, with a label each. -/
def dealBits {α : Type} : List (α × Nat) → List Bool → List (α × List Bool)
  | [], _ => []
  | x :: xs, bs => (x.1, bs.take x.2) :: dealBits xs (bs.drop x.2)

/-- A list started at its `n`-th member and wrapped (R136, R164). -/
def rotated {α : Type} (l : List α) (n : Nat) : List α := l.drop n ++ l.take n

/-- Information words the receiver asks for again, named by a repair's map over the words of the frame sent before (R133, R254). -/
def resentWords (bb : Bool) (rate seed : Nat) (body : List Byte) (first map : Nat) : List (Nat × List Bool) :=
  let ws := infoWords bb rate seed body
  (List.range 64).filterMap (fun i => if map / 2 ^ i % 2 = 1 then (ws[first + i]?).map (fun w => (rate, w)) else none)

/-- What a narrowband frame carries (R126 to R137): coded header, payload stream and pad bits, in a robust mode or under a map set (log entry 173). -/
def airNb (b : BandPlan) (mode rate : Nat) (set : Option MapSet) (k0 f symbols seed : Nat) (header body : List Byte) (rv : Nat) (again : List (Nat × List Bool)) (loaded : List Nat) : Air :=
  let st := payloadStream false rate (infoWords false rate seed body) rv again
  let blocks := symbols / robustR mode
  let room := match set with
    | some m => ((List.range symbols).map (fun j => m.nbCap b k0 f (b.h + j))).foldl (· + ·) 0
    | none => blocks * b.w
  let beyond := if set.isSome then 0 else ((List.range symbols).map (fun j => (nbData b.n (b.h + j)).length - b.w)).foldl (· + ·) 0
  let pad := padBits seed (8 * body.length) (room - st.length + beyond)
  { mode := if set.isSome then 0 else mode, set := set, k0 := k0, f := f, symbols := symbols, header := nbHeaderBits header
    stream := st ++ pad.take (room - st.length), pads := pad.drop (room - st.length), loaded := loaded }

/-- Data-tone capacity of a multi-user frame's symbol: the bits of the subchannel's tones that are no pilots (R139). -/
def MapSet.muCap (m : MapSet) (j k0 f t : Nat) : Nat :=
  let es := ((m.groupAt k0 f t).maps[0]?).getD []
  ((nbData 16 t).map (fun i => modBits ((es[16 * j + i]?).getD 0 % 8))).foldl (· + ·) 0

/-- Whole codewords that a multi-user slot of `n` symbols holds (R139). -/
def MapSet.muWords (m : MapSet) (j k0 f n : Nat) : Nat := (((List.range n).map (m.muCap j k0 f)).foldl (· + ·) 0) / 732

/-- What a multi-user frame carries (R139): as many whole codewords as fit, none shortened, and pad bits. The bits of the last codewords beyond the frame's own bytes are scrambled zeros (log entry 164). -/
def airMu (j rate : Nat) (m : MapSet) (k0 f symbols seed : Nat) (body : List Byte) (loaded : List Nat) : Air :=
  let n := m.muWords j k0 f symbols
  let info := bitsOf body ++ List.replicate (n * nbK rate - 8 * body.length) false
  let st := payloadStream false rate (cwPieces (nbK rate) n (scramble seed info)) 0 []
  let room := ((List.range symbols).map (m.muCap j k0 f)).foldl (· + ·) 0
  { mode := 0, set := some m, k0 := k0, f := f, mu := some j, symbols := symbols, stream := st ++ padBits seed info.length (room - st.length), loaded := loaded }

/-- What a broadband frame carries (R151, R159 to R165). -/
def airBb (streams : List Nat) (rate : Nat) (set : Option MapSet) (k0 f symbols seed : Nat) (header body : List Byte) (rv : Nat) (again : List (Nat × List Bool)) (loaded : List Nat) : Air :=
  let st := payloadStream true rate (infoWords true rate seed body) rv again
  let room := match set with
    | some m => ((List.range symbols).map (fun j => m.bbCap streams streams.length k0 f (1 + j))).foldl (· + ·) 0
    | none => 1674 * symbols
  { mode := if set.isSome then 0 else 1, set := set, k0 := k0, f := f, streams := streams, symbols := symbols, header := bbHeaderBits header
    stream := st ++ padBits seed (8 * body.length) (room - st.length), loaded := loaded }

/-! ## Tones -/

/-- The value on a tone in a symbol (R135, R155): in-phase and quadrature level before the scaling by √(2(4^m - 1)/3), which is 1 for m = 0; a phase in fractions of a turn; and its attenuation below the nominal amplitude in 0.5 dB (R196). -/
structure Tone where
  k : Nat
  re : Int
  im : Int := 0
  m : Nat := 0
  turn : Nat × Nat := (0, 1)
  att : Nat := 0
deriving DecidableEq, Repr

/-- A tone that carries some bits (R135). -/
def bitTone (k att : Nat) (bs : List Bool) : Option Tone :=
  match bs with
  | [] => none
  | [b] => some { k := k, re := if b then -1 else 1, att := att }
  | _ => some { k := k, re := qamLevel (bs.take (bs.length / 2)), im := qamLevel (bs.drop (bs.length / 2)), m := bs.length / 2, att := att }

/-- What the filters let through of a symbol's tones (R195, R196): a tone they remove is not sent, another is attenuated by its mask too. -/
def filtered (left : List (Nat × Nat)) (ts : List Tone) : List Tone :=
  ts.filterMap (fun t => (left.find? (fun x => x.1 == t.k)).map (fun x => { t with att := t.att + x.2 }))

/-- A preamble's tones over positions `first` to `first + n - 1` (R122): the m-th tone whose index is a multiple of 4 at a phase of m² halves of 1/M turn. -/
def nbPreTones (first n : Nat) : List Tone :=
  let l := nbPreamble first n
  l.map (fun x => { k := x.1, re := 1, turn := (x.2, 2 * l.length) })

/-- A map entry of position `i` for a conductor's stream in the symbol whose centre lies `tc` ns after the frame's start (R178); none in a robust mode. -/
def Air.entry (a : Air) (c tc i : Nat) : Option Nat :=
  a.set.map (fun m => (((((m.groups[(m.part[symbolSlice a.k0 tc a.f]?).getD 0]?).getD {}).maps[if m.bb then c else 0]?).getD [])[i]?).getD 0)

/-- Position of tone 85 where a map marks it off under band C: it carries the pilot sequence in place of data (R141, log entry 165). -/
def Air.tone85 (a : Air) (b : BandPlan) : Option Nat := if b.bandC && a.set.isSome && ! a.loaded.contains 85 then some (85 - b.first) else none

/-- The tones of symbol `s` of a narrowband frame with a header, before the filters (R123, R126, R136, R137). -/
def Air.nbSymbol (a : Air) (b : BandPlan) (s : Nat) : List Tone :=
  let att := fun i => ((a.entry 0 (nbCentre s) i).getD 0) / 8
  let on := fun i => match a.entry 0 (nbCentre s) i with
    | some e => e % 8 != 0
    | none => true
  let pilots := ((nbPilots b.n (b.h + a.symbols) b.h (a.tone85 b)).filter (fun x => x.1.1 == s && (on x.1.2 || (decide (b.h ≤ s) && a.tone85 b == some x.1.2)))).map
    (fun x => ({ k := b.first + x.1.2, re := if x.2 then -1 else 1, att := att x.1.2 } : Tone))
  let data := (nbData b.n s).filter (fun i => decide (s < b.h) || a.tone85 b != some i)
  if s < b.h then
    let before := ((List.range s).map (fun t => (nbData b.n t).length)).foldl (· + ·) 0
    pilots ++ data.zipIdx.map (fun x => { k := b.first + x.1, re := if (a.header[(before + x.2) % 185]?).getD false then -1 else 1 })
  else match a.set with
    | some m =>
      let ds := data.filter on
      let ofs := ((List.range (s - b.h)).map (fun j => m.nbCap b a.k0 a.f (b.h + j))).foldl (· + ·) 0
      let order := rotated ds (nbFirstTone s ds.length)
      pilots ++ (dealBits (order.map (fun i => (i, modBits (((a.entry 0 (nbCentre s) i).getD 0) % 8)))) (a.stream.drop ofs)).filterMap (fun x => bitTone (b.first + x.1) (att x.1) x.2)
    | none =>
      let r := robustR a.mode
      let blk := (s - b.h) / r
      let c := (s - b.h) % r
      let beyond := ((List.range (s - b.h)).map (fun j => (nbData b.n (b.h + j)).length - b.w)).foldl (· + ·) 0
      let carried := (List.range b.w).map (fun w => (robustTone w c r b.w, (a.stream[blk * b.w + w]?).getD false))
      pilots ++ data.zipIdx.map (fun x =>
        let v := match carried.find? (fun y => y.1 == x.2) with
          | some y => y.2
          | none => (a.pads[beyond + (x.2 - b.w)]?).getD false
        { k := b.first + x.1, re := if v then -1 else 1 })

/-- The tones of payload symbol `s` of a multi-user frame on its subchannel, before the filters (R138, R139). -/
def Air.muSymbol (a : Air) (b : BandPlan) (s : Nat) : List Tone :=
  match a.mu, a.set with
  | some j, some m =>
    let att := fun i => ((a.entry 0 (nbCentre s) (16 * j + i)).getD 0) / 8
    let md := fun i => ((a.entry 0 (nbCentre s) (16 * j + i)).getD 0) % 8
    let pilots := ((nbPilots 16 a.symbols 0 none).filter (fun x => x.1.1 == s && md x.1.2 != 0)).map
      (fun x => ({ k := b.first + 16 * j + x.1.2, re := if x.2 then -1 else 1, att := att x.1.2 } : Tone))
    let ds := (nbData 16 s).filter (fun i => md i != 0)
    let ofs := ((List.range s).map (m.muCap j a.k0 a.f)).foldl (· + ·) 0
    pilots ++ (dealBits ((rotated ds (nbFirstTone s ds.length)).map (fun i => (i, modBits (md i)))) (a.stream.drop ofs)).filterMap
      (fun x => bitTone (b.first + 16 * j + x.1) (att x.1) x.2)
  | _, _ => []

/-- The tones of channel-estimation symbol CE_q on its stream's conductor, at symbol period `t` (R155). -/
def Air.ceSymbol (a : Air) (c t : Nat) : List Tone :=
  (List.range 1728).filterMap (fun i => match a.entry c (t * 25600 + 15360) i with
    | some e => if e % 8 = 0 then none else some { k := 37 + i, re := 1, turn := (bbCePhase i, 3456), att := e / 8 }
    | none => some { k := 37 + i, re := 1, turn := (bbCePhase i, 3456) })

/-- The tones of header or payload symbol `s` on the conductor `c` of stream `q`, before the filters (R156, R159, R164, R165). -/
def Air.bbSymbol (a : Air) (c q s : Nat) : List Tone :=
  let nss := a.streams.length
  let ns := if s = 0 then 1 else nss
  let e := fun cc i => a.entry cc (bbCentre nss s) i
  let on := fun cc i => match e cc i with
    | some x => x % 8 != 0
    | none => true
  let att := fun i => ((e c i).getD 0) / 8
  let pilots := ((bbPilots nss a.symbols).filter (fun x => x.1.1 == s && x.1.2.2 == q && on c x.1.2.1)).map
    (fun x => ({ k := 37 + x.1.2.1, re := if x.2 then -1 else 1, att := att x.1.2.1 } : Tone))
  let ds := (List.range 1728).filter (fun i => decide (ns ≤ bbResidue s i))
  if s = 0 then (if q ≠ 0 then [] else pilots ++ ds.zipIdx.map (fun x => { k := 37 + x.1, re := if (a.header[x.2 % 1489]?).getD false then -1 else 1 }))
  else match a.set with
    | some m =>
      let ofs := ((List.range (s - 1)).map (fun j => m.bbCap a.streams nss a.k0 a.f (1 + j))).foldl (· + ·) 0
      let order := (rotated ds (bbFirstTone s ds.length)).flatMap (fun i => a.streams.zipIdx.map (fun y => ((i, y.2), modBits (((e y.1 i).getD 0) % 8))))
      pilots ++ (dealBits order (a.stream.drop ofs)).filterMap (fun x => if x.1.2 = q then bitTone (37 + x.1.1) (att x.1.1) x.2 else none)
    | none =>
      let bs := a.stream.drop (1674 * (s - 1))
      pilots ++ ds.zipIdx.filterMap (fun x => bitTone (37 + x.1) 0 ((bs.drop (2 * (x.2 % 837))).take 2))

/-! ## Samples -/

/-- A term of a sample (R118): the real part of a tone's value turned by `turn`, weighted by the window. `win` is none inside a symbol; else the window's length, the index in it, and whether it falls: w(n) = sin²(π(2n + 1)/(4 L)), and 1 - w(n). -/
structure Term where
  tone : Tone
  neg : Bool := false
  turn : Nat × Nat
  win : Option (Nat × Nat × Bool) := none
  /-- The nominal amplitude A (R180): as many tones of it give an RMS output of `level` in 0.25 dBµV. -/
  level : Nat := 0
  tones : Nat := 1
  /-- The gain loop's correction in 0.1 dB (R101). -/
  corr : Int := 0
deriving DecidableEq, Repr

/-- Terms of sample `n` of a symbol's own samples: prefix, core and postfix, with the window at both ends (R118, R150). -/
def symbolTerms (fft pre win : Nat) (ts : List Tone) (n : Nat) : List Term :=
  let w := if n < win then some (win, n, false) else if pre + fft ≤ n then some (win, n - pre - fft, true) else none
  ts.map (fun t => { tone := t, turn := (t.k * ((n + fft - pre) % fft) % fft, fft), win := w })

/-- Terms of sample `n` of a preamble of `segs` segments of `len` samples, the last of them negative, with its rising window and its continuation (R122, R154); `delay` is the cyclic delay within a segment. -/
def preambleTerms (fft len segs win delay : Nat) (ts : List Tone) (n : Nat) : List Term :=
  let i := (n + len - delay % len) % len
  let w := if n < win then some (win, n, false) else if segs * len ≤ n then some (win, n - segs * len, true) else none
  ts.map (fun t => { tone := t, neg := decide ((segs - 1) * len ≤ n), turn := (t.k * i % fft, fft), win := w })

/-- Terms of the symbol periods around sample `n` of a frame, period `t` carrying the tones `sym t` and `count` periods in all after a preamble of `start` samples: a symbol's own, and the postfix of the one before (R118). -/
def periodTerms (fft pre win start count : Nat) (sym : Nat → List Tone) (n : Nat) : List Term :=
  if n < start then []
  else
    let per := fft + pre
    let j := (n - start) / per
    let x := (n - start) % per
    (if j < count then symbolTerms fft pre win (sym j) x else []) ++
    (if x < win && decide (1 ≤ j) && decide (j ≤ count) then symbolTerms fft pre win (sym (j - 1)) (x + per) else [])

/-- Terms of sample `n` of a narrowband transmission (R118, R121, R122, R139). -/
def TxRec.nbTerms (x : TxRec) (n : Nat) : List Term :=
  match bandPlan x.plan with
  | none => []
  | some b =>
    let a := x.air
    let pre := match a.mu with
      | some j => nbPreTones (b.first + 16 * j) 16
      | none => nbPreTones b.first b.n
    let sym := fun s => filtered x.left (if a.mu.isSome then a.muSymbol b s else a.nbSymbol b s)
    (if n < 2304 + 32 then preambleTerms 1024 256 9 32 0 (filtered x.left pre) n else []) ++
    periodTerms 1024 128 32 2304 ((if a.mu.isSome then 0 else b.h) + a.symbols) sym n

/-- The stream a conductor carries, if any (R151). -/
def Air.streamOf (a : Air) (c : Nat) : Option Nat := a.streams.findIdx? (· == c)

/-- Terms of sample `n` of a broadband transmission on conductor `c`, the `r`-th lowest of its set (R150, R151, R153, R154). -/
def TxRec.bbTerms (x : TxRec) (c r n : Nat) : List Term :=
  let a := x.air
  let pre := bbPreamble.map (fun y => ({ k := y.1, re := 1, turn := (y.2, 432) } : Tone))
  let nss := a.streams.length
  let sym := fun j => match a.streamOf c with
    | none => []
    | some q => filtered x.left (
        if j = 0 then (if q = 0 then a.ceSymbol c 1 else [])
        else if j = 1 then a.bbSymbol c q 0
        else if j < nss + 1 then (if q + 1 = j then a.ceSymbol c (j + 1) else [])
        else a.bbSymbol c q (j - nss))
  (if n < 5120 + 128 then preambleTerms 4096 512 10 128 (128 * r) (filtered x.left pre) n else []) ++
  periodTerms 4096 1024 128 5120 (if x.ack then 2 else 1 + nss + a.symbols) sym n

/-- What stands at conductor `c`'s converter at edge `e` (R24, R110, R118, R150, R195): the sum of its narrowband and broadband samples, inverted where the conductor's polarity is. -/
def State.lineTerms (s : State) (p c e : Nat) : List Term :=
  let k := s.cond p c
  let inv := s.rb (Reg.LFE_POL_STAT p) c
  let nb := match k.nb with
    | some x => x.nbTerms ((e - x.start) * 2 / 1875)
    | none => []
  let bb := match k.bb with
    | some x => x.bbTerms c (((List.range c).filter (fun i => (s.cond p i).bb == some x)).length) ((e - x.start) * 2 / 15)
    | none => []
  let put := fun (n : Nat) (t : Term) => { t with neg := t.neg != inv, level := s.af (Reg.LFE_TX_LVL_MAX p c) 0 10, tones := n, corr := signedField 10 (s.rf (Reg.LFE_LOOP_STAT p c) 0 10) }
  nb.map (put (((k.nb.bind (fun x => bandPlan x.plan)).map BandPlan.n).getD 1)) ++ bb.map (put 1728)

/-! ## Filters at a transmission -/

/-- The tones of a PHY that the filters let through, each with its mask attenuation in 0.5 dB (R195, R196). -/
def State.passed (s : State) (p : Nat) (bb : Bool) (plan : Nat) : List (Nat × Nat) :=
  let bands := s.notchBands p ++ s.exclBands p
  (tonesOf bb plan).filterMap (fun k => let m := s.maskByte p bb k
    if m == 255 || bands.any (fun e => hits bb k e.1 e.2.1) then none else some (k, m))

/-- Tones let through before and after a change of filters, each with the tighter of its two masks (R198). -/
def tighter (old new : List (Nat × Nat)) : List (Nat × Nat) :=
  old.filterMap (fun x => (new.find? (fun y => y.1 == x.1)).map (fun y => (x.1, max x.2 y.2)))

end Sys2Proof.Machine
end

