-- ==== Sys2Proof/Machine/Transmit.lean ====
section
/-! DEFINITION. What the fixtures of the line do as they fire: transmissions, acknowledgements and receive windows (R81, R91, R98, R141 to R143, R166 to R170, R197, R210, R224). -/

namespace Sys2Proof.Machine

/-! ## Conductor time (R67, R203) -/

/-- The start slice of a frame at edge `t`, snapped to the nearest boundary of its timing conductor (R177). -/
def State.startSlice (s : State) (p c t : Nat) : Nat := ((s.condLt p c (s.ltAt t)) % 2 ^ 32 * 48 + 2 ^ 31) / 2 ^ 32 % 48

/-- Distance in ns of edge `t` from the nearest slice boundary of a conductor (R177). -/
def State.snapError (s : State) (p c t : Nat) : Nat :=
  let x := (s.condLt p c (s.ltAt t)) % 2 ^ 32 * 48 % 2 ^ 32
  (s.nsOfUnits ((min x (2 ^ 32 - x) : Nat) / 48 : Nat)).toNat

/-- An entry of a grant its peer has not acknowledged, and that the former bank did not hold, is RESERVED until the superframe after the acknowledgement (R221). -/
def State.slotHeld (s : State) (p : Nat) (e : SlotEntry) : Bool :=
  let old := 1 - (s.page (0x061 + 4 * p)).active
  s.mac.grantsOut.any (fun g => g.port == p && (g.peer == e.peer || g.peer == e.peer2) && (g.acked == 0 || ! s.sfReached s.sfNow g.acked)) &&
    ! ((s.schedValid p old).map (s.schedEntry p old)).contains e

/-- The active schedule entry of port `p` whose slot holds line time `l` on conductor `c`, for narrowband or broadband (R216). -/
def State.slotAt (s : State) (p c l : Nat) (bb : Bool) : Option SlotEntry :=
  let bank := (s.page (0x061 + 4 * p)).active
  let (m, u) := s.sfSlice p c l
  ((s.schedValid p bank).map (s.schedEntry p bank)).find? (fun e =>
    e.isBb == bb && e.cond == c && m % 2 ^ e.repExp == e.ph && ! s.slotHeld p e && decide (e.start ≤ u) && decide (u < e.start + e.len))

/-- The entries of the active schedule whose slots hold line time `l` on conductor `c`, those whose grant is not in force among them (R216). -/
def State.slotsOn (s : State) (p c l : Nat) : List SlotEntry :=
  let bank := (s.page (0x061 + 4 * p)).active
  ((s.schedValid p bank).map (s.schedEntry p bank)).filter (fun e =>
    let (m, u) := s.sfSlice p e.cond l
    e.conds.contains c && m % 2 ^ e.repExp == e.ph && decide (e.start ≤ u) && decide (u < e.start + e.len))

/-- First transmit descriptor of the link layer's own frames; frame `id` uses this one plus its number. -/
abbrev contBase : Nat := 2 ^ 29

/-- First transmit descriptor of beacons; that of conductor `c` of port `p` is this one plus `4p + c`. -/
abbrev bcnBase : Nat := 2 ^ 30

/-- A TX_START for descriptor `d` stands armed. -/
def State.txArmed (s : State) (d : Nat) : Bool := s.fix.entries.any (fun e => e.2.armed && e.2.action == 1 && e.2.arg1 == d)

/-! ## What forbids a transmission (R91) -/

/-- A master holds a red card (R518). -/
def State.carded (s : State) (m : Nat) : Bool := (tget ({} : MasterSt) s.ump.masters m).card

/-- An engine, or a DMA channel it owns, holds a red card (R91). -/
def State.engCarded (s : State) (l : Nat) : Bool :=
  s.carded l || s.ump.masters.any (fun x => decide (0x100 ≤ x.1) && decide (x.1 < 0x140) && x.2.owner == l && x.2.card)

/-- The link to the die of the port that an LFE page belongs to is down: the target of its fixtures is not ready (R91, R539). -/
def State.dieDown (s : State) (f : Fixture) : Bool :=
  (f.action == 0x01 || f.action == 0x02 || f.action == 0x03) &&
    ((tfind s.bench.retrain ((f.target - 0x030) / 8)).isSome || (f.action != 0x02 && (tfind s.bench.retrain (2 + (f.target - 0x030) / 8)).isSome))

/-- What stops an entry beside its own target (R91, R503, R520, R565): boundary scan in force, a red card of an engine it names or of its channel, an engine halted by debug, or a die that is not ready. -/
def State.fixHeld (s : State) (f : Fixture) : Option Status :=
  if s.tapHolds then some Status.refused
  else if (s.enginesOf f).any s.engCarded then some Status.abortedByCard
  else if (s.enginesOf f).any s.dap.halted.contains || s.dieDown f then some Status.deadlineMissed
  else none

/-- A loopback test holds the conductor (R562). -/
def State.loopHolds (s : State) (p c : Nat) : Bool := s.tst == some (3, p, c) && (s.loopStart p c).isSome

/-- Enables, mode, hold and conductor state permit a transmission (R91, R108). -/
def State.txEnabled (s : State) (p c : Nat) (bb : Bool) (cs : List Nat) : Bool :=
  s.blkEn (0x031 + 4 * p) && ! s.rb Reg.LTIME_TRK_STAT 8 && s.mayTransmit p && s.txPermitted && ! cs.any (s.loopHolds p) &&
  (if bb then cs.all (fun c => s.rb (Reg.LFE_PORT_CTL p) c && s.rb (Reg.BBP_BB_CTL p) c && ! (s.cond p c).stopped)
   else s.rb (Reg.LFE_PORT_CTL p) c && s.rb (Reg.NBP_NB_CTL p) c && s.af (Reg.NBP_BAND p c) 0 3 != 0 && ! (s.cond p c).stopped)

/-- A transmission stands in the way (R143, R167). -/
def State.txBusy (s : State) (p c : Nat) (bb : Bool) : Bool :=
  if bb then (List.range 3).any (fun c => (s.cond p c).bb.isSome) else (s.cond p c).nb.isSome

/-- The conductor's band plan. -/
def State.planOf (s : State) (p c : Nat) : Option BandPlan := bandPlan (s.af (Reg.NBP_BAND p c) 0 3)

/-- The level in 131.5 to 133.5 kHz has reached `BUSY_THR` within the last `BUSY_MS` (R141): `levels` are the levels measured before the fire, each with how many edges before. -/
def State.bandBusy (s : State) (p : Nat) (levels : List (Nat × Nat)) : Bool :=
  levels.any (fun x => decide (x.1 ≤ s.rf (Reg.NBP_CSMA_C_CFG0 p) 8 8 * msec) && decide (s.rf (Reg.NBP_CSMA_C_CFG0 p) 0 8 ≤ x.2))

/-- A measured busy level is remembered for `CSMA_C_STAT_c.BUSY` (R148). -/
def State.noteBusy (s : State) (p c : Nat) (busy : Bool) : State :=
  if busy then s.setCond p c { s.cond p c with busyAt := s.now + 1 } else s

/-- Two intervals that recur every `per` edges meet, the first from `a` for `n` edges. -/
def recurs (per a n b m : Nat) : Bool := decide ((b + per - a % per) % per < n) || decide ((a + per - b % per) % per < m)

/-- ISP yielding holds off broadband (R170): nothing is sent until an allocation is decoded, nor what would cross a forbidden interval in the `dur` edges from now. -/
def State.ispHolds (s : State) (p dur : Nat) : Bool :=
  s.rb (Reg.BBP_ISP_STAT p) 0 && s.rb (Reg.BBP_ISP_CFG p) 1 &&
  (match s.air.isp.find? (fun x => x.1 == p) with
   | some x => (match x.2.alloc with
     | some a => a.period == 0 || a.off.any (fun y => recurs a.period s.now dur (a.base + y.1) y.2)
     | none => true)
   | none => true)

/-! ## Frames to be sent -/

/-- The next `SEED`: a free-running 15-bit counter that skips 0 (R128). -/
def State.nextSeed (s : State) : State × Nat :=
  let v := s.link.seed % 32767 + 1
  ({ s with link := { s.link with seed := v } }, v)

/-- `S_CODE` of the superframe after the one of number `m` (R206, R208): following a beacon, what it announced; else the waiting one where the next superframe's first cycle is aligned to both. -/
def State.nextSCode (s : State) (m : Nat) : Nat :=
  let cur := s.rf (Reg.MAC_SF_STAT 0) 0 3
  if ! s.rb (Reg.MAC_SF_STAT 0) 3 then cur
  else if s.followsS then ofLE s.mac.up.beacon / 2 ^ 88 % 8
  else
    let new := s.af (Reg.MAC_SF_CFG 0) 0 3
    if (m + 1) * s.sfCycles % max (sfLen cur) (sfLen new) = 0 then new else cur

/-- The body of the beacon due at line time `l` (R208). -/
def State.beaconBody (s : State) (p c l : Nat) : List Byte :=
  let cfg := s.act (Reg.MAC_SF_CFG p)
  let sCode := s.rf (Reg.MAC_SF_STAT 0) 0 3
  let nextS := s.nextSCode (s.sfSlice p c l).1
  let bandC := ((s.planOf p c).map BandPlan.bandC).getD false
  let n := 1 + (if s.rb (Reg.NBP_MAP_CFG 0) 0 then 2 ^ 5 else 0) + sCode * 2 ^ 6 + c * 2 ^ 9 + (if bandC then 2 ^ 11 else 0) +
    (s.sfSlice p c l).1 * s.sfCycles % 2 ^ 32 * 2 ^ 12 + fld cfg 16 12 * 2 ^ 68 + fld cfg 8 4 * 2 ^ 80 + s.quietSl * 2 ^ 84 +
    nextS * 2 ^ 88 + s.rf (Reg.MAC_NET_ID p) 0 16 * 2 ^ 104 + (s.page (0x061 + 4 * p)).epoch % 256 * 2 ^ 120
  leBytes 16 n

/-- A relayed beacon body (R211): the tracked one with the relay's own marks; in COAST its `CYCLE` advanced to this superframe. -/
def State.relayedBody (s : State) (p c l : Nat) : List Byte :=
  let n := ofLE s.mac.up.beacon
  let put := fun (n lo w v : Nat) => n - n / 2 ^ lo % 2 ^ w * 2 ^ lo + v % 2 ^ w * 2 ^ lo
  let (m, u) := s.sfSlice p c l
  let n1 := put (put (put (put (put n 4 1 1) 44 20 (s.ownShort p)) 64 4 (n / 2 ^ 64 % 16 + 1)) 9 2 c) 92 12 u
  leBytes 16 (if s.rf (Reg.MAC_UP_STAT p) 0 2 = 2 then put n1 12 32 (m * s.sfCycles) else n1)

/-- The repair a new frame to a peer can carry (R254): the lowest version waiting first (R194). -/
def State.pendingRepair (s : State) (o : OutFrame) : Option (Nat × SentFrame × Repair) :=
  let l := s.link.sent.filterMap (fun x => match x.2.repair with
    | some r => if r.carrier.isNone && x.2.out.port = o.port && x.2.out.bb = o.bb && (o.bb || x.2.out.cond = o.cond) && x.2.out.peer = o.peer && x.2.out.long = o.long then some (x.1, x.2, r) else none
    | none => none)
  argMin (fun x => x.2.2.ver) l

/-- The link-layer frame a new outbox frame gives, with the repair it carries; `none` where it cannot be built. A multi-user frame carries no retransmitted codeword (R139). -/
def State.newFrame (s : State) (o : OutFrame) (mu : Bool) : State × Option (SentFrame × Option (Nat × SentFrame × Repair)) :=
  let rep := if o.long.isNone && ! isGroup o.peer && ! mu then s.pendingRepair o else none
  match s.buildFrame o (rep.map (fun r => irdValue r.2.1.seed r.2.2)) with
  | (s1, none) => (s1, none)
  | (s1, some (b, cnt)) => (s1, some ({ out := o, bytes := b, seed := 0, fcnt := cnt, startSf := s.sfNow }, rep))

/-- The outbox frame of a message segment (R273, R275). -/
def State.segFrame (s : State) (m k : Nat) (r : MsgRec) : OutFrame :=
  let e := s.ep r.dst
  { id := 0, port := e.port, bb := e.bb, cond := e.cond, peer := e.firstHop r.dst, mgmt := false, prio := r.prio
    body := e.downHeader r.dst ++ r.segment k, msg := some (m, k) }

/-- A message segment waits to be sent (R274, R292, R295). -/
def State.segWaits (s : State) (m k : Nat) (r : MsgRec) : Bool :=
  ! r.plain && ! r.handed && ! isGroup r.dst && decide (k < r.segments) && ! r.acked.contains k && (r.kind == 1 || s.inWindow m) && s.maySend r &&
  ! (s.ep r.dst).noRoute && ! s.link.sent.any (fun x => x.2.out.msg == some (m, k)) &&
  ! s.net.coop.any (fun w => w.msg == m && w.seg == k && ! w.unicast)

/-- A message segment may be sent now: none of an earlier message to its endpoint waits, which go in submission order (R292), and it does not go cooperatively (R276). -/
def State.segReady (s : State) (m k : Nat) (r : MsgRec) : Bool :=
  s.segWaits m k r &&
  ! (r.kind == 0 && s.msg.msgs.any (fun y => y.2.kind == 0 && y.2.dst == r.dst && decide (y.1 < m) && (List.range y.2.segments).any (fun j => s.segWaits y.1 j y.2))) &&
  ! (s.coopWanted r && (s.ep r.dst).routeMode == 2 && ! s.net.coop.any (fun w => w.msg == m && w.seg == k && w.unicast))

/-- The first transmission of a message's send has begun (R295). -/
def State.msgBegun (s : State) (o : OutFrame) : State :=
  match o.msg with
  | none => s
  | some (m, _) => match s.mrec m with
    | none => s
    | some r => s.setMsg m (if r.begun then r else { r with begun := true, sends := min 255 (r.sends + 1) })

/-- The cooperative link-layer frame for an endpoint (R277). -/
def State.coopFrame (s : State) (x : Nat) (r : MsgRec) (k : Nat) : State × Option (List Byte) :=
  let e := s.ep x
  let fctl := r.prio * 8 + 32 + 64 + 4096
  let head := leBytes 2 fctl ++ leBytes 2 (e.coopFcnt % 4096) ++ leBytes 2 (s.netId e.port) ++ leBytes 3 x ++ leBytes 3 0 ++ leBytes 2 e.kepoch ++ leBytes 4 e.coopFcnt
  let body := netHeader 1 0 0 x (leBytes 1 0) ++ r.segment k
  match s.linkKeyOf e.port s.ownLong e.long e.kepoch with
  | none => (s, none)
  | some key =>
    let (ct, tag) := gcmSeal 12 key (linkIv s.ownLong e.coopFcnt) head body
    let raw := head ++ ct ++ tag
    (s.setEp x { e with coopFcnt := (e.coopFcnt + 1) % 2 ^ 32 }, some (raw ++ leBytes 4 (crc32c raw)))

/-- A carry of segment `k` to a relay of the COOP set (R277, R278): the cooperative frame is built with the first carry, and repeated byte for byte with a new seed after a failed attempt. -/
def State.carryFrame (s : State) (m k relay : Nat) (r : MsgRec) : State × Option OutFrame :=
  match s.coopSlots r.dst with
  | none => (s, none)
  | some (e, relays) =>
    let w0 := s.net.coop.find? (fun w => w.msg == m && w.seg == k)
    let beyond := (w0.map (·.unicast)).getD false
    let again := (w0.map (fun w => w.relays.contains relay)).getD false
    if ! s.coopFits r.dst || ! relays.contains relay || beyond || again || ((w0.map (·.relays.isEmpty)).getD true && ! s.coopWanted r) then (s, none)
    else
      let built : State × Option CoopWait := match w0 with
        | some w => if w.relays.isEmpty then
            (let (s1, sd) := s.nextSeed
             let o := s1.coopOccurrence e
             (s1, some { w with seed := sd, sf := o.1, cyc := o.2, u := e.start, results := 0 })) else (s, some w)
        | none => match s.coopFrame r.dst r k with
          | (s1, none) => (s1, none)
          | (s1, some b) =>
            let (s2, sd) := s1.nextSeed
            let o := s2.coopOccurrence e
            (s2, some { msg := m, seg := k, dst := r.dst, frame := b, seed := sd, cyc := o.2, u := e.start, sf := o.1, relays := [] })
      match built with
      | (s1, none) => (s1, none)
      | (s1, some w) =>
        let w1 : CoopWait := { w with relays := w.relays ++ [relay] }
        let s2 := { s1 with net := { s1.net with coop := s1.net.coop.filter (fun y => ! (y.msg == m && y.seg == k)) ++ [w1] } }
        let hd := netHeader 3 0 0 r.dst (leBytes 4 w1.cyc ++ leBytes 2 w1.u ++ leBytes 2 w1.seed ++ leBytes 1 (s.rf Reg.NET_COOP_CFG 1 2) ++ leBytes 2 w1.frame.length)
        let er := s.ep relay
        (s2, some { id := 0, port := er.port, cond := er.cond, peer := relay, mgmt := false, prio := r.prio, body := hd ++ w1.frame, msg := some (m, k), coop := some r.dst })

/-- The carry a relay sends in the slot that starts now, under an active COOP_TX grant (R278). -/
def State.carryNow (s : State) (p c : Nat) : Option Carry :=
  let (m, u) := s.sfSlice p c s.lt
  let cyc := (m * s.sfCycles + u / 48) % 2 ^ 32
  let granted := s.mac.up.inForce && s.mac.up.grants.any (fun g => g.kind == 7 && g.start == u && g.cond == c && m % 2 ^ g.repExp == g.ph)
  if granted then s.net.carries.find? (fun x => x.port == p && x.cond == c && x.cyc == cyc && x.u == u) else none

/-- What a descriptor gives to send: the frame, whether it goes to the neighbour's acknowledgement, and the repair it carries; `none` where there is nothing to send. -/
def State.txFrame (s : State) (p c d : Nat) (x : TxDesc) : State × Option (SentFrame × Option (Nat × SentFrame × Repair)) :=
  let fresh := fun (s : State) (o : OutFrame) =>
    if o.port = p && o.bb = x.bb && (o.cond = c || isGroup o.peer) then s.newFrame { o with cond := c } x.mu.isSome else (s, none)
  match x.kind with
  | .beacon => (s, none)
  | .out id => match s.link.outbox.find? (fun o => o.id == id && (match o.msg.bind (fun y => s.mrec y.1) with | some r => s.maySend r | none => true)) with
    | none => (s, none)
    | some o1 => let (s00, o0) := s.parentStamp o1
      let (s0, o) := s00.mcStamp o0
      match fresh s0 o with
      | (s1, some f) => ((s1.cutOutbox (fun y => y.id == id)).floodGone id true, some f)
      -- With the neighbour table full the frame is discarded and counted (R255).
      | (s1, none) => if o.port = p && (o.long.isSome || ! isGroup o.peer) && s0.nbrFull p o.peer o.long then (s1.cutOutbox (fun y => y.id == id), none) else (s, none)
  | .again => match s.sentOf d with
    | some f => if f.again && (match f.out.msg.bind (fun y => s.mrec y.1) with | some r => s.maySend r | none => true) then (s.incF (Reg.MAC_LL_TX p) 0 16, some ({ f with again := false, wait := true, startSf := s.sfNow, endAt := 0 }, none)) else (s, none)
    | none => (s, none)
  | .seg m k => match s.mrec m with
    | some r => if s.segReady m k r then (match fresh s (s.segFrame m k r) with
        | (s1, some f) => (s1, some f)
        | (s1, none) => (if s.nbrFull p (s.segFrame m k r).peer none then s1 else s, none)) else (s, none)
    | none => (s, none)
  | .carry m k relay => match s.mrec m with
    | some r => if s.maySend r && ! r.plain && ! r.handed && ! r.acked.contains k then
        (match s.carryFrame m k relay r with
         | (s1, some o) => (match fresh s1 o with
           | (s2, some f) => (s2, some f)
           | (_, none) => (s, none))
         | (_, none) => (s, none)) else (s, none)
    | none => (s, none)
  | .coop _ => match s.carryNow p c with
    | some cy => ({ s with net := { s.net with carries := s.net.carries.erase cy } },
        some ({ out := { id := 0, port := p, cond := c, peer := cy.dst, mgmt := false, body := [] }, bytes := cy.frame, seed := cy.seed, startSf := s.sfNow, coop := some cy }, none))
    | none => (s, none)
  | .sound _ => (s, none)
  | .raw b => (s, some ({ out := { id := 0, port := p, bb := x.bb, cond := c, peer := 0xFFFFF, ar := false, sec := false, body := b }, bytes := b, seed := 0, startSf := s.sfNow }, none))
  | .repair peer =>
    let o : OutFrame := { id := 0, port := p, bb := x.bb, cond := c, peer := peer, prio := 2, body := leBytes 1 8 }
    match s.pendingRepair o with
    | some r => s.newFrame { o with prio := r.2.1.out.prio } x.mu.isSome
    | none => (s, none)

/-! ## A frame in the air -/

/-- How a frame of `len` bytes goes out: mode or robust mark, map, payload symbols and edges, with the verdict of R197 (2 refuses). -/
structure TxPlan where
  verdict : Nat
  mode : Nat
  mapId : Nat
  symbols : Nat
  edges : Nat
  resident : Bool
  /-- The tones that carry data, and the map set with its start slice, the nominal frequency and the rate code. -/
  tones : List Nat := []
  set : Option MapSet := none
  k0 : Nat := 0
  f : Nat := 50
  rate : Nat := 0
deriving DecidableEq, Repr

/-- Maps of the groups a mapped frame uses, over its payload symbols. -/
def MapSet.used_ (m : MapSet) (conds : List Nat) (centre : Nat → Nat) (k0 f s0 n : Nat) : List (List Nat) :=
  let gs := ((List.range n).map (fun j => (m.part[symbolSlice k0 (centre (s0 + j)) f]?).getD 0)).eraseDups
  gs.flatMap (fun g => let x := ((m.groups[g]?).getD {}).maps; conds.map (fun c => ((if m.bb then x[c]? else x[0]?).getD [])))

/-- The tones that some map of a frame loads. -/
def loadedTones (bb : Bool) (plan : Nat) (maps : List (List Nat)) : List Nat :=
  (tonesOf bb plan).zipIdx.filterMap (fun x => if maps.any (fun m => (m[x.2]?).getD 0 % 8 != 0) then some x.1 else none)

/-- The plan of a narrowband frame (R134, R136, R137, R184, R197, log entry 174). -/
def State.nbPlan (s : State) (p c peer mode len nrt : Nat) : TxPlan :=
  let plan := s.af (Reg.NBP_BAND p c) 0 3
  match bandPlan plan with
  | none => { verdict := 2, mode := 1, mapId := 0, symbols := 0, edges := 0, resident := true }
  | some b =>
    let rob := fun (md v : Nat) => ({ verdict := if s.robustLeft p false plan then v else 2, mode := md, mapId := 0
                                      symbols := robustSymbols b md len nrt, edges := nbEdges b (robustSymbols b md len nrt), resident := true, tones := tonesOf false plan } : TxPlan)
    let k := linkKey (if isGroup peer then 0xFFFFF else peer) p false c false
    let id := s.txMapId p false c peer
    match (if mode ≠ 0 || id = 0 then none else s.setNamed k id) with
    | none => rob (if mode = 0 then 1 else mode) 0
    | some m =>
      let k0 := s.startSlice p c s.now
      let f := s.fNom p
      match m.nbSymbols b k0 f len nrt with
      | none => rob 1 0
      | some n => match s.verdict p false plan (m.used_ [0] nbCentre k0 f b.h n) with
        | 0 => { verdict := 0, mode := 0, mapId := id, symbols := n, edges := nbEdges b n, resident := s.isResident m
                 tones := loadedTones false plan (m.used_ [0] nbCentre k0 f b.h n), set := some m, k0 := k0, f := f, rate := (m.groupAt k0 f b.h).rate }
        | 1 => rob 1 1
        | _ => { verdict := 2, mode := 0, mapId := id, symbols := n, edges := nbEdges b n, resident := true }

/-- The plan of a multi-user frame on subchannel `j` (R139, R178, R179): its slot gives the payload symbols and the map set, of which it uses the subchannel's tones. -/
def State.muPlan (s : State) (p c peer j lt : Nat) : TxPlan :=
  let plan := s.af (Reg.NBP_BAND p c) 0 3
  let no : TxPlan := { verdict := 3, mode := 0, mapId := 0, symbols := 0, edges := 0, resident := true }
  match s.slotAt p c lt false with
  | none => no
  | some e => if e.kind ≠ 3 || e.subch ≠ j then no
    else match s.setNamed (linkKey peer p false c false) e.mapId with
      | none => no
      | some m =>
        let part := fun (x : List Nat) => x.zipIdx.map (fun y => if y.2 / 16 = j then y.1 else 0)
        let k0 := s.startSlice p c s.now
        let f := s.fNom p
        let rate := (m.groupAt k0 f 0).rate
        let maps := (m.used_ [0] nbCentre k0 f 0 e.nsym).map part
        -- There is no robust multi-user frame: one that loses more than `ERASE_MAX` is refused (log entry 172).
        let vs := maps.map (fun x => s.tonesVerdict p false (((tonesOf false plan).zip x).filter (fun y => decide ((y.1 - ((bandPlan plan).map BandPlan.first).getD 0) / 16 = j))))
        { verdict := if vs.any (fun v => v != 0) then 2 else 0, mode := 0, mapId := e.mapId, symbols := e.nsym
          edges := (2 + e.nsym) * 720 * usec, resident := s.isResident m, tones := loadedTones false plan maps, set := some m, k0 := k0, f := f, rate := rate }

/-- The plan of a broadband frame (R153, R164, R165, R168, R184, R197). -/
def State.bbPlan (s : State) (p peer cset nss mode len nrt : Nat) : TxPlan :=
  let cs := csetList cset
  let n0 := bbRobustSymbols len nrt
  let rob := fun (v : Nat) => ({ verdict := if s.robustLeft p true 0 then v else 2, mode := 1, mapId := 0, symbols := n0, edges := bbEdges 1 n0, resident := true, tones := tonesOf true 0 } : TxPlan)
  let c := (cs.head?).getD 0
  let k := linkKey (if isGroup peer then 0xFFFFF else peer) p true 0 false
  let id := s.txMapId p true 0 peer
  match (if mode ≠ 0 || id = 0 then none else s.setNamed k id) with
  | none => rob 0
  | some m =>
    let k0 := s.startSlice p c s.now
    let f := s.fNom p
    match m.bbSymbols cs nss k0 f len nrt with
    | none => { verdict := 0, mode := 0, mapId := id, symbols := 513, edges := bbEdges nss 513, resident := true }
    | some n => match s.verdict p true 0 (m.used_ (cs.take nss) (bbCentre nss) k0 f 1 n) with
      | 0 => { verdict := 0, mode := 0, mapId := id, symbols := n, edges := bbEdges nss n, resident := s.isResident m
               tones := loadedTones true 0 (m.used_ (cs.take nss) (bbCentre nss) k0 f 1 n), set := some m, k0 := k0, f := f
               rate := ((m.groups[(m.part[symbolSlice k0 (bbCentre nss 1) f]?).getD 0]?).getD {}).rate }
      | 1 => rob 1
      | _ => { verdict := 2, mode := 0, mapId := id, symbols := n, edges := bbEdges nss n, resident := true }

/-- `TX_REF` of the PHY: refused with EXCLUDED_BAND, or skipped behind another transmission (R148, R174). -/
def State.txRef (s : State) (p c : Nat) (bb skipped : Bool) : State :=
  let lo := if skipped then 16 else 0
  if bb then s.incF (Reg.BBP_TX_REF p) lo 16 else s.incF (Reg.NBP_TX_REF p c) lo 16

/-- A transmission starts on its conductors (R98, R120): recorded with what it carries and what the filters let through, and the receive gain held. -/
def State.txGo (s : State) (p : Nat) (cs : List Nat) (bb ack : Bool) (d edges : Nat) (frame : List Byte) (air : Air) : State :=
  let plan := if bb then 0 else s.af (Reg.NBP_BAND p ((cs.head?).getD 0)) 0 3
  let rec_ : TxRec := { desc := d, start := s.now, dur := edges, ack := ack, frame := frame, plan := plan, air := air, left := s.passed p bb plan }
  let s1 := cs.foldl (fun s c =>
    let k := s.cond p c
    (s.setCond p c (if bb then { k with bb := some rec_ } else { k with nb := some rec_ })).holdGain p c) s
  { s1 with descs := tdel s1.descs d }

/-- What a narrowband frame in a robust mode carries (R137). -/
def robustAir (b : BandPlan) (plan mode seed : Nat) (header body : List Byte) (rv : Nat) (again : List (Nat × List Bool)) : Air :=
  airNb b mode 0 none 0 50 (robustSymbols b mode body.length again.length) seed header body rv again (tonesOf false plan)

/-- The beacon skipped is one of those that R210 counts: holdover, a conductor fault, or the quiet region (a busy band C counts in `beaconStart`). -/
def State.bcnCounts (s : State) (p c l edges : Nat) : Bool := s.rb Reg.LTIME_TRK_STAT 8 || (s.cond p c).stopped || s.quiet || s.meetsQuiet l edges

/-- `BCN_CNT_c` of a beacon skipped, with its cause (R210). -/
def State.bcnSkipped (s : State) (p c : Nat) : State := (s.incF (Reg.MAC_BCN_CNT p c) 16 16).cause (0x063 + 4 * p) 0

/-- A TX_START is skipped (R91): a beacon counts among the skipped ones, and a message whose every transmission was refused by the filters ends with EXCLUDED_BAND (R296). -/
def State.txSkip (s : State) (i p c : Nat) (x : TxDesc) (st : Status) : State :=
  let s1 := s.skip i st
  let edges := ((s.planOf p c).map (fun b => nbEdges b (robustSymbols b (s.af (Reg.MAC_SF_CFG p) 4 2) 16 0))).getD 0
  let s2 := if x.kind = .beacon && ! s.isUp p && s.bcnCounts p c (s.fixt i).lt edges then s1.bcnSkipped p c else s1
  if st ≠ Status.excludedBand then s2 else match x.kind with
  | .seg m _ => match s2.mrec m with
    | some r => if r.begun || r.sends ≠ 0 then s2 else s2.msgResolve m .excludedBand 0 0 []
    | none => s2
  | .out id =>
    let s3 := { s2 with link := { s2.link with outbox := s2.link.outbox.map (fun (o : OutFrame) => if o.id == id then { o with refused := true } else o) } }
    match (s3.link.outbox.find? (fun o => o.id == id)).bind (·.msg) with
    | some (m, _) => match s3.mrec m with
      | some r => if r.begun || r.sends ≠ 0 || s3.link.outbox.any (fun o => (o.msg.map Prod.fst) == some m && ! o.refused) then s3
                  else s3.msgResolve m .excludedBand 0 0 []
      | none => s3
    | none => s3
  | _ => s2

/-- The fixture fires, and its descriptor completes with RESOURCE_RETRY: a busy band C, with the cause `DEFER`, or a forbidden ISP interval (R141, R148, R170). -/
def State.txDefer (s : State) (i p c d : Nat) (bb : Bool) : State :=
  let s1 := (s.fired i).descDone d .resourceRetry
  if bb then s1.incF (Reg.BBP_ISP_STAT p) 16 16 else (s1.incF (Reg.NBP_CSMA_C_STAT p c) 16 16).cause (0x043 + 4 * p) 0

/-- A grant of kind RB_TX on conductor `c` starts at slice `x` of its superframe (R211, R220). -/
def State.rbGranted (s : State) (c : Nat) (x : Nat × Nat) : Bool :=
  s.mac.up.grants.any (fun g => g.kind == 6 && g.cond == c && x.1 % 2 ^ g.repExp == g.ph && g.start == x.2)

/-- Superframe and slice of the slice boundary next to line time `l` on a conductor. -/
def State.nearSlice (s : State) (p c l : Nat) : Nat × Nat := s.sfSlice p c (wrap64 (l + 2 ^ 32 / 96))

/-- Nothing of a beacon is due at line time `l` (R210, R211): a coordinator's starts with its superframe, a relayed one with a granted slot in RELAY mode, with a tracked beacon of the same superframe unless the state is COAST and of fewer than 15 hops; and each is sent once in a superframe. That a fixture elsewhere sends none is the model's reading (log entry 177). -/
def State.noBeacon (s : State) (p c l : Nat) : Bool :=
  let (m, u) := s.nearSlice p c l
  let b := ofLE s.mac.up.beacon
  (s.cond p c).bcnSf == m + 1 ||
  (if s.isUp p then s.mode != 5 || ! s.rbGranted c (m, u) || ! s.mac.up.inForce || s.mac.up.beacon.isEmpty || b / 2 ^ 64 % 16 == 15
      || (s.rf (Reg.MAC_UP_STAT p) 0 2 != 2 && b / 2 ^ 12 % 2 ^ 32 / s.sfCycles != m)
   else u != 0)

/-- A beacon goes out, or its fixture is skipped (R207, R210, R211). -/
def State.beaconStart (s : State) (i p c d : Nat) (x : TxDesc) : State :=
  match s.planOf p c with
  | none => s.txSkip i p c x .refused
  | some b =>
    let md := s.af (Reg.MAC_SF_CFG p) 4 2
    let l := wrap64 ((s.fixt i).lt + 2 ^ 32 / 96)
    let body := if s.isUp p then s.relayedBody p c l else s.beaconBody p c l
    let edges := nbEdges b (robustSymbols b md 16 0)
    if s.noBeacon p c (s.fixt i).lt || s.meetsQuiet (s.fixt i).lt edges then s.txSkip i p c x .refused
    else if s.txBusy p c false then (s.txSkip i p c x .refused).txRef p c false true
    else if s.muted p then s.txSkip i p c x .excludedBand
    else if ! s.robustLeft p false (s.af (Reg.NBP_BAND p c) 0 3) || (b.bandC && s.toneOff p false 85) then (s.txSkip i p c x .excludedBand).txRef p c false false
    else if b.bandC && (s.bandBusy p x.bandC || s.inPause p c) then
      let s1 := (s.txDefer i p c d false).noteBusy p c (s.bandBusy p x.bandC)
      if s.isUp p then s1 else s1.bcnSkipped p c
    else
      let (s1, sd) := s.nextSeed
      let h : NbHdr := { typ := 2, mode := md, mapId := 0, len := 16, seed := sd, rv := 0, nrt := 0 }
      let s2 := (s1.fired i).txGo p [c] false false d edges (nbHeader h.value ++ body) (robustAir b (s.af (Reg.NBP_BAND p c) 0 3) md sd (nbHeader h.value) body 0 [])
      (s2.setCond p c { s2.cond p c with bcnSf := (s.nearSlice p c (s.fixt i).lt).1 + 1 }).incF (Reg.MAC_BCN_CNT p c) 0 16

/-- What an upstream port does not send: nothing in SEARCH and REACQ (R227, R228), and nothing but ASSOC_REQ without a short address, or before the acknowledgement of the frame that gave it (R257). -/
def State.upSilent (s : State) (p : Nat) (o : OutFrame) : Bool :=
  s.isUp p && (! s.mac.up.inForce || ((s.ownShort p == 0xFFFFE || s.link.acks.any (fun y => y.2.port == p)) && ! (o.mgmt && leAt o.body 0 1 == 1)))

/-- Edges of the acknowledgement hold after a frame of a PHY (R212, R246): the broadband one lasts to the end of the latest acknowledgement. -/
def State.holdEdges (s : State) (p c : Nat) (bb : Bool) : Nat :=
  if bb then ackDeadline true + 76800 * 3 / 2 else ((s.planOf p c).map ackHold).getD 0

/-- A slot in which the frame is due forbids it (R217, R218, R221): the node is silent or receives there, its grant is not in force, the slot is another node's, or the frame with its acknowledgement hold would not end by the slot's end. A frame outside every slot is held to none (log entry 179). -/
def State.slotRefuses (s : State) (p c l edges : Nat) (bb : Bool) (f : SentFrame) (x : TxDesc) : Bool :=
  let up := s.isUp p
  (s.slotsOn p c (wrap64 (l + 2 ^ 32 / 96))).any (fun e => e.isBb == bb && (
    s.slotHeld p e ||
    ! (e.kind == 1 || e.kind == 4 || (up && e.kind == 3 && x.mu.isSome) || (up && e.kind == 8 && f.coop.isSome)) ||
    (match x.kind with | .raw _ => false | _ => f.coop.isNone && (f.out.long.isSome || e.peer != f.out.peer)) ||
    decide (2 ^ 63 ≤ (s.slotLt p e.cond (s.sfSlice p e.cond (wrap64 (l + 2 ^ 32 / 96))).1 (e.start + e.len) + 2 ^ 64
      - wrap64 (l + phaseIn s.convFreq s.trk.rate (edges + if f.out.ar then s.holdEdges p c bb else 0))) % 2 ^ 64)))

/-- A frame goes out, or its fixture is skipped (R91, R141, R143, R167 to R170, R184, R197, R224, R367). -/
def State.frameStart (s : State) (i p c d : Nat) (x : TxDesc) : State :=
  let cs := if x.bb then csetList x.cset else [c]
  match s.txFrame p c d x with
  | (s0, none) => s0.txSkip i p c x .refused
  | (s1, some (f, rep)) =>
    let coopMode := f.coop.map (·.mode)
    let mode := match coopMode with | some m => m | none => x.mode
    let nrt := match rep with | some r => popCount r.2.2.map | none => 0
    let rv := match rep with | some r => r.2.2.ver + 1 | none => 0
    let pl := if x.bb then s.bbPlan p f.out.peer x.cset x.nss mode f.bytes.length nrt else match x.mu with
      | some j => s.muPlan p c f.out.peer j (s.fixt i).lt
      | none => s.nbPlan p c f.out.peer mode f.bytes.length nrt
    let nss := if pl.mode = 0 then x.nss else 1
    if (if x.bb then decide (65535 < f.bytes.length) || decide (512 < pl.symbols) || decide (s.rf (Reg.BBP_BB_CTL p) 4 2 < nss) || nss == 0 || decide (cs.length < nss)
        else decide (2047 < f.bytes.length) || pl.verdict == 3 || (match x.mu, pl.set with
          | some j, some m => decide (m.muWords j pl.k0 pl.f pl.symbols * nbK pl.rate < 8 * f.bytes.length)
          | _, _ => false)) then
      (let s2 := (s.txSkip i p c x .refused).descDone d .refused
       if x.bb && decide (512 < pl.symbols) then s2.txRef p c true true else s2)
    else if s.meetsQuiet (s.fixt i).lt pl.edges || s.upSilent p f.out || s.slotRefuses p c (s.fixt i).lt pl.edges x.bb f x then s.txSkip i p c x .refused
    else if s.txBusy p c x.bb then (s.txSkip i p c x .refused).txRef p c x.bb true
    else if s.muted p then s.txSkip i p c x .excludedBand
    else if ! pl.resident then (s.txSkip i p c x .deadlineMissed).incF (mapReg x.bb p 0x06C) 16 16
    else if pl.verdict = 2 || (! x.bb && ((s.planOf p c).map BandPlan.bandC).getD false && s.toneOff p false 85) then (s.txSkip i p c x .excludedBand).txRef p c x.bb false
    else if (! x.bb && ((s.planOf p c).map BandPlan.bandC).getD false && (s.bandBusy p x.bandC || s.inPause p c)) || (x.bb && s.ispHolds p pl.edges) then (s.txDefer i p c d x.bb).noteBusy p c (! x.bb && s.bandBusy p x.bandC)
    else
      let (s2, sd) := if f.coop.isSome then (s1, f.seed) else if x.mu.isSome then (s1, muSeed (s.ownShort p)) else s1.nextSeed
      let hb := if x.bb then bbHeader ({ typ := 0, nss := nss, rob := pl.mode != 0, cset := x.cset, mapId := pl.mapId, len := f.bytes.length, seed := sd, rv := rv, nrt := nrt } : BbHdr).value
                else if x.mu.isSome then [] else nbHeader ({ typ := 0, mode := pl.mode, mapId := pl.mapId, len := f.bytes.length, seed := sd, rv := rv, nrt := nrt } : NbHdr).value
      let f1 : SentFrame := { f with seed := sd, rate := pl.rate, mu := x.mu, startSf := s.sfNow, endAt := 0 }
      let again := match rep with
        | some r => resentWords x.bb r.2.1.rate r.2.1.seed r.2.1.bytes r.2.2.first r.2.2.map
        | none => []
      let air := if x.bb then airBb (cs.take nss) pl.rate pl.set pl.k0 pl.f pl.symbols sd hb f.bytes rv again pl.tones
        else match x.mu, pl.set, s.planOf p c with
          | some j, some m, _ => airMu j pl.rate m pl.k0 pl.f pl.symbols sd f.bytes pl.tones
          | _, _, some b => airNb b pl.mode pl.rate pl.set pl.k0 pl.f pl.symbols sd hb f.bytes rv again pl.tones
          | _, _, none => {}
      let s3 := ((s2.fired i).setSent d f1).txGo p cs x.bb false d pl.edges (hb ++ f.bytes) air
      let s4 := if pl.verdict = 1 then s3.inc (mapReg x.bb p 0x068) else s3
      let s5 := match rep with
        | some (e, y, r) => s4.setSent e { y with repair := some { r with carrier := some d, ver := r.ver + 1 } }
        | none => s4
      -- A frame the coordinator itself originates renews its direct neighbour's lease (R262).
      let s6 := if ! s.isUp p && f.out.long.isNone && ! isGroup f.out.peer then s5.renew f.out.peer s.sfNow else s5
      (if x.kind = .again then s6 else s6.msgBegun f.out)

/-- A SOUND frame goes out, or its fixture is skipped (R153, R157, R167, R168, R170, R172): a channel-estimation symbol for every stream and no payload. The rules do not say whether `ROB` is 1 in its header: that it is 1 for one stream and 0 for more is the model's choice (log entry 167). -/
def State.soundStart (s : State) (i p c d peer : Nat) (x : TxDesc) : State :=
  let cs := csetList x.cset
  let edges := bbEdges x.nss 0
  if ! x.bb || x.nss == 0 || decide (s.rf (Reg.BBP_BB_CTL p) 4 2 < x.nss) || decide (cs.length < x.nss) then (s.txSkip i p c x .refused).descDone d .refused
  else if s.meetsQuiet (s.fixt i).lt edges || (s.isUp p && ! s.mac.up.inForce) then s.txSkip i p c x .refused
  else if s.txBusy p c true then (s.txSkip i p c x .refused).txRef p c true true
  else if s.muted p then s.txSkip i p c x .excludedBand
  else if ! s.robustLeft p true 0 then (s.txSkip i p c x .excludedBand).txRef p c true false
  else if s.ispHolds p edges then s.txDefer i p c d true
  else
    let (s1, sd) := s.nextSeed
    let h : BbHdr := { typ := 2, nss := x.nss, rob := x.nss == 1, cset := x.cset, mapId := if x.nss = 1 then 0 else s.txMapId p true 0 peer, len := 0, seed := sd, rv := 0, nrt := 0 }
    let set := if x.nss = 1 then none else s.setNamed (linkKey peer p true 0 false) h.mapId
    (s1.fired i).txGo p cs true false d edges (bbHeader h.value) (airBb (cs.take x.nss) 0 set (s.startSlice p ((cs.head?).getD 0) s.now) (s.fNom p) 0 sd (bbHeader h.value) [] 0 [] (tonesOf true 0))

/-- TX_START (R81, R91): fixture `i` fires, or is skipped. -/
def State.txStart (s : State) (i : Nat) (x : TxDesc) : State :=
  let f := s.fixt i
  let p := (f.target - 0x031) / 4
  let c := f.arg0 % 4
  let cs := if x.bb then csetList x.cset else [c]
  match s.due i 1 with
  | none => s
  | some ok =>
    if s.fineStopped f then s.txSkip i p c x .refused
    else if ! ok then s.txSkip i p c x .deadlineMissed
    else if ! s.txEnabled p c x.bb cs || (x.bb && cs.isEmpty) then s.txSkip i p c x .refused
    else if (s.fixHeld f).isSome then s.txSkip i p c x ((s.fixHeld f).getD .refused)
    else match x.kind with
      | .beacon => s.beaconStart i p c f.arg1 x
      | .sound peer => s.soundStart i p c f.arg1 peer x
      | _ => s.frameStart i p c f.arg1 x

/-- ACK_TX (R142, R166, R241, R262): the acknowledgement goes out, or its fixture is skipped and none is sent. A fixture whose descriptor holds no acknowledgement drives its own conductor for as long (R81, R91). -/
def State.ackTx (s : State) (i : Nat) (levels : List (Nat × Nat)) : State :=
  let f := s.fixt i
  let p := (f.target - 0x031) / 4
  match s.due i 3 with
  | none => s
  | some ok =>
    let a := tfind s.link.acks f.arg1
    let drop_ := fun (s : State) => { s with link := { s.link with acks := tdel s.link.acks f.arg1 } }
    let skip_ := fun (st : Status) =>
      let s1 := drop_ (s.skip i st)
      s1.cause ((if (a.map (·.bb)).getD false then 0x053 else 0x043) + 4 * p) 1
    let x := a.getD { port := p, bb := false, cond := min 2 (f.arg0 % 4), hdr := [], at_ := ((s.now : Int) + s.edgesTo f.lt).toNat }
    let c := x.cond
    let edges := if x.bb then 76800 * 3 / 2 else ((s.planOf p c).map (fun b => nbEdges b 0)).getD 0
    let bandC := ((s.planOf p c).map BandPlan.bandC).getD false && ! x.bb
    if s.fineStopped f then skip_ .refused
    else if ! ok then skip_ .deadlineMissed
    else if ! s.txEnabled p c x.bb [c] || s.meetsQuiet f.lt edges then skip_ .refused
    else if (s.fixHeld f).isSome then skip_ ((s.fixHeld f).getD .refused)
    else if s.txBusy p c x.bb then (skip_ .refused).txRef p c x.bb true
    else if s.muted p then skip_ .excludedBand
    else if ! s.robustLeft p x.bb (s.af (Reg.NBP_BAND p c) 0 3) || (bandC && s.toneOff p false 85) then (skip_ .excludedBand).txRef p c x.bb false
    else if (bandC && (s.bandBusy p levels || s.inPause p c)) || (x.bb && s.ispHolds p edges) then drop_ ((s.txDefer i p c f.arg1 x.bb).noteBusy p c (bandC && s.bandBusy p levels))
    else
      let err : Int := ((s.now : Int) - (x.at_ : Int)) * 2 / 3
      let s1 := (drop_ (s.fired i)).txGo p [c] x.bb true f.arg1 edges x.hdr (if x.bb then { streams := [c], header := bbHeaderBits x.hdr, loaded := tonesOf true 0 }
        else { header := nbHeaderBits x.hdr, loaded := tonesOf false (s.af (Reg.NBP_BAND p c) 0 3) })
      let s2 := s1.wf (if x.bb then Reg.BBP_ACK_ERR p else Reg.NBP_ACK_ERR p) 0 16 (satField 16 err)
      match x.renews with
      | some (a, m) => s2.renew a m
      | none => s2

/-- The broadband receive set of a port: phases, and the common mode where R152 allows it. -/
def State.rxSet (s : State) (p : Nat) : Nat :=
  if s.rb (Reg.BBP_BB_CTL p) 3 && s.rb (Reg.LFE_COUP_CFG p) 8 && ! s.rb (Reg.LFE_GRID_STAT p) 4 then 4 else 3

/-- The receive channels of conductors, with the common mode where broadband uses it, as an RX_WINDOW names them (R81, R152). -/
def State.winMask (s : State) (p : Nat) (cs : List Nat) (bb : Bool) : Nat :=
  (cs.map (fun c => 2 ^ c)).sum + (if bb && s.rxSet p = 4 then 8 else 0)

/-- The first descriptor that waits for a slot to `peer`: by priority, frames sent again before new ones (R218, R246). -/
def State.slotPick (s : State) (p c peer : Nat) (bb : Bool) : Option Nat :=
  let again := (s.link.sent.filter (fun x => x.2.again && x.2.out.port == p && x.2.out.bb == bb && x.2.out.cond == c && x.2.out.peer == peer && x.2.out.long.isNone)).map (fun x => (x.2.out.prio, x.1))
  let new := (s.link.outbox.filter (fun o => o.port == p && o.bb == bb && (o.cond == c || isGroup o.peer) && o.peer == peer && o.long.isNone)).map (fun o => (o.prio, contBase + o.id))
  (argMin (fun x => 3 - x.1) ((again ++ new).filter (fun x => ! s.txArmed x.2))).map Prod.snd

/-- A frame's transmission has ended (R98, R246, R280): it waits for its acknowledgement, or, with none asked for, it is done. -/
def State.frameEnded (s : State) (d : Nat) (ack : Bool) : State :=
  if ack then s.descDone d .done
  else match s.sentOf d with
    | none => if (tfind s.descs d).isSome then s else s.descDone d .done
    | some x =>
      if x.out.ar then s.setSent d { x with wait := true, endAt := s.now + 1 }
      else
        let s1 := (s.dropSent d).descDone d .done
        match x.out.msg with
        | none => s1
        | some (m, k) =>
          -- A segment is originated when no conductor still waits for it.
          if (s1.link.outbox.any (fun o => o.msg == some (m, k))) || s1.link.sent.any (fun y => y.2.out.msg == some (m, k)) then s1 else s1.segAcked m k

/-- The acknowledgement of a frame sent is awaited in an RX_WINDOW on its conductor, from 150 µs after its end to the deadline (R246). -/
def State.ackListen (s : State) (p c : Nat) (bb : Bool) (x : TxRec) : State :=
  if x.ack || ! ((s.sentOf x.desc).map (·.out.ar)).getD false then s
  else
    let at_ := if bb then 0 else 150 * usec
    s.enterFix { lt := wrap64 (s.ltAt (s.now + at_) + 1), target := 0x032 + 4 * p, action := 2, flags := 1, arg0 := s.winMask p (if bb then List.range 3 else [c]) bb
                 arg1 := (ackDeadline bb - at_ + usec - 1) / usec + 1 }

/-- Within a transmitting slot the next frame for its peer starts at the first slice boundary after the frame's acknowledgement hold (R218). -/
def State.slotNext (s : State) (p c : Nat) (bb : Bool) (x : TxRec) : State :=
  if x.ack then s
  else match (s.slotsOn p c (s.ltAt x.start)).find? (fun e => e.isBb == bb && ! s.slotHeld p e && (e.kind == 1 || e.kind == 4)) with
    | none => s
    | some e => match s.slotPick p e.cond e.peer bb with
      | none => s
      | some d =>
        let t := s.ltAt (s.now + 1 + if ((s.sentOf x.desc).map (·.out.ar)).getD false then s.holdEdges p c bb else 0)
        let (m, u) := s.sfSlice p e.cond t
        if e.start + e.len ≤ u + 1 then s
        else s.enterFix { lt := s.slotLt p e.cond m (u + 1), target := 0x031 + 4 * p, action := 1, flags := 1, arg0 := e.cond, arg1 := d }

/-- TRANSMISSION_END (R98): the transmission of a PHY on a conductor ends whole. A broadband one ends on every conductor of its set; `a`, `b` and `d` are what was measured on conductors A, B and C. -/
def State.transmissionEnd (s : State) (p c : Nat) (bb : Bool) (a b d : LineEnd) : State :=
  let m := fun k => if k = 0 then a else if k = 1 then b else d
  match (if bb then (s.cond p c).bb else (s.cond p c).nb) with
  | none => s
  | some x =>
    if s.now < x.start + x.dur then s else
    let more := (if bb then (List.range 3).filter (fun k => k != c && ((s.cond p k).bb.map (·.desc)) == some x.desc) else [])
    let s1 := s.txEnd p c bb (m c)
    let s2 := more.foldl (fun s k => s.txEnd p k true (m k)) s1
    let s2 := if ! bb && ! x.ack && (decide ((NbHdr.ofBytes x.frame).typ = 0) || ((s.sentOf x.desc).bind (·.mu)).isSome) then
      s2.setCond p c { s2.cond p c with holdEnd := s.now + s.holdEdges p c false + 1 } else s2
    let s2 := (s2.ackListen p c bb x).slotNext p c bb x
    -- A frame sent whole is counted (R148, R174).
    (if bb then s2.inc (Reg.BBP_TX_CNT p) else s2.inc (Reg.NBP_TX_CNT p c)).frameEnded x.desc x.ack

/-- One PHY's transmission on a conductor stops, a broadband one on its whole set; its descriptor completes with a status, and the driver leaves the line where the other PHY is silent (R98, R198). -/
def State.stopPhy (s : State) (p c : Nat) (bb : Bool) (st : Status) : State :=
  let k := s.cond p c
  match (if bb then k.bb else k.nb) with
  | none => s
  | some x =>
    if k.nb.isSome != k.bb.isSome && ! bb then s.stopTx p c st
    else
      (List.range 3).foldl (fun s i =>
        let g := s.cond p i
        let g1 := if bb then (if g.bb == some x then g.endBb s.now else g) else if i = c then g.endNb s.now else g
        let s1 := s.putCond p i g1
        if g1.nb.isNone && g1.bb.isNone && g != g1 then s1.restoreGain p i else s1) (s.descStop x.desc st)

/-- A transmission in progress meets a swap of its port's TX page, or an installation (R198): each tone takes the tighter of its filters to the transmission's end, a tone taken away stays away, and one left with no data tone stops with EXCLUDED_BAND, counted in `TX_REF`. -/
def State.refilterOne (s : State) (p c : Nat) (bb : Bool) : State :=
  let k := s.cond p c
  match (if bb then k.bb else k.nb) with
  | none => s
  | some x =>
    let l := tighter x.left (s.passed p bb x.plan)
    if ! l.any (fun t => x.air.loaded.contains t.1) then (s.stopPhy p c bb .excludedBand).txRef p c bb false
    else s.setCond p c (if bb then { k with bb := some { x with left := l } } else { k with nb := some { x with left := l } })

/-- R198 at the edge from `s0`: over every transmission in progress on a port whose TX filters changed. -/
def State.refilter (s s0 : State) : State :=
  (List.range 4).foldl (fun s p =>
    if s.exclBands p == s0.exclBands p && (s.page (0x031 + 4 * p)).active == (s0.page (0x031 + 4 * p)).active then s
    else (List.range 3).foldl (fun s c => (s.refilterOne p c false).refilterOne p c true) s) s

/-- BANDC_MAX_TX (R141): a band C transmission has lasted `MAX_TX_MS`; it stops at the next symbol boundary, and its descriptor completes with RESOURCE_RETRY. -/
def State.bandcMax (s : State) (p c : Nat) : State :=
  match (s.cond p c).nb with
  | none => s
  | some x =>
    let lim := x.start + (s.rf (Reg.NBP_CSMA_C_CFG1 p) 0 16 * msec + 720 * usec - 1) / (720 * usec) * (720 * usec)
    if ((bandPlan x.plan).map BandPlan.bandC).getD false && decide (lim ≤ s.now) then s.stopPhy p c false .resourceRetry else s

/-- The map sets that the receiving slots beginning at line time `l` need on a port's channels (R184): of the granted sender, where the device holds one. -/
def State.rxNeeds (s : State) (p l : Nat) (chs : List Nat) : List MapSet :=
  (chs.filter (fun c => decide (c < 3))).flatMap (fun c =>
    (match s.slotAt p c l false with
     | some e => if e.kind = 2 then (s.curSet (linkKey e.peer p false c true)).toList else if e.kind = 3 then (s.setNamed (linkKey e.peer p false c true) e.mapId).toList else []
     | none => []) ++
    (match s.slotAt p c l true with
     | some e => if e.kind = 5 then (s.curSet (linkKey e.peer p true c true)).toList else []
     | none => []))

/-- RX_WINDOW (R81, R184, R218): receive windows open on the channels of the mask, or the fixture is skipped. -/
def State.rxWindow (s : State) (i : Nat) : State :=
  let f := s.fixt i
  let p := (f.target - 0x032) / 4
  match s.due i 2 with
  | none => s
  | some ok =>
    let chs := (List.range 4).filter (fun ch => decide (f.arg0 / 2 ^ ch % 2 = 1))
    if s.fineStopped f then s.skip i .refused
    else if ! ok then s.skip i .deadlineMissed
    else if ! s.blkEn (0x032 + 4 * p) || s.roleInEffect p = 0 || decide (s.mode < 3) || s.mode = 11 || ((s.mode == 3 || s.mode == 8 || s.mode == 9) && ! s.isUp p) || chs.any (fun ch => ! s.rb (Reg.LFE_PORT_CTL p) (3 + ch)) then s.skip i .refused
    else if (s.fixHeld f).isSome then s.skip i ((s.fixHeld f).getD .refused)
    else match (s.rxNeeds p f.lt chs).find? (fun m => ! m.groups.isEmpty && ! s.isResident m) with
    | some m => (s.skip i .deadlineMissed).incF (mapReg m.bb p 0x06C) 16 16
    | none => chs.foldl (fun s ch => s.openRxWin p ch (s.now + f.arg1 * usec)) (s.fired i)

/-- RX_WINDOW_CLOSE (R218): a window has reached its length. -/
def State.rxWindowClose (s : State) (p ch : Nat) : State :=
  let k := s.chan p ch
  if k.winEnd ≠ 0 && decide (k.winEnd ≤ s.now + 1) then s.closeRxWin p ch else s

/-! ## Frames received (R127, R144, R158, R167, R177, R241) -/

/-- The band plan a frame whose preamble came at edge `e` keeps to its end (R120). -/
def State.planAt (s : State) (p c e : Nat) : Nat :=
  let pg := s.page (0x040 + 4 * p)
  -- The first swap after the edge exchanged the plans then in force.
  match ((pg.was.filter (fun x => decide (e / 2 + 1 < x.1))).getLast?).bind (fun x => x.2[c]?) with
  | some x => x
  | none => s.af (Reg.NBP_BAND p c) 0 3

/-- The line receive channels of a port hear in the present mode, a frame that started at edge `e` (R482). -/
def State.hears (s : State) (p ch e : Nat) (bb : Bool) : Bool :=
  s.blkEn (0x032 + 4 * p) && s.rb (Reg.LFE_PORT_CTL p) (3 + ch) &&
  (if bb then s.rb (Reg.BBP_BB_CTL p) ch else s.rb (Reg.NBP_NB_CTL p) ch && (bandPlan (s.planAt p ch e)).isSome) &&
  (s.mode == 4 || s.mode == 5 || s.mode == 6 || s.mode == 7 || s.mode == 10 || ((s.mode == 3 || s.mode == 8 || s.mode == 9) && s.isUp p && ! bb))

/-- The sender a received frame names, where its bytes decoded (R235). -/
def rxSource (b : List Byte) : Option Nat :=
  if fcsOk b then (LlFrame.parse b).bind (fun f => if f.srcL then none else some f.src) else none

/-- The transmitter of a frame by the slot it came in, else by the address it carries (R127, R158); none where neither names one. -/
def State.frameSender (s : State) (p : Nat) (bb : Bool) (c : Nat) (x : RxFrame) : Option Nat :=
  match s.slotAt p c (s.ltAt (x.start + 25 * usec)) bb with
  | some e => if e.kind = 2 || e.kind = 5 then some e.peer else rxSource x.bytes
  | none => rxSource x.bytes

/-- A `MAP_ID` names a tone map held for the transmitter of a frame (R127, R158, R176). For a frame that names no transmitter, a set of any link of the receiver may serve (log entry 169). -/
def State.rxMapHeld (s : State) (p : Nat) (bb : Bool) (c id : Nat) (sender : Option Nat) : Bool :=
  s.maps.sets.any (fun m => m.rx && m.port == p && m.bb == bb && (bb || m.cond == c) && m.mapId == id && ! m.groups.isEmpty && (sender.isNone || sender == some m.peer))

/-- The partition a received frame is judged under (R178, R186): of the set it names, else of the link's current set, else one group (log entry 198). -/
def State.framePart (s : State) (k mapId : Nat) : List Nat :=
  ((match s.setNamed k mapId with
    | some m => some m
    | none => s.curSet k).map MapSet.part).getD (List.replicate 48 0)

/-- The slice groups of a received frame's symbols in order (R178): `centre s` is when the centre of symbol `s` comes, of `n` symbols. -/
def State.frameGroups (s : State) (p c k mapId : Nat) (x : RxFrame) (centre : Nat → Nat) (n : Nat) : List Nat :=
  let part := s.framePart k mapId
  (List.range n).map (fun j => (part[symbolSlice (s.startSlice p c x.start) (centre j) (s.fNom p)]?).getD 0)

/-- The map links of the frame's sender are told which set it named, and what was observed and seen (R186, R187, R191 to R193): a step is counted whoever sent the frame; else each group in which the frame has at least two narrowband or four broadband symbols is observed, once. -/
def State.rxAdapt (s : State) (p : Nat) (bb : Bool) (c : Nat) (sender : Option Nat) (mapId : Nat) (x : RxFrame) (centre : Nat → Nat) (n need : Nat) : State :=
  let plan := if bb then 0 else s.planAt p c x.start
  let links := match sender with
    | some a => [linkKey a p bb c true]
    | none => if mapId = 0 then [] else ((s.maps.sets.filter (fun (m : MapSet) => m.rx && m.port == p && m.bb == bb && (bb || m.cond == c) && m.mapId == mapId)).map MapSet.link)
  let s1 := match sender with
    | some a => if mapId = 0 then s else s.sawSet (linkKey a p bb c true) mapId
    | none => s
  match s1.stepSymbol p bb x.pilots with
  | some t => links.foldl (fun s k => s.stepSuspect k mapId ((s.frameGroups p c k mapId x centre n).drop t)) (s1.stepCount p bb c)
  | none => match sender with
    | none => s1
    | some a =>
      let gs := s1.frameGroups p c (linkKey a p bb c true) mapId x centre n
      let seen := (x.obs.map Prod.fst).eraseDups.filter (fun g => decide (need ≤ (gs.filter (· == g)).length))
      seen.foldl (fun s g => match x.obs.find? (fun o => o.1 == g) with
        | some o =>
          let (s2, bodies) := s.observe p bb c a plan g o.2.1 o.2.2
          bodies.foldl (fun s b => s.sendMap p bb c a b) s2
        | none => s) s1

/-- Symbols of a received frame from its first to its last, by how long it lasted: `sym` edges each, of which `pre` are no header or payload symbols. -/
def State.frameSymbols (s : State) (x : RxFrame) (sym pre : Nat) : Nat := (s.now - x.start + sym / 2) / sym - pre

/-- One acknowledgement answers every frame of a multi-user slot (R244): the first frame heard enters it, and each adds its `ACC` bit. -/
def State.muEnter (s : State) (p c j : Nat) (ok : Bool) (at_ : Nat) : State :=
  let mine := s.link.acks.find? (fun y => y.2.port == p && y.2.cond == c && ! y.2.bb && leAt y.2.hdr 0 1 / 16 % 2 == 1
    && decide (at_ ≤ y.2.at_ + 10 * usec) && decide (y.2.at_ ≤ at_ + 10 * usec))
  match mine with
  | some (d, y) =>
    let v := ofLE y.hdr
    let acc := v / 2 ^ 5 % 2 ^ 18 + v / 2 ^ 38 % 2 * 2 ^ 18
    let acc1 := if ok && acc / 2 ^ j % 2 = 0 then acc + 2 ^ j else acc
    { s with link := { s.link with acks := tins s.link.acks d { y with hdr := muAck acc1 } } }
  | none => s.enterAck p false c (muAck (if ok then 2 ^ j else 0)) at_

/-- A frame repeats one accepted before (R242, R249): its acknowledgement is OK whatever credit there is. -/
def State.isRepeat (s : State) (p : Nat) (f : LlFrame) : Bool :=
  match s.findNbr p (if f.srcL then 0xFFFFE else f.src) (if f.srcL then some f.src else none) with
  | some k => decide (((s.nbr k).window f.seq (if f.sec then f.fcnt else f.seq)).1 = 1) && ! (isGroup f.dst && ! f.dstL)
  | none => false

/-- A received frame with as many bytes as its header's `LEN` and as many codewords as they fill at rate `rate` (R132, R162): what else is given is not looked at. -/
def sizedRx (x : RxFrame) (bb : Bool) (rate len : Nat) : RxFrame :=
  { x with bytes := takeBytes x.bytes 0 len, cw := (List.range (codewords (if bb then bbK rate else nbK rate) len)).map (fun i => (x.cw[i]?).getD true) }

/-- The rate of the codewords of a received frame (R130, R161): the robust rate, or that of the set its header names, in the group of its first payload symbol. -/
def State.rxRate (s : State) (p : Nat) (bb : Bool) (c mapId : Nat) (sender : Option Nat) (start first : Nat) (rob : Bool) : Nat :=
  if rob then 0
  else match s.maps.sets.find? (fun m => m.rx && m.port == p && m.bb == bb && (bb || m.cond == c) && m.mapId == mapId && ! m.groups.isEmpty && (sender.isNone || sender == some m.peer)) with
    | some m => ((m.groups[(m.part[symbolSlice (s.startSlice p c start) first (s.fNom p)]?).getD 0]?).getD {}).rate
    | none => 0

/-- A data frame, its start taken within 25 µs of its slice boundary (R177): its acknowledgement is entered, its codewords and repair handled, and the frame received (R241 to R254). -/
def State.rxData (s : State) (p : Nat) (bb : Bool) (c cset seed nrt edges : Nat) (x : RxFrame) : State :=
  let fr := LlFrame.parse x.bytes
  let whole := x.cw.all id
  let ok := whole && fcsOk x.bytes
  let slot := s.slotAt p c (s.ltAt (x.start + 25 * usec)) bb
  let granted := match slot with
    | some e => if s.isUp p then s.mac.up.inForce && (if bb then e.kind == 5 else e.kind == 2) else (if bb then e.kind == 5 else e.kind == 2 || e.kind == 3)
    | none => false
  -- The link header lies in the first codeword (R235, R241).
  let headed := x.cw.head?.getD true
  let mine := match fr with
    | some f => headed && f.ar && (if f.dstL then f.dst == s.ownLong else ! isGroup f.dst && f.dst == s.ownShort p && f.dst != 0xFFFFE)
    | none => false
  let toGroup := match fr with
    | some f => headed && ! f.dstL && isGroup f.dst
    | none => false
  let answers := (granted && ! toGroup) || mine
  let need := cellsOf x.bytes.length
  let busy := ok && ! (fr.map (s.isRepeat p)).getD false && decide (s.grantable (rxQueue p bb c ((fr.map LlFrame.prio).getD 0)) need < need)
  let a := aresOf (if bb then 24 else 16) x.cw x.bytes busy
  let sf0 := (s.ltAt (x.start + 25 * usec)) / 2 ^ 32 / s.sfCycles
  let failed := (List.range x.cw.length).filter (fun i => x.cw[i]? == some false)
  -- Every narrowband DATA frame is followed by an acknowledgement hold (R212).
  let s0 := if bb then s else s.setCond p c { s.cond p c with holdEnd := s.now + s.holdEdges p c false + 1 }
  let s1 := s0.addF (if bb then Reg.BBP_CW_FAIL p else Reg.NBP_CW_FAIL p c) 0 32 failed.length
  -- The repair the frame carries comes first: its result is in the acknowledgement.
  let (s2, irOk) := match fr with
    | some f => if ok then (match f.ird with
        | some v => s1.irRepair p bb c sf0 nrt v f.src x.repaired
        | none => (s1, false)) else (s1, false)
    | none => (s1, false)
  let s3 := if answers then
      (match x.mu with
       | some (j, _) => s2.muEnter p c j ok (x.start + edges + 720 * usec)
       | none =>
         let c0 := if bb then ((csetList cset).head?).getD c else c
         let hdr := if bb then bbAck a seed c0 irOk else nbAck a seed irOk
         let at_ := x.start + edges + (if bb then 384000 else 720 * usec)
         let s4 := s2.enterAck p bb c0 hdr at_
         let src := (rxSource x.bytes)
         let d := ackBase + s2.link.nextAck
         (match src, tfind s4.link.acks d with
          | some n, some y => if a.1 = 0 && ! s.isUp p then { s4 with link := { s4.link with acks := tins s4.link.acks d { y with renews := some (n, sf0) } } } else s4
          | _, _ => s4))
    else s2
  let who := if headed then fr.map (fun f => f.src * 4096 + f.seq) else none
  -- A receiver that answers PARTIAL holds the frame (R253); a whole copy drops the entry held for an earlier one (R254).
  let s5 := if a.1 = 1 && answers && x.mu.isNone then
      { s3 with link := { s3.link with holds := s3.link.holds.filter (fun h => ! (h.port == p && h.bb == bb && (bb || h.cond == c) && h.seed == seed)) ++
          [{ port := p, bb := bb, cond := c, seed := seed, failed := failed, src := who, endSf := s.sfNow + s.rf (Reg.MAC_LL_CFG p) 12 4 }] } }
    else if ok then { s3 with link := { s3.link with holds := s3.link.holds.filter (fun h => ! (h.port == p && h.src.isSome && h.src == who)) } }
    else s3
  if ! whole || busy then s5
  else if ! ok then s5.incF (Reg.MAC_LL_DROP p) 16 16
  else s5.llReceive p bb c sf0 x.bytes

/-- A header that fails within the window of an acknowledgement counts it as missing (R246). -/
def State.ackHeaderBad (s : State) (p : Nat) (bb : Bool) (c start : Nat) : State :=
  let hit := fun (x : Nat × SentFrame) => x.2.wait && x.2.endAt != 0 && x.2.out.port == p && x.2.out.bb == bb && (bb || x.2.out.cond == c) &&
    decide (x.2.endAt ≤ start + 1) && decide (start < x.2.endAt + ackDeadline bb)
  ((s.link.sent.filter hit).map Prod.fst).foldl (fun s d => s.ackMissing d) s

/-- Edge `e` lies in one of some transmissions, or within `gap` edges after it (R143, R167). -/
def inTx (now : Option TxRec) (past : List (Nat × Nat)) (gap e : Nat) : Bool :=
  (match now with
   | some x => decide (x.start ≤ e)
   | none => false) || past.any (fun w => decide (w.1 ≤ e) && decide (e < w.2 + gap))

/-- A frame that began before edge `e` is still being decoded on a conductor, or for broadband on the port: its reception waits in the queue (R144, R167). For multi-user frames this holds for each subchannel. -/
def State.inDecode (s : State) (p c : Nat) (bb : Bool) (sub : Option Nat) (e : Nat) : Bool :=
  s.pending.any (fun i => match i with
    | .nbFrameRx _ q d y => ! bb && q.val == p && d.val == c && y.mu.map Prod.fst == sub && decide (y.start < e)
    | .bbFrameRx _ q _ y => bb && q.val == p && decide (y.start < e)
    | _ => false)

/-- A receiver detects the preamble of a narrowband frame (R143, R144): in a receive window, with no transmission on the conductor nor one less than 20 µs ago, and no frame being decoded. -/
def State.nbDetects (s : State) (p c : Nat) (x : RxFrame) : Bool :=
  let k := s.cond p c
  let sub := x.mu.map Prod.fst
  s.hears p c x.start false && (s.chan p c).windowAt x.start && ! inTx k.nb k.nbTx (20 * usec) x.start && decide (x.start ≤ s.now) &&
  ! decide (x.start < (match sub with | some j => tget 0 k.muRx j | none => k.nbRx)) && ! s.inDecode p c false sub x.start

/-- A receiver detects the preamble of a broadband frame (R167): no conductor of the port transmitting broadband nor less than 2 µs ago, in a receive window, and no frame being decoded. -/
def State.bbDetects (s : State) (p c : Nat) (x : RxFrame) : Bool :=
  s.hears p c x.start true && (s.chan p c).windowAt x.start && decide (x.start ≤ s.now) && ! s.inDecode p c true none x.start &&
  (List.range 3).all (fun i => let k := s.cond p i; ! inTx k.bb k.bbTx (2 * usec) x.start && ! decide (x.start < k.bbRx))

/-- NB_FRAME_RX (R122 to R147, R177, R241): a narrowband frame received whole. -/
def State.nbFrameRx (s : State) (p c : Nat) (x : RxFrame) : State :=
  let k := s.cond p c
  if ! s.nbDetects p c x then s
  else
      match x.mu with
      | some (j, peer) =>
        let s := s.setCond p c { k with muRx := tins k.muRx j s.now }
        -- A multi-user frame has no header (R139): the slot gives its length, and its seed follows from the peer.
        let n := ((s.slotAt p c (s.ltAt (x.start + 25 * usec)) false).map (·.nsym)).getD 0
        (s.rxAdapt p false c (some peer) (((s.slotAt p c (s.ltAt (x.start + 25 * usec)) false).map (·.mapId)).getD 0) x nbCentre n 2).rxData p false c 0 (muSeed peer) 0 ((2 + n) * 720 * usec) x
      | none =>
        let h := NbHdr.ofBytes x.hdr
        let fail := ((s.inc (Reg.NBP_HDR_FAIL p c)).cause (0x042 + 4 * p) 0).ackHeaderBad p false c x.start
        if ! nbHdrOk x.hdr (s.rxMapHeld p false c h.mapId (s.frameSender p false c x)) then fail
        else if h.typ ≠ 1 && h.mode = 0 && decide (25000 < s.snapError p c x.start) then fail
        else
          let src := (rxSource x.bytes).getD 0xFFFFE
          let sender := if h.typ = 2 then (if x.cw.all id then bitsAt x.bytes 44 20 else 0xFFFFE) else src
          let s1 := ((s.setCond p c { k with nbRx := s.now }).inc (Reg.NBP_RX_OK p c)).wr (Reg.NBP_RX_LAST p c) (word (min 4095 x.snr + h.mode * 2 ^ 12))
          let carries := decide ((((bandPlan (s.planAt p c x.start)).map BandPlan.first).getD 99) ≤ 40)
          let s2 := match x.phase with
            | some ph => if carries then s1.phaseObserved p c (decide (((ph - 120) % 360) ≤ 120)) sender else s1
            | none => s1
          let edges := s.now - x.start
          match h.typ with
          | 0 =>
            let hn := (((bandPlan (s.planAt p c x.start)).map (fun b => b.h)).getD 0)
            let x := sizedRx x false (s.rxRate p false c h.mapId (s.frameSender p false c x) x.start (nbCentre hn) (h.mode != 0)) h.len
            (s2.rxAdapt p false c (s.frameSender p false c x) h.mapId x nbCentre (s.frameSymbols x (720 * usec) 2) 2).rxData p false c 0 h.seed h.nrt edges x
          | 1 => s2.toInbox { port := p, bb := false, cond := c, src := 0, srcLong := none, mgmt := false, mtype := 0x200, body := x.hdr, sf := s.sfNow, cyc := s.cycle }
          | _ => if x.cw.all id then s2.toInbox { port := p, bb := false, cond := c, src := h.mode, srcLong := none, mgmt := false, mtype := 0x202, body := takeBytes x.bytes 0 16
                                                  sf := s.sfNow, cyc := x.start } else s2.incF (Reg.NBP_CW_FAIL p c) 0 32

/-- BB_FRAME_RX (R152 to R168, R177, R241): a broadband frame received whole. -/
def State.bbFrameRx (s : State) (p c : Nat) (x : RxFrame) : State :=
  if ! s.bbDetects p c x then s
  else
    let h := BbHdr.ofBytes x.hdr
    let fail := ((s.inc (Reg.BBP_HDR_FAIL p)).cause (0x052 + 4 * p) 0).ackHeaderBad p true c x.start
    if ! bbHdrOk x.hdr (s.rxSet p) (s.rxMapHeld p true 0 h.mapId (s.frameSender p true (((csetList h.cset).head?).getD c) x)) then fail
    else
      let c0 := ((csetList h.cset).head?).getD c
      if h.typ ≠ 1 && ! h.rob && decide (25000 < s.snapError p c0 x.start) then fail
      else
        let s1 := ((s.setCond p 0 { s.cond p 0 with bbRx := s.now }).inc (Reg.BBP_RX_OK p)).wr (Reg.BBP_RX_LAST p)
          (word (min 4095 x.snr + h.nss * 2 ^ 12 + (if h.rob then 2 ^ 14 else 0) + (if s.rxSet p = 4 then 2 ^ 15 else 0)))
        match h.typ with
        | 0 =>
          let x := sizedRx x true (s.rxRate p true 0 h.mapId (s.frameSender p true c0 x) x.start (bbCentre h.nss 1) h.rob) h.len
          (s1.rxAdapt p true c0 (s.frameSender p true c0 x) h.mapId x (bbCentre h.nss) (s.frameSymbols x 38400 (1 + h.nss)) 4).rxData p true c0 h.cset h.seed h.nrt (s.now - x.start) x
        | 1 => s1.toInbox { port := p, bb := true, cond := c0, src := 0, srcLong := none, mgmt := false, mtype := 0x201, body := x.hdr, sf := s.sfNow, cyc := s.cycle }
        -- A SOUND frame names no sender; the slot does (R186).
        | _ => match s.slotAt p c0 (s.ltAt (x.start + 25 * usec)) true with
          | some e => if e.kind = 5 then s1.rxAdapt p true c0 (some e.peer) 0 x (fun j => (j + 1) * 25600 + 15360) 1 1 else s1
          | none => s1

end Sys2Proof.Machine
end

