-- ==== Sys2Proof/Machine/Mac.lean ====
section
/-! DEFINITION. Medium access, association and leases (R202 to R233, R257 to R263), admission and the endpoint window (R282 to R285). -/

namespace Sys2Proof.Machine

/-! ## Superframe and quiet region -/

/-- S_CHANGE (R206, R226): the waiting S takes effect at the first cycle aligned to the old and the new S, or, following a beacon, at the next superframe. -/
def State.sChange (s : State) : State :=
  let old := s.rf (Reg.MAC_SF_STAT 0) 0 3
  let follow := s.followsS
  let new := if follow then ofLE s.mac.up.beacon / 2 ^ 88 % 8 else s.af (Reg.MAC_SF_CFG 0) 0 3
  let fits := if follow then s.cycle / sfLen old != ofLE s.mac.up.beacon / 2 ^ 12 % 2 ^ 32 / sfLen old
    else s.cycle % max (sfLen old) (sfLen new) == 0
  if ! s.rb (Reg.MAC_SF_STAT 0) 3 || ! fits || decide (4 < new) then s
  else (List.range 4).foldl (fun s p => (s.wf (Reg.MAC_SF_STAT p) 0 3 new).wb (Reg.MAC_SF_STAT p) 3 false) s

/-! ## The superframe's work (R36, R37, R81, R210, R211, R218, R223)

Firmware enters an SF_BOUNDARY for every superframe of a port, and starts that superframe's work at its fire (R81): the fixtures of the superframe's slots and contention regions, its quiet region, and what must stand ready for the next one. Each line time is that of the conductor served, by its offset at this moment (R37). -/

/-- Edges that `n` slices last, in whole µs (R218). -/
def State.slicesUs (s : State) (n : Nat) : Nat := (s.nsOfUnits ((n * 2 ^ 32 / 48 : Nat) : Int)).toNat / 1000

/-- The fixtures of the slots of superframe `m` (R211, R218): the first transmission of a transmitting slot, the window of a receiving one, and the relayed beacon of a granted RB_TX slot. -/
def State.slotWork (s : State) (p m : Nat) : List Fixture :=
  let up := s.isUp p
  let bank := (s.page (0x061 + 4 * p)).active
  let es := ((s.schedValid p bank).map (s.schedEntry p bank)).filter (fun e => m % 2 ^ e.repExp == e.ph && ! s.slotHeld p e)
  if up && ! s.mac.up.inForce then []
  else es.filterMap (fun e =>
    let lt := s.slotLt p e.cond m e.start
    if e.kind = 2 || e.kind = 5 || (e.kind = 3 && ! up) then
      some { lt := lt, target := 0x032 + 4 * p, action := 2, flags := 1, arg0 := s.winMask p e.conds e.isBb, arg1 := s.slicesUs e.len }
    else if e.kind = 6 && up && s.mode = 5 then some { lt := lt, target := 0x031 + 4 * p, action := 1, flags := 1, arg0 := e.cond, arg1 := bcnBase + 4 * p + e.cond }
    else if e.kind = 1 || e.kind = 4 || (e.kind = 3 && up) then
      (s.slotPick p e.cond e.peer e.isBb).map (fun d => { lt := lt, target := 0x031 + 4 * p, action := 1, flags := 1, arg0 := e.cond, arg1 := d })
    else none)

/-- A conductor takes part in the narrowband superframe of its port (R210). -/
def State.nbRuns (s : State) (p c : Nat) : Bool := s.rb (Reg.NBP_NB_CTL p) c && s.af (Reg.NBP_BAND p c) 0 3 != 0

/-- The windows in which the contention region of superframe `m` is heard, before and after a quiet region within it (R144, R204). -/
def State.contWork (s : State) (p m : Nat) : List Fixture :=
  ((List.range 3).filter (s.nbRuns p)).flatMap (fun c =>
    let r := s.regions p c
    let win : Nat → Nat → List Fixture := fun a b => if a < b then [{ lt := s.slotLt p c m a, target := 0x032 + 4 * p, action := 2, flags := 1, arg0 := 2 ^ c, arg1 := s.slicesUs (b - a) }] else []
    if r.quietAt c < r.contEnd then win r.beacon (r.quietAt c) ++ win (r.quietAt c + r.quiet) r.contEnd else win r.beacon r.contEnd)

/-- What superframe `m + 1` needs before it starts (R81, R210, R226, R228): its boundary, the coordinator's beacon on each conductor, or the window in which the upstream beacon is heard, which in SEARCH and REACQ stays open the whole superframe. -/
def State.nextWork (s : State) (p m : Nat) : List Fixture :=
  let m1 := (m + 1) % (2 ^ 32 / s.sfCycles)
  let role := s.roleInEffect p
  let c := s.rf (Reg.MAC_UP_CFG p) 20 2
  let win := s.rf (Reg.MAC_UP_WIN p) 0 16
  let st := s.rf (Reg.MAC_UP_STAT p) 0 2
  { lt := s.slotLt p 0 m1 0, target := 0x063 + 4 * p, action := 8, flags := 1 } ::
    (if role = 1 then ((List.range 3).filter (s.nbRuns p)).map (fun c => { lt := s.slotLt p c m1 0, target := 0x031 + 4 * p, action := 1, flags := 1, arg0 := c, arg1 := bcnBase + 4 * p + c })
     else if role = 2 && (st = 1 || st = 2) then
       [{ lt := wrap64 (s.slotLt p c m1 0 + 2 ^ 64 - phaseIn s.convFreq s.trk.rate (win * usec)), target := 0x032 + 4 * p, action := 2, flags := 1, arg0 := 2 ^ c
          arg1 := s.slicesUs (s.regions p c).beacon + 2 * win }]
     else if role = 2 then [{ lt := s.slotLt p c m1 0, target := 0x032 + 4 * p, action := 2, flags := 1, arg0 := 2 ^ c, arg1 := s.slicesUs (48 * s.sfCycles) }]
     else [])

/-- The marks of the quiet region that ends superframe `m`, in reference slices (R223). -/
def State.quietWork (s : State) (p m : Nat) : List Fixture :=
  let e := (m + 1) * s.sfCycles % 2 ^ 32 * 2 ^ 32
  if s.rf (Reg.MAC_MAC_CTL p) 0 2 = 0 then []
  else [{ lt := wrap64 (e + 2 ^ 64 - s.quietSl * 2 ^ 32 / 48), target := 0x063 + 4 * p, action := 9, flags := 1, arg0 := 1 },
        { lt := e, target := 0x063 + 4 * p, action := 9, flags := 1, arg0 := 0 }]

/-- The work of superframe `m` on port `p` is entered. -/
def State.planSf (s : State) (p m : Nat) : State :=
  (s.nextWork p m ++ s.quietWork p m ++ s.slotWork p m ++ s.contWork p m).foldl State.enterFix s

/-- A port whose role is in effect and which has no boundary ahead is given one (R81), and with it what the next superframe needs; an UP port that has no beacon listens meanwhile (R226). -/
def State.planStart (s : State) : State :=
  (List.range 4).foldl (fun s p =>
    if s.roleInEffect p = 0 || ! s.trk.epoch || s.fix.entries.any (fun e => e.2.armed && e.2.action == 8 && e.2.target == 0x063 + 4 * p) then s
    else
      let m := (s.sfSlice p 0 s.lt).1
      let s1 := (s.nextWork p m ++ s.quietWork p m).foldl State.enterFix s
      let c := s.rf (Reg.MAC_UP_CFG p) 20 2
      if s.roleInEffect p = 2 && s.rf (Reg.MAC_UP_STAT p) 0 2 = 0 then
        s1.enterFix { lt := wrap64 (s.lt + 2 ^ 32 / 48), target := 0x032 + 4 * p, action := 2, flags := 1, arg0 := 2 ^ c, arg1 := s.slicesUs (48 * s.sfCycles) }
      else s1) s

/-- Carries whose slot lies in a superframe that is over are discarded (R278). -/
def State.carriesPast (s : State) (p : Nat) : State :=
  let m := s.sfNow * s.sfCycles % 2 ^ 32
  { s with net := { s.net with carries := s.net.carries.filter (fun x => x.port != p || cycReached m x.cyc) } }

/-- SF_BOUNDARY (R81): the start of a superframe is marked, and its work is entered in the fixture list; a superframe whose mark is skipped is planned too, so that the next one is marked (log entry 177). Nothing of the MAC pages changes. -/
def State.sfBoundary (s : State) (i : Nat) : State :=
  let f := s.fixt i
  let p := (f.target - 0x063) / 4
  match s.due i 8 with
  | none => s
  | some ok =>
    let s1 := if s.fineStopped f then s.skip i .refused
      else if ! ok then s.skip i .deadlineMissed
      else if s.rb Reg.LTIME_TRK_STAT 8 || s.roleInEffect p = 0 then s.skip i .refused
      else if (s.fixHeld f).isSome then s.skip i ((s.fixHeld f).getD .refused)
      else s.fired i
    let s1 := if s.isUp p then s1.carriesPast p else s1
    if s.roleInEffect p = 0 then s1 else s1.planSf p (s.sfSlice p 0 (wrap64 (f.lt + 2 ^ 32 / 96))).1

/-- The quiet region starts (R224): every transmission in progress stops with LINK_LOST. -/
def State.quietStart (s : State) (p : Nat) : State :=
  let hit := (List.range 4).filter (fun p => (List.range 3).any (fun c => (s.cond p c).nb.isSome || (s.cond p c).bb.isSome))
  hit.foldl (fun s p => (s.stopPort p .linkLost).cause (0x063 + 4 * p) 5) { s with quiet := true, conds := s.conds.map (fun x => (x.1, x.2.cutProbe)), mac := { s.mac with quietOn := p :: s.mac.quietOn.filter (fun q => q != p) } }

/-- QUIET (R223, R224): a QUIET fixture starts or ends the quiet region, or is skipped. -/
def State.quietFix (s : State) (i : Nat) : State :=
  let f := s.fixt i
  let p := (f.target - 0x063) / 4
  match s.due i 9 with
  | none => s
  | some ok =>
    if s.fineStopped f then s.skip i .refused
    else if ! ok then s.skip i .deadlineMissed
    else if s.rb Reg.LTIME_TRK_STAT 8 || s.rf (Reg.MAC_MAC_CTL p) 0 2 = 0 then s.skip i .refused
    else if (s.fixHeld f).isSome then s.skip i ((s.fixHeld f).getD .refused)
    else if f.arg0 % 2 = 1 then (s.fired i).quietStart p
    else
      let s1 := s.fired i
      let s2 := if s1.mac.quietOn.contains p then s1.inc (Reg.MAC_QUIET_CNT p) else s1
      { s2 with quiet := false, mac := { s2.mac with quietOn := s2.mac.quietOn.filter (fun q => q != p) } }

/-! ## Contention (R212 to R215) -/

/-- The frame that contends under number `id`: one of the outbox, or one to be sent again whole, with its failed attempts. -/
def State.contFrame (s : State) (id : Nat) : Option (OutFrame × Nat) :=
  match s.link.outbox.find? (fun o => o.id == id && ! o.bb) with
  | some o => some (o, 0)
  | none => match s.sentOf (contBase + id) with
    | some x => if x.again then some (x.out, x.tries) else none
    | none => none

/-- The contention window CW of a frame (R214). -/
def State.contWindow (s : State) (p prio tries : Nat) : Nat :=
  min (2 ^ (s.rf (Reg.MAC_CS_CFG p) 8 4 + 3 - prio + tries)) (2 ^ s.rf (Reg.MAC_CS_CFG p) 12 4)

/-- The frame with its acknowledgement hold ends before its contention region and the quiet region (R215). -/
def State.contFits (s : State) (o : OutFrame) (id : Nat) : Bool :=
  match s.planOf o.port o.cond with
  | none => false
  | some b =>
    let len := match s.sentOf (contBase + id) with
      | some x => x.bytes.length
      | none => match (s.newFrame o false).2 with
        | some (f, _) => f.bytes.length
        | none => 0
    let pl := s.nbPlan o.port o.cond o.peer 0 len 0
    let dur := pl.edges + (if o.ar then ackHold b else 0)
    let u := (s.sfSlice o.port o.cond s.lt).2
    decide (phaseIn s.convFreq s.trk.rate dur * 48 ≤ (s.regions o.port o.cond).contLeft o.cond u * 2 ^ 32) && ! s.meetsQuiet s.lt dur

/-- A contention frame starts: a TX_START fixture of the firmware's is entered for the present boundary (R36), and the start is counted. -/
def State.contStart (s : State) (id : Nat) (o : OutFrame) : State :=
  match s.freeFix with
  | none => s
  | some i =>
    let f : Fixture := { lt := s.lt, target := 0x031 + 4 * o.port, action := 1, flags := 1, arg0 := o.cond, arg1 := contBase + id }
    let s1 := s.setFix i f
    ({ s1 with mac := { s1.mac with cont := tdel s1.mac.cont id } }).incF (Reg.MAC_CONT_CNT o.port o.cond) 0 16

/-- A contention frame is given up after `MAX_ATT` regions (R215). -/
def State.contGiveUp (s : State) (id : Nat) (o : OutFrame) : State :=
  let d := contBase + id
  let s1 := ({ s with mac := { s.mac with cont := tdel s.mac.cont id } }).cutOutbox (fun y => y.id == id)
  let s2 := (s1.dropSent d).descDone d .resourceRetry
  let s3 := (if o.fwd then s2.forwardFailed o .resourceRetry else s2).floodGone id false
  s3.incF (Reg.MAC_CONT_CNT o.port o.cond) 16 16

/-- Conductor `c` of port `p` was idle throughout the slice that ends now (R212): `level` is the highest level measured in it and `preamble` says whether a preamble was detected. -/
def State.sensedIdle (s : State) (p c level : Nat) (preamble : Bool) : Bool :=
  let l0 := wrap64 (s.lt + 2 ^ 64 - 2 ^ 32 / 48)
  let e0 := ((s.now : Int) + s.edgesTo l0).toNat
  let k := s.cond p c
  let r := s.regions p c
  ! preamble && decide (level < s.rf (Reg.MAC_CS_CFG p) 0 8) &&
  ! s.inDecode p c false none s.now && ! decide (e0 < k.nbRx) && ! k.muRx.any (fun x => decide (e0 < x.2)) &&
  k.nb.isNone && k.bb.isNone && ! (k.nbTx ++ k.bbTx).any (fun w => decide (e0 < w.2)) &&
  ! (k.holdEnd != 0 && decide (e0 + 1 < k.holdEnd)) &&
  ! s.quiet && r.at_ c ((s.sfSlice p c l0).2) != .quiet &&
  ! (s.slotsOn p c l0).any (fun e => e.kind == 5)

/-- What a frame's record becomes at slice `u` of superframe `m` (R215): a contention region that it met whole and that is over counts as passed. -/
def Contend.meet (k : Contend) (r : SfRegions) (m u : Nat) (inside : Bool) : Contend :=
  let passed := match k.region with
    | some (m0, whole) => whole && (m0 != m || decide (r.contEnd ≤ u))
    | none => false
  let k1 := if passed then { k with regions := k.regions + 1, region := k.region.map (fun x => (x.1, false)) } else k
  if inside && k1.region.map Prod.fst != some m then { k1 with region := some (m, k1.region.isSome || u == r.beacon) } else k1

/-- What is known of a contending frame is kept. -/
def State.contPut (s : State) (id : Nat) (k : Contend) : State := { s with mac := { s.mac with cont := tins s.mac.cont id k } }

/-- The slice lies in the serve window of priority `q` (R213): the frame draws its slice once in the window, and is sent there where the line is idle. A rebroadcast goes in the CSMA part (R280). -/
def State.contServe (s : State) (id : Nat) (o : OutFrame) (k : Contend) (r : SfRegions) (m u q : Nat) (idle : Bool) : State :=
  if o.prio < q || s.net.floodTx.any (fun y => y.out == some id) then s.contPut id k
  else
    let held := match k.window with
      | some (m0, q0, d) => if m0 = m && q0 = q then some d else none
      | none => none
    let d := held.getD (s.free.toNat % r.serve)
    let s1 := if held.isSome then s else s.drawn
    if u = r.beacon + (3 - q) * r.serve + d && idle && s.contFits o id then s1.contStart id o
    else s1.contPut id { k with window := some (m, q, d) }

/-- The slice lies in the CSMA part (R214): an idle slice counts the drawn counter down, and at 0 the frame is sent. -/
def State.contCsma (s : State) (id : Nat) (o : OutFrame) (tries : Nat) (k : Contend) (idle : Bool) : State :=
  let n := k.counter.getD (s.free.toNat % s.contWindow o.port o.prio tries)
  let s1 := if k.counter.isSome then s else s.drawn
  if ! idle then s1.contPut id { k with counter := some n }
  else if n ≠ 0 then s1.contPut id { k with counter := some (n - 1) }
  else if s.contFits o id then s1.contStart id o
  else s1.contPut id { k with counter := some 0 }

/-- What a frame does at slice `x.2` of superframe `x.1` (R213 to R215): it gives up after as many regions as `CS_CFG` allows, and else acts by the part of the region the slice lies in. -/
def State.contAct (s : State) (id : Nat) (o : OutFrame) (tries : Nat) (k0 : Contend) (r : SfRegions) (x : Nat × Nat) (idle : Bool) : State :=
  let here := r.at_ o.cond x.2
  let k := k0.meet r x.1 x.2 (here != .beacon && here != .scheduled && here != .quiet)
  if s.rf (Reg.MAC_CS_CFG o.port) 16 4 ≤ k.regions then s.contGiveUp id o
  else match here with
    | .serve q => s.contServe id o k r x.1 x.2 q idle
    | .csma => s.contCsma id o tries k idle
    | _ => s.contPut id k

/-- CONTENTION_ACCESS (R212 to R215): what a frame in contention does at a slice boundary of its conductor. The start slice of a serve window and the CSMA counter are values drawn from the DRBG. -/
def State.contention (s : State) (id level : Nat) (preamble : Bool) : State :=
  match s.contFrame id with
  | none => s
  | some (o, tries) =>
    let p := o.port
    let c := o.cond
    let k0 := (tfind s.mac.cont id).getD { out := id }
    let n := s.sliceNo p c s.lt + 1
    if ! s.mayTransmit p || s.upSilent p o || ! s.atSlice p c || k0.seen = n || s.txArmed (contBase + id) then s
    else
      s.contAct id o tries { k0 with seen := n } (s.regions p c) (s.sfSlice p c s.lt) (s.sensedIdle p c level preamble)

/-! ## Grants given (R220, R221) -/

/-- The grants of one entry: to whom, `GKIND` and `OTHER` (R217). -/
def grantsOf (e : SlotEntry) : List (Nat × Nat × Nat) :=
  match e.kind with
  | 1 => [(e.peer, 2, 0)]
  | 2 => [(e.peer, 1, 0)]
  | 3 => [(e.peer, 3, 0)]
  | 4 => [(e.peer, 5, 0)]
  | 5 => [(e.peer, 4, 0)]
  | 6 => [(e.peer, 6, 0)]
  | 7 => [(e.peer, 1, e.peer2), (e.peer2, 2, e.peer)]
  | 8 => [(e.peer, 7, e.peer2)]
  | _ => []

/-- A grant record of 12 bytes (R220). -/
def grantBytes (e : SlotEntry) (gkind other : Nat) : List Byte :=
  leBytes 2 (e.start + gkind * 4096) ++ leBytes 2 e.len ++ leBytes 1 (e.cond + e.cset * 4) ++ leBytes 1 e.subch ++ leBytes 1 e.mapId ++ leBytes 1 e.nsym ++
  leBytes 3 (other + e.repExp * 2 ^ 20) ++ leBytes 1 e.ph

/-- The grant records a bank of the schedule gives each peer. -/
def State.bankGrants (s : State) (p bank : Nat) : List (Nat × List Byte) :=
  ((s.schedValid p bank).map (s.schedEntry p bank)).flatMap (fun e => (grantsOf e).map (fun g => (g.1, grantBytes e g.2.1 g.2.2)))

/-- The slot-grant bodies of a peer's records, 16 to a body, the last without `MORE` (R220). -/
def grantBodies (cyc : Nat) : Nat → List (List Byte) → List (List Byte)
  | 0, _ => []
  | n + 1, rs =>
    let here := rs.take 16
    let rest := rs.drop 16
    if here.isEmpty then []
    else (leBytes 1 1 ++ leBytes 1 (here.length + (if rest.isEmpty then 0 else 128)) ++ leBytes 4 cyc ++ [0, 0] ++ here.flatten) :: grantBodies cyc n rest

/-- An endpoint is a member of a group, or of all nodes (R234, R281). -/
def State.inGroup (s : State) (a g : Nat) : Bool := g == 0xFFFFF || (isGroup g && (s.ep a).groups / 2 ^ (g - 0xFFFF0) % 2 == 1)

/-- A requested SCHED swap announces the new grants to every peer whose grants differ, those of a group to each of its members (R221). -/
def State.grantsSend (s : State) (p cyc : Nat) : State :=
  let act := (s.page (0x061 + 4 * p)).active
  let old := s.bankGrants p act
  let new := s.bankGrants p (1 - act)
  let of_ := fun (l : List (Nat × List Byte)) (a : Nat) => (l.filter (fun x => x.1 == a || (decide (0xFFFF0 ≤ x.1) && s.inGroup a x.1))).map Prod.snd
  let members := (s.net.eps.filter (fun x => x.2.state == 1 && x.2.port == p && new.any (fun y => decide (0xFFFF0 ≤ y.1) && s.inGroup x.1 y.1))).map Prod.fst
  let peers := (((new.map Prod.fst).filter isUnicast ++ members).eraseDups).filter (fun a => of_ new a != of_ old a)
  peers.foldl (fun s a =>
    let c := (s.ep a).cond
    (grantBodies cyc 4096 (of_ new a)).foldl (fun (s : State) b =>
      let s1 := s.sendMgmt p c a 7 3 b
      { s1 with mac := { s1.mac with grantsOut := s1.mac.grantsOut ++ [{ port := p, peer := a, cyc := cyc, body := b, sf := s.sfNow }] } })
      { s with mac := { s.mac with grantsOut := s.mac.grantsOut.filter (fun g => ! (g.port == p && g.peer == a)) } }) s

/-- The cycle of a swap's trigger (R52, R221). -/
def State.triggerCycle (s : State) (trig port lt : Nat) : Nat :=
  match trig with
  | 2 => (s.cycle + 1) % 2 ^ 32
  | 3 => ((s.sfIndex port s.lt + 1) * s.sfCycles) % 2 ^ 32
  | 4 => lt / 2 ^ 32
  | _ => s.cycle

/-- A SCHED page's swap was requested: its peers are told. -/
def State.schedAnnounce (s : State) (pg cyc : Nat) : State :=
  if 0x061 ≤ pg && pg < 0x070 && (pg - 0x061) % 4 = 0 && s.roleInEffect ((pg - 0x061) / 4) = 1 then s.grantsSend ((pg - 0x061) / 4) cyc else s

/-- BANK_CTL.REQ with the announcement of R221. -/
def State.soloReq (s : State) (pg : Nat) : State :=
  let s1 := s.soloRequest pg
  if (s1.page pg).soloPend && ! (s.page pg).soloPend then
    s1.schedAnnounce pg (s.triggerCycle (s.rf (Reg.BANK_CTL pg) 5 2) (s.rf (Reg.BANK_CTL pg) 8 2) 0)
  else s1

/-- GRP_REQ.REQ with the announcements of R221. -/
def State.groupReq (s : State) (g : Nat) : State :=
  let s1 := s.groupRequest g
  if (s1.group g).pend && ! (s.group g).pend then
    let cyc := s.triggerCycle (s.rf (Reg.BANK_GRP_CTL g) 0 3) (s.rf (Reg.BANK_GRP_CTL g) 4 2) (s.groupLt g)
    (s1.group g).members.foldl (fun s pg => s.schedAnnounce pg cyc) s1
  else s1

/-- GRANT_RESEND (R221): unacknowledged grants go again, once in a superframe; acknowledged ones leave once their entries are in force. -/
def State.grantResend (s : State) : State :=
  let keep := s.mac.grantsOut.filter (fun g => g.acked == 0 || ! s.sfReached s.sfNow g.acked)
  let due := keep.filter (fun g => g.acked == 0 && g.sf != s.sfNow)
  let s1 := { s with mac := { s.mac with grantsOut := keep.map (fun g => if g.acked == 0 && g.sf != s.sfNow then { g with sf := s.sfNow } else g) } }
  due.foldl (fun s g => if s.link.outbox.any (fun o => o.port == g.port && o.peer == g.peer && o.body == leBytes 1 7 ++ g.body) then s
    else s.sendMgmt g.port (s.ep g.peer).cond g.peer 7 3 g.body) s1

/-! ## Grants held (R220, R222) -/

/-- A grant record as a node reads it. -/
def grantOf (r : List Byte) : Grant :=
  { start := leAt r 0 2 % 4096, kind := leAt r 0 2 / 4096, len := leAt r 2 2 % 4096, cond := leAt r 4 1 % 4, cset := leAt r 4 1 / 4 % 8, subch := leAt r 5 1
    mapId := leAt r 6 1, nsym := leAt r 7 1, other := leAt r 8 3 % 2 ^ 20, repExp := leAt r 8 3 / 2 ^ 20 % 8, ph := leAt r 11 1 }

/-- The schedule entry a held grant becomes, of the matching `KIND` (R222). -/
def Grant.entry (g : Grant) : List Byte :=
  let kind := match g.kind with
    | 1 => 1 | 2 => 2 | 3 => 3 | 4 => 4 | 5 => 5 | 6 => 6 | 7 => 8 | _ => 9
  leBytes 2 g.start ++ leBytes 2 (g.len + kind * 4096) ++ leBytes 1 (g.cond + g.cset * 4 + 32) ++ leBytes 1 g.subch ++ leBytes 3 g.other ++ leBytes 3 0 ++
  leBytes 1 g.mapId ++ leBytes 1 g.nsym ++ leBytes 1 g.repExp ++ leBytes 1 g.ph

/-- The slot schedule of the UP port follows its grants (R222): the swap passes the checks of any swap of its page (R205, R219); where it fails them the former schedule stays, which is the model's reading (log entry 178). -/
def State.writeGrants (s : State) (p : Nat) (gs : List Grant) : State :=
  let pg := 0x061 + 4 * p
  let sh := 1 - (s.page pg).active
  let old := (s.regs.filter (fun kv => decide (schedKey p sh 0 ≤ kv.1) && decide (kv.1 < schedKey p sh 16384))).foldl (fun (s : State) kv => s.wr kv.1 0) s
  let s1 := gs.zipIdx.foldl (fun (s : State) x =>
    (List.range 4).foldl (fun (s : State) j => s.wr (schedKey p sh (4 * x.2 + j)) (word (leAt x.1.entry (4 * j) 4))) s) old
  let (s2, ok) := s1.swapChecks [pg]
  if ok && s2.memberReady pg then s2.exchange pg else s2.swapFailed pg

/-- Grants received for a cycle that has come replace those held (R220, R222). -/
def State.grantsApply (s : State) (p : Nat) : State :=
  let u := s.mac.up
  if u.newGrants.isEmpty || u.more || ! cycReached u.newCyc s.cycle then s
  else ({ s with mac := { s.mac with up := { u with grants := u.newGrants, newGrants := [] } } }).writeGrants p u.newGrants

/-- SLOT_GRANT (R220): the first received slot-grant body on the UP port. -/
def State.slotGrant (s : State) : State :=
  match s.takeInbox (fun d => d.mgmt && d.mtype == 7) with
  | none => s
  | some (s1, d) =>
    let b := d.body
    let n := leAt b 1 1 % 32
    if leAt b 0 1 ≠ 1 || n = 0 || decide (16 < n) || ! s1.isUp d.port || b.length < 8 + 12 * n then s1
    else
      let cyc := leAt b 2 4
      let gs := (List.range n).map (fun j => grantOf (takeBytes b (8 + 12 * j) 12))
      let u := s1.mac.up
      let base := if u.more && u.newCyc = cyc then u.newGrants else []
      ({ s1 with mac := { s1.mac with up := { u with newGrants := base ++ gs, newCyc := cyc, more := decide (128 ≤ leAt b 1 1) } } }).grantsApply d.port

/-- SOLO_SWAP (R52, R58, R222): a requested solo swap, or, on an UP port's SCHED page, the swap to the grants whose `EFF_CYC` has come. -/
def State.soloSwapAny (s : State) (pg : Nat) : State :=
  let p := (pg - 0x061) / 4
  if pg = 0x061 + 4 * p && s.isUp p then s.grantsApply p else s.soloSwap pg

/-! ## Following an upstream coordinator (R226 to R228) -/

/-- The own short address on the UP port. -/
def State.setOwn (s : State) (p a : Nat) : State := s.wf (Reg.MAC_OWN_ADDR p) 0 20 a

/-- A fixture belongs to the firmware's range (R87). -/
def State.firmwareFix (s : State) (i : Nat) : Bool := decide (16 ≤ i) && decide (i < s.rf Reg.FIX_FIX_CFG 0 14)

/-- Every armed firmware fixture of a condition is disarmed. -/
def State.disarmWhere (s : State) (f : Fixture → Bool) : State :=
  (s.fix.entries.filter (fun e => e.2.armed && s.firmwareFix e.1 && f e.2)).foldl (fun s e => (s.disarm false e.1).1) s

/-- The upstream association ends (R228, R262, R263): address 0xF_FFFE, no grants, upstream descriptors complete with LINK_LOST. -/
def State.upLost (s : State) (p : Nat) : State :=
  let u := s.mac.up
  let own := s.ownShort p
  let s1 := (s.setOwn p 0xFFFFE).cutOutbox (fun o => o.port == p)
  let gone := s1.link.sent.filter (fun x => x.2.out.port == p)
  let s2 := gone.foldl (fun s x => (s.descDone x.1 .linkLost).dropSent x.1) s1
  ({ s2 with mac := { s2.mac with up := { u with grants := [], newGrants := [], more := false, leased := false, prev := own, groups := 0 } } }).showLease

/-- The sealed ASSOC_REQ of the device (R257 to R259): `lq` is the mean pilot SNR of the beacons tracked. The device supports every band plan, multi-user uplink, relaying and broadband (log entry 40). -/
def State.assocReq (s : State) (p lq : Nat) : State :=
  match s.assocKey s.ownLong true with
  | none => s
  | some key =>
    let aiv := s.freeBytes 12
    let s1 := { s with draws := s.draws + 12 }
    let along := leBytes 8 s.ownLong
    let body := leBytes 1 1 ++ leBytes 2 0x1FF ++ leBytes 2 s.mac.up.kepoch ++ leBytes 3 s.mac.up.prev ++ leBytes 1 lq
    let (ct, tag) := gcmSeal 16 key aiv (leBytes 1 1 ++ along) body
    s1.pushOut { id := 0, port := p, cond := s.rf (Reg.MAC_UP_CFG p) 20 2, peer := s.rf (Reg.MAC_UP_CFG p) 0 20, prio := 1, sec := false
                 body := leBytes 1 1 ++ along ++ aiv ++ ct ++ tag }

/-- The upstream state is shown. -/
def State.setUpState (s : State) (p st miss : Nat) : State := (s.wf (Reg.MAC_UP_STAT p) 0 2 st).wf (Reg.MAC_UP_STAT p) 2 2 miss

/-- What is measured of a beacon that started at edge `t`: the slice boundary next to it and the error from that in slice units of 2^-32; both in conductor time. -/
def State.bcnStart (s : State) (p c t : Nat) : Nat × Int :=
  let w := s.condLt p c (s.ltAt t) * 48
  let k := (w + 2 ^ 31) / 2 ^ 32
  (k, (w : Int) - ((k * 2 ^ 32 : Nat) : Int))

/-- A beacon is adopted as the tracked one (R226). -/
def State.beaconTake (s : State) (p t lq mode : Nat) (body : List Byte) (slOfs : Nat) (err : Int) (net : Nat) : State :=
  let n := ofLE body
  let w := s.rd (Reg.MAC_UP_STAT p)
  let back := fld w 0 2 = 3
  let sCode := n / 2 ^ 6 % 8
  let next := n / 2 ^ 88 % 8
  let s1 := s.wr (Reg.MAC_UP_STAT p) (setFld (setFld (setFld (setFld (setBit w 10 false) 0 2 1) 2 2 0) 4 6 slOfs) 24 8 (n / 2 ^ 120 % 256))
  let s2 := ((s1.wr (Reg.MAC_UP_ERR p) (word (err % (2 ^ 32 : Int)).toNat)).wr64 (Reg.MAC_UP_LAST_LO p) (Reg.MAC_UP_LAST_HI p) (s.ltAt t)).incF (Reg.MAC_UP_CNT p) 0 16
  let s3 := s2.wr (Reg.MAC_UP_PARAM p) (word (sCode + n / 2 ^ 80 % 16 * 2 ^ 4 + n / 2 ^ 84 % 16 * 2 ^ 8 + n / 2 ^ 68 % 4096 * 2 ^ 16))
  let s4 := if s.mode = 4 || s.mode = 10 || 4 < sCode then s3
    else (List.range 4).foldl (fun s q => (s.wf (Reg.MAC_SF_STAT q) 0 3 sCode).wb (Reg.MAC_SF_STAT q) 3 (next != sCode)) s3
  let u := s4.mac.up
  let s5 := { s4 with mac := { s4.mac with up := { u with beacon := body, bcnMode := mode, net := some net, inForce := true, hops := n / 2 ^ 64 % 16 + 1
                                                          parent := if u.leased then u.parent else n / 2 ^ 44 % 2 ^ 20 } } }
  let s6 := if back then (s5.cause (0x063 + 4 * p) 3).closeRxWin p (s.rf (Reg.MAC_UP_CFG p) 20 2) else s5
  -- Held grants are in force again from the next slot (R228).
  let s6 := if back then (s6.slotWork p (s6.sfSlice p (s6.rf (Reg.MAC_UP_CFG p) 20 2) s6.lt).1).foldl State.enterFix s6 else s6
  -- A node without a short address associates (R257).
  if s6.ownShort p = 0xFFFFE && (s.mode = 5 || s.mode = 6) && ! s6.link.outbox.any (fun o => o.port == p && o.mgmt && leAt o.body 0 1 == 1) then s6.assocReq p lq else s6

/-- BEACON_RX (R226, R227): the first decoded beacon. `lq` is the mean pilot SNR of the beacons tracked, in 0.25 dB. -/
def State.beaconRx (s : State) (lq : Nat) : State :=
  match s.takeInbox (fun d => d.mtype == 0x202) with
  | none => s
  | some (s1, d) =>
    let p := d.port
    let n := ofLE d.body
    let c := s1.rf (Reg.MAC_UP_CFG p) 20 2
    let st := s1.rf (Reg.MAC_UP_STAT p) 0 2
    let net := n / 2 ^ 104 % 2 ^ 16
    let netOk := (st == 0 && s1.rb (Reg.MAC_UP_CFG p) 22) || net == s1.netId p
    if s1.roleInEffect p ≠ 2 || d.cond ≠ c || n % 16 ≠ 1 || n / 2 ^ 44 % 2 ^ 20 ≠ s1.rf (Reg.MAC_UP_CFG p) 0 20 || ! netOk then s1
    else
      let t := d.cyc
      let su := n / 2 ^ 92 % 4096
      let (k, e) := s1.bcnStart p c t
      let full : Int := 48 * 2 ^ 32 * (sfLen (n / 2 ^ 6 % 8) : Int)
      let want : Int := ((su + s1.rf (Reg.MAC_UP_STAT p) 4 6 : Nat) : Int) * 2 ^ 32
      let rel : Int := ((k * 2 ^ 32 : Nat) : Int) + e - want
      let e2 : Int := (rel + full / 2) % full - full / 2
      let tracking := st = 1 || st = 2
      let err : Int := s1.nsOfUnits ((if tracking then e2 else e) / 48)
      if (if tracking then decide ((s1.rf (Reg.MAC_UP_WIN p) 0 16 * 1000 : Nat) < err.natAbs) else decide (25000 < err.natAbs)) then s1
      else
        let slOfs := (k + 48 * 4096 - su) % 48
        let own := (k + 48 * 2 ^ 32 - slOfs - su) / 48 % 2 ^ 32
        let cyc := n / 2 ^ 12 % 2 ^ 32
        if own = cyc then s1.beaconTake p t lq d.src d.body slOfs err net
        else
          let hostArmed := s1.fix.entries.any (fun x => x.2.armed && decide (s1.rf Reg.FIX_FIX_CFG 0 14 ≤ x.1))
          if (s1.mode = 5 || s1.mode = 3) && ! hostArmed then
            -- The count of the next crossing is the beacon's, moved on by the cycles since.
            let adopt := (cyc + (s1.cycle + 2 ^ 32 - own) + 1) % 2 ^ 32
            (((s1.disarmWhere (fun _ => true)).wr Reg.LTIME_CYC_SET (word adopt)).cycApply).beaconTake p t lq d.src d.body slOfs err net
          else
            ((s1.setUpState p 0 0).wb (Reg.MAC_UP_STAT p) 10 true).cause (0x063 + 4 * p) 6

/-- BEACON_MISS (R228): the beacon region of a superframe has ended with no beacon accepted in it, which counts once. -/
def State.beaconMiss (s : State) : State :=
  match s.upPort with
  | none => s
  | some p =>
    let st := s.rf (Reg.MAC_UP_STAT p) 0 2
    let miss := s.rf (Reg.MAC_UP_STAT p) 2 2
    let c := s.rf (Reg.MAC_UP_CFG p) 20 2
    let last := (s.rd (Reg.MAC_UP_LAST_HI p)).toNat * 2 ^ 32 + (s.rd (Reg.MAC_UP_LAST_LO p)).toNat
    let (m, u) := s.sfSlice p c s.lt
    if (st ≠ 1 && st ≠ 2) || s.roleInEffect p ≠ 2 || (s.sfSlice p c last).1 = m || u < (s.regions p c).beacon || s.mac.up.missSf = m + 1 ||
      s.arrives (fun i => match i with | .beaconRx .. => true | _ => false) then s
    else
    let s := { s with mac := { s.mac with up := { s.mac.up with missSf := m + 1 } } }
    if miss < 2 then s.setUpState p 2 (miss + 1)
    else
      let s1 := s.setUpState p 3 3
      let s2 := s1.disarmWhere (fun f => (f.action == 1 && f.target == 0x031 + 4 * p) || (f.action == 2 && f.target == 0x032 + 4 * p))
      let s3 := { s2 with mac := { s2.mac with up := { s2.mac.up with inForce := false } } }
      let s4 := s3.openRxWin p c (s3.now + 2 ^ 64)
      ((s4.incF (Reg.MAC_UP_CNT p) 16 16).cause (0x063 + 4 * p) 2).pageRecord (0x063 + 4 * p) 2 0 (detail 0 p 0)

/-! ## Association at the coordinator (R257 to R263) -/

/-- The lowest short address that is free and not in quarantine (R261): the first gap in the rising table. -/
def lowestFree : List (Nat × EpRec) → Nat → Nat
  | [], n => n
  | (k, e) :: m, n => if k < n then lowestFree m n else if k = n && e.state ≠ 0 then lowestFree m (n + 1) else n

/-- The long address is admitted (R284). -/
def State.admitted (s : State) (long : Nat) : Bool := ! s.rb Reg.NET_NET_CFG 25 || s.net.adm.contains long

/-- `RESULT` and the short address of a request (R261). -/
def State.assocDecide (s : State) (p long prev : Nat) : Status × Nat :=
  if ! s.rb (Reg.MAC_LL_CFG p) 9 then (.refused, 0xFFFFE)
  else if ! s.admitted long then (.endpointUnknown, 0xFFFFE)
  else match s.net.eps.find? (fun x => x.2.long == long && x.2.state == 1) with
    | some (a, _) => (.done, a)
    | none =>
      if isUnicast prev && (s.ep prev).state = 0 then (.done, prev)
      else
        let a := lowestFree s.net.eps 1
        if a ≤ 0xFFFEF then (.done, a) else (.resourceRetry, 0xFFFFE)

/-- The neighbour state of a pair starts anew, for the node that now holds the address and in its key epoch (R248, R249, R260, R261). -/
def State.restartNbr (s : State) (p a : Nat) : State :=
  match s.findNbr p a none with
  | some k => s.setNbr k { (s.nbr k).restart with long := s.longOf p a, kepoch := if s.isUp p then s.mac.up.kepoch else (s.ep a).kepoch }
  | none => s

/-- ASSOC_REQ (R257, R258, R261): the first received request is opened, decided and answered. -/
def State.assocRequest (s : State) : State :=
  match s.takeInbox (fun d => d.mgmt && d.mtype == 1) with
  | none => s
  | some (s1, d) =>
    let p := d.port
    let direct := d.srcLong.isSome
    let x := if direct then d.body else d.body.drop (netLen d.body)
    let parent := if direct then 0 else netOrig d.body
    let long := leAt x 0 8
    let aad := leBytes 1 1 ++ takeBytes x 0 8
    match s1.assocKey long false with
    | none => s1
    | some key =>
      match (if x.length < 45 then none else gcmOpen key (takeBytes x 8 12) aad (takeBytes x 20 (x.length - 36)) (takeBytes x (x.length - 16) 16)) with
      | none => s1.tagFail p long
      | some b =>
        let (st, a) := s1.assocDecide p long (leAt b 5 3 % 2 ^ 20)
        let m := s1.sfNow
        let s2 := if st ≠ Status.done then s1 else
          let e := s1.ep a
          let v : EpRec := { e with long := long, state := 1, noRoute := false, lost := false, cap := leAt b 1 2 % 512, port := p, cond := d.cond, bb := false
                                    parent := parent, lq := leAt b 8 1, leaseEnd := m + 256, lastSf := m, quarEnd := 0, dirty := true }
          ((s1.setEp a v).rebuildRoutes).restartNbr p a
        let resp := leBytes 1 st ++ leBytes 8 long ++ leBytes 3 a ++ leBytes 3 parent ++ leBytes 2 (s2.ep a).kepoch ++ leBytes 4 (m * s2.sfCycles)
        let aiv := s2.freeBytes 12
        let s3 := { s2 with draws := s2.draws + 12 }
        let (ct, tag) := gcmSeal 16 key aiv (leBytes 1 2 ++ leBytes 8 long) resp
        let sealed := leBytes 8 long ++ aiv ++ ct ++ tag
        if direct then s3.pushOut { id := 0, port := p, cond := d.cond, peer := 0xFFFFE, long := some long, prio := 1, sec := false, body := leBytes 1 2 ++ sealed }
        else s3.sendDown parent 2 sealed

/-- An address leaves the association and enters quarantine for 64 superframes (R262, R263); messages under way to it end. -/
def State.quarantine (s : State) (a : Nat) : State :=
  let s1 := (s.setEp a { s.ep a with state := 2, quarEnd := s.sfNow + 64 }).rebuildRoutes
  (s1.cutOutbox (fun o => o.peer == a && o.long.isNone && ! s.isUp o.port)).resolveWhere (fun x => x.2.kind == 0 && x.2.dst == a) .endpointUnknown

/-- DISASSOC (R263): either end ends the association. -/
def State.disassoc (s : State) : State :=
  match s.takeInbox (fun d => d.mgmt && d.mtype == 3) with
  | none => s
  | some (s1, d) =>
    let b := withoutHeader 4 d.body
    let a := leAt b 1 3 % 2 ^ 20
    if s1.isUp d.port then (if a = s1.ownShort d.port then s1.upLost d.port else s1)
    else if (s1.ep a).state = 1 && (a == originOf { d with body := leBytes 1 3 ++ d.body }) then s1.quarantine a else s1

/-- LEASE_RENEW (R262, R263): the lease is renewed and LEASE_ACK returned. -/
def State.leaseRenew (s : State) : State :=
  match s.takeInbox (fun d => d.mgmt && d.mtype == 4) with
  | none => s
  | some (s1, d) =>
    let a := leAt (withoutHeader 5 d.body) 0 3 % 2 ^ 20
    let m := d.sf
    let ok := (s1.ep a).state = 1
    let s2 := if ok then s1.renew a s1.sfNow else s1
    let body := leBytes 1 (if ok then Status.done else Status.endpointUnknown) ++ leBytes 4 (if ok then s1.sfNow * s1.sfCycles else m * s1.sfCycles)
    if s1.isUp d.port then s1
    else if ok then s2.sendNode a 5 body
    else s2.sendMgmt d.port d.cond d.src 5 2 body

/-- LEASE_END (R228, R262): leases whose superframe has come end: an endpoint's address enters quarantine, the node's own is given up. -/
def State.leaseEnd (s : State) : State :=
  let gone := (s.net.eps.filter (fun x => x.2.state == 1 && s.sfReached s.sfNow x.2.leaseEnd)).map Prod.fst
  let s1 := gone.foldl (fun s a => s.quarantine a) s
  match s1.upPort with
  | none => s1
  | some p =>
    if s1.mac.up.leased && s1.sfReached s1.sfNow (s1.mac.up.leaseM + 256) then
      let s2 := (s1.upLost p).setUpState p 0 0
      ({ s2 with mac := { s2.mac with up := { s2.mac.up with inForce := false, net := none } } }).cause (0x063 + 4 * p) 4
    else s1

/-- QUARANTINE_END (R262): addresses whose 64 superframes have passed are free. -/
def State.quarantineEnd (s : State) : State :=
  ((s.net.eps.filter (fun x => x.2.state == 2 && s.sfReached s.sfNow x.2.quarEnd)).map Prod.fst).foldl
    (fun s a => s.setEp a { s.ep a with state := 0, quarEnd := 0 }) s

/-- EPOCH_GRACE_END (R435): former key epochs whose 16 superframes have passed are no longer accepted. -/
def State.graceEnd (s : State) : State :=
  let beyond (g : Nat) : Bool := g != 0 && s.sfReached s.sfNow g
  ((s.net.eps.filter (fun x => beyond x.2.graceSf || beyond x.2.mkGraceSf)).map Prod.fst).foldl (fun s a =>
    let r := s.ep a
    s.setEp a { r with graceSf := if beyond r.graceSf then 0 else r.graceSf, mkGraceSf := if beyond r.mkGraceSf then 0 else r.mkGraceSf }) s

/-! ## The node's own association (R260, R262) -/

/-- ASSOC_RESP (R258, R260): the first received response gives the device its address and lease. -/
def State.assocResponse (s : State) : State :=
  match s.takeInbox (fun d => d.mgmt && d.mtype == 2) with
  | none => s
  | some (s1, d) =>
    let p := d.port
    let x := d.body
    let long := leAt x 0 8
    match s1.assocKey s1.ownLong true with
    | none => s1
    | some key =>
      match (if x.length < 57 || long ≠ s1.ownLong || ! s1.isUp p then none
             else gcmOpen key (takeBytes x 8 12) (leBytes 1 2 ++ takeBytes x 0 8) (takeBytes x 20 (x.length - 36)) (takeBytes x (x.length - 16) 16)) with
      | none => s1
      | some b =>
        if leAt b 0 1 ≠ Status.done || leAt b 1 8 ≠ s1.ownLong then s1
        else
          let u := s1.mac.up
          let s2 := ({ s1 with mac := { s1.mac with up := { u with parent := leAt b 12 3 % 2 ^ 20, kepoch := leAt b 15 2, leased := false } } }).setOwn p (leAt b 9 3 % 2 ^ 20)
          (((s2.renewOwn (leAt b 17 4 / s2.sfCycles)).restartNbr p (leAt b 12 3 % 2 ^ 20)).markUpstream p).cause (0x063 + 4 * p) 10

/-- LEASE_ACK (R262, R263): the node's lease is renewed, or it associates again. -/
def State.leaseAck (s : State) : State :=
  match s.takeInbox (fun d => d.mgmt && d.mtype == 5) with
  | none => s
  | some (s1, d) =>
    let b := withoutHeader 5 d.body
    if ! s1.isUp d.port then s1
    else if leAt b 0 1 = Status.done then (if s1.mac.up.leased then s1.renewOwn (leAt b 1 4 / s1.sfCycles) else s1)
    else if leAt b 0 1 = Status.endpointUnknown then s1.upLost d.port
    else s1

/-- LEASE_RENEW_SEND (R262): from 192 superframes after its last renewal the node sends LEASE_RENEW once in a superframe. -/
def State.leaseRenewSend (s : State) : State :=
  match s.upPort with
  | none => s
  | some p =>
    let u := s.mac.up
    if ! u.leased || s.roleInEffect p ≠ 2 || ! s.sfReached s.sfNow (u.leaseM + 192) || u.renewSent = s.sfNow + 1 then s.showLease
    else
      let s1 := s.sendUp p 4 (leBytes 3 (s.ownShort p) ++ leBytes 2 (256 - s.sfSince s.sfNow u.leaseM))
      ({ s1 with mac := { s1.mac with up := { u with renewSent := s.sfNow + 1 } } }).showLease

/-- NULL (R254): a received MGMT NULL has no body of its own; its repair was made as it was received. -/
def State.nullRx (s : State) : State :=
  match s.takeInbox (fun d => d.mgmt && d.mtype == 8) with
  | none => s
  | some (s1, _) => s1

/-! ## Admission (R284) and the endpoint window (R282, R285) -/

/-- `ADM_CNT` shown (R299). -/
def State.showAdm (s : State) : State := s.wr Reg.NET_ADM_CNT (word s.net.adm.length)

/-- ADMIT (R284, R293): a full list has no room for another address. -/
def State.admission (s : State) (c : Sub) : State :=
  let long := leAt c.part 20 8
  if s.net.adm.contains long then s.finishTag c .done
  else if 1048559 ≤ s.net.adm.length then s.finishTag c .resourceRetry
  else (({ s with net := { s.net with adm := s.net.adm ++ [long] } }).showAdm).finishTag c .done

/-- REVOKE (R284): the address leaves the list; an associated one is sent DISASSOC and enters quarantine. -/
def State.revoke (s : State) (c : Sub) : State :=
  let long := leAt c.part 20 8
  let s1 := ({ s with net := { s.net with adm := s.net.adm.filter (· != long) } }).showAdm
  let s2 := match s1.net.eps.find? (fun x => x.2.long == long && x.2.state == 1) with
    | some (a, _) => (s1.quarantine a).sendNode a 3 (leBytes 1 Status.endpointUnknown ++ leBytes 3 a)
    | none => s1
  s2.finishTag c .done

/-- A write of byte string `b` over bytes `lo` on of the selected record (R285): only `GROUPS`, `SEG_SZ`, `ROUTE_MODE` and `HOST` change; a change of `GROUPS` sends GROUP_SET (R281). -/
def State.epWinWrite (s : State) (i : Nat) (v : Word) : State :=
  let a := s.rf Reg.NET_EP_SEL 0 20
  let e := s.ep a
  let x := v.toNat
  if i = 15 then
    let g := x / 2 ^ 16 % 2 ^ 14
    let s1 := s.setEp a { e with groups := g }
    if g ≠ e.groups && e.state = 1 then s1.sendDown a 0x24 (leBytes 2 g) else s1
  else if i = 22 then
    -- A write that places a field outside its range is ignored in full.
    let sz := x % 2 ^ 16
    if sz % 16 = 0 && decide (272 ≤ sz) && decide (sz ≤ 1920) && x / 2 ^ 16 % 4 != 3 then s.setEp a { e with segSz := sz, routeMode := x / 2 ^ 16 % 4 } else s
  else if 32 ≤ i && i < 112 then
    let h := takeBytes e.host 0 320
    s.setEp a { e with host := h.take (4 * (i - 32)) ++ leBytes 4 x ++ h.drop (4 * (i - 32) + 4) }
  else s

/-- ENDPOINT_RECORD_STORE (R282, R413): changed records go to the endpoint store. -/
def State.epStore (s0 : State) : State :=
  if ! s0.anyDrive then s0
  else
    let ch := s0.net.eps.filter (fun x => x.2.dirty)
    -- Seven records a block (R413).
    let s := s0.wroteBlocks ((ch.map (fun x => x.1 / 7)).eraseDups).length
    { s with
      net := { s.net with eps := s.net.eps.map (fun x => (x.1, { x.2 with dirty := false })) }
      sto := { s.sto with epStore := ch.foldl (fun m x => tins m x.1 (x.2.bytes x.1)) s.sto.epStore } }

end Sys2Proof.Machine
end

