-- ==== Sys2Proof/Machine/SecCore.lean ====
section
/-! DEFINITION. The security core's engine room: key slots, AES-256-GCM operations with their release rules, entropy and the DRBG, sessions and their zeroisation (R436 to R441, R448 to R452, R501, R507). -/

namespace Sys2Proof.Machine

/-! ## Views -/

/-- `SEC_STAT` follows the state, the debug level and the entropy (R456). -/
def State.showSec (s : State) : State :=
  s.wr Reg.SEC_SEC_STAT (word (s.sec.lc % 4 + s.sec.dbg % 4 * 4 + (if s.sec.starved then 0 else 16) + (if s.sec.noEntropy = 0 then 0 else 32)))

/-- A key slot. -/
def State.slot (s : State) (n : Nat) : KeySlot := tget {} s.sec.slots n

/-- Operations of a slot that still hold old material (R437). -/
def State.slotPins (s : State) (n : Nat) : Nat := (s.sec.runs.filter (fun r => r.slot == n && r.old)).length

/-- `SLOT_STAT_n` follows the slot (R456). -/
def State.showSlot (s : State) (n : Nat) : State :=
  let k := s.slot n
  s.wr (Reg.SEC_SLOT_STAT n) (word ((if k.loaded then 1 else if k.erasing then 2 else 0) + leAt k.label 0 1 * 2 ^ 8
    + min 255 (s.slotPins n) * 2 ^ 16 + k.gen % 128 * 2 ^ 24 + (if k.subst then 2 ^ 31 else 0)))

/-- The state with a slot set. -/
def State.setSlot (s : State) (n : Nat) (k : KeySlot) : State :=
  ({ s with sec := { s.sec with slots := tset {} s.sec.slots n k } }).showSlot n

/-- A request to the security core in LISTEN restarts stopped PLLs and powers CC 91 (R501). -/
def State.secRequest (s : State) : State :=
  if s.mode = 3 then { s with sec := { s.sec with cc91 := true, cc91At := s.now } }.pllStart else s

/-- CC91_GATE (R501): 10 ms pass in LISTEN without a security request. -/
def State.cc91Gate (s : State) : State :=
  if s.mode = 3 && s.sec.cc91 && decide (s.sec.cc91At + 10 * msec ≤ s.now) then { s with sec := { s.sec with cc91 := false } } else s

/-! ## Slot commands (R432 to R439) -/

/-- The label in `SLOT_LBL`. -/
def State.slotLabel (s : State) : List Byte := (List.range 6).flatMap (fun i => leBytes 4 (s.rd (Reg.SEC_SLOT_LBL i)).toNat)

/-- The key that the source names for a purpose, `CRK` chains included (R433, R434, R502); none where the source or the state does not give it. A chain through NK starts from the network of port 0 (log entry 41). -/
def State.rootKey (s : State) (src srcSlot : Nat) (label : List Byte) : Option (List Byte) :=
  let p := leAt label 0 1
  let long := leAt label 1 8
  let free := s.sec.crk.isSome && s.sec.lc != 0
  if src = 0 then (if p = 0x11 || p = 0x12 || p = 0x14 then s.dus else none)
  else if ! free then none
  else if src = 1 then
    if p = 1 || p = 2 || p = 0x10 || p = 0x13 then s.sec.crk
    else if p = 3 || p = 6 then s.ebk long
    else if p = 4 || p = 5 || p = 7 then s.portNk 0
    else none
  else
    let k := s.slot srcSlot
    let q := leAt k.label 0 1
    if ! k.loaded then none
    else if (q = 1 && (p = 3 || p = 6)) || (q = 2 && (p = 4 || p = 5 || p = 7)) then some k.key
    else none

/-- `SLOT_CMD_STAT` after a command. -/
def State.slotDone (s : State) (st : Status) : State :=
  s.wr Reg.SEC_SLOT_CMD_STAT (wrapInc (setFld (s.rd Reg.SEC_SLOT_CMD_STAT) 8 8 st) 16 16)

/-- Operations running on a slot pin the material they started with (R437). -/
def State.pinRuns (s : State) (n : Nat) : State :=
  { s with sec := { s.sec with runs := s.sec.runs.map (fun r => if r.slot = n then { r with old := true } else r) } }

/-- A key enters a slot for a master of domain `d` (R436, R437); a rewrite raises the generation. -/
def State.slotLoad (s : State) (d n : Nat) (key label : List Byte) : State :=
  let k := s.slot n
  let s1 := if k.loaded then s.pinRuns n else s
  s1.setSlot n { k with loaded := true, erasing := false, key := key, label := label, dom := d, gen := if k.loaded then (k.gen + 1) % 128 else k.gen
                        rewAt := if k.loaded then s.fabric + 1 else k.rewAt, prevKey := k.key, prevGen := k.gen }

/-- Slot commands are ignored in OFF, DORMANT and WATCH (R501), and refused in RETIRED (R502); else `body` runs. -/
def State.slotCommand (s : State) (body : State → State) : State :=
  if s.mode < 3 then s.ignored 0x011
  else if s.sec.lc = 3 then s.slotDone .refused
  else body s.secRequest

/-- A slot command of master `m` counts for its fabric cycle (R439). -/
def State.slotBy (s : State) (m n : Nat) : State := s.setSlot n { s.slot n with cmdAt := s.fabric + 1, cmdM := m }

/-- A higher master's command on the slot was already applied in this fabric cycle: applied before it by R439 and R48, that of `m` is overtaken by it, though its own answer stands. -/
def State.slotLate (s : State) (m n : Nat) : Bool := (s.slot n).cmdAt == s.fabric + 1 && decide (m < (s.slot n).cmdM)

/-- KEY_DERIVE by master `m` of domain `d` (R436, R437). -/
def State.slotDerive (s : State) (m d n src srcSlot : Nat) : State :=
  s.slotCommand (fun s => match s.rootKey src srcSlot s.slotLabel with
    | none => s.slotDone .refused
    | some r =>
      if (s.slot n).retired then s.slotDone .refused
      else if s.slotLate m n then s.slotDone .done
      else ((s.slotLoad d n (kdf r s.slotLabel) s.slotLabel).slotBy m n).slotDone .done)

/-- A slot is erased (R438): its operations stop, and it is EMPTY once they have. -/
def State.slotWipe (s : State) (n : Nat) : State :=
  let k := s.slot n
  if ! k.loaded && ! k.erasing then s
  else
    let busy := s.sec.runs.any (fun r => r.slot == n)
    let s1 := { s with sec := { s.sec with runs := s.sec.runs.map (fun (r : AesRun) => if r.slot = n && r.revoked = 0 then { r with revoked := s.fabric + 1 } else r) } }
    s1.setSlot n { k with loaded := false, erasing := busy, key := [], label := [], prevKey := [], erasedAt := s.fabric + 1 }

/-- KEY_ERASE by master `m` (R438). -/
def State.slotErase (s : State) (m n : Nat) : State :=
  s.slotCommand (fun s =>
    if (s.slot n).retired then s.slotDone .refused
    else if s.slotLate m n then s.slotDone .done
    else ((s.slotWipe n).slotBy m n).slotDone .done)

/-- Every slot is erased (R453, R507). -/
def State.wipeSlots (s : State) : State := (s.sec.slots.map Prod.fst).foldl (fun s n => s.slotWipe n) s

/-! ## AES-256-GCM (R287, R438 to R441) -/

/-- The IV of a message (R287). -/
def msgIv (id kind : Nat) : List Byte := leBytes 4 id ++ leBytes 1 kind ++ List.replicate 7 0

/-- The additional authenticated data of a message (R287). -/
def msgAad (mver flags id mlen execCyc : Nat) : List Byte :=
  leBytes 1 mver ++ leBytes 1 flags ++ leBytes 4 id ++ leBytes 2 mlen ++ (if flags / 2 % 2 = 1 then leBytes 4 execCyc else [])

/-- `MFLAGS` of a message (R286). -/
def MsgRec.mflags (r : MsgRec) : Nat := (if r.rr then 1 else 0) + (if r.exec then 2 else 0) + (if r.txn.isSome then 4 else 0) + (if r.sec then 8 else 0)

/-- The label of the key a message is encrypted under (R433). -/
def State.sealLabel (s : State) (r : MsgRec) : List Byte :=
  if isGroup r.dst then keyLabel 7 0 0 r.mkepoch 0 r.dst else keyLabel 6 (s.ep r.dst).long 0 r.mkepoch 0 0

/-- The label of the key an uplink message is opened under (R433). -/
def State.openLabel (s : State) (r : Reasm) : List Byte := keyLabel 6 (s.ep r.src).long 0 r.mkepoch 1 0

/-- The message epoch of a received message is accepted (R435): the present one, or the former in its grace. -/
def State.msgEpochOk (s : State) (src e : Nat) : Bool :=
  let r := s.ep src
  e == r.mkepoch || (e == r.mkprev && r.mkGraceSf != 0 && ! s.sfReached s.sfNow r.mkGraceSf)

/-- The reassembled message a job names, once whole and still sealed. -/
def State.sealedMsg (s : State) (src msgId kind : Nat) : Option Reasm :=
  s.msg.reasm.find? (fun r => r.src == src && r.msgId == msgId && r.kind == kind && decide (r.segs.length = r.count) && r.plain.isNone)

/-- The bytes of a whole message, as sent. -/
def Reasm.data (r : Reasm) : List Byte := takeBytes (r.segs.flatMap Prod.snd) 0 r.mlen

/-- The job can start on a slot: the message it names waits, and the slot holds the key R287 gives it. -/
def State.jobReady (s : State) (n : Nat) : AesJob → Bool
  | .seal m => match s.mrec m with
    | some r => r.plain && (s.slot n).label == s.sealLabel r
    | none => false
  | .unseal src id kind => match s.sealedMsg src id kind with
    | some r => (s.slot n).label == s.openLabel r
    | none => false
  | .raw _ _ _ _ _ => true

/-- The result of a core's last operation: its status, then what it releases (R440). -/
def State.aesOut (s : State) (core : Nat) (st : Status) (out : List Byte) : State :=
  { s with sec := { s.sec with outs := tset [] s.sec.outs core (BitVec.ofNat 8 st :: out) } }

/-- An operation ends with KEY_REVOKED (R438): nothing is released, and a message whose slot was erased during its encryption ends with it (R296). -/
def State.aesRevoked (s : State) (core : Nat) (job : AesJob) : State :=
  let s1 := ((s.inc Reg.SEC_REVOKE_CNT).cause 0x010 1).aesOut core .keyRevoked []
  match job with
  | .seal m => s1.msgResolve m .keyRevoked 0 0 []
  | _ => s1

/-- An operation begins on a core (R439, R440, R451): one on a slot erased in the same cycle does not start; one on a slot rewritten in the same cycle pins the old key. -/
def State.aesBegin (s : State) (core n eng : Nat) (job : AesJob) : State :=
  let k := s.slot n
  let s := s.secRequest
  if s.sec.starved then s.aesOut core .resourceRetry []
  else if k.erasedAt = s.fabric + 1 && ! k.loaded then s.aesRevoked core job
  else if ! k.loaded || ! s.jobReady n job then s
  else
    let same := k.rewAt == s.fabric + 1
    let run : AesRun := { core := core, slot := n, eng := eng, key := if same then k.prevKey else k.key, gen := if same then k.prevGen else k.gen, job := job, old := same }
    ({ s with sec := { s.sec with runs := s.sec.runs ++ [run] } }).showSlot n

/-- The lowest-numbered core in service that no operation holds (R30). -/
def State.aesFree (s : State) : Option Nat :=
  (List.range 4).find? (fun c => s.rb Reg.SEC_AES_STAT c && ! s.sec.runs.any (fun r => r.core == c))

/-- A request reaches the pool (R29, R30): the lowest-numbered free core takes it, or it waits; the cores do not work in OFF, DORMANT and WATCH (R501). -/
def State.aesStart (s : State) (n : Nat) (job : AesJob) (who : AccReq) : State :=
  if s.mode < 3 || s.sec.lc = 3 then s
  else match s.aesFree with
    | some c => s.aesBegin c n who.eng job
    | none => { s with sec := { s.sec with aesWait := s.sec.aesWait ++ [(n, job, who)] } }

/-- A core that has become free takes the waiting operation that R30 puts first. -/
def State.aesNext (s : State) : State :=
  match nextReq (s.sec.aesWait.map (fun x => x.2.2)), s.aesFree with
  | some r, some c => match s.sec.aesWait.find? (fun x => x.2.2 == r) with
    | some x => { s with sec := { s.sec with aesWait := s.sec.aesWait.erase x } }.aesBegin c x.1 r.eng x.2.1
    | none => s
  | _, _ => s

/-- A failed tag is counted, and its cause set (R440, R456). -/
def State.authFailed (s : State) : State := (s.inc Reg.SEC_AUTH_CNT).cause 0x010 0

/-- Streaming release applies to an uplink message (R441): enabled, long enough, and for a posted buffer of the host. -/
def State.streams (s : State) (r : Reasm) : Bool :=
  r.kind == 0 && s.rb Reg.SEC_REL_CFG 0 && decide (s.rf Reg.SEC_REL_CFG 8 8 * 1024 ≤ r.mlen - 16) && s.firstBuf.isSome && s.hostServed

/-- The tag of a received message failed (R291, R440, R441): it is discarded, and retracted where chunks of it may have been released. -/
def State.unsealFailed (s : State) (r : Reasm) (key : List Byte) (chunks : Nat) : State :=
  let s1 := (s.authFailed.pageRecord 0x010 0x00 0 (detail Status.authFail 0 r.src))
  let s2 := { s1 with msg := { s1.msg with reasm := s1.msg.reasm.erase r } }
  if ! s.streams r then s2
  else match s2.firstBuf with
    | none => s2
    | some (ring, b) =>
      let n := 4096 * min chunks ((r.mlen - 16) / 4096)
      let ct := r.data.take (r.mlen - 16)
      let pt := xorBytes ct (gcmStream key (msgIv r.msgId r.kind) ct.length)
      let m : UpMsg := { src := r.src, flags := r.flags, msgId := r.msgId, plain := pt, rxCyc := r.rxCyc, execCyc := r.execCyc }
      let g := s2.ring ring
      let s3 := (s2.setRing ring { g with bufs := g.bufs.filter (fun x => x.seq != b.seq) }).dmaWrite b.addr (pt.take n)
      let s4 := s3.complete ring { idx := b.idx, op := 0x81, status := Status.retracted, cid := b.cid, result := msgRecvResult b.btag m 0 n s3.lt }
      ((s4.inc Reg.SEC_RETRACT_CNT).cause 0x010 2).record 0x010 0x1036 0 (detail Status.retracted 0 r.msgId)

/-- A finished operation releases its result (R440, R441). -/
def State.aesRelease (s : State) (run : AesRun) (chunks : Nat) : State :=
  match run.job with
  | .seal m => match s.mrec m with
    | none => s.aesOut run.core .done []
    | some r =>
      let (ct, tag) := gcmSeal 16 run.key (msgIv r.msgId r.kind) (msgAad (r.kind + 16) r.mflags r.msgId (r.data.length + 16) r.execCyc) r.data
      let s1 := s.setMsg m { r with data := ct ++ tag, plain := false }
      let s2 := s1.writeItem (2 * r.dst) (ct ++ tag) m
      (if isGroup r.dst then s2.floodPush m else s2).aesOut run.core .done []
  | .unseal src id kind => match s.sealedMsg src id kind with
    | none => s.aesOut run.core .done []
    | some r =>
      let n := r.mlen - 16
      let ct := r.data.take n
      match (if s.msgEpochOk r.src r.mkepoch && decide (16 < r.mlen) then
          gcmOpen run.key (msgIv r.msgId r.kind) (msgAad (r.kind + 16) r.flags r.msgId r.mlen r.execCyc) ct (r.data.drop n) else none) with
      | some pt =>
        let r1 : Reasm := { r with plain := some pt }
        ({ s with msg := { s.msg with reasm := s.msg.reasm.map (fun x => if x = r then r1 else x) } }).aesOut run.core .done []
      | none => (s.unsealFailed r run.key chunks).aesOut run.core .authFail []
  | .raw true iv aad text _ =>
    let (ct, tag) := gcmSeal 16 run.key iv aad text
    s.aesOut run.core .done (ct ++ tag)
  | .raw false iv aad text tag => match gcmOpen run.key iv aad text tag with
    | some pt => s.aesOut run.core .done pt
    | none => s.authFailed.aesOut run.core .authFail []

/-- A slot being erased becomes EMPTY once its last operation has stopped (R438). -/
def State.slotEmptied (s : State) (n : Nat) : State :=
  if (s.slot n).erasing && ! s.sec.runs.any (fun r => r.slot == n) then s.setSlot n { s.slot n with erasing := false } else s.showSlot n

/-- A core's operation ends (R438 to R441): with its own status, or KEY_REVOKED where its slot was erased in an earlier cycle. -/
def State.aesFinish (s : State) (core chunks : Nat) : State :=
  match s.sec.runs.find? (fun r => r.core == core) with
  | none => s
  | some run =>
    let s1 := { s with sec := { s.sec with runs := s.sec.runs.filter (fun r => r.core != core) } }
    let s2 := if run.cut || (run.revoked != 0 && run.revoked != s.fabric + 1) then s1.aesRevoked core run.job else s1.aesRelease run chunks
    (s2.slotEmptied run.slot).aesNext

/-- Operations requested by engine `m` are aborted with ABORTED_BY_CARD and release nothing; their cores return to the pool (R516, R517, log entry 210). -/
def State.aesAbort (s : State) (m : Nat) : State :=
  (s.sec.runs.filter (fun r => r.eng == m)).foldl (fun s run =>
    ((({ s with sec := { s.sec with runs := s.sec.runs.filter (fun r => r.core != run.core) } }).aesOut run.core .abortedByCard []).slotEmptied run.slot).aesNext)
    { s with sec := { s.sec with aesWait := s.sec.aesWait.filter (fun x => x.2.2.eng != m) } }

/-! ## Entropy (R451, R452) -/

/-- The DRBG reseeds (R452). -/
def State.reseed (s : State) : State :=
  ({ s with sec := { s.sec with drbgN := 0, drbgAt := s.now } }).inc Reg.SEC_DRBG_CNT

/-- DRBG_RESEED (R452): after `RESEED_N` requests, or a second after the last reseed; not while there is no entropy (R451). -/
def State.drbgReseed (s : State) : State :=
  if s.sec.noEntropy = 0 && (decide ((s.rd Reg.SEC_RNG_CFG).toNat ≤ s.sec.drbgN) || decide (s.sec.drbgAt + 1000 * msec ≤ s.now)) then s.reseed else s

/-- Bytes drawn from the DRBG: values the spec leaves open (log entry 3). -/
def State.drbgDraw (s : State) (n : Nat) : State × List Byte :=
  ({ s with draws := s.draws + n, sec := { s.sec with drbgN := s.sec.drbgN + 1 } }, s.freeBytes n)

/-- DRBG_GENERATE (R452): a request for `n` bytes is served, or answered RESOURCE_RETRY once entropy has been missing for 1 s (R451, log entry 196). -/
def State.drbgGenerate (s : State) (n : Nat) : State :=
  if s.sec.starved then { s with sec := { s.sec with drbgOut := [BitVec.ofNat 8 Status.resourceRetry] } }
  else
    let (s1, b) := s.drbgDraw n
    { s1 with sec := { s1.sec with drbgOut := 0 :: b } }

/-- TRNG_SOURCE_FAIL (R451): a source leaves use; with fewer than two left there is no entropy. -/
def State.trngFail (s : State) (n : Nat) : State :=
  if ! s.rb Reg.SEC_TRNG_STAT n then s
  else
    let s1 := (((s.wb Reg.SEC_TRNG_STAT n false).wb Reg.SEC_TRNG_STAT (4 + n) true)).record 0x010 0x1032 2 (detail 0 n 0)
    let left := ((List.range 4).filter (fun i => s1.rb Reg.SEC_TRNG_STAT i)).length
    if left = 2 then s1.benchEmpty 17
    else if 2 ≤ left || s.sec.noEntropy != 0 then s1
    else ((({ s1 with sec := { s1.sec with noEntropy := s.now + 1 } }).cause 0x010 3).pageRecord 0x010 0x03 4 (detail 0 0 0)).showSec

/-- ENTROPY_TIMEOUT (R451). -/
def State.entropyTimeout (s : State) : State :=
  if s.sec.noEntropy != 0 && decide (s.sec.noEntropy - 1 + 1000 * msec ≤ s.now) && ! s.arrives (fun i => match i with | .drbgReseed .. => true | _ => false) then ({ s with sec := { s.sec with starved := true } }).showSec else s

/-! ## Sessions (R448, R450) -/

/-- A session. -/
def State.session (s : State) (i : Nat) : Session := tget {} s.sec.sessions i

/-- The state with a session set, as its registers show it (R456). -/
def State.setSession (s : State) (i : Nat) (v : Session) : State :=
  (({ s with sec := { s.sec with sessions := tset {} s.sec.sessions i v } }).wr (Reg.SEC_SESS_STAT i)
    (word (v.state + (if v.auth then 4 else 0) + v.fails * 2 ^ 16))).wr (Reg.SEC_SESS_ID i) (word v.sid)

/-- Every session closes and its keys are zeroised (R450). -/
def State.closeSessions (s : State) : State := (List.range 4).foldl (fun s i => s.setSession i {}) s

/-! ## Zeroisation by a change of debug level (R507, R509) -/

/-- Decryptions in progress lose the plaintext they hold (R507). -/
def State.cutDecrypts (s : State) : State :=
  { s with sec := { s.sec with runs := s.sec.runs.map (fun r => match r.job with
    | .unseal _ _ _ => { r with cut := true }
    | .raw false _ _ _ _ => { r with cut := true }
    | _ => r) } }

/-- The DRBG is reinstantiated (R452, R507), unless there is no entropy (R451). -/
def State.reinstantiate (s : State) : State := if s.sec.noEntropy = 0 then s.reseed else s

/-- A level that was granted sets `LC_CHANGE` (R508). -/
def State.granted (s : State) (up : Bool) : State := if up then s.cause 0x010 5 else s

/-- A debug level other than D3 leaves no instruction of the test access port in force that D3 alone permits (R565, log entry 215). -/
def State.tapLevel (s : State) (l : Nat) : State :=
  if l ≠ 3 && [0x00, 0x01, 0x03, 0x04, 0x30].contains s.dap.ir then { s with dap := { s.dap with ir := 0xFF, dr := 0 } } else s

/-- The debug level changes (R507, R508, R509): the zeroisation each row requires, the cause and the record; a level below D2 lets halted engines resume. -/
def State.setDebug (s : State) (l : Nat) : State :=
  let old := s.sec.dbg
  if l = old then s
  else
    let s1 := s.closeSessions
    let s2 := if l = 2 then s1.cutDecrypts else s1
    let s3 := if l = 3 || old = 3 then s2.wipeSlots else s2
    let s4 := if l = 3 then s3.reinstantiate else s3
    let s5 := (if l < 2 || old = 3 then { s4.wr Reg.SEC_HALTED 0 with dap := { s4.dap with halted := [] } } else s4).tapLevel l
    let s6 := ({ s5 with sec := { s5.sec with dbg := l, dbgAt := s.fabric + 1, dbgWas := if s.sec.dbgAt = s.fabric + 1 then s.sec.dbgWas else old } }).showSec
    ((s6.wf Reg.SEC_DBG_STAT 0 2 l).granted (decide (old < l))).record 0x010 0x1038 0 (detail 0 l 0)

end Sys2Proof.Machine
end

