-- ==== Sys2Proof/Machine/HostLink.lean ====
section
/-! DEFINITION. The host link: ports, failover and switch, heartbeat and watchdog, function-level reset, bulk packets, and the clocks a host access restarts in LISTEN (R321, R336 to R347, R485, R494). -/

namespace Sys2Proof.Machine

/-! ## Host accesses (R485) -/

/-- An access of the host (R485): in LISTEN it restarts the PLLs. -/
def State.hostTouch (s : State) : State :=
  let s1 := { s with host := { s.host with accAt := s.now } }
  if s.mode = 3 then s1.pllStart else s1

/-! ## Host memory -/

/-- A read of host memory by an operation: in bulk mode it goes out as a DATA_REQ packet (R342). -/
def State.hostRead (s : State) (addr n : Nat) : State :=
  if s.activeMode = 3 then
    let hdr := leBytes 1 0x83 ++ [0, 0, 0] ++ leBytes 4 n ++ leBytes 8 addr
    { s with host := { s.host with bulkIn := s.host.bulkIn ++ [hdr], dataReq := s.host.dataReq ++ [(addr, n)] } }
  else s

/-- DATA (R342): a bulk packet answers a data request; bytes no request covers are discarded. -/
def State.bulkData (s : State) (addr : Nat) (d : List Byte) : State :=
  let covers := fun (q : Nat × Nat) => decide (q.1 ≤ addr) && decide (addr + d.length ≤ q.1 + q.2)
  if s.activeMode = 3 && s.host.dataReq.any covers then
    { s.hostTouch with host := { s.hostTouch.host with
        dataIn := cellsWrite s.host.dataIn addr d
        dataReq := s.host.dataReq.filter (fun q => ! (covers q && addr + d.length == q.1 + q.2)) } }
  else s

/-! ## Ports (R321, R338) -/

/-- `ROLE` of a port. -/
def State.role (s : State) (n : Nat) : Nat := s.rf (Reg.HL_HL_STAT n) 4 2

/-- `HOST_STAT.STATE` (R347). -/
def State.hostState (s : State) : Nat := s.rf Reg.HFN_HOST_STAT 0 2

/-- The host returns (R345): held completions are written, spooled messages delivered, pending vectors sent. -/
def State.hostBack (s : State) : State :=
  (((((s.wf Reg.HFN_HOST_STAT 0 2 1).cause 0x01A 2).writeAllHeld).deliverUplink).flushVecs).spoolCheck

/-- The host becomes absent (R344). -/
def State.hostAbsent (s : State) : State :=
  (((s.wf Reg.HFN_HOST_STAT 0 2 0).cause 0x01A 1).pageRecord 0x01A 0x01 0 (detail 0 0 0)).spoolCheck

/-- A port becomes ACTIVE: the host is PRESENT at once where no watchdog runs, else at the next heartbeat (R344, R345). -/
def State.makeActive (s : State) (n : Nat) : State :=
  let s1 := (s.wf (Reg.HL_HL_STAT n) 4 2 1).wb Reg.HFN_HOST_STAT 4 (n == 1)
  if s1.hostState = 0 && s1.rf Reg.HFN_HOST_WD 0 16 = 0 then s1.hostBack else s1

/-- LINK_UP (R321, R338): the port's partner is up in a mode that `MAX_MODE` permits. The maintenance interface takes no role. -/
def State.linkUp (s : State) (n mode : Nat) : State :=
  let cfg := s.rd (Reg.HL_HL_CFG n)
  if s.mode < 3 || ! bit cfg 0 || mode = 0 || decide (mode < fld cfg 2 3) || decide (4 < mode) || s.rf (Reg.HL_HL_STAT n) 0 3 != 0 then s
  else
    let s1 := (s.wf (Reg.HL_HL_STAT n) 0 3 mode).wb (Reg.HL_HL_STAT n) 6 (decide (mode ≤ 2))
    if mode = 4 then s1
    else
      let o := 1 - n
      let pref := fun k => s.rb (Reg.HL_HL_CFG k) 1
      let s2 := if s.host.firstUp = 0 then { s1 with host := { s1.host with firstUp := s.now + 1 } } else s1
      if s.hostState = 2 then s2.wf (Reg.HL_HL_STAT n) 4 2 2
      else if s.role o != 1 then s2.makeActive n
      else if s.host.firstUp != 0 && decide (s.now < s.host.firstUp + 100 * msec) && ((pref n && ! pref o) || (pref n == pref o && n == 0)) then
        (s2.wf (Reg.HL_HL_STAT o) 4 2 2).makeActive n
      else s2.wf (Reg.HL_HL_STAT n) 4 2 2

/-- LINK_LOSS (R339, R340, R344): loss of the ACTIVE link begins a failover; loss of the STANDBY link during one makes the host absent. -/
def State.linkLoss (s : State) (n : Nat) : State :=
  let r := s.role n
  let down := s.wr (Reg.HL_HL_STAT n) 0
  if r = 1 then
    let s1 := (down.incF (Reg.HL_HL_CNT n) 0 16).wr64 (Reg.HL_LOSS_LT_LO n) (Reg.HL_LOSS_LT_HI n) s.lt
    ({ s1 with host := { s1.host with lossAt := s.now } }.wf Reg.HFN_HOST_STAT 0 2 2).pageRecord (0x018 + n) 0x23 0 (detail 0 n 0)
  else if r = 2 && s.hostState = 2 then down.hostAbsent
  else down

/-! ## Failover and switch (R340, R341) -/

/-- Every CQ entry from the last accepted CQ_HEAD up to CQ_TAIL is written again, with identical bytes (R340). -/
def State.rewriteCq (s : State) (r : Nat) : State :=
  let g := s.ring r
  let first := (g.cqTail + 65536 - g.written.length) % 65536
  g.written.zipIdx.foldl (fun s e =>
    if s.activeMode = 3 then s.bulkSend 0x82 r ((first + e.2) % 65536) e.1
    else s.dmaWrite (s.ringBase r 0x200C + (first + e.2) % 65536 % 2 ^ s.log2n r * 64) e.1) s

/-- Steps 3 and 4 of R340. -/
def State.resumeHost (s : State) (ms : Nat) : State :=
  let s1 := (s.rings.map Prod.fst).foldl (fun s r => s.rewriteCq r) s
  let s2 := s1.wf Reg.HFN_HOST_STAT 16 16 (min 65535 ms)
  let s3 := if s2.rf Reg.HFN_HOST_WD 0 16 != 0 && s2.host.hb = 0 then s2.hostAbsent else s2.wf Reg.HFN_HOST_STAT 0 2 1
  ((((s3.cause 0x01A 0).raisePage 0x01A).flushVecs).writeAllHeld).deliverUplink

/-- FAILOVER_COMPLETE (R340): the STANDBY port takes over, or the host is absent where there is none. -/
def State.failoverDone (s : State) : State :=
  if s.hostState != 2 then s
  else match (List.range 2).find? (fun n => s.role n == 2) with
    | none => s.hostAbsent
    | some n =>
      let s1 := ((s.wf (Reg.HL_HL_STAT n) 4 2 1).wb Reg.HFN_HOST_STAT 4 (n == 1)).incF Reg.HFN_FO_CNT 0 16
      s1.resumeHost ((s.now - s.host.lossAt) / msec)

/-- HOST_SWITCH (R341): the roles swap. Its duration, within 50 ms, is a value the spec leaves open. -/
def State.hostSwitch (s : State) : State :=
  match s.activePort with
  | none => s.ignored 0x01A
  | some n =>
    if s.role (1 - n) != 2 || s.hostState = 2 then s.ignored 0x01A
    else
      let s1 := ((s.wf (Reg.HL_HL_STAT n) 4 2 2).wf (Reg.HL_HL_STAT (1 - n)) 4 2 1).wb Reg.HFN_HOST_STAT 4 (n == 0)
      (s1.drawn.incF Reg.HFN_FO_CNT 16 16).resumeHost (s.free.toNat % 51)

/-! ## Heartbeat and watchdog (R344, R345) -/

/-- HEARTBEAT (R345). -/
def State.heartbeat (s : State) : State :=
  let s1 := { s with host := { s.host with hb := s.now + 1 } }
  if s1.activePort.isSome && s1.hostState = 0 then s1.hostBack else s1

/-- HOST_WATCHDOG (R344). -/
def State.hostWatchdog (s : State) : State :=
  let wd := s.rf Reg.HFN_HOST_WD 0 16
  if wd = 0 || decide (s.now < s.host.hb - 1 + wd * msec) || s.arrives (fun i => match i with | .heartbeat .. => true | .registerWrite _ _ _ _ a _ => a == 0x1A040 | _ => false) then s
  else
    let s1 := { s with host := { s.host with hb := 0 } }
    if s.hostState = 1 then s1.hostAbsent else s1

/-! ## Rings: abort and function-level reset (R336) -/

/-- RING_ABORT (R336): the submission staging queue of a draining ring is flushed. -/
def State.ringAbort (s : State) (r : Nat) : State :=
  if (s.ring r).state = 2 then s.flushWork (0x200200 + 2 * r) else s

/-! ## Windows and bulk packets (R323, R342) -/

/-- The host reaches the device: a link carries its role, and no red card holds the host function (R338, R519). -/
def State.hostReaches (s : State) : Bool := s.activePort.isSome && ! s.host.carded && decide (3 ≤ s.mode)

/-- The host's windows respond: the ACTIVE port tunnels PCIe (R321, R342). -/
def State.windowOpen (s : State) : Bool := s.hostReaches && (s.activeMode == 1 || s.activeMode == 2)

/-- SUBMIT (R342): entries delivered by a bulk packet take the place of ring memory and of the SQ_TAIL doorbell. -/
def State.bulkSubmit (s : State) (r idx : Nat) (entries : List (List Byte)) : State :=
  if ! s.hostReaches || s.activeMode != 3 then s
  else
    let s0 := s.hostTouch
    let g := s0.ring r
    let t := (idx + entries.length) % 65536
    let s1 := s0.sqDoorbell r t
    let n := ((s1.ring r).sqTail + 65536 - g.sqTail) % 65536
    s1.setRing r { s1.ring r with delivered := (s1.ring r).delivered ++ entries.drop (entries.length - n) }

/-- CQ_ACK (R342). -/
def State.bulkAck (s : State) (r t : Nat) : State :=
  if s.hostReaches && s.activeMode = 3 then s.hostTouch.cqDoorbell r t else s

/-- What the tunnelled function presents itself as: vendor, device, revision and class code (R322). -/
def hostIdentity : Nat × Nat × Nat × Nat := (0x1F4B, 0x9640, 0x01, 0x118000)

/-- Its windows as base address register, bytes and prefetchable: register window, message window, DRAM aperture (R322). -/
def hostWindows : List (Nat × Nat × Bool) := [(0, 64 * 2 ^ 20, false), (2, 256 * 2 ^ 20, false), (4, 2 ^ 30, true)]

end Sys2Proof.Machine
end

