-- ==== Sys2Proof/Machine/Legacy.lean ====
section
/-! DEFINITION. CM4810 compatibility mode (R522 to R536): slots and contexts, address translation, faults and their handling, quanta, and the host's transfers to legacy physical memory. -/

namespace Sys2Proof.Machine

/-! ## Slots and contexts -/

/-- A legacy slot. -/
def State.lslot (s : State) (k : Nat) : LgcSlot := tget {} s.lgc k

/-- The state with a slot set. -/
def State.setLslot (s : State) (k : Nat) (v : LgcSlot) : State := { s with lgc := tset {} s.lgc k v }

/-- A slot's pages. -/
def lgcPage (k : Nat) : Nat := 0x100 + 4 * k

/-- State of a context: 0 STOPPED, 1 READY, 2 RUNNING, 3 FAULTED (R533). -/
def State.ctxState (s : State) (k c : Nat) : Nat := s.rf (Reg.LGC_SLOT_STAT k) (2 * c) 2

/-- The state with a context's state set. -/
def State.setCtxState (s : State) (k c v : Nat) : State := s.wf (Reg.LGC_SLOT_STAT k) (2 * c) 2 v

/-- `SLOT_STAT.CARD`. -/
def State.slotCarded (s : State) (k : Nat) : Bool := s.rb (Reg.LGC_SLOT_STAT k) 8

/-- `SLOT_CTL.EN`, and the engine of a slot. -/
def State.slotEn (s : State) (k : Nat) : Bool := s.rb (Reg.LGC_SLOT_CTL k) 0
def State.slotEng (s : State) (k : Nat) : Nat := s.rf (Reg.LGC_SLOT_CTL k) 8 7

/-- Every context of a slot is STOPPED (R533). -/
def State.slotStopped (s : State) (k : Nat) : Bool := (List.range 4).all (fun c => s.ctxState k c == 0)

/-- Legacy images run in this mode and state (R502, R531). -/
def State.lgcRuns (s : State) : Bool :=
  (s.mode == 4 || s.mode == 5 || s.mode == 6 || s.mode == 10) && (s.sec.lc == 1 || s.sec.lc == 2)

/-- A master behind the umpire. -/
def State.mst (s : State) (m : Nat) : MasterSt := tget {} s.ump.masters m

/-- The security domain of a master that is no DMA channel (R511, R512). -/
def fixedDomain (m : Nat) : Nat :=
  if m = 91 then 0
  else if 88 ≤ m && m ≤ 90 then 1
  else if 72 ≤ m && m ≤ 87 then 6
  else if m < 96 then 5
  else if 0x200 ≤ m && m ≤ 0x211 then 5
  else if 0x218 ≤ m && m ≤ 0x21C then 0
  else if m = 0x300 then 2
  else if m = 0x380 then 3
  else 7

/-- The domain of a master: as assigned, or the owner's for a DMA channel (R512). -/
def State.domain (s : State) (m : Nat) : Nat :=
  let d (x : Nat) : Nat := if (s.mst x).dom < 8 then (s.mst x).dom else fixedDomain x
  if 0x100 ≤ m && m < 0x140 then d (s.mst m).owner else d m

/-- The state with a master set. -/
def State.setMst (s : State) (m : Nat) (v : MasterSt) : State := { s with ump := { s.ump with masters := tset {} s.ump.masters m v } }

/-- The master identifiers of a slot's valid channels (R522, R533). -/
def State.slotChans (s : State) (k : Nat) : List Nat :=
  ((List.range 4).filter (fun j => s.rb (Reg.LGC_CH k j) 31)).map (fun j => 0x100 + s.rf (Reg.LGC_CH k j) 0 6)

/-- The engine and channels of an enabled slot belong to domain 4; those of a disabled one return to firmware allocation (R512, R522). -/
def State.slotOwn (s : State) (k : Nat) : State :=
  let en := s.slotEn k
  let e := s.slotEng k
  let s1 := s.setMst e { s.mst e with dom := if en then 4 else 8 }
  (s.slotChans k).foldl (fun s m => s.setMst m { s.mst m with owner := if en then e else 0x300 }) s1

/-- LEGACY_SLOT_ENABLE (R46, R502, R522, R533): a write of `SLOT_CTL`. -/
def State.slotCtl (s : State) (k : Nat) (v : Word) : State :=
  let p := lgcPage k
  let e := fld v 8 7
  let used := (List.range 16).any (fun j => j != k && s.slotEn j && s.slotEng j == e)
  if s.locked p then s
  else if bit v 0 then
    if decide (e < 40) || decide (71 < e) || used || s.sec.lc = 0 || s.sec.lc = 3 then s.ignored p
    else
      let s0 := if s.slotEn k then (s.wb (Reg.LGC_SLOT_CTL k) 0 false).slotOwn k else s
      (s0.wr (Reg.LGC_SLOT_CTL k) (word (1 + (if s.slotStopped k then e else s.slotEng k) * 2 ^ 8))).slotOwn k
  else
    let s1 := (s.wb (Reg.LGC_SLOT_CTL k) 0 false).slotOwn k
    if s1.slotStopped k && decide (40 ≤ e) && decide (e ≤ 71) then s1.wf (Reg.LGC_SLOT_CTL k) 8 7 e else s1

/-- A word of a context's CTX area (R536). -/
def ctxReg (k c off : Nat) : Nat := (lgcPage k + 2) * 0x1000 + 0x400 + 0x100 * c + off

/-- A context is saved to its CTX area (R526, R529): registers and flags as the engine holds them, which the spec leaves open; PC and `STEP` where the save names them. -/
def State.ctxSave (s : State) (k c : Nat) (at_ : Option (Nat × Nat)) : State :=
  let s1 := (List.range 35).foldl (fun s i => (s.wr (ctxReg k c (4 * i)) s.free).drawn) s
  match at_ with
  | some (pc, step) => (s1.wr (ctxReg k c 0x80) (word pc)).wr (ctxReg k c 0x84) (word step)
  | none => s1

/-- A context leaves RUNNING in this fabric cycle; `next` took over at the end of its quantum (R532). -/
def State.leftNow (s : State) (k c : Nat) (next : Option Nat) : State :=
  s.setLslot k { s.lslot k with leftRun := (c, s.fabric + 1, next) :: (s.lslot k).leftRun.filter (fun x => x.2.1 == s.fabric + 1) }

/-- A context left RUNNING in this very fabric cycle. -/
def State.justLeft (s : State) (k c : Nat) : Bool := (s.lslot k).leftRun.any (fun x => x.1 == c && x.2.1 == s.fabric + 1)

/-- The running context of a slot. -/
def State.running (s : State) (k : Nat) : Option Nat := (List.range 4).find? (fun c => s.ctxState k c == 2)

/-- The next READY context after `c`, in ascending order with wrap-around (R529). -/
def State.nextReady (s : State) (k c : Nat) : Option Nat :=
  ((List.range 4).map (fun i => (c + 1 + i) % 4)).find? (fun d => s.ctxState k d == 1)

/-- With none running, the next READY context after `c` runs and its quantum begins (R529). -/
def State.dispatch (s : State) (k c : Nat) : State :=
  if ! s.slotEn k || s.slotCarded k || ! s.lgcRuns || (s.running k).isSome then s
  else match s.nextReady k c with
    | none => s
    | some d =>
      let s1 := ((s.setCtxState k d 2).wf (Reg.LGC_SLOT_STAT k) 10 2 d).incF (Reg.LGC_SLOT_STAT k) 16 16
      s1.setLslot k { s1.lslot k with qStart := s.now }

/-- START (R529). -/
def State.ctxStart (s : State) (k c : Nat) : State :=
  if s.slotEn k && ! s.slotCarded k && s.ctxState k c = 0 then (s.setCtxState k c 1).dispatch k c else s

/-- STOP (R529): any context but a FAULTED one. -/
def State.ctxStop (s : State) (k c : Nat) : State :=
  if s.slotCarded k || s.ctxState k c = 0 || s.ctxState k c = 3 then s
  else
    let s1 := if s.ctxState k c = 2 then (s.ctxSave k c none).leftNow k c none else s
    (s1.setCtxState k c 0).dispatch k c

/-- QUANTUM_EXPIRY (R529, R532): the running context is pre-empted where another is READY. -/
def State.quantumEnd (s : State) (k : Nat) : State :=
  if s.slotCarded k then s
  else match s.running k with
    | none => s
    | some c =>
      if s.now < (s.lslot k).qStart + s.rf (Reg.LGC_QUANTUM k) 0 16 * usec then s
      else match s.nextReady k c with
        | none => s.setLslot k { s.lslot k with qStart := s.now }
        | some d => (((s.ctxSave k c none).leftNow k c (some d)).setCtxState k c 1).dispatch k c

/-- Legacy contexts at a change of mode (R531): saved as READY where legacy images do not run, resumed where they do. -/
def State.lgcMode (s : State) : State :=
  (List.range 16).foldl (fun s k =>
    if s.lgcRuns then s.dispatch k 3
    else match s.running k with
      | some c => (s.ctxSave k c none).setCtxState k c 1
      | none => s) s

/-- Entry to DORMANT or OFF (R531): every slot STOPPED, its TLB empty. -/
def State.lgcPowerOff (s : State) : State :=
  (List.range 16).foldl (fun s k => (s.wf (Reg.LGC_SLOT_STAT k) 0 8 0).setLslot k {}) s

/-! ## Translation (R523 to R525) -/

/-- Size of legacy physical memory (R21, R523). -/
abbrev lgcSize : Nat := 2 ^ 30

/-- Fabric address at which it begins: it lies whole within the 14 GiB of DRAM (R21, log entry 42). -/
def lgcBase : Nat := 0x500000000 + Config.lgcPick % 0x40001 * 4096

/-- A physical address names a target (R523). -/
def lgcTarget (pa : Nat) : Bool := decide (pa < lgcSize) || (decide (0x8000000000 ≤ pa) && decide (pa < 0x8000000000 + 2 ^ 26))

/-- The fabric address of a physical address (R523). -/
def lgcFabric (pa : Nat) : Nat := if pa < lgcSize then lgcBase + pa else pa - 0x8000000000

/-- A table entry in legacy physical memory. -/
def State.lgcWord (s : State) (pa : Nat) : Nat := ofLE (cellsRead s.lgcMem pa 4)

/-- A walk (R524, R526): the TLB entry it forms, or the kind of fault. -/
def State.walk (s : State) (ttbr asid vpn : Nat) : TlbEntry ⊕ Nat :=
  let l1 := ttbr / 16 * 4096
  if lgcSize ≤ l1 then .inr 6
  else
    let e1 := s.lgcWord (l1 + vpn / 1024 * 4)
    if e1 % 2 = 0 then .inr 1
    else
      let l2 := e1 / 16 * 4096
      if lgcSize ≤ l2 then .inr 6
      else
        let e2 := s.lgcWord (l2 + vpn % 1024 * 4)
        if e2 % 2 = 0 then .inr 2
        else .inl { asid := asid, vpn := vpn, glob := e2 / 8 % 2 == 1, pfn := e2 / 16, w := e2 / 2 % 2 == 1, x := e2 / 4 % 2 == 1 }

/-- An entry serves an address space and page (R525). -/
def TlbEntry.hit (e : TlbEntry) (asid vpn : Nat) : Bool := e.vpn == vpn && (e.glob || e.asid == asid)

/-- Rights and target of a translation (R526); `acc` is 0 read, 1 write, 2 fetch. -/
def TlbEntry.check (e : TlbEntry) (acc va : Nat) : Nat ⊕ Nat :=
  let pa := e.pfn * 4096 + va % 4096
  if acc = 1 && ! e.w then .inr 3
  else if acc = 2 && ! e.x then .inr 4
  else if ! lgcTarget pa then .inr 5
  else .inl pa

/-- A virtual address is translated for context `c` of slot `k` (R524 to R526): the state with its TLB, and the physical address or the kind of fault. The TLB holds 256 entries; the oldest gives way. -/
def State.translate (s : State) (k c acc va : Nat) : State × (Nat ⊕ Nat) :=
  let asid := s.rf (Reg.LGC_CTX_ASID k c) 0 8
  let vpn := va / 4096 % 2 ^ 20
  let g := s.lslot k
  match g.tlb.find? (fun e => e.hit asid vpn) with
  | some e => (s, e.check acc va)
  | none => match s.walk (s.rd (Reg.LGC_CTX_TTBR k c)).toNat asid vpn with
    | .inr f => (s, .inr f)
    | .inl e => match e.check acc va with
      | .inr 5 => (s, .inr 5)
      | r => (s.setLslot k { g with tlb := (if 256 ≤ g.tlb.length then g.tlb.drop 1 else g.tlb) ++ [e] }, r)

/-- TLB_INV_ALL (R525). -/
def State.tlbInvAll (s : State) (k : Nat) : State := s.setLslot k { s.lslot k with tlb := [] }

/-- One virtual page is invalidated for an ASID (R525); a global entry serves every ASID and goes too. -/
def State.tlbInvPage (s : State) (k asid vpn : Nat) : State :=
  s.setLslot k { s.lslot k with tlb := (s.lslot k).tlb.filter (fun e => ! e.hit asid vpn) }

/-- TLB_INV_VA (R525, R533). -/
def State.tlbInvVa (s : State) (k asid : Nat) : State := s.tlbInvPage k asid (s.rf (Reg.LGC_TLB_VA k) 12 20)

/-! ## Faults (R526, R527, R535) -/

/-- A word of fault record `r` of slot `k`: contexts 0 to 3, channels 4 to 7 (R535). -/
def fltReg (k r off : Nat) : Nat := (lgcPage k + 1) * 0x1000 + 0x040 + 0x20 * r + off

/-- Record `r` is `VALID`. -/
def State.fltValid (s : State) (k r : Nat) : Bool := s.rb (fltReg k r 0) 0

/-- A fault record is written and its cause set (R526, R535). -/
def State.fltRecord (s : State) (k r kind acc asid va w2 w3 : Nat) : State :=
  let a := fltReg k r 0
  let n := min 65535 (s.rf a 16 16 + 1)
  let s1 := (s.wr a (word (1 + kind % 8 * 2 + acc % 4 * 16 + asid % 256 * 2 ^ 8 + n * 2 ^ 16))).wr (a + 4) (word va)
  (((s1.wr (a + 8) (word w2)).wr (a + 0xC) (word w3)).wr64 (a + 0x10) (a + 0x14) s.lt).cause (lgcPage k + 1) r

/-- A context faults (R526, R532): precise, saved with its PC and `STEP`, FAULTED; the next READY context runs. -/
def State.ctxFault (s : State) (k c kind acc va pc step : Nat) : State :=
  let s1 := (s.ctxSave k c (some (pc, step))).setCtxState k c 3
  (s1.fltRecord k c kind acc (s.rf (Reg.LGC_CTX_ASID k c) 0 8) va pc step).dispatch k c

/-- A channel faults (R526): it stops before the line that needed the translation. -/
def State.chanFault (s : State) (k j kind acc va done left : Nat) : State :=
  s.fltRecord k (4 + j) kind acc (s.rf (Reg.LGC_CTX_ASID k (s.rf (Reg.LGC_CH k j) 8 2)) 0 8) va done left

/-- FLT_RESUME (R527, R532): the entry for the faulting address is invalidated, the record cleared, the source restarted. A carded slot's record stays. -/
def State.fltResume (s : State) (k r : Nat) : State :=
  if ! s.fltValid k r || s.slotCarded k then s
  else
    let a := fltReg k r 0
    let s0 := (s.tlbInvPage k (s.rf a 8 8) (s.rf (a + 4) 12 20)).wb a 0 false
    let s1 := s0.setLslot k { s0.lslot k with resumed := (r, s.fabric + 1) :: (s0.lslot k).resumed.filter (fun x => x.2 == s.fabric + 1) }
    if r < 4 && s.ctxState k r = 3 then (s1.setCtxState k r 1).dispatch k (r + 3) else s1

/-- FLT_ABORT (R527): a context goes to STOPPED; a channel's descriptor completes with REFUSED_BY_STATE and its bytes done. -/
def State.fltAbort (s : State) (k r : Nat) : State :=
  if ! s.fltValid k r then s
  else
    let a := fltReg k r 0
    let s1 := s.wb a 0 false
    if r < 4 then s1.setCtxState k r 0
    else
      let m := 0x100 + s1.rf (Reg.LGC_CH k (r - 4)) 0 6
      s1.setMst m { s1.mst m with prog := (0, 0), desc := some (Status.refused, (s.rd (a + 8)).toNat) }

/-- CARD_CLR (R520, R534): the slot is reset; a card of the same fabric cycle stands. -/
def State.cardClr (s : State) (k : Nat) : State :=
  let e := s.slotEng k
  if ! s.slotCarded k || (s.mst e).cardAt = s.fabric + 1 then s
  else
    let s1 := (s.wf (Reg.LGC_SLOT_STAT k) 0 9 0).setLslot k { s.lslot k with tlb := [] }
    let s2 := (List.range 32).foldl (fun s i => s.wr (fltReg k 4 0 + 4 * i) 0) s1
    (e :: s.slotChans k).foldl (fun s m => s.setMst m { s.mst m with card := false }) s2

/-! ## Host transfers (R523) -/

/-- The result part of LGC_READ and LGC_WRITE. -/
def Sub.lgcResult (c : Sub) (n : Nat) : List Byte := leBytes 4 c.utag ++ leBytes 4 n

/-- The range a legacy transfer names, where it is permitted. -/
def Sub.lgcRange (c : Sub) : Option (Nat × Nat × Nat) :=
  let pa := leAt c.part 4 4
  let n := leAt c.part 16 4
  if n % 4 = 0 && decide (n ≤ 2 ^ 24) && decide (pa + n ≤ lgcSize) then some (pa, leAt c.part 8 8, n) else none

/-- LGC_READ: legacy physical memory is copied to the host. -/
def State.lgcRead (s : State) (c : Sub) : State := match c.lgcRange with
  | none => s.finish c .refused (c.lgcResult 0)
  | some (pa, addr, n) => (s.dmaWrite addr (cellsRead s.lgcMem pa n)).finish c .done (c.lgcResult n)

/-- LGC_WRITE: the host's data, as the device reads it, is copied into legacy physical memory. -/
def State.lgcWrite (s : State) (c : Sub) (data : List Byte) : State := match c.lgcRange with
  | none => s.finish c .refused (c.lgcResult 0)
  | some (pa, addr, n) =>
    let s1 := s.hostRead addr n
    ({ s1 with lgcMem := cellsWrite s1.lgcMem pa (takeBytes data 0 n) }).finish c .done (c.lgcResult n)

end Sys2Proof.Machine
end

