-- ==== Sys2Proof/Machine/Surveil.lean ====
section
/-! DEFINITION. Surveillance (R349 to R375): second and reference records and the archive, the loopback and line checks, muting, captures, and the signed exclusion list. -/

namespace Sys2Proof.Machine

/-- Surveillance runs (R349, R502, R580). -/
def State.srvRuns (s : State) : Bool :=
  s.rb Reg.SRV_SRV_CTL 0 && (s.mode == 4 || s.mode == 5 || s.mode == 6 || s.mode == 7 || s.mode == 9 || s.mode == 10)
    && s.sec.lc != 3 && ! s.sec.recovery

/-- An exclusion list is installed (R375). -/
def State.xlInstalled (s : State) : Bool := s.rb Reg.SRV_XL_STAT 0

/-! ## The source, the chains and the detectors (R350 to R358) -/

/-- The source samples at 250 MS/s: a line channel, or one converter of the pair (R350, R353). -/
def State.halfRate (s : State) : Bool := bit (s.act Reg.SRV_SRV_IN) 0 || s.rb Reg.SRV_IL_STAT 1

/-- Fast-clock edges from one sample to the next. -/
def State.srvEdges (s : State) : Nat := if s.halfRate then 6 else 3

/-- The bins of band 0 A, 1 B, 2 C: the first index and the count (R354). -/
def bandBins (b : Nat) : Nat × Nat := if b = 0 then (0, 1411) else if b = 1 then (1411, 6634) else (8045, 2834)

/-- The band of a bin. -/
def binBand (i : Nat) : Nat := if i < 1411 then 0 else if i < 8045 then 1 else 2

/-- Centre of bin `i` in Hz (R354). -/
def binHz (i : Nat) : Nat := if i < 1411 then 9000 + 100 * i else if i < 8045 then 154500 + 4500 * (i - 1411) else 30060000 + 60000 * (i - 8045)

/-- Source samples from one hop of a band to the next (R354): 1.311 ms, 16.38 µs and 2.048 µs. -/
def State.hopLen (s : State) (b : Nat) : Nat := (if b = 0 then 655360 else if b = 1 then 8192 else 1024) / (if s.halfRate then 2 else 1)

/-- The source covers bin `i` (R350, R353). -/
def State.binCovered (s : State) (i : Nat) : Bool :=
  if bit (s.act Reg.SRV_SRV_IN) 0 then decide (binHz i ≤ 86100000) else ! s.rb Reg.SRV_IL_STAT 1 || decide (binHz i ≤ 125000000)

/-- The points of the transducer table in force, frequency in Hz and correction in 0.01 dB (R353, R373); a point at 0 Hz is none (log entry 182). -/
def State.xdcr (s : State) : List (Nat × Int) :=
  ((List.range 32).map (fun n => (fld (s.act (0x078 * 0x1000 + 0x400 + 8 * n)) 0 28, signedField 16 (fld (s.act (0x078 * 0x1000 + 0x404 + 8 * n)) 0 16)))).filter (fun x => x.1 != 0)

/-- The correction at frequency `f`, linear in log-frequency between the points next to it (R353). -/
def xdcrAt (l : List (Nat × Int)) (f : Nat) : Int :=
  match argMin (fun x => f - x.1) (l.filter (fun x => decide (x.1 ≤ f))), argMin (fun x => x.1 - f) (l.filter (fun x => decide (f ≤ x.1))) with
  | some a, some b => if a.1 = b.1 then a.2 else a.2 + (b.2 - a.2) * (Config.logHz f - Config.logHz a.1) / (Config.logHz b.1 - Config.logHz a.1)
  | _, _ => Config.xdcrBeyond f

/-- What is added to a level of bin `i`: the attenuator of source 0 and the transducer correction (R350, R351, R353). -/
def State.levelAdd (s : State) (i : Nat) : Int :=
  let w := s.act Reg.SRV_SRV_IN
  (if bit w 0 then 0 else (1000 * fld w 5 2 : Nat)) + (if bit w 7 then xdcrAt s.xdcr (binHz i) else 0)

/-- A level in 0.01 dBµV as a record holds it: saturated, no data outside the source's coverage (R362). -/
def State.level16 (s : State) (i : Nat) (x : Int) : Nat :=
  if s.binCovered i then (max (-32766) (min 32766 (x + s.levelAdd i)) % 65536).toNat else 0x8000

/-- The running figures of an interval: the chains and filters, the detectors and their highest outputs so far by 4 * bin + detector, and by bin the powers before and after subtraction and of the own signal summed over the hops of own transmission, whose count by band follows (R354 to R358). -/
structure SrvRun where
  pre : Nat
  post : Nat
  own : Nat
  n : Nat
  det : List (Nat × Nat)
  paths : List (Nat × Nat)
  top : List (Nat × Int)
  sums : List (Nat × Nat × Nat × Nat) := []
  hops : List (Nat × Nat) := []
deriving DecidableEq, Repr

/-- A hop of band `b`: each bin's power enters its four detectors (R355); during own transmission its powers are summed (R358). -/
def SrvRun.hop (r : SrvRun) (b : Nat) (owning : Bool) : SrvRun :=
  let (i0, n) := bandBins b
  let r1 := (List.range' i0 n).foldl (fun (r : SrvRun) i =>
    let p := Config.binPower r.post i
    let r1 := (List.range 4).foldl (fun (r : SrvRun) d =>
      let k := 4 * i + d
      let st := Config.detStep d i (tget 0 r.det k) p
      let y := Config.detOut d i st
      { r with det := tins r.det k st, top := tins r.top k (match tfind r.top k with | some x => max x y | none => y) }) r
    if ! owning then r1
    else
      let x := (tfind r1.sums i).getD (0, 0, 0)
      { r1 with sums := tins r1.sums i (x.1 + Config.binPower r.pre i, x.2.1 + p, x.2.2 + Config.binPower r.own i) }) r
  if owning then { r1 with hops := tins r1.hops b (tget 0 r1.hops b + 1) } else r1

/-- The ports whose conductors the source observes (R350). -/
def State.survPorts (s : State) : Nat :=
  let i := s.act Reg.SRV_SRV_IN
  s.rf Reg.SRV_SURV_PORTS 0 4 ||| (if bit i 0 then 2 ^ fld i 1 2 else 0)

/-- The transmit channels of observed ports that transmit at a sample (R357). -/
def State.ownOf (s : State) (x : SrvSample) : List (Nat × Int) := x.own.filter (fun y => decide (s.survPorts / 2 ^ (y.1 / 3) % 2 = 1))

/-- One sample passes through (R354 to R357): missing samples are zeros; a line channel's are referred to the line; the models of the transmitting channels are subtracted, save in quiet regions (R359), and their filters adapt. -/
def State.srvSample (s : State) (r : SrvRun) (x : SrvSample) : SrvRun :=
  let own := s.ownOf x
  let on := s.rb Reg.SRV_SUPP_CFG 8
  let v := if x.gone then 0 else if bit (s.act Reg.SRV_SRV_IN) 0 then Config.lineRef (s.rf (Reg.LFE_COUP_CFG (s.af Reg.SRV_SRV_IN 1 2)) 0 2) x.gain x.v else x.v
  let m := (own.map (fun y => Config.pathOut (tget 0 r.paths y.1) y.2)).sum
  let e := if on && ! x.quiet then v - m else v
  let r1 := { r with pre := Config.chainStep r.pre v, post := Config.chainStep r.post e, own := Config.chainStep r.own m, n := r.n + 1
                     paths := if on then own.foldl (fun l y => tins l y.1 (Config.pathStep (tget 0 l y.1) y.2 e)) r.paths else r.paths }
  (List.range 3).foldl (fun (r : SrvRun) b => if r.n % s.hopLen b = 0 then r.hop b (! own.isEmpty) else r) r1

/-- The interval's samples in order, from where the chains and detectors stand: detector state runs across record boundaries (R355). -/
def State.srvRun (s : State) (xs : List SrvSample) : SrvRun :=
  xs.foldl s.srvSample { pre := s.srv.chains.1, post := s.srv.chains.2.1, own := s.srv.chains.2.2, n := s.srv.samples, det := s.srv.det, paths := s.srv.paths
                         top := s.srv.det.map (fun x => (x.1, Config.detOut (x.1 % 4) (x.1 / 4) x.2)) }

/-- Where the chains, filters and detectors stand after an interval. -/
def State.keepRun (s : State) (r : SrvRun) : State :=
  { s with srv := { s.srv with chains := (r.pre, r.post, r.own), samples := r.n, det := r.det, paths := r.paths } }

/-- How many runs of samples with a property a list holds. -/
def runsOf (f : SrvSample → Bool) : Bool → List SrvSample → Nat
  | _, [] => 0
  | was, x :: l => (if f x && ! was then 1 else 0) + runsOf f (f x) l

/-- What the second shows of bin `i` in 0.01 dBµV: the highest output of detector `d` (R362). -/
def SrvRun.topOf (r : SrvRun) (i d : Nat) : Int := (tfind r.top (4 * i + d)).getD (Config.detOut d i 0)

/-- The predicted level of the own signal in bin `i`, and the level there before subtraction, in 0.01 dBµV, over the own-transmission time (R358, R366). -/
def SrvRun.ownDb (r : SrvRun) (i : Nat) : Int := Config.powerDb (((tfind r.sums i).getD (0, 0, 0)).2.2 / max 1 (tget 0 r.hops (binBand i)))
def SrvRun.preDb (r : SrvRun) (i : Nat) : Int := Config.powerDb (((tfind r.sums i).getD (0, 0, 0)).1 / max 1 (tget 0 r.hops (binBand i)))

/-- Quiet time in µs that settles a reference bin (R359): 5 ÷ RBW. -/
def settleUs (i : Nat) : Nat := if i < 1411 then 25000 else if i < 8045 then 560 else 42

/-- The settled reference value of bin `i` (R359). -/
def State.refOf (s : State) (i : Nat) : Option Int := if s.srv.refUs < settleUs i then none else s.srv.refRms[i]?

/-- The suppression achieved in band `b`, 0.1 dB (R358): over the bins where the predicted own level exceeds the last reference by 20 dB or more; none where there is no such bin, or no suppression. -/
def State.suppOf (s : State) (r : SrvRun) (b : Nat) : Option Nat :=
  let (i0, n) := bandBins b
  let bins := (List.range' i0 n).filter (fun i => (tfind r.sums i).isSome && (match s.refOf i with
    | some y => decide (y + 2000 ≤ r.ownDb i)
    | none => false))
  let sum := fun (f : Nat × Nat × Nat → Nat) => (bins.map (fun i => f ((tfind r.sums i).getD (0, 0, 0)))).sum
  if bins.isEmpty || ! s.rb Reg.SRV_SUPP_CFG 8 then none else some (Config.powerRatio (sum (fun x => x.1)) (sum (fun x => x.2.1)))

/-- What an interval's samples amount to (R358, R361, R363): suppression by band, quiet regions, share of own transmission in 2^-16, overload bursts, missing samples, and duration in µs. -/
structure SrvVals where
  supp : List (Option Nat)
  quietN : Nat
  duty : Nat
  ovld : Nat
  missing : Nat
  dur : Nat
deriving DecidableEq, Repr

/-- The figures of a list of samples that ran as `r`. -/
def State.srvVals (s : State) (r : SrvRun) (xs : List SrvSample) : SrvVals :=
  let own := (xs.filter (fun x => ! (s.ownOf x).isEmpty)).length
  { supp := (List.range 3).map (s.suppOf r), quietN := runsOf SrvSample.quiet false xs, duty := min 65535 (own * 65536 / max 1 xs.length)
    ovld := runsOf SrvSample.clip false xs, missing := (xs.filter SrvSample.gone).length, dur := xs.length * s.srvEdges / 1500 }

/-- The residue map (R358): a bin is marked where its predicted own level less the suppression achieved lies above its RMS-average level less `RES_DB`. -/
def State.marked (s : State) (r : SrvRun) (i : Nat) : Bool :=
  (tfind r.sums i).isSome && (match s.suppOf r (binBand i) with
    | some x => decide (r.topOf i 3 - (50 * s.rf Reg.SRV_SUPP_CFG 0 8 : Nat) < r.ownDb i - (10 * x : Nat))
    | none => false)

/-! ## The exclusion list's layout (R369) -/

/-- `COUNT`, `SIGNER` and `GEN` of a list. -/
def xlCount (l : List Byte) : Nat := leAt l 6 1
def xlSigner (l : List Byte) : Nat := leAt l 5 1
def xlGen (l : List Byte) : Nat := leAt l 8 8

/-- Entry `n` of a list. -/
def xlEntry (l : List Byte) (n : Nat) : XlEntry :=
  let o := 96 + 16 * n
  { lo := leAt l o 4, hi := leAt l (o + 4) 4, ports := leAt l (o + 8) 1, verify := leAt l (o + 9) 1 % 2 == 1 }

/-- An entry's bytes are valid (R369). -/
def xlEntryOk (l : List Byte) (n : Nat) : Bool :=
  let o := 96 + 16 * n
  let e := xlEntry l n
  decide (3000 ≤ e.lo) && decide (e.lo ≤ e.hi) && decide (e.hi ≤ 200000000) && decide (0 < e.ports) && decide (e.ports < 16)
    && decide (leAt l (o + 9) 1 < 2) && leAt l (o + 10) 6 == 0

/-- A list is well formed for its length (R369, R370 check 1). -/
def xlFormed (l : List Byte) (len : Nat) : Bool :=
  let c := xlCount l
  leAt l 0 4 == 0x4C584D43 && leAt l 4 1 == 1 && decide (c ≤ 64) && len == 96 + 16 * c + 3309 && l.length == len
    && (xlSigner l == 1 || xlSigner l == 2) && decide (leAt l 7 1 < 2) && decide (1 ≤ xlGen l) && leAt l 88 8 == 0
    && (decide (leAt l 7 1 = 1) || ofLE (takeBytes l 16 32) == 0) && (List.range c).all (xlEntryOk l)

/-! ## Muting (R367) -/

/-- The list in force or about to be: the newest of those waiting for the vault, committed and not applied, and installed. -/
def State.newestXl (s : State) : List Byte :=
  match (s.sto.vault.waiting.filterMap (fun q => match q.datum with
      | .excl l _ => some l
      | _ => none)).getLast? with
  | some l => l
  | none => s.srv.apply.getD s.srv.xl

/-- The mute state is committed with the list (R367). -/
def State.muteCommit (s : State) : State := s.commitReq 0 (.excl s.newestXl (s.rd Reg.SRV_MUTE_STAT).toNat) .none

/-- Port `p` is muted by a check (4 loopback, 8 line check, 12 LOST): its transmission stops (R367). -/
def State.mutePort (s : State) (p by_ : Nat) : State :=
  let was := s.rb Reg.SRV_MUTE_STAT (by_ + p)
  let s1 := ((s.wb Reg.SRV_MUTE_STAT p true).wb Reg.SRV_MUTE_STAT (by_ + p) true).stopPort p .excludedBand
  let s2 := { s1 with srv := { s1.srv with muteAt := tins s1.srv.muteAt p (s.fabric + 1), mutedAny := true, refMuted := true } }.cause 0x07D 0
  (if was then s2 else s2.pageRecord 0x07D 0x00 1 (detail 0 p 0)).muteCommit

/-- MUTE_CLEAR (R15, R367, R372): lifts the mute of the ports named, save one decided in the same fabric cycle; none while the list is `LOST`. -/
def State.muteClear (s : State) (mask : Nat) : State :=
  if s.rb Reg.SRV_XL_STAT 1 then s
  else
    let ps := (List.range 4).filter (fun p => mask / 2 ^ p % 2 == 1 && s.muted p && tget 0 s.srv.muteAt p != s.fabric + 1)
    if ps.isEmpty then s
    else (ps.foldl (fun s p => [p, 4 + p, 8 + p, 12 + p].foldl (fun s b => s.wb Reg.SRV_MUTE_STAT b false) s) s).muteCommit

/-- An excluded band applies to port `p` (R365, R369). -/
def State.bandApplies (s : State) (p : Nat) : Bool :=
  (List.range (xlCount s.srv.xl)).any (fun n => (xlEntry s.srv.xl n).ports / 2 ^ p % 2 == 1)

/-- The margin of a channel over an interval in 0.1 dB (R365): its highest tone level less the highest level inside an excluded band that applies to its port; `bands` gives the level in each entry's band. -/
def State.lbMargin (s : State) (p : Nat) (tone : Int) (bands : List (Nat × Int)) : Option Int :=
  ((bands.filter (fun b => decide (b.1 < xlCount s.srv.xl) && decide ((xlEntry s.srv.xl b.1).ports / 2 ^ p % 2 = 1))).map (fun b => tone - b.2)).foldl
    (fun (m : Option Int) x => some (match m with | some y => min x y | none => x)) none

/-- LOOPBACK_CHECK (R365): one interval of a transmit channel of 1 ms, in which it transmitted; none is judged where no band applies to the port. -/
def State.loopback (s : State) (p c : Nat) (tone : Int) (bands : List (Nat × Int)) : State :=
  let k := s.cond p c
  let sent := k.nb.isSome || k.bb.isSome || (k.nbTx ++ k.bbTx).any (fun w => decide (s.now < w.2 + msec))
  if ! s.xlInstalled || ! s.bandApplies p || ! sent then s
  else match s.lbMargin p tone bands with
  | none => s
  | some margin =>
    let m := margin.toNat
    let old := tget 0 s.srv.lbMin p
    let k := 3 * p + c
    let low := decide (margin < (s.rf Reg.SRV_CHK_CFG 0 8 * 10 : Nat))
    let run := if low then tget 0 s.srv.lbRun k + 1 else 0
    let hit := low && decide (s.rf Reg.SRV_CHK_CFG 8 4 ≤ run)
    let s1 := { s with srv := { s.srv with lbMin := tins s.srv.lbMin p (if old = 0 then m + 1 else min old (m + 1))
                                           lbRun := tset 0 s.srv.lbRun k (if hit then 0 else run) } }
    if hit then s1.mutePort p 4 else s1

/-- The largest excess of the own-transmission level over the reference, in 0.01 dB, in the bins of the excluded bands with `VERIFY`; none where no such bin has a settled reference (R366). -/
def State.lineRise (s : State) (r : SrvRun) : Option Int :=
  let es := ((List.range (xlCount s.srv.xl)).map (xlEntry s.srv.xl)).filter (·.verify)
  let bins := (List.range 10879).filter (fun i => (tfind r.sums i).isSome && es.any (fun e => decide (e.lo ≤ binHz i) && decide (binHz i ≤ e.hi)))
  (bins.filterMap (fun i => (s.refOf i).map (fun y => r.preDb i - y))).foldl (fun (m : Option Int) x => some (match m with | some y => max x y | none => x)) none

/-- The line check at the end of a second (R366). -/
def State.lineCheck (s : State) (r : SrvRun) (duty tx : Nat) : State :=
  let verify := (List.range (xlCount s.srv.xl)).any (fun n => (xlEntry s.srv.xl n).verify)
  if ! s.xlInstalled || ! verify || duty * 100 < 65536 then s
  else match s.lineRise r with
    | none => s
    | some x =>
      if x ≤ (50 * s.rf Reg.SRV_CHK_CFG 16 8 : Nat) then { s with srv := { s.srv with lineRun := 0, linePorts := 0 } }
      else
        let n := s.srv.lineRun + 1
        let ps := s.srv.linePorts ||| (tx &&& s.survPorts)
        if n < s.rf Reg.SRV_CHK_CFG 24 4 then { s with srv := { s.srv with lineRun := n, linePorts := ps } }
        else ((List.range 4).filter (fun p => ps / 2 ^ p % 2 == 1)).foldl (fun s p => s.mutePort p 8)
          { s with srv := { s.srv with lineRun := 0, linePorts := 0 } }

/-! ## Records (R359 to R364) -/

/-- UTC is valid (`TRK_STAT.UTC_VALID`). -/
def State.utcValid (s : State) : Bool := s.rb Reg.LTIME_TRK_STAT 10

/-- `EPOCH` of page 0x078 at the end of the interval: a swap on its closing edge belongs to the next one (R361, R363). -/
def State.srvEpoch (s : State) : Nat :=
  let pg := s.page 0x078
  if pg.swapCycle = s.fabric + 1 then (pg.epoch + 65535) % 65536 else pg.epoch

/-- The header of a surveillance record (R361). -/
def State.srvHeader (s : State) (rtype flags rseq lt utc : Nat) (v : SrvVals) (resBins : Nat) : List Byte :=
  let i := s.act Reg.SRV_SRV_IN
  let supp := fun k => if v.duty = 0 then 65535 else min 65535 (((v.supp[k]?).getD none).getD 65535)
  let lbm := fun p => if tget 0 s.srv.lbMin p = 0 then 65535 else min 65535 (tget 0 s.srv.lbMin p - 1)
  leBytes 1 rtype ++ leBytes 1 1 ++ leBytes 2 flags ++ leBytes 4 rseq ++ leBytes 8 lt ++ leBytes 8 utc ++ leBytes 2 10879
    ++ leBytes 1 (fld i 0 7) ++ leBytes 1 (min 255 v.quietN) ++ leBytes 2 v.duty ++ leBytes 2 (supp 0) ++ leBytes 2 (supp 1) ++ leBytes 2 (supp 2)
    ++ leBytes 2 (lbm 0) ++ leBytes 2 (lbm 1) ++ leBytes 2 (lbm 2) ++ leBytes 2 (lbm 3) ++ leBytes 8 (xlGen s.srv.xl) ++ leBytes 2 s.srvEpoch
    ++ leBytes 2 (min 65535 v.ovld) ++ leBytes 2 (min 65535 s.srv.trigCnt) ++ leBytes 2 resBins ++ leBytes 4 v.dur

/-- A record enters staging and, with a READY drive, the archive; without credit the oldest staged second record gives way (R360, R364). -/
def State.srvEmit (s : State) (credit : Bool) (mk : Nat → List Byte) : State :=
  if ! s.rb Reg.SRV_REC_CFG 0 then s
  else
    let n := (s.srv.rseq + 1) % 2 ^ 32
    let r : ArchRec := { rseq := n, bytes := mk n }
    let s1 := ({ s with srv := { s.srv with rseq := n } }).wr Reg.SRV_REC_SEQ (word n)
    if s1.anyDrive then (s1.srv.stage ++ [r]).foldl (fun s x => s.archSurv x) { s1 with srv := { s1.srv with stage := [] } }
    else if credit then { s1 with srv := { s1.srv with stage := s1.srv.stage ++ [r] } }
    else
      let s2 := (s1.inc Reg.SRV_ARCH_DROP).cause 0x07D 6
      match s1.srv.stage.find? (fun x => leAt x.bytes 0 1 == 1) with
      | some x => { s2 with srv := { s2.srv with stage := s2.srv.stage.erase x ++ [r] } }
      | none => if leAt r.bytes 0 1 = 1 then s2 else { s1 with srv := { s1.srv with stage := s1.srv.stage ++ [r] } }

/-- A CRC-32C over every preceding byte ends a record (R362). -/
def srvCrc (b : List Byte) : List Byte := b ++ leBytes 4 (crc32c b)

/-- The flags every record carries (R363); `muted` says that a port was muted in the interval, `epoch` is that of page 0x078 at its start. -/
def State.srvFlags (s : State) (v : SrvVals) (muted : Bool) (epoch : Nat) : Nat :=
  (if s.utcValid then 1 else 0) + (if s.rb Reg.SRV_IL_STAT 0 then 0 else 2) + (if s.rb Reg.SRV_IL_STAT 1 then 4 else 0)
    + (if v.ovld = 0 then 0 else 16) + (if v.missing = 0 then 0 else 64)
    + (if muted || (List.range 4).any s.muted then 128 else 0) + (if v.duty = 0 then 0 else 256)
    + (if s.srvEpoch != epoch then 32 else 0)

/-- Suppression fell short in a band (R358). -/
def suppShort (v : SrvVals) : Bool :=
  v.duty != 0 && v.supp.any (fun x => decide (x.getD 400 < 400))

/-- The next interval begins (R360). -/
def State.srvNext (s : State) : State :=
  { s with srv := { s.srv with startAt := s.now, ltStart := s.lt, utcStart := s.utc, epoch := (s.page 0x078).epoch, mutedAny := (List.range 4).any s.muted
                               trigCnt := 0, lbMin := [] } }

/-- The interval in progress ends now (R360): at a UTC second, at least half a second after it began; without UTC after 500,000,000 samples. -/
def State.srvDue (s : State) : Bool :=
  if s.utcValid then decide (s.utc % 1000000000 < 2) && decide (s.srv.startAt + 750000000 ≤ s.now)
  else decide (s.srv.startAt + 500000000 * s.srvEdges ≤ s.now)

/-- SECOND_RECORD (R354 to R366): an interval ends, whose samples are `xs`; its record is written and the line check runs. -/
def State.secondRecord (s : State) (xs : List SrvSample) (credit : Bool) : State :=
  if ! s.srvRuns || ! s.srvDue then s
  else
    let r := s.srvRun xs
    let v := s.srvVals r xs
    let short := suppShort v
    let flags := s.srvFlags v s.srv.mutedAny s.srv.epoch + (if short then 8 else 0)
    let bits := (List.range 10879).map (s.marked r)
    let res := (List.range 1360).map (fun j => BitVec.ofNat 8 ((List.range 8).map (fun k => if (bits[8 * j + k]?).getD false then 2 ^ k else 0)).sum)
    let body := (List.range 10879).flatMap (fun i => (List.range 4).flatMap (fun d => leBytes 2 (s.level16 i (r.topOf i d))))
    let s1 := s.srvEmit credit (fun n => srvCrc (s.srvHeader 1 flags n s.srv.ltStart s.srv.utcStart v (bits.filter id).length ++ body ++ res))
    let s2 := (s1.addF Reg.SRV_GAP_CNT 0 32 v.missing).wf Reg.SRV_SUPP_LAST 0 16 (if v.duty = 0 then 65535 else (v.supp.map (fun x => x.getD 65535)).foldl min 65535)
    let s3 := (List.range 4).foldl (fun s p => s.wf (Reg.SRV_LB_LAST p) 0 16
      (if tget 0 s.srv.lbMin p = 0 then 65535 else min 65535 (tget 0 s.srv.lbMin p - 1))) s2
    let s4 := if short then (s3.cause 0x07D 1).faultEvent 0x07D |>.1 else s3
    let s5 := if v.ovld = 0 then s4 else s4.cause 0x07D 2
    let tx := (List.range 4).map (fun p => if xs.any (fun x => x.own.any (fun y => y.1 / 3 == p)) then 2 ^ p else 0)
    ((s5.lineCheck r v.duty tx.sum).keepRun r).srvNext

/-- The peak and the mean power of bin `i` over the hops of a list of quiet samples (R359): the chains run on them, one region after another, with no subtraction. -/
def State.refBins (s : State) (xs : List SrvSample) : List (Nat × Nat × Nat × Nat) :=
  (xs.foldl (fun (a : Nat × Nat × List (Nat × Nat × Nat × Nat)) x =>
    let r := s.srvSample { pre := a.1, post := 0, own := 0, n := a.2.1, det := [], paths := [], top := [] } { x with quiet := true, own := [] }
    let hopped := (List.range 3).filter (fun b => (a.2.1 + 1) % s.hopLen b == 0)
    (r.pre, a.2.1 + 1, hopped.foldl (fun l b => let (i0, n) := bandBins b
      (List.range' i0 n).foldl (fun l i => let p := Config.binPower r.pre i
        let y := (tfind l i).getD (0, 0, 0)
        tins l i (max y.1 p, y.2.1 + p, y.2.2 + 1)) l) a.2.2)) (0, 0, [])).2.2

/-- REFERENCE_RECORD (R359, R362): the accumulation over `REF_SF` superframes ends; `xs` are the samples of its quiet regions. A bin whose quiet time is short reports "not settled". -/
def State.referenceRecord (s : State) (xs : List SrvSample) (credit : Bool) : State :=
  if ! s.srvRuns || ! s.sfReached s.sfNow (s.srv.refSf + s.rf Reg.SRV_REC_CFG 8 8) then s
  else
    let bins := s.refBins xs
    let v := { s.srvVals (s.srvRun []) xs with supp := [none, none, none], duty := 0 }
    let of_ := fun (i : Nat) => let y := (tfind bins i).getD (0, 0, 0); (Config.powerDb y.1, Config.powerDb (y.2.1 / max 1 y.2.2))
    let show_ := fun (i : Nat) (x : Int) => if v.dur < settleUs i then 0x8001 else s.level16 i x
    let body := (List.range 10879).flatMap (fun i => leBytes 2 (show_ i (of_ i).1) ++ leBytes 2 (show_ i (of_ i).2))
    let s1 := s.srvEmit credit (fun n => srvCrc (s.srvHeader 2 (s.srvFlags v s.srv.refMuted s.srv.refEpoch) n s.srv.refLt s.srv.refUtc v 0 ++ body))
    { s1 with srv := { s1.srv with refSf := s.sfNow, refLt := s.lt, refUtc := s.utc, refEpoch := (s.page 0x078).epoch, refMuted := (List.range 4).any s.muted
                                   refRms := (List.range 10879).map (fun i => (of_ i).2), refUs := v.dur } }

/-! ## The converter pair (R352, R353) -/

/-- IL_CONVERGED (R351, R352): the image reached, in -dBc; `CONVERGED` stands while it is at most -80 dBc. -/
def State.ilConverged (s : State) (image : Nat) : State :=
  if s.srvRuns && ! s.rb Reg.SRV_IL_STAT 1 then (s.wb Reg.SRV_IL_STAT 0 (decide (80 ≤ image))).wf Reg.SRV_IL_STAT 8 8 (min 255 image) else s

/-- IL_FALLBACK (R353): the pair goes on with one converter. -/
def State.ilFallback (s : State) : State :=
  if s.rb Reg.SRV_IL_STAT 1 then s
  else (((s.wb Reg.SRV_IL_STAT 1 true).detReset).cause 0x07D 5).pageRecord 0x07D 0x05 4 (detail 0 0 0)

/-! ## Captures (R368) -/

/-- `CAP_STAT`: 0 IDLE, 1 ARMED, 2 FILLING, 3 HELD. -/
def State.capState (s : State) : Nat := s.rf Reg.SRV_CAP_STAT 0 2

/-- The source of the capture in progress shown in `CAP_STAT`. -/
def State.capSource (s : State) (src : Nat) : State :=
  { (s.wb Reg.SRV_CAP_STAT 2 (src == 1)).wb Reg.SRV_CAP_STAT 3 (src == 0) with srv := { s.srv with trigAt := s.fabric + 1, trigSrc := src } }

/-- A trigger, from a fixture 0, a limit line 1 or the register 2 (R368). -/
def State.capTrigger (s : State) (src : Nat) : State :=
  if s.capState = 1 then
    let s1 := ((s.wf Reg.SRV_CAP_STAT 0 2 2).wr64 Reg.SRV_CAP_LT_LO Reg.SRV_CAP_LT_HI s.lt).cause 0x07D 3
    { s1 with srv := { s1.srv with trigCnt := s1.srv.trigCnt + 1, trigEdge := s.now } }.capSource src
  else if s.capState = 0 then s
  else if s.srv.trigAt = s.fabric + 1 then (if src < s.srv.trigSrc then s.capSource src else s)
  else s.incF Reg.SRV_CAP_STAT 16 16

/-- LIMIT_LINE_TRIGGER (R368): a peak of `level` (0.01 dBµV) at `f` Hz against limit line `n` of page 0x079. -/
def State.limitTrigger (s : State) (n f : Nat) (level : Int) : State :=
  let a := 0x079 * 0x1000 + 0x400 + 16 * n
  let w2 := s.act (a + 8)
  if s.srvRuns && s.rb (0x079 * 0x1000 + 0x040) 0 && bit w2 31 && decide (fld (s.act a) 0 28 ≤ f) && decide (f ≤ fld (s.act (a + 4)) 0 28)
     && decide (signedField 16 (fld w2 0 16) < level) then s.capTrigger 1 else s

/-- CAPTURE_ARM (R368). -/
def State.capArm (s : State) : State :=
  if s.capState = 0 || s.capState = 3 then
    let s1 := ((s.wf Reg.SRV_CAP_STAT 0 2 1).wb Reg.SRV_CAP_STAT 2 false).wb Reg.SRV_CAP_STAT 3 false
    { s1 with srv := { s1.srv with cap := [] } }
  else s

/-- The trigger line time of the capture. -/
def State.capLt (s : State) : Nat := (s.rd Reg.SRV_CAP_LT_HI).toNat * 2 ^ 32 + (s.rd Reg.SRV_CAP_LT_LO).toNat

/-- The header of a capture record (R368). -/
def State.capHeader (s : State) (n : Nat) : List Byte :=
  let rate := if s.halfRate then 1 else 0
  leBytes 8 s.capLt ++ leBytes 1 s.srv.trigSrc ++ leBytes 1 rate ++ [0, 0] ++ leBytes 4 n

/-- A captured sample of the source as 16 bits (R94, R368): with `SRC` 1 in the container of its receive channel, taken at edge `e`. -/
def State.capSample (s : State) (e : Nat) (x : Int × Bool) : List Byte :=
  let k := s.chan (s.af Reg.SRV_SRV_IN 1 2) (s.af Reg.SRV_SRV_IN 3 2)
  leBytes 2 (if s.af Reg.SRV_SRV_IN 0 1 = 1 then container x.1 x.2 (k.gcMark e 6) else (x.1 % 65536).toNat)

/-- Samples that the buffer holds, and those after the trigger (R368). -/
def State.capLen (s : State) : Nat := s.rf Reg.SRV_CAP_CFG 0 9 * 524288
def State.capAfter (s : State) : Nat := s.capLen - s.capLen * s.rf Reg.SRV_CAP_CFG 16 7 / 100

/-- CAPTURE_HELD (R368): the buffer has filled what lies after its trigger and holds `xs`, the last of them taken now; with `AUTO_ARCH` it becomes a capture record and the buffer re-arms. -/
def State.capHeld (s : State) (xs : List SrvSample) (credit : Bool) : State :=
  if s.capState != 2 || decide (s.now < s.srv.trigEdge + s.capAfter * s.srvEdges) then s
  else
    let ys := xs.take s.capLen
    let d := (ys.zipIdx).flatMap (fun x => s.capSample (s.now - (ys.length - 1 - x.2) * s.srvEdges) (x.1.v, x.1.clip))
    let s1 := { s.wf Reg.SRV_CAP_STAT 0 2 3 with srv := { s.srv with cap := d } }
    let age := (ys.length - 1) * s.srvEdges
    let v := { s.srvVals (s.srvRun []) ys with supp := [none, none, none] }
    if s.rb Reg.SRV_CAP_CFG 12 then
      (s1.srvEmit credit (fun n => srvCrc (s.srvHeader 3 (s.srvFlags v s.srv.mutedAny s.srv.epoch) n (s.ltAt (s.now - age)) (s.utc - age * 2 / 3) v 0 ++ s.capHeader (d.length / 2) ++ d))).capArm
    else s1

/-- CAP_READ (R375). -/
def State.capRead (s : State) (c : Sub) : State :=
  let n := leAt c.part 16 4
  if s.capState != 3 || n % 64 ≠ 0 || decide (16777216 < n) then s.finishTag c .refused
  else
    let d := (s.srv.cap.drop (leAt c.part 4 4)).take n
    (s.dmaWrite (leAt c.part 8 8) d).finish c .done (leBytes 4 c.utag ++ leBytes 4 d.length ++ leBytes 8 s.capLt)

/-! ## Installing a list (R370 to R372) -/

/-- The hash of a customer key: 0 to 4 for C, L, A, H and D; none where it is not provisioned (R429). -/
def State.ckey (s : State) (i : Nat) : Option (List Byte) := match tget [] s.sec.ckeys i with
  | [] => none
  | h => if ofLE h = 0 then none else some h

/-- The seed of the identity key pair, and `DEV_ID` (R443); zero while `DUS` is absent. -/
def State.idSeed (s : State) : List Byte := kdf (s.dus.getD []) (keyLabel 0x12 0 0 0 0 0)
def State.devId (s : State) : List Byte := if s.dus.isSome then shake (dsaPublic s.idSeed) else List.replicate 32 0

/-- A verification is counted (R456). -/
def State.verified (s : State) (ok : Bool) : State :=
  let s1 := s.incF Reg.SEC_PQC_CNT 16 16
  if ok then s1 else s1.inc Reg.SEC_PQC_FAIL

/-- A list is refused (R370). -/
def State.xlRefuse (s : State) (c : Sub) (st : Status) : State :=
  ((s.incF Reg.SRV_XL_REJ (if st = Status.authFail then 0 else 16) 16).record 0x07A 0x2621 0 (detail st 0 0)).finishTag c st

/-- XL_INSTALL (R370): `list` is what the device reads at the list's address; the signer's key is the one its hash names. -/
def State.xlInstall (s : State) (c : Sub) (list : List Byte) : State :=
  let len := leAt c.part 16 2
  let s0 := s.hostRead (leAt c.part 8 8) len
  let key := s.ckey (xlSigner list)
  let body := list.take (len - 3309)
  if ! xlFormed list len || s.mode < 3 || ! s.lcPermits 0x50 then s0.xlRefuse c .refused
  else if key != some (takeBytes list 48 32) then s0.xlRefuse c .authFail
  else
    let ok := dsaVerify (takeBytes list 48 32) ctxXl body (list.drop (len - 3309))
    let s1 := s0.verified ok
    if ! ok then s1.xlRefuse c .authFail
    else if leAt list 7 1 = 1 && takeBytes list 16 32 != s.devId then s1.xlRefuse c .refused
    else if xlGen list ≤ xlGen s.newestXl then s1.xlRefuse c .stale
    else if ! s.anyDrive || decide (16384 ≤ s.sto.vault.steps) || s.srv.xlSub.isSome then s1.xlRefuse c .resourceRetry
    else { s1.commitReq 0 (.excl list (s.rd Reg.SRV_MUTE_STAT).toNat) .none with srv := { s1.srv with xlSub := some (c.ring, c.idx, c.cid, c.utag) } }

/-- The submission that waits for a list is answered. -/
def State.xlAnswer (s : State) (st : Status) (result : List Byte) : State :=
  match s.srv.xlSub with
  | none => s
  | some (r, i, cid, utag) =>
    ({ s with srv := { s.srv with xlSub := none } }).complete r { idx := i, op := 0x50, status := st, cid := cid, result := leBytes 4 utag ++ result }

/-- The vault has committed datum 0, or failed to (R370 check 7, R371): a new list waits to be applied. -/
def State.xlCommitted (s : State) (list : List Byte) (ok : Bool) : State :=
  if xlGen list ≤ xlGen s.srv.xl then s
  else if ok then { s with srv := { s.srv with apply := some list } }
  else ((s.incF Reg.SRV_XL_REJ 16 16).record 0x07A 0x2621 0 (detail Status.resourceRetry 0 0)).xlAnswer .resourceRetry []

/-- `EXCL_n` of every TX page is written in both banks at once (R371). -/
def State.writeExcl (s : State) (list : List Byte) : State :=
  (List.range 4).foldl (fun s p => (List.range 64).foldl (fun s n =>
    let e := xlEntry list n
    let here := decide (n < xlCount list) && e.ports / 2 ^ p % 2 == 1
    let w0 := word (if here then e.lo + 2 ^ 31 else 0)
    let w1 := word (if here then e.hi else 0)
    let a := Reg.LFE_EXCL p n
    (((s.wr a w0).wr (a + 4) w1).wr (bankKey 1 a) w0).wr (bankKey 1 (a + 4)) w1) s) s

/-- The registers that show an installed list (R375). -/
def State.showXl (s : State) (list : List Byte) : State :=
  (s.wr Reg.SRV_XL_STAT (word (1 + xlSigner list % 4 * 4 + xlCount list * 2 ^ 8))).wr64 Reg.SRV_XL_GEN_LO Reg.SRV_XL_GEN_HI (xlGen list)

/-- Ports muted because the list was lost are muted no longer for that cause (R372). -/
def State.lostCleared (s : State) : State :=
  (List.range 4).foldl (fun s p =>
    let s1 := s.wb Reg.SRV_MUTE_STAT (12 + p) false
    if s1.rb Reg.SRV_MUTE_STAT (4 + p) || s1.rb Reg.SRV_MUTE_STAT (8 + p) then s1 else s1.wb Reg.SRV_MUTE_STAT p false) s

/-- EXCLUSION_APPLY (R371): the committed list is applied. -/
def State.exclusionApply (s : State) : State :=
  match s.srv.apply with
  | none => s
  | some list =>
    let lost := s.rb Reg.SRV_XL_STAT 1
    let s1 := { s with srv := { s.srv with apply := none, xl := list } }
    let s2 := (((s1.wb Reg.SRV_SRV_CTL 0 true).writeExcl list).darkenDefaults).showXl list
    let s3 := if lost then s2.lostCleared.muteCommit else s2
    ((s3.cause 0x07D 4).record 0x07D 0x2604 0 (detail 0 0 (xlGen list))).xlAnswer .done (leBytes 8 (xlGen list) ++ leBytes 1 (xlCount list))

/-- The list and mute state read at boot are put in force, or the list is LOST (R372). -/
def State.bootExcl (s : State) (d : Option Datum) (ptr : Nat) : State :=
  match d with
  | some (.excl list mute) =>
    let s1 := if list.isEmpty then s
      else (({ s with srv := { s.srv with xl := list } }.wb Reg.SRV_SRV_CTL 0 true).writeExcl list).showXl list
    (s1.wb Reg.SRV_XL_STAT 1 false).wr Reg.SRV_MUTE_STAT (word mute)
  | _ =>
    if ptr = 0 then s
    else (List.range 4).foldl (fun s p => s.mutePort p 12) (s.wb Reg.SRV_XL_STAT 1 true)

end Sys2Proof.Machine
end

