-- ==== Sys2Proof/Machine/Modes.lean ====
section
/-! DEFINITION. Operating modes (R482 to R501, R603): requests and their order, what a change does, entry to DORMANT and OFF, `SAFE_N`, wake sources, crystals and the reference input. -/

namespace Sys2Proof.Machine

/-! ## The assurance matrix (R498) -/

/-- The debug levels that R498 permits in a security state and mode. -/
def dbgLevels (lc mode : Nat) : List Nat :=
  match lc, mode with
  | _, 0 => [0]
  | 0, 1 => [0, 1, 3] | 0, 2 => [0, 1, 3] | 0, 3 => [0, 1, 3]
  | 0, 7 => [0, 1, 3] | 0, 8 => [0, 1, 3] | 0, 9 => [0, 1, 3] | 0, 10 => [0, 1, 3] | 0, 11 => [0, 1]
  | 1, 1 => [0, 1] | 1, 2 => [0, 1] | 1, 11 => [0, 1]
  | 1, 3 => [0, 1, 2] | 1, 4 => [0, 1, 2] | 1, 5 => [0, 1, 2] | 1, 6 => [0, 1, 2] | 1, 7 => [0, 1, 2] | 1, 8 => [0, 1, 2]
  | 1, 9 => [0, 1, 2] | 1, 10 => [0, 1, 2]
  | 2, 1 => [0, 1] | 2, 2 => [0, 1] | 2, 3 => [0, 1] | 2, 4 => [0, 1] | 2, 5 => [0, 1] | 2, 6 => [0, 1] | 2, 7 => [0, 1] | 2, 8 => [0, 1]
  | 2, 9 => [0, 1, 2] | 2, 10 => [0, 1, 2]
  | 3, 1 => [0, 1] | 3, 2 => [0, 1] | 3, 9 => [0, 1]
  | _, _ => []

/-- The debug level a mode request meets: one accepted in the same fabric cycle as a level request is decided first, at the level before it (R509). -/
def State.levelBefore (s : State) : Nat := if s.sec.dbgAt = s.fabric + 1 then s.sec.dbgWas else s.sec.dbg

/-- The level mode `m` leaves where it does not permit the present one: a rise of the same fabric cycle is undone first (R509, log entry 208). -/
def State.levelIn (s : State) (m : Nat) : Nat :=
  if (dbgLevels s.sec.lc m).contains s.levelBefore && decide (s.levelBefore ≤ s.sec.dbg) then s.levelBefore else 0

/-- A mode may be entered by request in the present state at the present level (R498, R499). Entry to OFF takes the level to D0 itself. -/
def State.modePermitted (s : State) (m : Nat) : Bool := m == 0 || (dbgLevels s.sec.lc m).contains s.levelBefore

/-! ## Self-tests (R561 to R563) -/

/-- A self-test ends (R561): its status and value, the cause and the record; a failure is a fault event of the page. -/
def State.testEnd (s : State) (st : Status) (v : Nat) : State :=
  match s.tst with
  | none => s
  | some _ =>
    let w := s.rd Reg.ATB_TST_STAT
    let s1 := (({ s with tst := none }).wr Reg.ATB_TST_STAT (wrapInc (setFld (setFld w 0 1 0) 8 8 st) 16 16)).wr Reg.ATB_TST_RES (word v)
    let s2 := (s1.cause 0x00A 0).record 0x00A 0x0B30 0 (detail st 0 0)
    if st = Status.done then s2 else (s2.faultEvent 0x00A).1

/-- A loopback test stops when `SAFE_N` falls or the mode changes (R562). -/
def State.loopStop (s : State) : State := match s.tst with
  | some (3, _, _) => s.testEnd .refused 0
  | _ => s

/-! ## What a mode runs (R482, R485, R603) -/

/-- `DOM_STAT` of a mode (R603). -/
def domStat (m : Nat) : Nat := if m < 2 then 0 else if m = 2 then 0x08C else 0x37F

/-- Clocks of a mode (R485): PCLK from WATCH up, `XTAL25` from LISTEN up, the PLLs in the modes of codes 4 to 11. -/
def State.modeClocks (s : State) (m : Nat) : State :=
  let s1 := (s.wb Reg.CLK_CLK_STAT 2 (decide (2 ≤ m))).wb Reg.CLK_CLK_STAT 5 (decide (m ≠ 0) && ! s.md.x32Bad)
  let s2 := s1.wb Reg.CLK_CLK_STAT 6 (decide (3 ≤ m) && ! s.md.x25Bad)
  if 4 ≤ m then s2.pllStart else s2.pllOff

/-- The host links lose power: both ports are DOWN, and the host is absent (R344, R482). -/
def State.linksOff (s : State) : State :=
  let s1 := (s.wr (Reg.HL_HL_STAT 0) 0).wr (Reg.HL_HL_STAT 1) 0
  if s.hostState = 0 then s1 else s1.hostAbsent

/-! ## Entry to DORMANT and OFF (R491) -/

/-- The lease tables as the vault keeps them (R262, R414). -/
def State.leaseTable (s : State) : List LeaseRec :=
  (s.net.eps.filter (fun x => x.2.state != 0)).map (fun x =>
    { addr := x.1, long := x.2.long, lastSf := x.2.lastSf, quarantine := x.2.state == 2 })

/-- The lease tables are committed as datum 4. -/
def State.leaseCommit (s : State) : State :=
  let s1 := s.commitReq 4 (.leases s.leaseTable) .none
  { s1 with sto := { s1.sto with leaseSf := s.sfNow } }

/-- LEASE_TABLE_COMMIT (R414): every 64 superframes. -/
def State.leaseCommitDue (s : State) : State := if 64 ≤ s.sfSince s.sfNow s.sto.leaseSf then s.leaseCommit else s

/-- Steps 1 to 5 of R491. -/
def State.dormantEntry (s : State) : State :=
  let s1 := (s.queues.map Prod.fst).foldl (fun s q => (s.flushWork q).cellReturnDone q) s
  let s2 := s1.resolveWhere (fun _ => true) .flushed
  let s3 := { s2 with link := { s2.link with outbox := [], sent := [], inbox := [], holds := [], acks := [] }
                      msg := { s2.msg with reasm := [] }, net := { s2.net with floodTx := [], carries := [], coop := [] } }
  s3.spoolCheck.epStore.leaseCommit.scorebookStore

/-- Step 6 of R491: power leaves DRAM and every domain outside the always-on domain. Endpoint records come back from the endpoint store; map sets, fabric memory and legacy memory are lost; key slots, sessions and the DRBG state go with the domain (R507). -/
def State.powerOff (s : State) : State :=
  let s1 := s.wipeSlots.closeSessions
  let s2 := (s1.sec.runs.map AesRun.core).foldl (fun (s : State) c => s.aesFinish c 0) { s1 with sec := { s1.sec with runs := s1.sec.runs.map (fun (r : AesRun) => { r with cut := true }) } }
  let s3 := { s2 with
    sec := { s2.sec with drbgN := 0, drbgOut := [], outs := [] }
    maps := {}, mem := [], lgcMem := []
    net := { s2.net with eps := s2.net.eps.filter (fun x => (tfind s2.sto.epStore x.1).isSome) } }
  s3.lgcPowerOff.linksOff

/-- The logical engine whose local memory holds a fabric address (R25, R513). -/
def localEng (addr : Nat) : Option Nat :=
  if 0x800000000 ≤ addr && addr < 0x806000000 then some ((addr - 0x800000000) / 0x100000) else none

/-! ## The change itself (R489 to R491) -/

/-- `RESULT` of the last request resolved (R495). -/
def State.modeResult (s : State) (st : Status) : State := s.wf Reg.SYS_MODE_STAT 16 8 st

/-- `TARGET` (R495): of the change under way, else of the waiting request, else the present mode. -/
def State.showTarget (s : State) : State :=
  s.wf Reg.SYS_MODE_STAT 4 4 (match s.md.change, s.md.wait with
    | some q, _ => q.mode
    | none, some q => q.mode
    | none, none => s.mode)

/-- Logical engines that a mode powers (R482, R501, R502). -/
def State.modeEngines (s : State) : List Nat :=
  if s.sec.lc = 3 then (if s.mode < 3 then [] else [88, 89, 90])
  else if s.sec.recovery then [88, 89]
  else match s.mode with
    | 0 | 1 | 2 => []
    | 3 => [88, 89] ++ (match s.upPort with | some p => [92 + p, 0] | none => [0]) ++ (if s.sec.cc91 then [91] else [])
    | 8 => [88, 89, 90, 91] ++ (List.range 16).map (· + 72) ++ (match s.upPort with | some p => [92 + p] | none => [])
    | 11 => [88, 89, 90, 91]
    | _ => List.range 96

/-- The local memory of engines that the mode does not power is lost (R482). -/
def State.memLeft (s : State) : State := { s with mem := s.mem.filter (fun c => (localEng c.1).all s.modeEngines.contains) }

/-- The mode in force changes to the one a request names (R489): `MODE_STAT`, the line time of the change, and what the new mode no longer permits: transmissions, control outputs, legacy images, loopback tests, keys and sessions (R225, R400, R507, R531, R562). An engine the mode does not power is no longer awake, and its local memory is lost (R482). Entry to DORMANT or OFF takes the first steps of R491 at once. -/
def State.enterMode (s : State) (q : ModeReq) : State :=
  let m := q.mode
  let old := s.mode
  let ran := s.srvRuns
  let s0 := (s.wb Reg.SYS_MODE_STAT 9 true).wf Reg.SYS_MODE_STAT 4 4 m
  let s1 := if m < 2 then s0.dormantEntry else s0
  let s2 := (s1.wf Reg.SYS_MODE_STAT 0 4 m).wf Reg.SYS_MODE_STAT 24 4 q.src
  let s3 := (if m = 9 then s2 else s2.wb Reg.SYS_MODE_STAT 10 false).wr64 Reg.SYS_MODE_LT_LO Reg.SYS_MODE_LT_HI s.lt
  let s4 := { s3 with md := { s3.md with change := some q, startAt := s.now } }
  let s5 := (List.range 4).foldl (fun s p => if s.mayTransmit p then s else s.stopPort p .refused) s4
  let s6 := s5.ctlModeLeft.lgcMode.loopStop
  let s7 := if m = 11 then s6.wipeSlots.closeSessions else if old = 11 then s6.closeSessions else s6
  let s8 := if (dbgLevels s7.sec.lc m).contains s7.sec.dbg then s7 else s7.setDebug (s7.levelIn m)
  let s9 := (if m < 2 then s8 else s8.wf Reg.PWR_DOM_STAT 0 10 (domStat m)).modeClocks m
  let s10 := if m = 2 then s9.linksOff else s9
  let s11 := if m = 1 then s10.wb Reg.LTIME_TRK_STAT 3 false else s10
  let s12 := s11.memLeft
  let s12 := { s12 with sec := { s12.sec with cc91 := false }, quiet := s12.quiet && (List.range 4).any s12.mayTransmit,
                        eng := { s12.eng with awake := s12.eng.awake.filter s12.modeEngines.contains } }
  -- With no beacon followed any more, S comes from page 0x060 again (R202, R206).
  let s12 := if s.followsS && ! s12.followsS then s12.sWaits else s12
  -- The sleep receiver hands over once PCLK runs again (R465).
  let s12 := if old = 1 && decide (2 ≤ m) && s12.rb (Reg.UART_SLEEP_CFG 0) 0 then { s12 with io := { s12.io with handDue := true } } else s12
  if ! ran && s12.srvRuns then { s12.srvNext with srv := { s12.srvNext.srv with refSf := s12.sfNow, refLt := s12.lt, refUtc := s12.utc } } else s12

/-- MODE_CHANGE_DONE (R490): the target mode runs and its request resolves DONE. Power leaves for DORMANT and OFF once the lease tables are in the vault (R491, log entry 206). -/
def State.modeDone (s : State) : State :=
  match s.md.change with
  | none => s
  | some q =>
    if decide (q.mode < 2) && s.sto.vault.waiting.any (fun w => w.num == 4) then s
    else
      -- A request that waited behind the change is carried out from now on (R488).
      let later := s.md.wait.map (fun (w : ModeReq) => if ltFuture s.lt w.fromLt then { w with fromLt := s.lt } else w)
      let s1 := { s with md := { s.md with change := none, wait := later } }
      let s2 := if q.mode < 2 then s1.powerOff.wf Reg.PWR_DOM_STAT 0 10 0 else s1
      let s3 := ((s2.wb Reg.SYS_MODE_STAT 9 false).modeResult .done).wr Reg.SYS_MODE_TIME (word ((s.now - s.md.startAt) / usec))
      (s3.showTarget.incF Reg.SYS_MODE_CNT 0 16).cause 0x002 0

/-! ## Requests (R487 to R489) -/

/-- Place of a source in the order of R488: `SAFE_N`, supervisor, host, fixture, wake sources. -/
def modeRank (src : Nat) : Nat := match src with
  | 4 => 0
  | 5 => 1
  | 0 => 2
  | 1 => 3
  | _ => 4

/-- A request for mode `m` is refused (R487, R488): a reserved code or the present mode; the assurance matrix; a failed crystal; no UP port; `SAFE_N` low; recovery (R580). -/
def State.modeRefused (s : State) (m : Nat) : Bool :=
  decide (12 ≤ m) || (m == s.mode && s.md.change.isNone) || ! s.modePermitted m
    || (s.rb Reg.CLK_CLK_STAT 7 && (m == 1 || m == 2)) || (s.md.x25Bad && decide (2 < m))
    || ((m == 3 || m == 5) && s.upPort.isNone) || (s.md.safeLow && m != 9) || (s.sec.recovery && m != 9)

/-- A refusal is counted, with its result and cause (R488, R497). -/
def State.modeRefuse (s : State) : State := ((s.modeResult .refused).incF Reg.SYS_MODE_CNT 16 16).cause 0x002 1

/-- The waiting request is replaced or discarded: its result is STALE (R488). -/
def State.dropWait (s : State) : State := match s.md.wait with
  | none => s
  | some _ => ({ s with md := { s.md with wait := none } }.wb Reg.SYS_MODE_STAT 8 false).showTarget.modeResult .stale

/-- The change under way is abandoned (R488). -/
def State.dropChange (s : State) : State := match s.md.change with
  | none => s
  | some _ => { s with md := { s.md with change := none } }.modeResult .stale

/-- A request of a source earlier in the order of R488 waits in the queue in this fabric cycle, and will be accepted: `SAFE_N`, or a host write of `MODE_REQ` (log entry 205). -/
def State.modeAhead (s : State) (src : Nat) : Bool :=
  s.pending.any (fun i => i.time / 2 == s.fabric && (match i with
    | .safeNAssert _ => decide (0 < modeRank src) && s.mode != 0
    | .modeRequest _ _ m => decide (2 < modeRank src) && ! s.modeRefused m
    | .registerWrite _ _ _ msg a d => ! msg && a == Reg.SYS_MODE_REQ && bit (word (leAt d 0 4)) 8 && decide (2 < modeRank src) && ! s.modeRefused (leAt d 0 1 % 16)
    | _ => false))

/-- A request is discarded (R488): a source earlier in the order is accepted in this fabric cycle, or it names SAFE during the entry to OFF. -/
def State.modeDiscards (s : State) (m src : Nat) : Bool :=
  (s.md.accAt == s.fabric + 1 && decide (modeRank s.md.accSrc < modeRank src)) || s.modeAhead src || (m == 9 && (s.md.change.map ModeReq.mode) == some 0)

/-- A request for mode `m` from a source (R488). -/
def State.modeReq (s : State) (m src : Nat) : State :=
  if s.mode = 0 && s.md.change.isNone then s
  else if s.modeDiscards m src then s.modeResult .stale
  else if s.modeRefused m then s.modeRefuse
  else
    let q : ModeReq := { mode := m, src := src, fromLt := s.ltAt (s.now + msec) }
    let s1 := { s with md := { s.md with accAt := s.fabric + 1, accSrc := src } }
    if m = 9 then (s1.dropWait.dropChange).enterMode q
    else if s.md.change.isSome || ! s.atOnce m then
      ({ s1.dropWait with md := { s1.dropWait.md with wait := some q } }.wb Reg.SYS_MODE_STAT 8 true).showTarget
    else s1.dropWait.enterMode q

/-- MODE_SWITCH (R488, R489): at its switch point the waiting request is checked again and carried out. -/
def State.modeSwitch (s : State) : State :=
  match s.md.wait, s.md.change with
  | some q, none =>
    if s.mode = 0 || (! s.atOnce q.mode && ltFuture (s.switchPoint q) s.lt) then s
    else
      let s1 := ({ s with md := { s.md with wait := none } }.wb Reg.SYS_MODE_STAT 8 false).showTarget
      if s.modeRefused q.mode then s1.modeRefuse else s1.enterMode q
  | _, _ => s

/-- MODE_CHANGE_DONE with the request that waited behind the change: where it takes effect at once, it is carried out once the target mode runs (R488, R489). -/
def State.modeSettle (s : State) : State :=
  let s1 := s.modeDone
  if (s1.md.wait.map (fun q => s1.atOnce q.mode)) == some true then s1.modeSwitch else s1

/-! ## SAFE_N and wake sources (R492, R493) -/

/-- A wake is recorded (R493). -/
def State.woken (s : State) (src : Nat) : State := ((s.wf Reg.PWR_WAKE_STAT 0 3 src).incF Reg.PWR_WAKE_STAT 16 16).cause 0x002 3

/-- A wake source fires (R493): in DORMANT and WATCH it requests its target mode; a request that R488 refuses or discards wakes nothing. -/
def State.wake (s : State) (src m : Nat) : State :=
  if s.mode = 1 || s.mode = 2 then (if s.modeDiscards m src || s.modeRefused m then s else s.woken src).modeReq m src else s

/-- SAFE is entered whatever waits or is under way (R492, R499), unless the device is OFF or enters it (R488, R490), or is in SAFE already; where `SAFE_N` went low in this fabric cycle the request is discarded (R488). -/
def State.forceSafe (s : State) (src : Nat) : State :=
  if s.mode = 0 || (s.mode = 9 && s.md.change.isNone) then s
  else if s.modeDiscards 9 src then s.modeResult .stale
  else ({ s with md := { s.md with accAt := s.fabric + 1, accSrc := src } }.dropWait.dropChange).enterMode { mode := 9, src := src, fromLt := s.lt }

/-- SAFE_N_ASSERT (R492): after its filter `SAFE_N` is low. -/
def State.safeAssert (s : State) : State :=
  let s1 := { s with md := { s.md with safeLow := true } }
  if (s.md.change.map ModeReq.mode) == some 0 then s1.modeResult .stale
  else if s.mode = 0 then s1
  else
    let s2 := if s.mode = 1 || s.mode = 2 then s1.woken 4 else s1
    let s3 := if s.mode = 9 && s.md.change.isNone then s2
      else s2.forceSafe 4
    ((s3.wb Reg.SYS_MODE_STAT 10 true).loopStop.cause 0x002 2).pageRecord 0x002 0x02 1 (detail 0 0 0)

/-- SAFE_N_RELEASE (R492). -/
def State.safeRelease (s : State) : State := { s with md := { s.md with safeLow := false } }

/-- HOST_LINK_ATTACH (R493). -/
def State.hostAttach (s : State) : State :=
  if s.rb Reg.PWR_WAKE_CFG 14 then s.wake 6 (s.rf Reg.PWR_WAKE_CFG 8 4) else s

/-! ## Crystals and the reference input (R486, R487) -/

/-- A crystal failure is recorded (R487). -/
def State.xtalFailed (s : State) (n : Nat) : State :=
  (((s.wb Reg.CLK_CLK_STAT (4 + n) false).incF Reg.CLK_REF_CNT 16 16).cause 0x001 n).pageRecord 0x001 n 1 (detail 0 0 0)

/-- XTAL32_FAIL (R487). -/
def State.xtal32Fail (s : State) : State :=
  if s.isOff || s.md.x32Bad then s
  else
    let s1 := ({ s with md := { s.md with x32Bad := true } }.xtalFailed 1).wb Reg.CLK_CLK_STAT 7 true
    if s.mode < 3 then s1.forceSafe 5 else s1

/-- The fast PLL has lost its source: it stops, and WATCH is entered (R487). -/
def State.noClock (s : State) : State :=
  if 3 ≤ s.mode then (s.dropWait.dropChange).pllOff.enterMode { mode := 2, src := 5, fromLt := s.lt } else s

/-- XTAL25_FAIL (R487). -/
def State.xtal25Fail (s : State) : State :=
  if s.isOff || s.md.x25Bad then s
  else
    let s1 := { s with md := { s.md with x25Bad := true } }.xtalFailed 2
    if s.rb Reg.CLK_CLK_STAT 4 then s1 else s1.noClock

/-- REF_LOST (R486): the PLL changes to `XTAL25`; with that crystal failed it has no source. -/
def State.refLost (s : State) : State :=
  if ! s.rb Reg.CLK_CLK_STAT 4 then s.wb Reg.CLK_CLK_STAT 3 false
  else
    let s1 := ((((s.wb Reg.CLK_CLK_STAT 3 false).wb Reg.CLK_CLK_STAT 4 false).incF Reg.CLK_REF_CNT 0 16).cause 0x001 0).pageRecord 0x001 0x00 0 (detail 0 0 0)
    if s.md.x25Bad then s1.noClock else s1

/-- REF10_RESTORE (R486): the reference has been present for 1 s. -/
def State.refRestore (s : State) : State := (s.wb Reg.CLK_CLK_STAT 3 true).wb Reg.CLK_CLK_STAT 4 (s.rb Reg.CLK_CLK_CFG 0)

/-- PLL_STOP (R494): in LISTEN the PLLs stop with no fine fixture and no host access within `STOP_HOLD`, and no engine with work: none waits for or holds a unit, and no receive window is open (log entry 207). -/
def State.pllStop (s : State) : State :=
  let h := s.rf Reg.PWR_PLL_STOP 0 16 * usec
  let works := s.modeEngines.any s.engWorks || ! s.sec.runs.isEmpty || (List.range 16).any (fun k => decide ((s.chan (k / 4) (k % 4)).winEnd ≠ 0))
  if s.mode = 3 && s.rb Reg.CLK_CLK_STAT 0 && ! works && ! s.fineWithin h && (s.host.accAt == 0 || decide (s.host.accAt + h ≤ s.now)) then
    { s with md := { s.md with stopAt := s.fabric + 1 } }.pllOff
  else s

/-- Typical power of a mode in mW over the six rail groups of R484, in its order; SERVICE draws as FIELD. -/
def typicalPower : Nat → List Nat
  | 0 => [0, 0, 0, 0, 0, 0]
  | 1 => [4, 12, 2, 0, 0, 0]
  | 2 => [12, 20, 3, 10, 20, 0]
  | 3 => [1200, 20, 900, 350, 330, 0]
  | 5 => [3500, 20, 1500, 1200, 600, 2180]
  | 6 => [9000, 20, 2400, 2600, 1000, 8980]
  | 7 => [5500, 20, 2000, 2400, 1080, 0]
  | 8 => [1900, 20, 1400, 700, 480, 0]
  | 9 => [2600, 20, 1400, 1400, 580, 0]
  | 11 => [2790, 20, 1500, 10, 680, 0]
  | _ => [14000, 20, 3180, 3500, 1300, 14000]

end Sys2Proof.Machine
end

