-- ==== Sys2Proof/Machine/Bench.lean ====
section
/-! DEFINITION. Fault absorption and the bench (R537 to R557): engine substitution, memory repair, slices and links, accelerator units, ageing and the forecast. -/

namespace Sys2Proof.Machine

/-! ## Engines (R25, R26) -/

/-- Kind of a logical engine: 0 VE, 1 PE, 2 ME, 3 CC (R25). -/
def engKind (l : Nat) : Nat := if l < 40 then 0 else if l < 72 then 1 else if l < 88 then 2 else 3

/-- Physical engine of a logical one under the factory mapping (R25). -/
def engFactory (l : Nat) : Nat := if l < 40 then l else if l < 72 then l + 4 else if l < 88 then l + 6 else l + 8

/-- Physical engines of a kind (R25). -/
def physOf (kind : Nat) : List Nat := match kind with
  | 0 => List.range 44
  | 1 => (List.range 34).map (· + 44)
  | 2 => (List.range 18).map (· + 78)
  | _ => (List.range 9).map (· + 96)

/-- The ENG page of a physical engine (R26). -/
def engPage (e : Nat) : Nat := 0x090 + e

/-- The physical engine that serves a logical one; 105 where none does (R26, R555). -/
def State.phys (s : State) (l : Nat) : Nat := tget (engFactory l) s.bench.map l

/-- `ENG_STAT.STATE` of a physical engine: 0 IN_SERVICE, 1 BENCH, 2 SELFTEST, 3 FAILED, 4 CARD (R557). -/
def State.engState (s : State) (e : Nat) : Nat := s.rf (Reg.ENG_ENG_STAT e) 4 3

/-- The state with a physical engine in a state of R557, serving a logical engine, 0x7F for none. -/
def State.setEng (s : State) (e st l : Nat) : State := (s.wf (Reg.ENG_ENG_STAT e) 4 3 st).wf (Reg.ENG_ENG_STAT e) 8 7 l

/-- The bench map as vault datum 2 holds it (R414). -/
def State.benchDatum (s : State) : Datum :=
  .bench s.bench.map ((List.range 105).filter (fun e => s.engState e == 3))

/-! ## Classes (R551) -/

/-- Bench at factory, by class (R551); class 13 as it was at boot (R425, R555). -/
def State.clsCap (s : State) (k : Nat) : Nat := match k with
  | 0 => 4 | 1 => 2 | 2 => 2 | 3 => 1
  | 4 => 4096 | 5 => 2048 | 6 => 1696 | 7 => 848
  | 8 => 1 | 9 => 1 | 10 => 12 | 11 => 16 | 12 => 4
  | 13 => min s.sto.opBoot 65535
  | 14 => 16384 | 15 => 2 | 16 => 2 | 17 => 2 | 18 => 16384 | 19 => 2
  | _ => 0

/-- Spare rows or columns used in the macros from `lo` up to `hi`. -/
def usedIn (m : List (Nat × Nat)) (lo hi : Nat) : Nat :=
  (m.filter (fun x => decide (lo ≤ x.1) && decide (x.1 < hi))).foldl (fun n x => n + x.2) 0

/-- Readable copies of a datum beyond the first (R551): two for a datum never committed. -/
def State.copiesLeft (s : State) (d : Nat) : Nat :=
  if s.sto.vault.ptr d = 0 then 2
  else (([s.sto.vault.taken d 0 true, s.sto.vault.taken d 1 true, s.sto.vault.taken d 2 s.anyDrive].filter Option.isSome).length) - 1

/-- `LEFT` of a class (R551, R555). -/
def State.clsLeft (s : State) (k : Nat) : Nat := match k with
  | 0 | 1 | 2 | 3 => ((physOf k).filter (fun e => s.engState e == 1)).length
  | 4 => 4096 - usedIn s.bench.rowsUsed 0 1024
  | 5 => 2048 - usedIn s.bench.colsUsed 0 1024
  | 6 => 1696 - usedIn s.bench.rowsUsed 1024 1448
  | 7 => 848 - usedIn s.bench.colsUsed 1024 1448
  | 10 => s.legsLeft
  | 11 => 16 - s.sec.benchUsed
  | 13 => min (s.rf Reg.STO_OP_FREE 0 24) 65535
  | 17 => ((List.range 4).filter (fun i => s.rb Reg.SEC_TRNG_STAT i)).length - 2
  | 18 => 16384 - s.sto.vault.steps
  | 19 => ((List.range 5).map s.copiesLeft).foldl min 2
  | _ => s.clsCap k - tget 0 s.bench.used k

/-- `USED` of a class (R555). -/
def State.clsUsed (s : State) (k : Nat) : Nat :=
  if k = 13 then min (s.sto.opBoot - s.rf Reg.STO_OP_FREE 0 24) 65535 else s.clsCap k - s.clsLeft k

/-- A spare of a class is used; the class may become empty (R550). -/
def State.useSpare (s : State) (k : Nat) : State :=
  let n := tget 0 s.bench.used k + 1
  let s1 := { s with bench := { s.bench with used := tset 0 s.bench.used k n } }
  if n = s.clsCap k then s1.benchEmpty k else s1

/-! ## Substitution (R540 to R542) -/

/-- The bench engine a logical engine takes: of its kind, the lowest physical number on the bench that no other one has chosen and whose last self-test passed (R540, R542). -/
def State.benchPick (s : State) (l : Nat) : Option Nat :=
  (physOf (engKind l)).find? (fun e => s.engState e == 1 && s.rf (Reg.ENG_ST_RES e) 0 8 == Status.done
    && ! s.bench.due.any (fun x => x.2.new == some e))

/-- Each logical engine due and without a substitute takes a bench engine where there is one, the lower number first (R542). -/
def State.assignDue (s : State) : State :=
  (s.bench.due.map Prod.fst).foldl (fun s l =>
    let d := tget {} s.bench.due l
    if d.new.isSome then s
    else match s.benchPick l with
      | some e => { s with bench := { s.bench with due := tins s.bench.due l { d with new := some e } } }
      | none => s) s

/-- A logical engine becomes due for substitution (R540). Where a higher one of its kind became due in the same fabric cycle, this one takes the bench engine first (R542). One that finds its bench empty makes a DEGRADED record (R550). -/
def State.becomeDue (s : State) (l : Nat) (card cmd : Bool) : State :=
  if 96 ≤ l then s
  else
    let old := tfind s.bench.due l
    let d := old.getD { at_ := s.fabric + 1 }
    let yields (x : Nat × DueSt) : Bool := x.2.at_ == s.fabric + 1 && decide (l < x.1) && engKind x.1 == engKind l && ! x.2.ready && x.2.new.isSome
    let rest := s.bench.due.map (fun x => if yields x then (x.1, { x.2 with new := none }) else x)
    let s1 := ({ s with bench := { s.bench with due := tins rest l { d with card := d.card || card, cmd := d.cmd || cmd } } }).assignDue
    let short := (s.bench.due.filter yields).map Prod.fst ++ (if old.isNone then [l] else [])
    (short.filter (fun l => (tget {} s1.bench.due l).new.isNone)).foldl (fun s l => s.pageRecord (engPage (s.phys l)) 0x23 4 (detail 0 (engKind l) l)) s1

/-- The work an engine carried ends with the status of a missed instant where it cannot be carried out again (R538). -/
def State.workLost (s : State) (work : Option Nat) : State := match work with
  | some d => if (tfind s.descs d).isSome then s else s.descDone d .deadlineMissed
  | none => s

/-- A fault event of the engine that serves `l` and its retry (R538, R539): the work is carried out once more, unless its deadline has passed or this event fell in a retry. -/
def State.engFault (s : State) (l : Nat) (work : Option Nat) (late again : Bool) (ev : State → State × Bool) : State :=
  let e := s.phys l
  if 105 ≤ e then s
  else
    let (s1, lasting) := ev s
    let s2 := if late || again then s1.workLost work else s1.incF (Reg.ENG_ENG_FLT e) 16 16
    if lasting then s2.becomeDue l false false else s2

/-- ENGINE_WATCHDOG (R539). -/
def State.engineWatchdog (s : State) (l : Nat) (work : Option Nat) (late again : Bool) : State :=
  let e := s.phys l
  s.engFault l work late again (fun s => (s.incF (Reg.ENG_ENG_FLT e) 0 16).fault (engPage e) 0 l)

/-- ENGINE_PARITY_ERROR (R539): an internal parity error, or an uncorrectable word in local memory. -/
def State.engineParity (s : State) (l : Nat) (word_ : Bool) (work : Option Nat) (late again : Bool) : State :=
  let e := s.phys l
  s.engFault l work late again (fun s => if word_ then s.hardFault (engPage e) 1 l else s.fault (engPage e) 1 l)

/-- SUBSTITUTE_READY (R540): the bench engine is powered and holds its firmware. -/
def State.substReady (s : State) (l : Nat) : State := match tfind s.bench.due l with
  | some d => if d.new.isSome then { s with bench := { s.bench with due := tins s.bench.due l { d with ready := true } } } else s
  | none => s

/-- A legacy slot runs on this logical engine (R541). -/
def State.legacyEng (s : State) (l : Nat) : Bool := (List.range 16).any (fun k => s.slotEn k && s.slotEng k == l)

/-- A fixture for the logical engine fires, or wakes it, within the next 100 µs (R84, R540). -/
def State.fixtureSoon (s : State) (l : Nat) (f : Fixture) : Bool :=
  let d := s.edgesTo f.lt
  let lead : Int := ((if s.rb Reg.CLK_CLK_STAT 0 then s.rf Reg.FIX_PREWARM_CFG 0 16 else s.rf Reg.FIX_PREWARM_CFG 16 16) * usec : Nat)
  let soon (x : Int) : Bool := decide (-(f.tolerance : Int) ≤ x) && decide (x ≤ ((100 * usec : Nat) : Int))
  f.armed && (s.enginesOf f).contains l && (soon d || (f.prewarm && soon (d - lead)))

/-- A shedding step of R552: broadband stops on the highest-numbered port that carries it, then narrowband. -/
def State.shedStep (s : State) : State :=
  let carries (a : Nat → Nat) (p : Nat) : Bool := s.rf (a p) 0 3 != 0
  match [3, 2, 1, 0].find? (carries Reg.BBP_BB_CTL) with
  | some p =>
    let s1 := { s with bench := { s.bench with bbOff := if s.bench.bbOff.contains p then s.bench.bbOff else p :: s.bench.bbOff } }.wf (Reg.BBP_BB_CTL p) 0 3 0
    (List.range 3).foldl (fun s c => if ((s.cond p c).bb).isSome then s.stopTx p c .refused else s) s1
  | none => match [3, 2, 1, 0].find? (carries Reg.NBP_NB_CTL) with
    | some p =>
      let s1 := { s with bench := { s.bench with nbOff := if s.bench.nbOff.contains p then s.bench.nbOff else p :: s.bench.nbOff } }.wf (Reg.NBP_NB_CTL p) 0 3 0
      (List.range 3).foldl (fun s c => if ((s.cond p c).nb).isSome then s.stopTx p c .refused else s) s1
    | none => s

/-- Control cores in service. -/
def State.ccLeft (s : State) : Nat := ((List.range 8).filter (fun i => decide (s.phys (88 + i) < 105))).length

/-- Ports whose scheduling a control core has (R552). -/
def State.ccPorts (s : State) (c : Nat) : Nat := ((List.range 4).filter (fun p => s.dutyOf (92 + p) == c)).length

/-- Of CC 92 to 95 in service but `not`, the one with the fewest ports, the lower number on a tie (R552). -/
def State.ccFewest (s : State) (not : Nat) : Option Nat :=
  ((List.range 4).map (· + 92)).foldl (fun (acc : Option Nat) c =>
    if c = not || decide (105 ≤ s.phys c) then acc
    else match acc with
      | some b => if s.ccPorts c < s.ccPorts b then some c else acc
      | none => some c) none

/-- The scheduling of the ports that core `c` has goes to others (R552). -/
def State.portsMove (s : State) (c : Nat) : State :=
  (List.range 4).foldl (fun (s : State) p =>
    if s.dutyOf (92 + p) ≠ c then s
    else match s.ccFewest c with
      | some b => { s with bench := { s.bench with duty := tset (92 + p) s.bench.duty (92 + p) b } }
      | none => s) s

/-- The duties of a control core left without a physical engine (R552): of its ports to the core with the fewest, of CC 88 to 91 to the highest-numbered core that still has a port, whose ports then move. -/
def State.ccGone (s : State) (l : Nat) : State :=
  let s1 := s.portsMove l
  ((List.range 4).map (· + 88)).foldl (fun (s : State) d =>
    if s.dutyOf d ≠ l then s
    else match [95, 94, 93, 92].find? (fun c => c != l && decide (s.phys c < 105) && decide (0 < s.ccPorts c)) with
      | some c => { s.portsMove c with bench := { (s.portsMove c).bench with duty := tset d (s.portsMove c).bench.duty d c } }
      | none => s) s1

/-- A logical engine is left without a physical one (R552): load is shed in the steps its kind needs, the ports whose checks it carried are muted (R506), a control core's duties move, and with fewer than four control cores SAFE is entered. -/
def State.engineGone (s : State) (l steps ports : Nat) : State :=
  let e := s.phys l
  let s1 := { s with bench := { s.bench with map := tset (engFactory l) s.bench.map l 105, keep := e :: s.bench.keep } }.setEng e 2 0x7F
  let s2 := (List.range steps).foldl (fun s _ => s.shedStep) s1
  let s2 := if engKind l = 3 then s2.ccGone l else s2
  let s3 := if engKind l = 2 then (List.range 4).foldl (fun (s : State) p => if ports / 2 ^ p % 2 = 1 then s.mutePort p 0 else s) s2 else s2
  if decide (s3.ccLeft < 4) then s3.forceSafe 5 else s3

/-- Capacity is restored (R552): no VE, PE or ME is without a physical engine. -/
def State.restoreLoad (s : State) : State :=
  if (List.range 88).any (fun l => decide (105 ≤ s.phys l)) then s else { s with bench := { s.bench with bbOff := [], nbOff := [] } }

/-- A master and its DMA channels leave the red card (R519); a card of the same fabric cycle stands (R520). -/
def State.releaseMaster (s : State) (l : Nat) : State :=
  (l :: (List.range 64).filterMap (fun j => if (s.mst (0x100 + j)).owner = l then some (0x100 + j) else none)).foldl
    (fun s m => s.setMst m { s.mst m with card := (s.mst m).card && (s.mst m).cardAt == s.fabric + 1 }) s

/-- FUNCTION_LEVEL_RESET (R336, R450, R519): every ring goes to IDLE, sessions close, and the host function and its DMA channels leave the red card. -/
def State.functionReset (s : State) : State :=
  let s1 := s.ringsReset.closeSessions.releaseMaster 0x300
  { s1 with host := { s1.host with carded := (s1.mst 0x300).card } }

/-- `BENCH_STAT` once a commanded substitution ends (R555). -/
def State.benchResult (s : State) (st : Status) : State := (s.wf Reg.BENCH_BENCH_STAT 0 1 0).wf Reg.BENCH_BENCH_STAT 8 8 st

/-- Step 4 of R540 for logical engine `l`, from physical engine `old` (105 for none) to `e`: state, task, mapping and masters move, the old engine goes to self-test, and the bench map is committed. -/
def State.substSwap (s : State) (l old e : Nat) (card : Bool) : State :=
  let task := s.rd (Reg.ENG_ENG_TASK old)
  let s1 := if 105 ≤ old then s else (s.setEng old 2 0x7F).wr (Reg.ENG_ENG_TASK old) 0
  let s2 := (s1.setEng e 0 l).wr (Reg.ENG_ENG_TASK e) task
  let b := s2.bench
  let b1 : BenchSt := { b with map := tset (engFactory l) b.map l e, due := tdel b.due l, duty := tdel b.duty l }
  let b2 : BenchSt := { b1 with keep := if card && decide (old < 105) then old :: b.keep else b.keep }
  let s3 : State := ({ s2 with bench := b2 }).releaseMaster l
  s3.commitReq 2 s3.benchDatum .none

/-- What a substitution reports (R541, R550, R552): its count, cause and record; capacity restored; the bench empty. -/
def State.substReport (s : State) (l old e : Nat) : State :=
  let k := engKind l
  let s1 := ((s.incF Reg.BENCH_BENCH_STAT 16 16).cause 0x008 0).record 0x008 0x0922 2 (detail 0 k (l + old * 2 ^ 8 + e * 2 ^ 16))
  let s2 := s1.restoreLoad
  if s2.clsLeft k = 0 then s2.benchEmpty k else s2

/-- A legacy engine is at a quantum boundary (R541): none of its contexts runs, or its quantum ends or begins. -/
def State.quantumEdge (s : State) (l : Nat) : Bool :=
  (List.range 16).all (fun k => ! (s.slotEn k && s.slotEng k == l) || (s.running k).isNone || (s.lslot k).qStart == s.now ||
    decide ((s.lslot k).qStart + s.rf (Reg.LGC_QUANTUM k) 0 16 * usec ≤ s.now))

/-- The fixtures that have fired for a control core have work in hand (R540): a transmission or a receive window on a port it schedules. -/
def State.ccBusy (s : State) (l : Nat) : Bool :=
  (List.range 4).any (fun p => s.dutyOf (92 + p) == l && ((List.range 3).any (fun c => (s.cond p c).nb.isSome || (s.cond p c).bb.isSome) ||
    (List.range 4).any (fun ch => decide (s.now < (s.chan p ch).winEnd))))

/-- The logical engine is at a fixture boundary, a legacy engine at a quantum boundary, a carded one at once (R540, R541). -/
def State.atBoundary (s : State) (l : Nat) (card : Bool) : Bool :=
  card || (if s.legacyEng l then s.quantumEdge l else ! s.ccBusy l && ! s.fix.entries.any (fun (x : Nat × Fixture) => s.fixtureSoon l x.2))

/-- SUBSTITUTION_MOVE (R540 to R542, R552): at the boundary the logical engine's state, work and identity move to its substitute. A carded engine with no substitute is left without a physical engine: `steps` are the shedding steps that the remaining engines need, `ports` those whose checks the engine carried. -/
def State.substMove (s : State) (l steps ports : Nat) : State := match tfind s.bench.due l with
  | none => s
  | some d =>
    let old := s.phys l
    match d.new with
    | none => if d.card && decide (old < 105) then s.engineGone l steps ports else s
    | some e =>
      if ! d.ready || ! s.atBoundary l d.card then s
      else
        let s1 := (s.substSwap l old e d.card).substReport l old e
        if d.cmd then s1.benchResult .done else s1

/-- ENGINE_SELFTEST_DONE (R540, R555): the tested engine returns to the bench when it passes after a red card or a test of the bench, and is marked failed in every other case. -/
def State.selftestDone (s : State) (e : Nat) (st : Status) : State :=
  if 105 ≤ e || s.engState e ≠ 2 then s
  else
    let back := st == Status.done && s.bench.keep.contains e
    let s1 := ((s.wf (Reg.ENG_ST_RES e) 0 8 st).incF (Reg.ENG_ST_RES e) 16 16)
    let s2 := { s1 with bench := { s1.bench with keep := s1.bench.keep.erase e } }.setEng e (if back then 1 else 3) 0x7F
    let s3 := if st = Status.done then s2 else (s2.cause (engPage e) 0).pageRecord (engPage e) 0x00 0 (detail st 0 e)
    let k := s.rf (Reg.ENG_ENG_STAT e) 0 2
    let s4 := if back then s3.assignDue else s3.commitReq 2 s3.benchDatum .none
    let s5 := if ! back && s.bench.keep.contains e && s4.clsLeft k = 0 then s4.benchEmpty k else s4
    if s.bench.due.all (fun x => ! x.2.cmd) && s5.rb Reg.BENCH_BENCH_STAT 0 && (List.range 105).all (fun e => s5.engState e != 2) then
      s5.benchResult (if st = Status.done then s5.rf Reg.BENCH_BENCH_STAT 8 8 else Status.checkFail)
    else if s.rb Reg.BENCH_BENCH_STAT 0 && st ≠ Status.done then s5.wf Reg.BENCH_BENCH_STAT 8 8 Status.checkFail
    else s5

/-- `BENCH_CMD` is accepted in SERVICE only (R555), and while no command runs. -/
def State.benchTakes (s : State) : Bool := s.mode == 10 && ! s.rb Reg.BENCH_BENCH_STAT 0

/-- BENCH_SUBSTITUTE (R555). -/
def State.benchSubstitute (s : State) (l : Nat) : State :=
  if 96 ≤ l then s
  else if ! s.benchTakes then s.ignored 0x008
  else if (s.benchPick l).isNone then s.benchResult .resourceRetry
  else (s.wf Reg.BENCH_BENCH_STAT 0 1 1).becomeDue l false true

/-- BENCH_SELFTEST (R555). -/
def State.benchSelftest (s : State) : State :=
  if ! s.benchTakes then s.ignored 0x008
  else
    let es := (List.range 105).filter (fun e => s.engState e == 1)
    if es.isEmpty then s.benchResult .done
    else
      let s1 := es.foldl (fun s e => s.setEng e 2 0x7F) s
      ({ s1 with bench := { s1.bench with keep := es ++ s1.bench.keep } }.wf Reg.BENCH_BENCH_STAT 8 8 0).wf Reg.BENCH_BENCH_STAT 0 1 1

/-! ## Scrubbing and memory repair (R543 to R545, R549) -/

/-- The physical engine whose local memory holds a macro, and none for a shared one (R543). -/
def macEngine (m : Nat) : Option Nat :=
  if m < 1024 then none
  else if m < 1200 then some ((m - 1024) / 4)
  else if m < 1268 then some (44 + (m - 1200) / 2)
  else if m < 1304 then some (78 + (m - 1268) / 2)
  else some (96 + (m - 1304) / 16)

/-- The logical engine a physical one serves. -/
def State.engLogical (s : State) (e : Nat) : Nat := s.rf (Reg.ENG_ENG_STAT e) 8 7

/-- The page that owns a macro: its engine's, or BENCH (R539). -/
def macPage (m : Nat) : Nat := match macEngine m with
  | some e => engPage e
  | none => 0x008

/-- One row or column of a macro is repaired with a spare; the class is empty once a macro has no spare of the kind left (R544, R551). The second component says whether a spare was left. -/
def State.repairOne (s : State) (r : RepairRec) : State × Bool :=
  let cls := (if r.mac < 1024 then 4 else 6) + (if r.isCol then 1 else 0)
  let n := tget 0 (if r.isCol then s.bench.colsUsed else s.bench.rowsUsed) r.mac
  let lim := if r.isCol then 2 else 4
  if lim ≤ n then (s, false)
  else
    let b := s.bench
    let s1 := { s with bench := { b with
      repairs := b.repairs ++ [r]
      colsUsed := if r.isCol then tset 0 b.colsUsed r.mac (n + 1) else b.colsUsed
      rowsUsed := if r.isCol then b.rowsUsed else tset 0 b.rowsUsed r.mac (n + 1) } }
    (if n + 1 = lim then s1.benchEmpty cls else s1, true)

/-- MEMORY_REPAIR (R544): a lasting fault of a macro is repaired; without a spare a shared macro is retired, and an engine becomes due. -/
def State.memRepair (s : State) (h : ScrubHit) : State :=
  let one := h.rows.length ≠ 1 && h.cols.length = 1
  let todo : List RepairRec := if one then h.cols.map (fun c => { mac := h.mac, isCol := true, idx := c }) else h.rows.map (fun r => { mac := h.mac, isCol := false, idx := r })
  let (s1, ok) := todo.foldl (fun (acc : State × Bool) r => let (s1, ok) := acc.1.repairOne r; (s1, acc.2 && ok)) (s, true)
  let s2 := s1.commitReq 3 (.repairs s1.bench.repairs) .none
  if ok then s2.pageRecord (macPage h.mac) 0x22 2 (detail 0 0 h.mac)
  else match macEngine h.mac with
    | some e => if s2.engLogical e < 96 then s2.becomeDue (s2.engLogical e) false false else s2.setEng e 3 0x7F
    | none =>
      if s2.bench.retired.contains h.mac then s2
      else { s2 with bench := { s2.bench with retired := h.mac :: s2.bench.retired } }.pageRecord 0x008 0x23 4 (detail 0 4 h.mac)

/-- Key of a row of a macro in the scrub history. -/
def rowKey (m r : Nat) : Nat := m * 2 ^ 20 + r % 2 ^ 20

/-- One macro's findings (R539, R549): a row corrected in the previous pass too, or an uncorrectable word, is a fault event. -/
def State.scrubHit (s : State) (h : ScrubHit) : State :=
  let p := macPage h.mac
  let again := h.rows.any (fun r => s.bench.scrubPrev.contains (rowKey h.mac r))
  let s1 := { s with bench := { s.bench with scrubNow := s.bench.scrubNow ++ h.rows.map (rowKey h.mac) } }
  let (s2, lasting) := if h.bad then s1.hardFault p 0 h.mac else if again then (s1.corrected p).fault p 0 h.mac else (s1.corrected p, false)
  if lasting then s2.memRepair h else s2

/-- Pages of DRAM outside the reserve and the configured pool (R21, R545). -/
def State.generalPages (s : State) : Nat := 262144 - 16384 + (64 - s.qmg.size / 1048576) * 32768

/-- The pages of a DRAM row are retired (R545): from the reserve, then from the general region, then from the queue cell pool, 32 cells a page. -/
def State.dramRetire (s : State) (row pages : Nat) : State :=
  let was := tget 0 s.bench.used 14
  let n := was + pages
  let beyond := (n - 16384 - s.generalPages) - (was - 16384 - s.generalPages)
  let s1 := { s with bench := { s.bench with used := tset 0 s.bench.used 14 n } }
  let s2 := if beyond = 0 then s1 else s1.wf Reg.QMG_POOL_FREE 0 27 (s1.rf Reg.QMG_POOL_FREE 0 27 - 32 * beyond)
  let s3 := if was < 16384 && 16384 ≤ n then s2.benchEmpty 14 else s2
  if n ≤ 16384 then s3.pageRecord 0x01E 0x22 2 (detail 0 0 row) else s3.pageRecord 0x01E 0x23 4 (detail 0 14 row)

/-- Key of a DRAM row in the scrub history. -/
def dramKey (r : Nat) : Nat := 2 ^ 40 + r

/-- One DRAM row's findings (R539, R545, R549). -/
def State.dramHit (s : State) (row pages : Nat) (bad : Bool) : State :=
  let again := s.bench.scrubPrev.contains (dramKey row)
  let s1 := { s with bench := { s.bench with scrubNow := s.bench.scrubNow ++ [dramKey row] } }
  let (s2, lasting) := if bad then s1.hardFault 0x01E 0 row else if again then (s1.corrected 0x01E).fault 0x01E 0 row else (s1.corrected 0x01E, false)
  if lasting then s2.dramRetire row pages else s2

/-- A key slot's storage check fails (R436, R539, R551): a lasting fault brings in a bench slot, and with none left the logical slot is retired. -/
def State.slotFault (s : State) (n : Nat) : State :=
  let (s1, lasting) := s.fault 0x011 0 n
  if ! lasting then s1
  else if s1.sec.benchUsed < 16 then
    let s2 := ({ s1 with sec := { s1.sec with benchUsed := s1.sec.benchUsed + 1 } }.setSlot n { s1.slot n with subst := true }).record 0x011 0x1022 2 (detail 0 0 n)
    if s2.sec.benchUsed = 16 then s2.benchEmpty 11 else s2
  else ((s1.slotWipe n).setSlot n { (s1.slotWipe n).slot n with retired := true }).pageRecord 0x011 0x23 4 (detail 0 11 n)

/-- SCRUB_PASS (R539, R549): a pass over SRAM, DRAM or the loaded key slots. A row's history is kept from one pass to the next over the same memory (log entry 212). -/
def State.scrubPass (s : State) : ScrubFound → State
  | .sram hits =>
    if s.mode < 3 then s else
    let s1 := hits.foldl State.scrubHit s
    let b := s1.bench
    { s1 with bench := { b with scrubPrev := b.scrubPrev.filter (fun k => decide (2 ^ 40 ≤ k)) ++ b.scrubNow.filter (fun k => decide (k < 2 ^ 40))
                                scrubNow := b.scrubNow.filter (fun k => decide (2 ^ 40 ≤ k)) } }.incF Reg.BENCH_SCRUB_STAT 0 16
  | .dram rows =>
    if s.mode < 3 then s else
    let s1 := rows.foldl (fun s x => s.dramHit x.1 x.2.1 x.2.2) s
    let b := s1.bench
    { s1 with bench := { b with scrubPrev := b.scrubPrev.filter (fun k => decide (k < 2 ^ 40)) ++ b.scrubNow.filter (fun k => decide (2 ^ 40 ≤ k))
                                scrubNow := b.scrubNow.filter (fun k => decide (k < 2 ^ 40)) } }.incF Reg.BENCH_SCRUB_STAT 16 16
  | .keys slots => if s.mode < 3 then s else (slots.filter (fun n => decide (n < 64) && (s.slot n).loaded && ! (s.slot n).retired)).foldl State.slotFault s

/-! ## AES cores, slices, links, transmit converters (R539, R546) -/

/-- The operation of a core whose known-answer test failed runs again on another core, or waits for one (R539). -/
def State.aesRerun (s : State) (n : Nat) : State := match s.sec.runs.find? (fun r => r.core == n) with
  | none => s
  | some run =>
    let others := s.sec.runs.filter (fun r => r.core != n)
    match (List.range 4).find? (fun c => c != n && s.rb Reg.SEC_AES_STAT c && ! others.any (fun r => r.core == c)) with
    | some c => { s with sec := { s.sec with runs := others ++ [{ run with core := c }] } }
    | none => ({ s with sec := { s.sec with runs := others, aesWait := s.sec.aesWait ++ [(run.slot, run.job, ({ deadline := none, at_ := s.now, eng := run.eng } : AccReq))] } }).slotEmptied run.slot

/-- AES_KAT_PERIODIC (R539): the known-answer test of each core in service; `bad` are the cores that fail. -/
def State.aesKat (s : State) (bad : List Nat) : State :=
  bad.foldl (fun s n =>
    if 4 ≤ n || ! s.rb Reg.SEC_AES_STAT n then s
    else
      let (s1, lasting) := s.fault 0x012 n n
      (if lasting then (s1.wb Reg.SEC_AES_STAT n false).pageRecord 0x012 0x23 4 (detail 0 n 0) else s1).aesRerun n) s

/-- Port and channel of channel `i` of AFE die `d` (R96). -/
def dieChan (d i : Nat) : Nat × Nat := (2 * d + i / 4, i % 4)

/-- The channel a die's spare slice checks next, in rotation over those in service (R546). -/
def State.sliceTurn (s : State) (d : Nat) : Option Nat :=
  let from_ := ((tfind s.bench.sliceRot d).map (fun x => x.1 + 1)).getD 0
  ((List.range 8).map (fun k => (from_ + k) % 8)).find? (fun i => s.rb (Reg.LFE_PORT_CTL (dieChan d i).1) (3 + (dieChan d i).2))

/-- SLICE_CHECK (R546): the spare slice of a die has converted channel `i` for 1 ms, 10 s after the check before; none while it stands in for a channel. -/
def State.sliceCheck (s : State) (d i : Nat) (mismatch : Bool) : State :=
  let soon := (tfind s.bench.sliceRot d).any (fun x => decide (s.now < x.2 + 10000 * msec))
  if 2 ≤ d || 8 ≤ i || (tfind s.bench.slice d).isSome || (tfind s.bench.sliceDue d).isSome || s.mode < 3 || soon || s.sliceTurn d != some i then s
  else if ! mismatch then { s with bench := { s.bench with sliceRot := tins s.bench.sliceRot d (i, s.now) } }
  else
    let (p, ch) := dieChan d i
    let (s1, lasting) := { s with bench := { s.bench with sliceRot := tins s.bench.sliceRot d (i, s.now) } }.fault (0x032 + 4 * p) ch i
    if ! lasting then s1
    else if tget 0 s1.bench.used (8 + d) = 0 then { s1 with bench := { s1.bench with sliceDue := tins s1.bench.sliceDue d i } }
    else ((s1.setChan p ch { s1.chan p ch with forcedOff := true }).wb (Reg.LFE_PORT_CTL p) (3 + ch) false).pageRecord (0x032 + 4 * p) 0x23 4 (detail 0 (8 + d) i)

/-- SLICE_SUBSTITUTION (R96, R546): at a slice boundary outside every receive window and frame, the spare replaces the slice. -/
def State.sliceSubst (s : State) (d : Nat) : State := match tfind s.bench.sliceDue d with
  | none => s
  | some i =>
    let (p, ch) := dieChan d i
    let busy (c : Nat) : Bool := (s.cond p c).nb.isSome || (s.cond p c).bb.isSome || (s.chan p c).winEnd != 0
    if ! s.atSlice p ch || (s.chan p ch).winEnd ≠ 0 || (if ch = 3 then (List.range 3).any busy else busy ch) then s
    else
      let s1 := { s with bench := { s.bench with sliceDue := tdel s.bench.sliceDue d, slice := tins s.bench.slice d i } }
      ((((s1.wf (Reg.LFE_SLICE_MAP p) (4 * ch) 4 8).setChan p ch ((s.chan p ch).noteGc s.now)).pageRecord (0x032 + 4 * p) 0x22 2 (detail 0 (8 + d) i)).useSpare (8 + d))

/-- The page that counts a die-to-die link's errors (R20): AFE_0, AFE_1, DRV_0, DRV_1, DRAM. -/
def d2dPage (n : Nat) : Nat := match n with
  | 0 => 0x030 | 1 => 0x038 | 2 => 0x033 | 3 => 0x03B | _ => 0x01E

/-- D2D_CRC_FAIL (R20, R537): the replay corrects the transfer, or it fails again. -/
def State.d2dFail (s : State) (n : Nat) (again : Bool) : State :=
  if 5 ≤ n then s
  else
    let s1 := s.corrected (d2dPage n)
    if ! again then s1
    else
      let (s2, lasting) := s1.hardFault (d2dPage n) n 0
      if lasting && (tfind s2.bench.retrain n).isNone then { s2 with bench := { s2.bench with retrain := tins s2.bench.retrain n 0 } } else s2

/-- A conductor's transmitter is lost for good: its `TX_EN` bit is forced to 0 and its transmission stops (R539, R547). -/
def State.condLost (s : State) (p c : Nat) : State :=
  let s1 := s.stopTx p c .linkLost
  (s1.setCond p c { s1.cond p c with forcedOff := true }).wb (Reg.LFE_PORT_CTL p) c false

/-- Die-to-die link `n` works: it neither waits for retraining nor was given up (R112, R539). -/
def State.dieLinkUp (s : State) (n : Nat) : Bool := (tfind s.bench.retrain n).isNone

/-- D2D_RETRAIN (R539): in the quiet region the link is retrained; after three failures the ports of its die stop. -/
def State.d2dRetrain (s : State) (n : Nat) (ok : Bool) : State := match tfind s.bench.retrain n with
  | none => s
  | some k =>
    if ! s.quiet || 3 ≤ k then s
    else if ok then { s with bench := { s.bench with retrain := tdel s.bench.retrain n } }.pageRecord (d2dPage n) 0x23 0 (detail 0 n 0)
    else if k < 2 then { s with bench := { s.bench with retrain := tins s.bench.retrain n (k + 1) } }
    else
      let s1 := { s with bench := { s.bench with retrain := tins s.bench.retrain n 3 } }
      let ports := if 4 ≤ n then [] else [2 * (n % 2), 2 * (n % 2) + 1]
      let s2 := ports.foldl (fun s p =>
        let s3 := (List.range 3).foldl (fun s c => s.condLost p c) s
        (List.range 4).foldl (fun s ch => (s.setChan p ch { s.chan p ch with forcedOff := true }).wb (Reg.LFE_PORT_CTL p) (3 + ch) false) s3) s1
      s2.pageRecord (d2dPage n) 0x23 5 (detail 0 n 0)

/-- A transmit converter's loopback differs from its input by more than 0.5 dB RMS over 1 ms (R539). -/
def State.convFault (s : State) (p c : Nat) : State :=
  let (s1, lasting) := s.fault (0x031 + 4 * p) c 0
  if lasting then (s1.condLost p c).pageRecord (0x031 + 4 * p) 0x23 5 (detail 0 c 0) else s1

/-! ## Accelerator pool (R30, R548) -/

/-- Units of a kind: 0 FFT, 1 LDPC, 2 MIMO (R29). -/
def accUnits (kind : Nat) : Nat := if kind < 2 then 8 else 2

/-- A unit leaves the pool (R548, R550): FFT and LDPC have two spares each, MIMO none; a surveillance unit's place is taken by the lowest of FFT units 4 and 5 in service. -/
def State.accLeave (s : State) (kind u : Nat) : State :=
  let out := (16 * kind + u) :: s.bench.accOut
  let s1 := { s with bench := { s.bench with accOut := out, accBusy := tdel s.bench.accBusy (16 * kind + u) } }
  let s2 := if kind = 0 && s1.bench.survFft.contains u then
      match [4, 5].find? (fun v => ! out.contains v && ! s1.bench.survFft.contains v) with
      | some v => { s1 with bench := { s1.bench with survFft := v :: s1.bench.survFft.erase u } }
      | none => { s1 with bench := { s1.bench with survFft := s1.bench.survFft.erase u } }
    else s1
  let n := tget 0 s2.bench.used (15 + kind)
  if kind < 2 && n < 2 then (s2.pageRecord 0x088 0x22 2 (detail 0 (15 + kind) u)).useSpare (15 + kind)
  else s2.pageRecord 0x088 0x23 4 (detail 0 (15 + kind) u)

/-- A unit may be granted (R349, R548). -/
def State.accFree (s : State) (kind u : Nat) : Bool :=
  decide (u < accUnits kind) && ! s.bench.accOut.contains (16 * kind + u) && ! (kind == 0 && s.bench.survFft.contains u)

/-- A free unit of a kind, the lowest first, other than `not` (R30). -/
def State.accPick (s : State) (kind not : Nat) : Option Nat :=
  (List.range (accUnits kind)).find? (fun v => v != not && s.accFree kind v && (tfind s.bench.accBusy (16 * kind + v)).isNone)

/-- Requests of a kind that wait. -/
def State.accQueue (s : State) (kind : Nat) : List AccReq := (s.bench.accWait.filter (fun x => x.1 == kind)).map Prod.snd

/-- Waiting requests of a kind take free units, in the order of R30. -/
def State.accServe (kind : Nat) : Nat → State → State
  | 0, s => s
  | n + 1, s => match nextReq (s.accQueue kind), s.accPick kind 99 with
    | some r, some v => State.accServe kind n { s with bench := { s.bench with accWait := s.bench.accWait.erase (kind, r), accBusy := tins s.bench.accBusy (16 * kind + v) r } }
    | _, _ => s

/-- Requests arrive at the queue of their kind (R29); a carded engine's are not accepted (R517). -/
def State.accArrive (s : State) (kind : Nat) (reqs : List AccReq) : State :=
  { s with bench := { s.bench with accWait := s.bench.accWait ++ (reqs.filter (fun r => ! (tget {} s.ump.masters r.eng).card)).map (fun r => (kind, r)) } }

/-- A request whose result failed its check runs again, on another unit of the kind, or waits for one (R539). -/
def State.accRerun (s : State) (kind u : Nat) (r : AccReq) : State := match s.accPick kind u with
  | some v => { s with bench := { s.bench with accBusy := tins s.bench.accBusy (16 * kind + v) r } }
  | none => s.accArrive kind [r]

/-- ACCELERATOR_REQUEST_DONE (R29, R30, R539, R548): the requests that have come since wait in their kind's queue; a unit finishes and its result is checked; free units go to the requests waiting. -/
def State.accDone (s : State) (kind u : Nat) (ok : Bool) (arrived : List AccReq) : State :=
  if 3 ≤ kind || accUnits kind ≤ u || s.bench.accOut.contains (16 * kind + u) then s
  else
    let job := tfind s.bench.accBusy (16 * kind + u)
    let s0 := s.accArrive kind arrived
    let s1 := { s0 with bench := { s0.bench with accBusy := tdel s0.bench.accBusy (16 * kind + u) } }
    let s2 := match ok, job with
      | false, some r =>
        let (s2, lasting) := s1.fault 0x088 kind u
        (if lasting then s2.accLeave kind u else s2).accRerun kind u r
      | _, _ => s1
    s2.accServe kind (s2.accQueue kind).length

/-! ## Fault windows -/

/-- FAULT_WINDOW_CLOSE (R44, R537): the window ends below the threshold. -/
def State.windowClose (s : State) (p : Nat) : State := if s.winOver p then s.closeWin p else s

/-! ## Ageing and the forecast (R553, R554) -/

/-- One in the fixed-point form of `expFix`, 2^48. -/
abbrev fixOne : Int := 281474976710656

/-- exp(x) in units of 2^-48, for x in units of 2^-48: the third-order polynomial at x / 1024, squared ten times. -/
def expFix (x : Int) : Int :=
  let y := x / 1024
  let y2 := y * y / fixOne
  let y3 := y2 * y / fixOne
  (List.range 10).foldl (fun e _ => e * e / fixOne) (fixOne + y + y2 / 2 + y3 / 6)

/-- AF at a die temperature in 0.1 °C, in units of 2^-32 (R553). -/
def accelFactor (t : Int) : Nat :=
  let k := 2 * t + 5463
  if k ≤ 0 then 0 else (expFix (162470 * fixOne * (k - 7363) / (7363 * k)) / 65536).toNat

/-- LIFE_MINUTE (R553, R556): a minute of powered life at the CL die's temperature; none in OFF or DORMANT, or with the monitor off. -/
def State.lifeMinute (s : State) : State :=
  if s.mode < 2 || ! s.rb Reg.AGE_AGE_CTL 0 then s
  else
    let af := accelFactor (signedField 16 (s.rf (Reg.HKC_RES 0) 16 16))
    let life := s.bench.lifeAcc + af * 100
    let pow := s.bench.powAcc + 100
    let u := 60 * 2 ^ 32
    let s1 := { s with bench := { s.bench with lifeAcc := life % u, powAcc := pow % 60, afSum := s.bench.afSum + af, afCnt := s.bench.afCnt + 1 } }
    let s2 := (s1.addF Reg.AGE_LIFE_USED 0 32 (life / u)).addF Reg.AGE_POWER_ON 0 32 (pow / 60)
    if 17520000 ≤ s2.rf Reg.AGE_LIFE_USED 0 32 && ! s2.bench.life80 then { s2.cause 0x009 2 with bench := { (s2.cause 0x009 2).bench with life80 := true } } else s2

/-- AGEING_DAILY (R553). -/
def State.ageingDaily (s : State) : State :=
  if s.mode < 2 then s
  else s.record 0x009 0x0A30 0 (detail 0 0 (s.rf Reg.AGE_LIFE_USED 0 32 + s.rf Reg.AGE_POWER_ON 0 32 * 2 ^ 32))

/-- E of R554 in 10^-5 %, at life used in 0.01 h. -/
def roExpected (life : Nat) : Nat := max 100000 (Nat.sqrt (Nat.sqrt (10 ^ 24 * life / 21900000)))

/-- Base consumption rate of a class in 1/1000 per year at 95 °C (R551). -/
def clsRate (k : Nat) : Nat := match k with
  | 0 => 20 | 1 => 20 | 2 => 10 | 3 => 10 | 4 => 2000 | 5 => 500 | 6 => 1000 | 7 => 200 | 8 => 5 | 9 => 5 | 10 => 20 | 11 => 50
  | 12 => 50 | 14 => 20000 | 15 => 5 | 16 => 5 | 17 => 10 | 18 => 400000 | _ => 0

/-- Months until `left` spares are used at a rate of num / den a year, at most 999. -/
def monthsLeft (left num den : Nat) : Nat := if left = 0 then 0 else if num = 0 then 999 else min 999 (12 * left * den / num)

/-- Mean AF of the last 30 days, in 2^-32 (R554). -/
def State.af30 (s : State) : Nat :=
  if s.bench.afHours.isEmpty then 2 ^ 32 else s.bench.afHours.foldl (fun a b => a + b) 0 / s.bench.afHours.length

/-- The forecast of a class (R554): at the larger of the model rate and the observed rate. -/
def State.forecast (s : State) (k : Nat) : Nat :=
  let ro := s.rf Reg.AGE_RO_DEG 0 16 * 1000
  let e := roExpected (s.rf Reg.AGE_LIFE_USED 0 32)
  let left := s.clsLeft k
  min (monthsLeft left (clsRate k * s.af30 * max e ro) (1000 * 2 ^ 32 * e))
    (monthsLeft left (s.clsUsed k * 876000) (max 876000 (s.rf Reg.AGE_POWER_ON 0 32)))

/-- Place and value of the largest entry, the lowest place on a tie. -/
def worst : List Nat → Nat × Nat
  | xs => (xs.zipIdx).foldl (fun (acc : Nat × Nat) x => if acc.2 < x.1 then (x.2, x.1) else acc) (0, 0)

/-- AGEING_HOURLY (R553, R554): degradation of the 32 oscillators and resistance rise of the 8 sensors, in 0.01 %, and the forecasts. -/
def State.ageingHourly (s : State) (ro em : List Nat) : State :=
  if s.mode < 2 || ! s.rb Reg.AGE_AGE_CTL 0 then s
  else
    let b := s.bench
    let hours := if b.afCnt = 0 then b.afHours else (b.afSum / b.afCnt :: b.afHours).take 720
    let s0 := { s with bench := { b with afHours := hours, afSum := 0, afCnt := 0 } }
    let die (i : Nat) : Nat := if i < 24 then 0 else 1 + (i - 24) / 2
    let s1 := ((ro.take 32).zipIdx).foldl (fun (s : State) x => s.wr (Reg.AGE_RO x.2) (word (min x.1 65535 + die x.2 * 2 ^ 16))) s0
    let s2 := ((em.take 8).zipIdx).foldl (fun (s : State) x => s.wr (Reg.AGE_EM x.2) (word (min x.1 65535))) s1
    let wr := worst (ro.take 32)
    let we := worst (em.take 8)
    let s3 := (s2.wr Reg.AGE_RO_DEG (word (min wr.2 65535 + wr.1 * 2 ^ 16))).wr Reg.AGE_EM_DEG (word (min we.2 65535 + we.1 * 2 ^ 16))
    let s4 := s3.wr Reg.AGE_AF_30 (word (s3.af30 / 2 ^ 24))
    let high := decide (2 * (s4.rf Reg.AGE_RO_DEG 0 16 * 1000) > 3 * roExpected (s4.rf Reg.AGE_LIFE_USED 0 32))
    let s5 := if high && ! s4.bench.roHi then (s4.cause 0x009 0).record 0x009 0x0A31 1 (detail 0 0 (s4.rd Reg.AGE_RO_DEG).toNat) else s4
    let fcs := (List.range 20).map s5.forecast
    let warn := s5.rf Reg.BENCH_FC_CFG 0 10
    let low := (List.range 20).filter (fun k => decide ((fcs[k]?).getD 999 < warn))
    let s6 := { s5 with bench := { s5.bench with roHi := high, fc := (fcs.zipIdx).foldl (fun (m : List (Nat × Nat)) (x : Nat × Nat) => tset 999 m x.2 x.1) [], fcLow := low } }
    let best := (fcs.zipIdx).foldl (fun (acc : Nat × Nat) x => if x.1 < acc.1 then x else acc) (999, 0)
    let s7 := s6.wr Reg.BENCH_MIN_FC (word (best.1 + best.2 * 2 ^ 16))
    (low.filter (fun k => ! b.fcLow.contains k)).foldl (fun (s : State) k => (s.cause 0x008 1).record 0x008 0x0931 1 (detail 0 k ((fcs[k]?).getD 999))) s7

/-! ## Views of the BENCH page (R555) -/

/-- `ENG_MAP` of the engine selected (R555). -/
def State.engMapView (s : State) (l : Nat) : Word :=
  if 96 ≤ l then 0
  else
    let e := s.phys l
    word (e % 128 + (if (tfind s.bench.due l).isSome then 2 ^ 8 else 0) + (if 105 ≤ e then 2 ^ 9 else 0))

/-- `CLS_STAT` of the class selected. -/
def State.clsStatView (s : State) (k : Nat) : Word := word (min (s.clsLeft k) 65535 + min (s.clsUsed k) 65535 * 2 ^ 16)

/-- `CLS_FC` of the class selected. -/
def State.clsFcView (s : State) (k : Nat) : Word :=
  word (tget 999 s.bench.fc k + (if s.bench.fcLow.contains k then 2 ^ 16 else 0))

end Sys2Proof.Machine
end

