-- ==== Sys2Proof/Machine/SecSub.lean ====
section
/-! DEFINITION. Security submissions (R435, R442 to R449, R453 to R455, R582): attestation, identity, sessions, sealed operations, lifecycle transitions, and the vault commits that answer them. -/

namespace Sys2Proof.Machine

/-! ## Signing, identity and attestation (R442 to R444) -/

/-- A hedged signature by the identity key, counted (R442, R456). -/
def State.idSign (s : State) (ctx msg : List Byte) : State × List Byte :=
  let (s1, r) := s.drbgDraw 32
  (s1.incF Reg.SEC_PQC_CNT 0 16, dsaSign s.idSeed ctx msg r)

/-- The endorsement as the boot flash holds it, and whether one has been written (R443, R579). -/
def State.endorsement (s : State) : List Byte := cellsRead s.sec.flash 0x1000 3357
def State.endorsed (s : State) : Bool := s.endorsement.any (· != 0)

/-- Flash offset of an image slot (R579). -/
def imgBase (k : Nat) : Nat := if k = 0 then 0x04000000 else 0x09000000

/-- Bytes 0 to 207 of an attestation report (R444). -/
def State.attestBody (s : State) (nonce : List Byte) : List Byte :=
  let svn := s.rf Reg.SEC_BOOT_STAT 8 8
  let fp := match s.sec.crk with
    | some k => kdf k (keyLabel 0x13 0 0 0 0 0)
    | none => List.replicate 32 0
  let xl := s.srv.xl
  leBytes 4 0x54414D43 ++ leBytes 1 1 ++ leBytes 1 s.sec.lc ++ leBytes 1 s.sec.dbg ++ leBytes 1 s.mode
    ++ s.devId ++ takeBytes nonce 0 32 ++ leBytes 8 s.lt ++ leBytes 8 s.utc
    ++ takeBytes s.sec.header 32 32 ++ leBytes 2 svn ++ leBytes 2 (s.rf Reg.OTP_FW_SVN 0 7)
    ++ leBytes 1 (s.sec.slot % 2 + (if s.sec.inTrial then 2 else 0) + (if s.rb Reg.SEC_BOOT_STAT 2 then 4 else 0)) ++ [0, 0, 0]
    ++ fp ++ leBytes 8 (if s.xlInstalled then xlGen xl else 0) ++ (if s.xlInstalled then shake xl else List.replicate 32 0)
    ++ leBytes 4 s.sto.vault.steps ++ [0, 0, 0, 0]

/-- The state permits an operation of R455 that is open in MFG, PROV and FIELD. -/
def State.notRetired (s : State) : Bool := decide (s.sec.lc < 3)

/-- ATTEST (R444); `nonce` is what the device reads at the buffer. -/
def State.attest (s : State) (c : Sub) (nonce : List Byte) : State :=
  let addr := leAt c.part 8 8
  if ! s.notRetired then s.finishTag c .refused
  else
    let s0 := (s.hostRead addr 32).secRequest
    if s0.sec.starved then s0.finishTag c .resourceRetry
    else
      let body := s0.attestBody nonce
      let (s1, sig) := s0.idSign ctxAt body
      (s1.dmaWrite addr (body ++ sig)).finishTag c .done

/-- IDENTITY_READ (R443, R454): public key, then endorsement. -/
def State.identityRead (s : State) (c : Sub) : State :=
  let pk := if s.sec.dusSet then dsaPublic s.idSeed else takeBytes s.sec.idStored 0 1952
  (s.secRequest.dmaWrite (leAt c.part 8 8) (pk ++ s.endorsement)).finishTag c .done

/-! ## Sessions (R448) -/

/-- The session an identifier names, in one of the states given. -/
def State.sessionOf (s : State) (sid : Nat) (states : List Nat) : Option Nat :=
  (List.range 4).find? (fun i => states.contains (s.session i).state && (s.session i).sid == sid)

/-- SESSION_OPEN (R448); `nonce` is what the device reads at the buffer. -/
def State.sessionOpen (s : State) (c : Sub) (nonce : List Byte) : State :=
  let addr := leAt c.part 8 8
  if ! s.notRetired then s.finishTag c .refused
  else
    let s0 := (s.hostRead addr 32).secRequest
    match (List.range 4).find? (fun i => (s0.session i).state == 0) with
    | none => s0.finishTag c .resourceRetry
    | some i =>
      if s0.sec.starved then s0.finishTag c .resourceRetry
      else
        let sid := s0.sec.nextSid
        let (s1, nd) := s0.drbgDraw 32
        let (s2, dk) := s1.drbgDraw 64
        let body := leBytes 4 sid ++ takeBytes nonce 0 32 ++ nd ++ kemPublic dk
        let (s3, sig) := s2.idSign ctxHs body
        let ses : Session := { state := 1, sid := sid, digest := shake (body ++ sig), dk := dk }
        let s4 := ({ s3 with sec := { s3.sec with nextSid := (sid + 1) % 2 ^ 32 } }).setSession i ses
        (s4.dmaWrite addr (body ++ sig)).finishTag c .done

/-- The host's key is accepted (R448), and whether it is the provisioned one. -/
def State.hostKeyOk (s : State) (pk : List Byte) : Bool × Bool := match s.ckey 3 with
  | some h => (shake pk == h, true)
  | none => (decide (s.sec.lc < 2), false)

/-- SESSION_FINISH (R448); `buf` is what the device reads at the buffer. -/
def State.sessionFinish (s : State) (c : Sub) (buf : List Byte) : State :=
  let sid := leAt c.part 4 4
  if ! s.notRetired then s.finishTag c .refused
  else
    let s0 := (s.hostRead (leAt c.part 8 8) 6353).secRequest
    match s0.sessionOf sid [1] with
    | none => s0.finishTag c .refused
    | some i =>
      let ses := s0.session i
      let pk := takeBytes buf 1092 1952
      let (known, auth) := s0.hostKeyOk pk
      let signed := dsaVerify pk ctxHs (ses.digest ++ takeBytes buf 0 3044) (takeBytes buf 3044 3309)
      let s1 := if known then s0.verified signed else s0
      if ! known || ! signed || leAt buf 0 4 != sid then
        (((s1.setSession i {}).cause 0x010 0).record 0x010 0x1034 0 (detail Status.authFail i sid)).finishTag c .authFail
      else
        let ss := kemDecaps ses.dk (takeBytes buf 4 1088)
        (s1.setSession i { state := 2, sid := sid, auth := auth, k0 := kdf ss (keyLabel 0x20 0 0 0 0 sid), k1 := kdf ss (keyLabel 0x20 0 0 0 1 sid) }).finishTag c .done

/-- SESSION_CLOSE (R450). -/
def State.sessionClose (s : State) (c : Sub) : State := match s.sessionOf (leAt c.part 4 4) [1, 2] with
  | some i => (s.setSession i {}).finishTag c .done
  | none => s.finishTag c .refused

/-! ## Sealed operations (R449) -/

/-- Checks 1 to 3 of R449 on a sealed block: the operation's body where they pass; the tag cannot be checked once entropy has been missing for 1 s (R451). -/
def State.unsealBlock (s : State) (c : Sub) (blk : List Byte) : State × (Status ⊕ List Byte) :=
  let sid := leAt c.part 4 4
  let len := leAt c.part 16 2
  match s.sessionOf sid [2] with
  | none => (s, .inl .refused)
  | some i =>
    let ses := s.session i
    let seq := leAt blk 0 8
    if seq ≤ ses.lastSeq then (s, .inl .stale)
    else if s.sec.starved then (s, .inl .resourceRetry)
    else
      let opened := if len < 24 then none else
        gcmOpen ses.k0 (leBytes 4 sid ++ leBytes 8 seq) (leBytes 1 c.op ++ leBytes 4 sid) (takeBytes blk 8 (len - 24)) (takeBytes blk (len - 16) 16)
      match opened with
      | some body => (s.setSession i { ses with lastSeq := seq }, .inr body)
      | none =>
        let s1 := s.authFailed.record 0x010 0x1034 0 (detail Status.authFail i sid)
        (if 3 ≤ ses.fails + 1 then s1.setSession i {} else s1.setSession i { ses with fails := ses.fails + 1 }, .inl .authFail)

/-- SEALED_CHECK (R449): the block is read and checked; `formed` is check 4, `permitted` check 5; then `body` carries the operation out. -/
def State.sealedOp (s : State) (c : Sub) (blk : List Byte) (formed : List Byte → Bool) (permitted : Bool) (body : State → List Byte → State) : State :=
  let s0 := (s.hostRead (leAt c.part 8 8) (leAt c.part 16 2)).secRequest
  match s0.unsealBlock c blk with
    | (s1, .inl st) => s1.finishTag c st
    | (s1, .inr b) => if ! formed b || ! permitted then s1.finishTag c .refused else body s1 b

/-- A neighbour's records restart under a new key epoch (R248, R435). -/
def State.nbrEpoch (s : State) (a e : Nat) : State :=
  { s with link := { s.link with nbrs := s.link.nbrs.map (fun x => if x.2.short = a && ! x.2.upstream then (x.1, { x.2.restart with kepoch := e }) else x) } }

/-- An endpoint's epochs advance (R435). -/
def State.epochTo (s : State) (a : Nat) (k mk : Bool) (e : Nat) : State :=
  let r := s.ep a
  let until_ := s.sfNow + 16
  let r1 : EpRec := if k then { r with kprev := r.kepoch, kepoch := e, coopFcnt := 0, graceSf := until_ } else r
  let r2 : EpRec := if mk then { r1 with mkprev := r.mkepoch, mkepoch := e, mkGraceSf := until_ } else r1
  let s1 := s.setEp a { r2 with dirty := true }
  if k then s1.nbrEpoch a e else s1

/-- KEY_EPOCH (R435, R455). -/
def State.keyEpoch (s : State) (c : Sub) (blk : List Byte) : State :=
  s.sealedOp c blk (fun b => decide (b.length = 6) && decide (leAt b 0 3 < 2 ^ 20) && decide (0 < leAt b 3 1) && decide (leAt b 3 1 < 4)) (s.sec.lc == 1 || s.sec.lc == 2)
    (fun s b =>
      let a := leAt b 0 3
      let k := leAt b 3 1 % 2 = 1
      let mk := leAt b 3 1 / 2 % 2 = 1
      let e := leAt b 4 2
      let eps := if a = 0xFFFFF then (s.net.eps.filter (fun x => x.2.state == 1)).map Prod.fst else [a]
      if a ≠ 0xFFFFF && (s.ep a).state = 0 then s.finishTag c .endpointUnknown
      else if eps.any (fun x => (k && decide (e ≤ (s.ep x).kepoch)) || (mk && decide (e ≤ (s.ep x).mkepoch))) then s.finishTag c .stale
      else
        let s1 := eps.foldl (fun s x => s.epochTo x k mk e) s
        (s1.commitReq 1 (.keys (s1.sec.own.map (fun x => { kind := x.1, id := 0, epoch := 0, key := x.2 }))) .none).finishTag c .done)

/-- `LC`, `KEY_STAT` and `SUBSYS` as the fuses stand (R431). -/
def State.showFuses (s : State) : State :=
  let present (n : Nat) (has : Nat → Bool) : Nat := (List.range n).foldl (fun v i => if has i then v + 2 ^ i else v) 0
  let v := present 4 (fun i => (tget [] s.sec.vkeys i) != [])
  let k := present 5 (fun i => (s.ckey i).isSome)
  ((s.wr Reg.OTP_LC (word (s.sec.lc % 4 + (if s.sec.dusSet then 4 else 0) + (if s.sec.crk.isSome then 8 else 0)))).wf Reg.OTP_KEY_STAT 0 4 v).wf Reg.OTP_KEY_STAT 8 5 k

/-- PROV_INSTALL (R455, R582). -/
def State.provInstall (s : State) (c : Sub) (blk : List Byte) : State :=
  s.sealedOp c blk (fun b => b.length == 197) (s.sec.lc == 1 && s.mode == 11 && s.sec.crk.isNone)
    (fun s b =>
      let crk := takeBytes b 0 32
      let s1 := { s with sec := { s.sec with
        crk := if crk.all (· == 255) then none else some crk
        ckeys := (List.range 5).foldl (fun m i => tset [] m i (takeBytes b (32 + 32 * i) 32)) s.sec.ckeys } }
      let s2 := (s1.wr Reg.OTP_SUBSYS (word (leAt b 192 4))).wb Reg.OTP_KEY_STAT 16 (leAt b 196 1 % 2 == 1)
      s2.showFuses.finishTag c .done)

/-- KEY_INSTALL (R415, R434, R455): the keys are committed as datum 1, and the submission is answered by the commit. -/
def State.keyInstall (s : State) (c : Sub) (blk : List Byte) : State :=
  s.sealedOp c blk (fun b => b.length == 33 && (leAt b 0 1 == 1 || leAt b 0 1 == 2)) (s.sec.lc == 1 || s.sec.lc == 2)
    (fun s b =>
      let own := tins s.sec.own (leAt b 0 1) (takeBytes b 1 32)
      if ! s.anyDrive then s.finishTag c .resourceRetry
      else s.commitReq 1 (.keys (own.map (fun x => { kind := x.1, id := 0, epoch := 0, key := x.2 }))) (.sub c.ring c.idx c.cid c.op c.utag))

/-! ## Lifecycle (R453, R499, R505) -/

/-- Pages locked by policy in a security state (R505). -/
def policyPages (lc : Nat) : List Nat :=
  if lc < 2 then []
  else if lc = 2 then [0x003, 0x006, 0x008, 0x00B, 0x010, 0x011, 0x012, 0x013, 0x014, 0x015, 0x016, 0x02E, 0x07A, 0x07B]
  else (List.range 0x140).filter (fun p => allocated p && ! [0x000, 0x018, 0x019, 0x01A, 0x01B, 0x007].contains p)

/-- Policy locks of the present state are engaged (R45, R505). -/
def State.policyApply (s : State) : State := (policyPages s.sec.lc).foldl (fun s p => s.policyLock p true) s

/-- What entry to RETIRED zeroises (R453); the identity public key stays readable (R454). -/
def State.retireZeroise (s : State) : State :=
  let pk := if s.sec.dusSet then dsaPublic s.idSeed else s.sec.idStored
  let s1 := s.wipeSlots
  let s2 := { s1 with sec := { s1.sec with idStored := pk, dusSet := false, crk := none, own := [], drbgN := 0, drbgOut := [], outs := [] } }
  s2.setVault { s2.sto.vault with slots := [], ptrs := [] }

/-- LIFECYCLE_TRANSITION (R453, R499): the debug level falls to D0, the mode to SAFE where the new state does not permit it, the target's zeroisation takes place, record 0x1035 is written, and the fuse step is blown: a fuse never returns. -/
def State.lifecycle (s : State) (tgt : Nat) : State :=
  let s1 := (s.setDebug 0).closeSessions
  let s2 := if tgt = 3 then s1.retireZeroise else s1
  let s3 := if (dbgLevels tgt s2.mode).isEmpty then s2.forceSafe 5 else s2
  let s4 := (s3.cause 0x010 5).record 0x010 0x1035 1 (detail 0 tgt 0)
  (({ s4 with sec := { s4.sec with lc := max s4.sec.lc tgt, lcAt := s.fabric + 1 } }).showSec.showFuses).policyApply

/-- FIELD_LOCK (R453, R455, R582). -/
def State.fieldLock (s : State) (c : Sub) (blk : List Byte) : State :=
  s.sealedOp c blk (fun b => b.length == 8 && leAt b 0 8 == s.ownLong) (s.sec.lc == 1 && s.mode == 11 && s.sec.crk.isSome && (s.ckey 3).isSome)
    (fun s _ => (s.finishTag c .done).lifecycle 2)

/-- RETIRE (R453, R455). -/
def State.retire (s : State) (c : Sub) (blk : List Byte) : State :=
  s.sealedOp c blk (fun b => b.length == 8 && leAt b 0 8 == s.ownLong) s.notRetired (fun s _ => (s.finishTag c .done).lifecycle 3)

/-! ## Vault commits (R415) -/

/-- VAULT_COMMIT (R414, R415, R417): a waiting commit of datum `d` is carried out; `oks` says which copies read back. A committed list waits to be applied (R371); committed keys are in force. -/
def State.vaultStep (s : State) (d : Nat) (oks : List Bool) : State :=
  let asked := s.sto.vault.waiting.find? (fun q => q.num == d)
  let (s1, done) := s.vaultCommit d oks
  match asked.map CommitReq.datum with
  | some (.excl list _) => s1.xlCommitted list done.isSome
  | some (.keys ks) => if done.isSome then { s1 with sec := { s1.sec with own := ks.map (fun k => (k.kind, k.key)) } } else s1
  | _ => s1

end Sys2Proof.Machine
end

