-- ==== Sys2Proof/Machine/SerialIo.lean ====
section
/-! DEFINITION. Serial ports, board bus, general I/O, the PPS input and check units (R457 to R481). -/

namespace Sys2Proof.Machine

/-! ## Check units (R477 to R480) -/

/-- A check unit. -/
def State.chk (s : State) (u : Nat) : ChkSt := tget {} s.io.chks u

/-- The state with a check unit set. -/
def State.setChk (s : State) (u : Nat) (v : ChkSt) : State := { s with io := { s.io with chks := tset {} s.io.chks u v } }

/-- A unit as it starts: at enable, or cleared (R480). -/
def State.chkFresh (s : State) (u : Nat) : State :=
  let s1 := s.setChk u { crc := chkInit (s.rf (Reg.CHK_CHK_CFG u) 0 2), lastAt := s.now, clrAt := (s.chk u).clrAt }
  if s.rb (Reg.CHK_CHK_CFG u) 2 then s1 else s1.wr (Reg.CHK_CHK_RES u) 0

/-- The unit is enabled, and takes its bytes from source `src` (R478). -/
def State.chkFrom (s : State) (u src : Nat) : Bool := decide (u < 16) && s.rb (Reg.CHK_CHK_CFG u) 16 && s.rf (Reg.CHK_CHK_CFG u) 4 2 == src

/-- A record's status is written and counted (R479); every status but DONE sets the unit's cause and is a fault event. -/
def State.chkStatus (s : State) (u : Nat) (st : Status) : State :=
  let s1 := s.wf (Reg.CHK_CHK_RES u) 8 8 st
  if st = Status.done then s1.incF (Reg.CHK_CHK_CNT u) 0 16
  else (((s1.incF (Reg.CHK_CHK_CNT u) 16 16).cause 0x00D u).faultEvent 0x00D).1

/-- The alive value that follows one (R479). -/
def aliveNext (four : Bool) (a : Nat) : Nat := if a = (if four then 15 else 255) then 1 else a + 1

/-- CHK_RECORD_CHECK (R479): a record of `REC_LEN` bytes is checked. -/
def State.chkRecord (s : State) (u : Nat) (b : List Byte) : State :=
  let poly := s.rf (Reg.CHK_CHK_CFG u) 0 2
  let w := chkWidth poly
  let four := s.rb (Reg.CHK_CHK_CFG u) 3
  let body := b.take (b.length - w)
  let k := s.chk u
  let k1 : ChkSt := { k with bytes := [], open_ := false, lastAt := s.now }
  let raw := leAt b (s.rf (Reg.CHK_CHK_REC u) 0 8) 1
  let a := if four then raw % 16 else raw
  if chkFinal poly (body.foldl (chkByte poly) (chkInit poly)) ≠ leAt b (b.length - w) w then (s.setChk u k1).chkStatus u .checkFail
  else
    let st : Status := if a = 0 then .checkFail
      else match k.alive with
        | none => .done
        | some p => if a = p then .stale else if a = aliveNext four p then .done else .checkFail
    ((s.setChk u { k1 with alive := some a }).wf (Reg.CHK_CHK_RES u) 0 8 a).chkStatus u st

/-- One byte into a unit (R478): the CRC so far in stream mode, the record in progress in record mode. -/
def State.chkByteIn (s : State) (u : Nat) (b : Byte) : State :=
  let k := s.chk u
  let poly := s.rf (Reg.CHK_CHK_CFG u) 0 2
  if ! s.rb (Reg.CHK_CHK_CFG u) 2 then
    let c := chkByte poly k.crc b
    (s.setChk u { k with crc := c }).wr (Reg.CHK_CHK_RES u) (word (chkFinal poly c))
  else if s.rf (Reg.CHK_CHK_CFG u) 4 2 ≠ 0 && ! k.open_ then s
  else
    let bs := k.bytes ++ [b]
    if bs.length < s.rf (Reg.CHK_CHK_CFG u) 8 8 then s.setChk u { k with bytes := bs } else s.chkRecord u bs

/-- A unit is cleared, once in a fabric cycle however many writes ask for it: they all come before the feeds of that cycle (R480). -/
def State.chkClearOne (s : State) (u : Nat) : State :=
  if (s.chk u).clrAt = s.fabric + 1 then s else (s.chkFresh u).setChk u { (s.chkFresh u).chk u with clrAt := s.fabric + 1 }

/-- CHK_CLR (R480): the units named restart. -/
def State.chkClear (s : State) (mask : Nat) : State :=
  (List.range 16).foldl (fun s u => if mask / 2 ^ u % 2 = 1 then s.chkClearOne u else s) s

/-- A `CHK_CLR` bit of unit `u` waits in the present fabric cycle (R480). -/
def State.clrWaits (s : State) (u : Nat) : Bool :=
  s.pending.any (fun i => i.time / 2 == s.fabric && (match i with
    | .chkClr _ _ units => decide (units.val / 2 ^ u % 2 = 1)
    | .registerWrite _ _ _ msg a data => ! msg && a == Reg.CHK_CHK_CLR && decide (leAt data 0 4 / 2 ^ u % 2 = 1)
    | _ => false))

/-- Bytes go into a unit (R478), behind a clear of the same fabric cycle (R480). -/
def State.chkTake (s : State) (u : Nat) (bs : List Byte) : State :=
  bs.foldl (fun s b => s.chkByteIn u b) (if s.clrWaits u then s.chkClearOne u else s)

/-- CHK_FEED and CHK_FEED_B (R478): a write feeds bytes to a unit whose source is the register. -/
def State.chkFeed (s : State) (u : Nat) (bs : List Byte) : State := if s.chkFrom u 0 then s.chkTake u bs else s

/-- A character of `UART_n` goes to the units it feeds (R478). -/
def State.uartFeeds (s : State) (n : Nat) (c : Nat) : State :=
  (List.range 16).foldl (fun s u => if s.chkFrom u (n + 1) then s.chkTake u [BitVec.ofNat 8 c] else s) s

/-- A record boundary on `UART_n` (R478, R479): an incomplete record fails, and the next character begins one. -/
def State.uartBoundary (s : State) (n : Nat) : State :=
  (List.range 16).foldl (fun s u =>
    if ! s.chkFrom u (n + 1) || ! s.rb (Reg.CHK_CHK_CFG u) 2 then s
    else
      let k := s.chk u
      let s1 := s.setChk u { k with bytes := [], open_ := true }
      if k.bytes.isEmpty then s1 else s1.chkStatus u .checkFail) s

/-! ## UARTs (R457 to R466) -/

/-- A UART. -/
def State.uart (s : State) (n : Nat) : UartSt := tget {} s.io.uarts n

/-- The state with a UART set, as its registers show it (R467). -/
def State.setUart (s : State) (n : Nat) (k : UartSt) : State :=
  let s1 := { s with io := { s.io with uarts := tset {} s.io.uarts n k } }
  let head := match k.rx with
    | [] => 0
    | c :: _ => c % 2 ^ 15 + 2 ^ 15
  (s1.wr (Reg.UART_RX_DATA n) (word head)).wr (Reg.UART_FIFO_STAT n)
    (word (min 127 k.rx.length + k.tx.length % 128 * 2 ^ 8 + (if k.shift.isSome || k.brkOn then 2 ^ 16 else 0)
      + (if k.dead then 2 ^ 18 else 0) + (if k.cts then 2 ^ 19 else 0)))

/-- PCLK runs (R485). -/
def State.pclk (s : State) : Bool := decide (2 ≤ s.mode)

/-- Bits of a character: start, data, parity, stop (R457). -/
def State.charBits (s : State) (n : Nat) : Nat :=
  let w := s.rd (Reg.UART_UART_CTL n)
  1 + (7 + min 2 (fld w 2 2)) + (if fld w 4 2 = 0 then 0 else 1) + (if bit w 6 then 2 else 1)

/-- Fast-clock edges of `bits` bit times at a divisor (R457): PCLK is 117.9648 MHz. -/
def bitEdges (bits div : Nat) : Nat := bits * 16 * div * 1500000000 / 117964800

/-- The transmitter begins the next start bit when it may (R461, R466). -/
def State.uartStart (s : State) (n : Nat) : State :=
  let k := s.uart n
  let w := s.rd (Reg.UART_UART_CTL n)
  if ! s.pclk || ! bit w 1 || k.shift.isSome || k.brkOn then s
  else if k.brkDue then s.setUart n { k with brkDue := false, brkOn := true, shift := some (0, s.now, s.rf (Reg.UART_DIV n) 0 16) }
  else match k.tx with
    | [] => s
    | c :: cs =>
      if n = 1 && bit w 7 && k.cts then s
      else
        let s1 := s.setUart n { k with tx := cs, shift := some (c, s.now, s.rf (Reg.UART_DIV n) 0 16) }
        if cs.isEmpty then s1.cause (0x028 + n) 1 else s1

/-- UART_TX_DATA (R457). -/
def State.uartTx (s : State) (n c : Nat) : State :=
  let k := s.uart n
  if 64 ≤ k.tx.length then s else (s.setUart n { k with tx := k.tx ++ [c % 512] }).uartStart n

/-- UART_TX_CHAR_DONE (R461, R466): the character, or the break with its two high bit times, has been sent. -/
def State.uartTxDone (s : State) (n : Nat) : State :=
  let k := s.uart n
  match k.shift with
  | none => s
  | some (_, at_, div) =>
    let bits := if k.brkOn then s.rf (Reg.UART_BRK_CFG n) 0 12 + 2 else s.charBits n
    if ! s.pclk || decide (s.now < at_ + bitEdges bits div) then s
    else (s.setUart n { k with shift := none, brkOn := false }).uartStart n

/-- BRK_SEND (R461). -/
def State.brkSend (s : State) (n : Nat) : State :=
  let k := s.uart n
  if k.brkOn then s else (s.setUart n { k with brkDue := true }).uartStart n

/-- UART_CTS_CHANGE (R466). -/
def State.ctsChange (s : State) (high : Bool) : State := (s.setUart 1 { s.uart 1 with cts := high }).uartStart 1

/-- The level of `UART_1_RTS_N` (R466). -/
def State.rtsHigh (s : State) : Bool := s.rb (Reg.UART_UART_CTL 1) 7 && decide (s.rf (Reg.UART_FLOW_CFG 1) 0 7 ≤ (s.uart 1).rx.length)

/-- The sleep receiver listens on this port (R463): PCLK is stopped and ACLK runs. -/
def State.sleeper (s : State) (n : Nat) : Bool := s.mode == 1 && s.rb (Reg.UART_SLEEP_CFG 0) 0 && s.rf (Reg.UART_SLEEP_CFG 0) 1 1 == n

/-- A receiver takes what comes on port `n`. -/
def State.uartHears (s : State) (n : Nat) : Bool := s.rb (Reg.UART_UART_CTL n) 0 && (s.pclk || s.sleeper n)

/-- The sleep receiver serves port `n`: PCLK is stopped, or the hand-over is still due (R463, R465). -/
def State.asleep (s : State) (n : Nat) : Bool := s.sleeper n || (s.pclk && s.io.handDue && s.rf (Reg.UART_SLEEP_CFG 0) 1 1 == n)

/-- `SLEEP_STAT` shows how many characters the sleep FIFO holds. -/
def State.setSleep (s : State) (l : List Nat) : State := ({ s with io := { s.io with sleep := l } }).wf (Reg.UART_SLEEP_STAT 0) 16 5 l.length

/-- The divisor of the receiver for what began with a falling edge at `start` (R459): that of a write takes effect for edges seen in a later fabric cycle. -/
def State.rxDiv (s : State) (n start : Nat) : Nat :=
  (((s.uart n).divs.filter (fun x => decide (start / 2 ≤ x.1))).getLast?.map Prod.snd).getD (s.rf (Reg.UART_DIV n) 0 16)

/-- Divider of ACLK in the sleep receiver (R463). -/
def State.sleepDiv (s : State) : Nat := match s.rf (Reg.UART_SLEEP_CFG 0) 2 2 with
  | 0 => 16
  | 1 => 8
  | _ => 4

/-- Fast-clock edges of `k` samples of the receiver for what began at `start` (R457, R463): PCLK is 117.9648 MHz, ACLK 2.4576 MHz. -/
def State.sampleEdges (s : State) (n start k : Nat) : Nat :=
  if s.asleep n then k * s.sleepDiv * 1500000000 / 2457600 else k * s.rxDiv n start * 1500000000 / 117964800

/-- Samples of one whole character. -/
def State.charSamples (s : State) (n : Nat) : Nat := 16 * s.charBits n

/-- What began at `start` has been dealt with: the line is taken to be busy until edge `e`, and divisors no later start can ask for are forgotten. -/
def State.rxSeen (s : State) (n start e : Nat) : State :=
  let k := s.uart n
  s.setUart n { k with rxEnd := e, divs := k.divs.filter (fun x => decide (start / 2 < x.1)) }

/-- The majority of samples 7, 8 and 9 (R458). -/
def major (b : Bool × Bool × Bool) : Bool := (b.1 && b.2.1) || (b.1 && b.2.2) || (b.2.1 && b.2.2)

/-- Bits of a character after its start bit, as the receiver takes them; a line beyond the samples given is high. -/
def State.charTaken (s : State) (n : Nat) (c : UartChar) : List (Bool × Bool × Bool) :=
  (List.range (s.charBits n - 1)).map (fun i => c.bits[i]?.getD (true, true, true))

/-- Data bits of a character (R457, R467). -/
def State.dataBits (s : State) (n : Nat) : Nat := 7 + min 2 (s.rf (Reg.UART_UART_CTL n) 2 2)

/-- The data of a character, its least significant bit first (R457). -/
def State.charData (s : State) (n : Nat) (c : UartChar) : Nat :=
  ((s.charTaken n c).take (s.dataBits n)).zipIdx.foldl (fun v x => if major x.1 then v + 2 ^ x.2 else v) 0

/-- A character received, as `RX_DATA` holds it (R458): its data bits, `PERR` for a wrong parity bit, `FERR` for a low stop bit, `NOISE` where three samples disagree. -/
def State.rxWord (s : State) (n : Nat) (c : UartChar) : Nat :=
  let bits := s.charTaken n c
  let w := s.dataBits n
  let par := s.rf (Reg.UART_UART_CTL n) 4 2
  let odd := (((bits.take w).filter major).length % 2 == 1)
  let perr := decide (par ≠ 0) && (match bits[w]? with | some b => major b != (odd != decide (par = 2)) | none => false)
  let ferr := (bits.drop (if par = 0 then w else w + 1)).any (fun b => ! major b)
  let noise := bits.any (fun b => ! (b.1 == b.2.1 && b.2.1 == b.2.2))
  s.charData n c + (if perr then 512 else 0) + (if ferr then 1024 else 0) + (if noise then 2048 else 0)

/-- The receiver was idle when the low period began, and its instant to judge it, sample `k`, has come (R458, R462). -/
def State.rxDue (s : State) (n start k : Nat) : Bool :=
  s.uartHears n && ! (s.uart n).dead && decide (start ≤ s.now) && decide ((s.uart n).rxEnd ≤ start + s.sampleEdges n start 8) &&
    decide (start + s.sampleEdges n start k ≤ s.now)

/-- The low period has lasted a whole character time: no character comes of it (R462). -/
def State.isBreak (s : State) (n : Nat) (c : UartChar) : Bool :=
  (s.charTaken n c).all (fun b => ! major b) && decide (c.start + s.sampleEdges n c.start (s.charSamples n) ≤ s.now)

/-- The line was idle for two character times before `start`: a record boundary of the check units (R478). -/
def State.idleBefore (s : State) (n start : Nat) : State :=
  if (s.uart n).rxEnd + s.sampleEdges n start (2 * s.charSamples n) ≤ start then s.uartBoundary n else s

/-- UART_HANDOVER (R465): once PCLK runs, the sleep FIFO goes to the head of the receive FIFO, `DIV` is loaded to match `SDIV`, and its characters join the receive stream (R478). -/
def State.handover (s : State) : State :=
  if ! s.pclk || ! (s.io.handDue || s.io.woke) then s
  else
    let n := s.rf (Reg.UART_SLEEP_CFG 0) 1 1
    let k := s.uart n
    let s1 := (s.wf (Reg.UART_DIV n) 0 16 (48 * s.sleepDiv)).setUart n { k with rx := s.io.sleep ++ k.rx, divs := [] }
    let s2 := ({ s1 with io := { s1.io with woke := false, handDue := false } }).setSleep []
    s.io.sleep.foldl (fun s c => s.uartFeeds n c) (if s.io.sleep.isEmpty then s2 else s2.cause (0x028 + n) 0)

/-- UART_RX_CHAR (R458, R462, R464, R465): a start edge that is high again at sample 8 is a glitch. A character goes to the receive FIFO at sample 8 of its last stop bit; after a match in sleep to the sleep FIFO, and the hand-over follows once PCLK runs (log entry 202). -/
def State.uartRx (s : State) (n : Nat) (c : UartChar) : State :=
  let p := 0x028 + n
  if ! s.rxDue n c.start 8 then s
  else if ! c.low then ((s.rxSeen n c.start (s.uart n).rxEnd).incF (Reg.UART_ERR_CNT n) 0 16).cause p 4
  else if ! s.rxDue n c.start (s.charSamples n - 8) || s.isBreak n c then s
  else
    let w := s.rxWord n c
    let s0 := (s.idleBefore n c.start).rxSeen n c.start (c.start + s.sampleEdges n c.start (s.charSamples n))
    let beyond := (s0.incF (Reg.UART_ERR_CNT n) 16 16).cause p 5
    if s.asleep n then
      let s1 := if ! s0.io.woke then s0 else if 16 ≤ s0.io.sleep.length then beyond else s0.setSleep (s0.io.sleep ++ [w])
      if s1.pclk then s1.handover else s1
    else
      let k := s0.uart n
      let s1 := if 64 ≤ k.rx.length then beyond else (s0.setUart n { k with rx := k.rx ++ [w] }).cause p 0
      let s2 := if 512 ≤ w then s1.cause p 6 else s1
      s2.uartFeeds n (w % 256)

/-- UART_RX_POP (R460). -/
def State.uartPop (s : State) (n : Nat) : State :=
  let k := s.uart n
  s.setUart n { k with rx := k.rx.drop 1 }

/-- UART_BREAK (R462): the line rises after a low period that began at `start`, of at least one character time and short of `BRK_MAX`; its length is in whole bit times. -/
def State.uartBreak (s : State) (n start : Nat) : State :=
  if ! s.rxDue n start (s.charSamples n) || decide (start + s.sampleEdges n start (16 * s.rf (Reg.UART_BRK_CFG n) 16 12) ≤ s.now) then s
  else
    let len := ((List.range 4096).filter (fun b => decide (start + s.sampleEdges n start (16 * b) ≤ s.now))).length - 1
    ((((s.rxSeen n start s.now).wf (Reg.UART_BRK_STAT n) 0 16 (min len 65535)).incF (Reg.UART_BRK_STAT n) 16 16).cause (0x028 + n) 2).uartBoundary n

/-- UART_DEAD_LINE (R462): the low period that began at `start` reaches `BRK_MAX` bit times. -/
def State.deadLine (s : State) (n start : Nat) : State :=
  if ! s.rxDue n start (16 * s.rf (Reg.UART_BRK_CFG n) 16 12) then s
  else (((s.setUart n { s.uart n with dead := true }).incF (Reg.UART_DEAD_CNT n) 0 16).cause (0x028 + n) 3).pageRecord (0x028 + n) 0x03 0 (detail 0 n 0)

/-- UART_DEAD_CLEAR (R462): the line rises again. -/
def State.deadClear (s : State) (n : Nat) : State := if (s.uart n).dead then s.setUart n { s.uart n with dead := false, rxEnd := s.now } else s

/-- A write of `DIV` (R459): the value it replaces still serves what began no later than the fabric cycle of the write. -/
def State.uartDiv (s : State) (n v : Nat) : State :=
  if v < 8 || 65535 < v then s
  else
    let k := s.uart n
    (s.setUart n { k with divs := (s.fabric, s.rf (Reg.UART_DIV n) 0 16) :: k.divs }).wf (Reg.UART_DIV n) 0 16 v

/-- UART_IDLE_BOUNDARY (R478): the line has been idle for two character times. -/
def State.uartIdle (s : State) (n : Nat) : State := if s.uartHears n && ! (s.uart n).dead then s.idleBefore n s.now else s

/-- UART_WAKE_MATCH (R464): a character that matches wakes the device. -/
def State.wakeMatch (s : State) (c : UartChar) : State :=
  let n := s.rf (Reg.UART_SLEEP_CFG 0) 1 1
  let w := s.rd (Reg.UART_SLEEP_CFG 0)
  let nine := bit w 4 && s.rf (Reg.UART_UART_CTL n) 2 2 == 2
  let d := s.charData n c
  let hit := (List.range 8).all (fun i => ! bit w (16 + i) || (decide (d / 2 ^ i % 2 = 1) == bit w (8 + i))) && (! nine || decide (d / 256 % 2 = 1))
  if ! s.sleeper n || ! c.low || ! s.rxDue n c.start (s.charSamples n - 8) || s.isBreak n c || s.io.woke || ! hit then s
  else
    let s0 := s.rxSeen n c.start (c.start + s.sampleEdges n c.start (s.charSamples n))
    let s1 := ({ s0 with io := { s0.io with woke := true } }).setSleep [s.rxWord n c]
    ((((s1.wb (Reg.UART_SLEEP_STAT 0) 0 true).wf (Reg.UART_SLEEP_STAT 0) 8 8 (d % 256)).cause 0x028 7)).wake 2 (s.rf Reg.PWR_WAKE_CFG 0 4)

/-- What waits in the present tick completes unit `u`'s record (R16, R479). -/
def State.chkArrives (s : State) (u : Nat) : Bool :=
  let ends := fun (t : State) => (t.chk u).lastAt == s.now && (s.chk u).lastAt != s.now
  s.arrives (fun i => match i with
    | .chkFeed _ _ k v => k.val == u && ends (s.chkFeed u (leBytes 4 v.toNat))
    | .chkFeedB _ _ k b => k.val == u && ends (s.chkFeed u [b])
    | .uartRxChar _ n c => ends (s.uartRx n.val c)
    | _ => false)

/-- CHK_TIMEOUT (R479): no record within `TMO_MS` of the previous one (log entry 201). -/
def State.chkTimeout (s : State) (u : Nat) : State :=
  let t := s.rf (Reg.CHK_CHK_REC u) 16 16
  if 16 ≤ u || t = 0 || ! s.rb (Reg.CHK_CHK_CFG u) 16 || ! s.rb (Reg.CHK_CHK_CFG u) 2 || decide (s.now < (s.chk u).lastAt + t * msec) || s.chkArrives u then s
  else (s.setChk u { s.chk u with lastAt := s.now }).chkStatus u .timeout

/-! ## I2C (R468 to R470) -/

/-- The state with the controller set, as `I2C_STAT` and `RD_DATA` show it. -/
def State.setI2c (s : State) (k : I2cSt) : State :=
  let s1 := { s with io := { s.io with i2c := k } }
  let s2 := ((s1.wb Reg.I2C_I2C_STAT 0 (k.held || ! k.cmds.isEmpty)).wb Reg.I2C_I2C_STAT 1 (! k.held)).wf Reg.I2C_I2C_STAT 8 5 k.cmds.length
  (s2.wf Reg.I2C_I2C_STAT 16 5 (min 31 k.rd.length)).wr Reg.I2C_RD_DATA (word (match k.rd with | [] => 0 | b :: _ => b.toNat + 2 ^ 15))

/-- A queued command's kind: START, STOP, READ or WRITE, in this order of its bits (R470). -/
def i2cKind (c : Nat) : Nat := if c / 256 % 2 = 1 then 0 else if c / 512 % 2 = 1 then 1 else if c / 1024 % 2 = 1 then 2 else 3

/-- A write of `CMD` (R468, R470): ignored with 16 queued. -/
def State.i2cCmd (s : State) (v : Nat) : State :=
  let k := s.io.i2c
  if 16 ≤ k.cmds.length then s else s.setI2c { k with cmds := k.cmds ++ [v % 4096] }

/-- The queue becomes the one given; `DONE` when it has become empty (R470). -/
def State.i2cQueue (s : State) (cmds : List Nat) (held : Bool) : State :=
  let k := s.io.i2c
  let s1 := s.setI2c { k with cmds := cmds, held := held }
  if cmds.isEmpty && ! k.cmds.isEmpty then s1.cause 0x02A 0 else s1

/-- A STOP has been sent: the bus is idle, and stuck lines are clear (R469). -/
def State.i2cStopped (s : State) (cmds : List Nat) : State :=
  ((s.i2cQueue cmds false).wb Reg.I2C_I2C_STAT 2 false).wb Reg.I2C_I2C_STAT 3 false

/-- The commands after the next STOP (R468). -/
def afterStop : List Nat → List Nat
  | [] => []
  | c :: cs => if i2cKind c = 1 then cs else afterStop cs

/-- A byte has been written (R468): not acknowledged, the commands up to the next STOP are discarded and a STOP is sent; arbitration lost, the queue is flushed and the bus released. -/
def State.i2cWritten (s : State) (rest : List Nat) (nack arb : Bool) : State :=
  if arb then ((s.i2cQueue [] false).wb Reg.I2C_I2C_STAT 5 true).cause 0x02A 3
  else if nack then (((s.i2cStopped (afterStop rest)).wb Reg.I2C_I2C_STAT 4 true).incF Reg.I2C_I2C_CNT 0 16).cause 0x02A 1
  else s.i2cQueue rest true

/-- I2C_BUS_RECOVERY (R469): SDA was high after `clocks` clocks, at most nine, or never. The second component says that the bus is free. -/
def State.i2cRecovery (s : State) (clocks : Nat) : State × Bool :=
  if clocks ≤ 9 then
    (((((s.setI2c { s.io.i2c with held := false }).wb Reg.I2C_I2C_STAT 2 false).wb Reg.I2C_I2C_STAT 3 false).incF Reg.I2C_I2C_CNT 16 16).cause 0x02A 4, true)
  else
    let s1 := ((s.i2cQueue [] false).wb Reg.I2C_I2C_STAT 2 true).cause 0x02A 2
    (((s1.pageRecord 0x02A 0x02 0 (detail 0 0 0)).faultEvent 0x02A).1, false)

/-- The controller works (R470, R485). -/
def State.i2cOn (s : State) : Bool := s.rb Reg.I2C_I2C_CFG 16 && s.pclk

/-- The head command, where it is of this kind; none runs while the STOP after an SCL timeout is owed (R469). -/
def State.i2cHead (s : State) (kind : Nat) : Option (List Nat) := match s.io.i2c.cmds with
  | c :: rest => if s.i2cOn && ! s.io.i2c.stopDue && i2cKind c = kind then some rest else none
  | [] => none

/-- I2C_START (R468, R469): the bus is checked, and recovered after `clocks` clocks where SDA was low (0: it was not); then START and its byte go out. -/
def State.i2cStart (s : State) (clocks : Nat) (nack arb : Bool) : State := match s.i2cHead 0 with
  | none => s
  | some rest =>
    let (s1, ok) := if clocks = 0 || s.io.i2c.held then (s, true) else s.i2cRecovery clocks
    if ! ok then s1 else ((s1.wb Reg.I2C_I2C_STAT 4 false).wb Reg.I2C_I2C_STAT 5 false).i2cWritten rest nack arb

/-- I2C_WRITE (R468). -/
def State.i2cWrite (s : State) (nack arb : Bool) : State := match s.i2cHead 3 with
  | none => s
  | some rest => if s.io.i2c.held then s.i2cWritten rest nack arb else s

/-- I2C_READ (R468). -/
def State.i2cRead (s : State) (b : Byte) (arb : Bool) : State := match s.i2cHead 2 with
  | none => s
  | some rest =>
    if ! s.io.i2c.held then s
    else if arb then s.i2cWritten rest false true
    else ({ s with io := { s.io with i2c := { s.io.i2c with rd := s.io.i2c.rd ++ [b] } } }).i2cQueue rest true

/-- I2C_STOP (R468). -/
def State.i2cStop (s : State) : State := match s.i2cHead 1 with
  | none => s
  | some rest => s.i2cStopped rest

/-- I2C_RECOVER (R469). -/
def State.i2cRecover (s : State) (clocks : Nat) : State := if s.i2cOn then (s.i2cRecovery (max 1 clocks)).1 else s

/-- I2C_ABORT (R470). -/
def State.i2cAbort (s : State) : State := s.i2cStopped []

/-- I2C_RD_POP (R470). -/
def State.i2cPop (s : State) : State := s.setI2c { s.io.i2c with rd := s.io.i2c.rd.drop 1 }

/-- I2C_SCL_TIMEOUT (R469): a STOP is owed when SCL rises (log entry 203). -/
def State.sclTimeout (s : State) : State :=
  if ! s.i2cOn || ! s.io.i2c.held || s.arrives (fun i => match i with | .i2cSclRelease .. => true | _ => false) then s
  else
    let s1 := (s.i2cQueue [] true).wb Reg.I2C_I2C_STAT 3 true
    { s1 with io := { s1.io with i2c := { s1.io.i2c with stopDue := true } } }

/-- I2C_SCL_RELEASE (R469). -/
def State.sclRelease (s : State) : State :=
  if s.io.i2c.stopDue then ({ s with io := { s.io with i2c := { s.io.i2c with stopDue := false } } }).i2cStopped [] else s

/-! ## GPIO and PPS (R471 to R474, R493) -/

/-- The bits of `v` that no higher master has named in the present fabric cycle (R48, R471). -/
def State.outFree (s : State) (m : Nat) (v : Word) : Word :=
  if s.io.outAt = s.fabric + 1 then s.io.outBy.foldl (fun v x => if m < x.1 then v &&& ~~~x.2 else v) v else v

/-- Master `m` has named the bits of `v` in this fabric cycle. -/
def State.outNote (s : State) (m : Nat) (v : Word) : State :=
  { s with io := { s.io with outAt := s.fabric + 1, outBy := (m, v) :: (if s.io.outAt = s.fabric + 1 then s.io.outBy else []) } }

/-- OUT_SET and OUT_CLR by master `m` (R471): where two masters name a bit in one fabric cycle, the higher one's write stands. -/
def State.outSet (s : State) (m : Nat) (v : Word) : State := (s.wr Reg.GPIO_OUT ((s.rd Reg.GPIO_OUT ||| s.outFree m v) &&& 0xFFFFFF)).outNote m v
def State.outClr (s : State) (m : Nat) (v : Word) : State := (s.wr Reg.GPIO_OUT (s.rd Reg.GPIO_OUT &&& ~~~(s.outFree m v))).outNote m v

/-- GPIO_EDGE (R471, R493): input `n` changes its level and holds the new one for `held` µs; the filter, where on, accepts it after `DEB_US`. An enabled edge sets its cause, and wakes the device where the pin may. -/
def State.gpioEdge (s : State) (n : Nat) (high : Bool) (held : Nat) : State :=
  if 24 ≤ n || s.isOff || s.rb Reg.GPIO_DIR n || s.rb Reg.GPIO_IN n == high || (s.rb Reg.GPIO_DEB_EN n && decide (held < s.rf Reg.GPIO_DEB_US 0 8)) then s
  else
    let s1 := s.wb Reg.GPIO_IN n high
    if s.rb (if high then Reg.GPIO_RISE_EN else Reg.GPIO_FALL_EN) n then
      let s2 := s1.cause 0x02B n
      if s.rb Reg.PWR_WAKE_CFG 13 && s.rb Reg.PWR_GPIO_WAKE n then s2.wake 3 (s.rf Reg.PWR_WAKE_CFG 4 4) else s2
    else s1

/-- The instant at which an edge of `PPS_IN` is stamped (R473): its own, in ticks of ACLK while the fast clock is stopped. -/
def State.ppsInstant (s : State) : Nat :=
  if s.rb Reg.CLK_CLK_STAT 0 then s.now else s.aonAt + (s.rtc * 15000000 + 24575) / 24576

/-- PPS_EDGE (R473): an edge in the selected polarity that held its level for `held` µs is accepted and feeds UTC stamping, stamped at its own instant; else it is rejected. -/
def State.ppsEdge (s : State) (falling : Bool) (held : Nat) : State :=
  let s0 := s.wb Reg.PPS_PPS_STAT 0 (! falling)
  if s.isOff || ! s.rb Reg.PPS_PPS_CFG 16 || s.rb Reg.PPS_PPS_CFG 0 != falling then s0
  else if held < s.rf Reg.PPS_PPS_CFG 8 8 then (s0.incF Reg.PPS_PPS_CNT 16 16).cause 0x02D 1
  else
    let s1 := (((s0.incF Reg.PPS_PPS_CNT 0 16).wr64 Reg.PPS_PPS_LT_LO Reg.PPS_PPS_LT_HI (s.ltAt s.ppsInstant)).wb Reg.PPS_PPS_STAT 1 true).cause 0x02D 0
    { s1 with io := { s1.io with ppsAt := s.now + 1 } }.utcEdge

/-- `PPS_STAT.PRESENT` (R473): an edge was accepted within the last 1.5 s. -/
def State.ppsPresent (s : State) : Bool := s.io.ppsAt != 0 && decide (s.now ≤ s.io.ppsAt - 1 + 2250000000)

end Sys2Proof.Machine
end

