-- ==== Sys2Proof/Machine/Uplink.lean ====
section
/-! DEFINITION. Uplink messages and REPORTs once whole: the duplicate window, delivery, and the REPORT sent back (R288 to R291, R296). -/

namespace Sys2Proof.Machine

/-- How an uplink identifier stands against `UP_HI` and `UP_MAP` (R289 to R291): new, with the values it leaves, or already seen. -/
def EpRec.upWindow (e : EpRec) (id : Nat) : Option (Nat × Nat) :=
  let d := (id + 2 ^ 32 - e.upHi) % 2 ^ 32
  let back := (e.upHi + 2 ^ 32 - id) % 2 ^ 32
  if e.upHi = 0 then some (id, 1)
  else if 1 ≤ d && d < 2 ^ 31 then some (id, (if d < 32 then e.upMap * 2 ^ d % 2 ^ 32 else 0) + 1)
  else if back < 32 && e.upMap / 2 ^ back % 2 = 0 then some (e.upHi, e.upMap + 2 ^ back)
  else none

/-- A REPORT goes to an originator (R288, R291): a message of kind 1 under the identifier it reports, encrypted as the message was. -/
def State.sendReport (s : State) (dst msgId : Nat) (sec : Bool) (body : List Byte) : State :=
  let r : MsgRec := { sub := (0, 0, 0, 0), dst := dst, msgId := msgId, kind := 1, rr := false, exec := false, lateOk := true, sec := sec, prio := 2
                      execCyc := 0, deadline := none, data := body, plain := sec, mkepoch := s.msgEpoch dst, segSz := (s.ep dst).segSz
                      rbufLen := 0, rbufAddr := 0 }
  let m := s.msg.next
  let s1 := (({ s with msg := { s.msg with next := m + 1 } }).setMsg m r).creditRequest (2 * dst) (cellsOf (body.length + (if sec then 16 else 0)))
  if sec then s1 else s1.writeItem (2 * dst) body m

/-- A REPORT is kept for the last 32 identifiers of its originator (R290). -/
def State.keepReport (s : State) (src id : Nat) (body : List Byte) : State :=
  let mine := s.msg.reports.filter (fun x => x.1 == src)
  let old := if 32 ≤ mine.length then mine.head? else none
  { s with msg := { s.msg with reports := s.msg.reports.filter (fun x => some x != old) ++ [(src, id, body)] } }

/-- A whole message of a kind, opened or sent in the clear. -/
def State.wholeMsg (s : State) (kind : Nat) : Option Reasm :=
  s.msg.reasm.find? (fun r => r.kind == kind && decide (r.segs.length = r.count) && r.plain.isSome)

/-- The message leaves reassembly. -/
def State.reasmDone (s : State) (r : Reasm) : State := { s with msg := { s.msg with reasm := s.msg.reasm.erase r } }

/-- A message sent in the clear is taken only while `E2E_REQ` is 0 (R287). -/
def State.clearOk (s : State) (r : Reasm) : Bool := r.flags / 8 % 2 == 1 || ! s.rb Reg.NET_NET_CFG 24

/-- UPLINK_MESSAGE_RX (R291): a whole message is delivered or, already seen, suppressed; where `RR` is 1 a REPORT goes back. With the spool full and no buffer posted it waits (R413). -/
def State.uplinkRx (s : State) : State := match s.wholeMsg 0 with
  | none => s
  | some r =>
    if s.spoolAtEnd && s.firstBuf.isNone then s.spoolCheck
    else
      let s1 := s.reasmDone r
      let e := s.ep r.src
      let rr := r.flags % 2 == 1
      let sec := r.flags / 8 % 2 == 1
      if ! s.clearOk r || e.state = 0 then s1
      else match e.upWindow r.msgId with
        | some (hi, map) =>
          let s2 := s1.setEp r.src { e with upHi := hi, upMap := map, upDone := sat32 e.upDone, dirty := true }
          let m : UpMsg := { src := r.src, flags := r.flags, msgId := r.msgId, plain := r.plain.getD [], rxCyc := r.rxCyc, execCyc := r.execCyc }
          let s3 := (({ s2 with host := { s2.host with uplink := s2.host.uplink ++ [m] } }.inc Reg.MSG_UP_RX).deliverUplink).spoolCheck
          let body := leBytes 1 Status.done ++ [0] ++ leBytes 4 r.rxCyc ++ leBytes 2 0
          let s4 := s3.keepReport r.src r.msgId body
          if rr then s4.sendReport r.src r.msgId sec body else s4
        | none =>
          let s2 := (s1.setEp r.src { e with upDup := sat32 e.upDup }).addF Reg.MSG_MSG_DUP 16 16 1
          match s2.msg.reports.find? (fun x => x.1 == r.src && x.2.1 == r.msgId) with
          | some x => if rr then s2.sendReport r.src r.msgId sec x.2.2 else s2
          | none => s2

/-- REPORT_RX (R288, R296): a whole REPORT ends its message. -/
def State.reportRx (s : State) : State := match s.wholeMsg 1 with
  | none => s
  | some r =>
    let s1 := s.reasmDone r
    if s.clearOk r then s1.reportEnds r.src r.msgId (r.plain.getD []) else s1

/-- REASSEMBLY_TIMEOUT (R291): messages incomplete `REASM_SF` superframes after their first segment are discarded. -/
def State.reasmTimeout (s : State) : State :=
  if s.arrives (fun i => match i with | .nbFrameRx .. => true | .bbFrameRx .. => true | _ => false) then s
  else (s.msg.reasm.filter (fun r => decide (r.segs.length < r.count) && s.sfReached s.sfNow (r.sf + s.rf Reg.NET_RCPT_CFG 8 8))).foldl
    (fun s r => ((s.reasmDone r).inc Reg.MSG_REASM_DROP).cause 0x074 2) s

end Sys2Proof.Machine
end

