-- ==== Sys2Proof/Machine/Boot.lean ====
section
/-! DEFINITION. Reset, boot and firmware images (R445 to R447, R572 to R581): the boot control record, the checks of an image, what each kind of reset keeps, the boot sequence, recovery, and the submissions that write and confirm an image. -/

namespace Sys2Proof.Machine

/-! ## The boot control record (R579) -/

/-- A copy of the boot control record whose CRC passes: `SEQ`, `ACTIVE` and `TRIAL` (0xFF none). -/
def State.bootCopy (s : State) (k : Nat) : Option (Nat × Nat × Nat) :=
  let b := cellsRead s.sec.flash (0x10000 * (k + 1)) 16
  if leAt b 12 4 = crc32c (b.take 12) then some (leAt b 0 8 / 2 ^ 32, leAt b 8 1 % 2, leAt b 9 1) else none

/-- The copy in use: the one of higher `SEQ` whose CRC passes. -/
def State.bootPick (s : State) : Option (Nat × Nat × Nat × Nat) := match s.bootCopy 0, s.bootCopy 1 with
  | some a, some b => if a.1 < b.1 then some (1, b) else some (0, a)
  | some a, none => some (0, a)
  | none, some b => some (1, b)
  | none, none => none

/-- The active slot and the trial slot; slot A with no trial where neither copy passes. -/
def State.bootActive (s : State) : Nat := match s.bootPick with
  | some r => r.2.2.1
  | none => 0
def State.bootTrial (s : State) : Option Nat := match s.bootPick with
  | some r => if r.2.2.2 < 2 then some r.2.2.2 else none
  | none => none

/-- The boot flash with bytes written. -/
def State.flashWrite (s : State) (a : Nat) (b : List Byte) : State := { s with sec := { s.sec with flash := cellsWrite s.sec.flash a b } }

/-- A new record goes to the copy that does not hold the valid one of higher `SEQ`, with `SEQ` one higher (R579). -/
def State.bootWrite (s : State) (active trial : Nat) : State :=
  let (k, seq) := match s.bootPick with
    | some r => (1 - r.1, r.2.1 + 1)
    | none => (0, 1)
  let b := leBytes 4 0x54424D43 ++ leBytes 4 seq ++ leBytes 1 active ++ leBytes 1 trial ++ [0, 0]
  s.flashWrite (0x10000 * (k + 1)) (b ++ leBytes 4 (crc32c b))

/-! ## Image checks (R445, R446) -/

/-- Bytes of the image in slot `k`. -/
def State.imgBytes (s : State) (k o n : Nat) : List Byte := cellsRead s.sec.flash (imgBase k + o) n

/-- A number of the image header. -/
def State.imgNum (s : State) (k o n : Nat) : Nat := ofLE (s.imgBytes k o n)

/-- Check 1 of R446: `MAGIC`, `VER`, lengths and reserved fields. -/
def State.imgFormed (s : State) (k : Nat) : Bool :=
  s.imgNum k 0 4 == 0x57464D43 && s.imgNum k 4 1 == 1 && decide (s.imgNum k 5 1 < 2) && decide (s.imgNum k 6 1 < 16)
    && decide (s.imgNum k 7 1 ≤ 64) && decide (s.imgNum k 16 4 ≤ 67108864)
    && (s.imgBytes k 20 12).all (· == 0) && (s.imgBytes k 6746 1446).all (· == 0)

/-- The unrevoked vendor key of hash `h` (R446 check 2). -/
def State.vendorOf (s : State) (h : List Byte) : Option Nat :=
  (List.range 4).find? (fun n => tget [] s.sec.vkeys n == h && ! s.rb Reg.OTP_KEY_STAT (4 + n))

/-- The vendor key whose hash the header of slot `k` names. -/
def State.imgVendor (s : State) (k : Nat) : Option Nat := s.vendorOf (s.imgBytes k 64 32)

/-- The image is co-signed. -/
def State.imgCosigned (s : State) (k : Nat) : Bool := decide (s.imgNum k 5 1 % 2 = 1)

/-- A signature over the header by a key its hash names (R442, R446). -/
def State.imgSigned (s : State) (k : Nat) (hash ctx : List Byte) (o : Nat) : Bool := dsaVerify hash ctx (s.imgBytes k 0 128) (s.imgBytes k o 3309)

/-- The checks of R446 on slot `k`, in order; each verification is counted. -/
def State.imageCheck (s : State) (k : Nat) : State × Status :=
  if ! s.imgFormed k then (s, .refused)
  else match s.imgVendor k with
    | none => (s, .authFail)
    | some _ =>
      let v := s.imgSigned k (s.imgBytes k 64 32) ctxFw 128
      let s1 := s.verified v
      let co := s.imgCosigned k || s.rb Reg.OTP_KEY_STAT 16
      let named := s.imgCosigned k && s.ckey 0 == some (s.imgBytes k 96 32)
      let c := s.imgSigned k (s.imgBytes k 96 32) ctxFwc 3437
      if ! v then (s1, .authFail)
      else if co && ! named then (s1, .authFail)
      else
        let s2 := if co then s1.verified c else s1
        if co && ! c then (s2, .authFail)
        else if shake (s.imgBytes k 8192 (s.imgNum k 16 4)) ≠ s.imgBytes k 32 32 then (s2.addF Reg.XSPI_XSPI_ERR 0 16 1, .authFail)
        else if s.imgNum k 7 1 < s.rf Reg.OTP_FW_SVN 0 7 then (s2, .stale)
        else (s2, .done)

/-- A slot is checked at boot: a refusal is counted and recorded (R446, R456). -/
def State.bootTry (s : State) (k : Nat) : State × Status :=
  let (s1, st) := s.imageCheck k
  if st = Status.done then (s1, st)
  else ((s1.incF Reg.SEC_BOOT_CNT 16 16).record 0x010 0x1030 0 (detail st k 0), st)

/-! ## What a reset keeps (R574) -/

/-- Registers of the OTP page and `ORD_CODE`, which the fuses hold. -/
def fuseReg (k : Nat) : Bool := (k / 4096 == 0x00B && k != Reg.OTP_HASH_SEL && decide (k % 4096 ≥ 0x40)) || k == Reg.SYS_ORD_CODE

/-- Registers of the always-on domain, and those that are read at the next boot only (R34, R303, R410, R574). -/
def aonReg (k : Nat) : Bool :=
  let p := k / 4096
  fuseReg k || p == 0x002 || p == 0x003 || p == 0x004
    || (p == 0x000 && k != Reg.SYS_BOOT_STAT && k != Reg.SYS_MODE_STAT && k != Reg.SYS_MODE_REQ)
    || k == Reg.UART_SLEEP_CFG 0 || k == Reg.UART_SLEEP_STAT 0 || k == Reg.SCB_SCB_STAGE
    || k == Reg.QMG_POOL_CFG || k == Reg.STO_STO_CFG || k == Reg.STO_SPOOL_GB || k == Reg.STO_MET_GB
    || (decide (k < 2 ^ 26) && (k % 4096 == Reg.ERR_CORR 0 || k % 4096 == Reg.ERR_UNCORR 0))

/-- What outlives every reset: the fuses, the boot flash, the drives' contents, host memory, and the levels at the pins. -/
def State.bare (s : State) : State :=
  let onDrive := s.anyDrive
  { now := s.now, draws := s.draws, hostMem := s.hostMem, reads := s.reads, pending := s.pending
    regs := s.regs.filter (fun x => fuseReg x.1)
    scb := { ring := if onDrive then s.scb.ring else [], oldest := if onDrive then s.scb.oldest else 0, perm := s.scb.perm, fallback := s.scb.fallback }
    sto := { epStore := s.sto.epStore, survArch := s.sto.survArch, metArch := s.sto.metArch, survPos := s.sto.survPos, metPos := s.sto.metPos, shrunk := s.sto.shrunk, wcnt := s.sto.wcnt, extErr := s.sto.extErr, extGone := s.sto.extGone
             vault := { slots := s.sto.vault.slots, sectors := s.sto.vault.sectors, steps := s.sto.vault.steps } }
    bench := { used := s.bench.used.filter (fun x => x.1 == 12), repairs := s.bench.repairs, rowsUsed := s.bench.rowsUsed, colsUsed := s.bench.colsUsed }
    sec := { lc := s.sec.lc, dusSet := s.sec.dusSet, crk := s.sec.crk, vkeys := s.sec.vkeys, ckeys := s.sec.ckeys, flash := s.sec.flash, idStored := s.sec.idStored }
    ctl := { ilk := s.ctl.ilk }
    srv := { rseq := ((s.sto.survArch.getLast?).map ArchRec.rseq).getD 0 }
    met := { rseq := ((s.sto.metArch.getLast?).map ArchRec.rseq).getD 0 }
    md := { safeLow := s.md.safeLow, x32Bad := s.md.x32Bad, x25Bad := s.md.x25Bad } }

/-- A trial ends at any reset before its confirmation (R447): its slot is no longer named. -/
def State.trialWithdrawn (s : State) : State := if s.sec.inTrial then s.bootWrite s.bootActive 0xFF else s

/-- A source is recorded in `RST_CAUSE` (R573). -/
def State.rstCause (s : State) (bits count : Nat) : State := s.wr Reg.SYS_RST_CAUSE (word (bits % 64 + min count 65535 * 2 ^ 16))

/-- Reset values that a strap or a port's place changes (R346, R578). -/
def State.strapped (s : State) : State :=
  if s.rb Reg.SYS_STRAP 2 then ((s.wr (Reg.HL_HL_CFG 0) 0x5).wr (Reg.HL_HL_CFG 1) 0x7) else s

/-- The boot begins (R576): `PHASE` reads the step. -/
def State.bootStart (s : State) (por : Bool) : State :=
  { s with boot := { running := true, por := por, startAt := s.now, rstAt := s.fabric + 1 } }.wr Reg.SYS_BOOT_STAT (if por then 1 else 3)

/-- POWER_ON_RESET (R573 to R576, R578): the rising edge of `PORESET_N`, with the straps it latches; `src` is 0 for `PORESET_N`, 1 for the `VDD_AON` monitor. A source of the same fabric cycle is recorded too (R575). -/
def State.powerOnReset (s : State) (src straps : Nat) : State :=
  let same := if s.boot.rstAt = s.fabric + 1 then s.rf Reg.SYS_RST_CAUSE 0 6 else 0
  let bits := if same / 2 ^ src % 2 = 1 then same else same + 2 ^ src
  ((((({ s.trialWithdrawn.bare with aonAt := s.now }.wr Reg.SYS_STRAP (word (straps % 8))).rstCause bits 0).strapped).policyApply).bootStart true).recountAll s.ctrCycle s.ctrInc

/-- A device reset takes effect (R574): everything outside the always-on domain is reset. -/
def State.deviceKeep (s : State) : State :=
  let b := s.trialWithdrawn.bare
  { b with
    regs := s.regs.filter (fun x => aonReg x.1)
    pages := s.pages.filter (fun x => x.1 == 0x002 || x.1 == 0x003 || x.1 == 0x004)
    trk := s.trk, aonAt := s.aonAt, io := { sleep := s.io.sleep, woke := s.io.woke, handDue := s.io.woke || s.io.handDue }, fix := { entries := s.fix.entries.map (fun x => (x.1, x.2.setArm false)) }
    scb := { b.scb with stage := s.scb.stage } }

/-- A device reset from source `src` of R573: 2 `RESET_N`, 3 core-rail monitor, 4 `RST_REQ`, 5 trial withdrawal. It does not leave OFF (R490); in the fabric cycle of another reset it is recorded only (R575). -/
def State.deviceReset (s : State) (src : Nat) : State :=
  let old := s.rf Reg.SYS_RST_CAUSE 0 6
  let cnt := s.rf Reg.SYS_RST_CAUSE 16 16
  if s.mode = 0 && ! s.boot.running then s
  else if s.boot.rstAt = s.fabric + 1 then s.rstCause (if old / 2 ^ src % 2 = 1 then old else old + 2 ^ src) cnt
  else (((((s.deviceKeep.wb Reg.FIX_ENT_STAT 0 false).rstCause (2 ^ src) (cnt + 1)).strapped).policyApply).bootStart false).recountAll s.ctrCycle s.ctrInc

/-! ## The boot sequence (R576 to R580) -/

/-- The rights word of a region that grants read and write to the domains named (R521). -/
def rightsOf (ds : List Nat) : Word := word (2 ^ 31 + (ds.map (fun d => 3 * 4 ^ d)).foldl (· + ·) 0)

/-- The parts the DRAM is divided into at boot (R21), as base and size: endpoint records, tone maps, measurement staging, firmware, legacy memory, the cell pool of `g` Mi cells of 128 bytes, and the general region on both sides. Where the parts lie is open (`Config.lgcPick`); that the first six follow one another in this order is the model's choice (log entry 151). -/
def dramParts (g : Nat) : List (Nat × Nat) :=
  let b := lgcBase - 2 ^ 32
  [ (b, 2 ^ 29), (b + 2 ^ 29, 2 ^ 31), (b + 5 * 2 ^ 29, 2 ^ 30), (b + 7 * 2 ^ 29, 2 ^ 29), (lgcBase, lgcSize), (lgcBase + 2 ^ 30, g * 2 ^ 27)
  , (0x400000000, b - 0x400000000), (lgcBase + 2 ^ 30 + g * 2 ^ 27, 0x780000000 - (lgcBase + 2 ^ 30 + g * 2 ^ 27)) ]

/-- The regions device firmware sets at boot (R515, log entry 43): the register window, legacy memory, shared SRAM, local memories, host memory, and each part of the DRAM. -/
def fwRegions (g : Nat) : List (Nat × Region) :=
  [ (0, { base := 0, lim := 0x3FFF, rights := rightsOf [0, 1, 2, 3, 4, 5, 6] })
  , (1, { base := lgcBase / 4096, lim := lgcBase / 4096 + 0x3FFFF, rights := rightsOf [0, 1, 2, 4, 5, 6] })
  , (2, { base := 0x10000, lim := 0x13FFF, rights := rightsOf [0, 1, 3, 5, 6] })
  , (3, { base := 0x800000, lim := 0x805FFF, rights := rightsOf [0, 1, 3, 5, 6] })
  , (4, { base := 0x100000000, lim := 0xFFFFFFFFF, rights := rightsOf [0, 1, 2, 5, 6] }) ] ++
  ((dramParts g).zipIdx.filter (fun x => x.1.2 != 0)).map (fun x =>
    (5 + x.2, { base := x.1.1 / 4096, lim := (x.1.1 + x.1.2) / 4096 - 1, rights := rightsOf [0, 1, 3, 5, 6] }))

/-- The device's unique secret has been drawn (R430). -/
def State.dusDrawn (s : State) : State := { s with sec := { s.sec with dusSet := true } }

/-- Step 4: OTP banks that diverge or are full are replaced while spares last (R547); the fuses are shown; in MFG the first boot draws `DUS` (R430). -/
def State.bootOtp (s : State) (banks : Nat) : State :=
  let s1 := (List.range banks).foldl (fun (s : State) _ =>
    if tget 0 s.bench.used 12 < 4 then (s.pageRecord 0x00B 0x22 2 (detail 0 12 0)).useSpare 12 else s.pageRecord 0x00B 0x23 4 (detail 0 12 0)) s
  (if s1.sec.lc = 0 && ! s1.sec.dusSet then (s1.drbgDraw 32).1.dusDrawn else s1).showFuses

/-- Reads of the boot flash whose content failed its own check are read once more (R475, log entry 204). -/
def State.flashRetry (s : State) (n : Nat) : State := s.addF Reg.XSPI_XSPI_ERR 0 16 n

/-- Step 5: the boot flash is up in octal mode (R475, R476); its identification bytes are open. -/
def State.bootFlash (s : State) : State :=
  ((s.wr Reg.XSPI_XSPI_STAT (setFld (setFld s.free 0 8 0) 0 3 5)).drawn.flashRetry (((List.range 2).filter (fun k => (s.bootCopy k).isNone)).length)).commitBoot

/-- The slot tried first, and the other one (R447). -/
def State.bootOrder (s : State) : Nat := s.bootTrial.getD s.bootActive

/-- The image of slot `k` runs (R447): `BOOT_STAT` shows the slot, a trial, the cosignature and the version. -/
def State.bootRun (s : State) (k : Nat) : State :=
  let trial := s.bootTrial == some k
  ({ s with sec := { s.sec with slot := k, inTrial := trial, bootAt := s.now, header := s.imgBytes k 0 128 } }).wr Reg.SEC_BOOT_STAT
    (word (k + (if trial then 2 else 0) + (if s.imgCosigned k then 4 else 0) + s.imgNum k 7 1 * 2 ^ 8 + s.rf Reg.OTP_FW_SVN 0 7 * 2 ^ 16))

/-- Step 7: the slot to run, or recovery (R446, R447, R580); `MODE_STRAP_0` goes to recovery without trying an image (R578). The answer is the status of the last check. -/
def State.bootImage (s : State) : State × Status :=
  if s.rb Reg.SYS_STRAP 0 then ({ s with sec := { s.sec with recovery := true } }, .done)
  else
    let k := s.bootOrder
    match s.bootTry k with
    | (s1, 0) => (s1.bootRun k, .done)
    | (s1, _) =>
      match s1.bootTry (1 - k) with
      | (s2, 0) => ((((s2.incF Reg.SEC_BOOT_CNT 0 16).cause 0x010 4).record 0x010 0x1031 2 (detail 0 k 0)).bootRun (1 - k), .done)
      | (s2, st) => ({ s2 with sec := { s2.sec with recovery := true } }, st)

/-- The bench map is applied (R27): each engine serves what the map says, waits on the bench, or stays failed. -/
def State.bootMap (s : State) (map : List (Nat × Nat)) (failed : List Nat) : State :=
  let s1 := { s with bench := { s.bench with map := map } }
  (List.range 105).foldl (fun (s : State) e =>
    if failed.contains e then s.setEng e 3 0x7F
    else match (List.range 96).find? (fun l => tget (engFactory l) map l == e) with
      | some l => s.setEng e 0 l
      | none => s.setEng e 1 0x7F) s1

/-- The vault datums are read by vote (R372, R416, R434): the bench map, repairs, the exclusion list, own keys. -/
def State.bootVault (s : State) : State :=
  let (s1, d2) := s.vaultRead 2
  let s2 := match d2 with
    | some (.bench m f) => s1.bootMap m f
    | _ => s1
  let (s3, _) := s2.vaultRead 3
  let (s4, d1) := s3.vaultRead 1
  let s5 := match d1 with
    | some (.keys ks) => { s4 with sec := { s4.sec with own := ks.map (fun (k : KeyRec) => (k.kind, k.key)) } }
    | _ => s4
  let (s6, d0) := s5.vaultRead 0
  s6.bootExcl d0 (s6.sto.vault.ptr 0)

/-- An endpoint record from its 512 bytes (R283); none where its CRC fails. -/
def EpRec.ofBytes (b : List Byte) : Option EpRec :=
  let three (o i : Nat) : Nat := leAt b (o + 3 * i) 3
  if leAt b 508 4 ≠ crc32c (takeBytes b 0 508) then none
  else
    let m : EpRec := { long := leAt b 0 8, state := leAt b 8 3 / 2 ^ 20 % 4, noRoute := leAt b 11 1 % 2 == 1, lost := leAt b 11 1 / 2 % 2 == 1
                       cap := leAt b 12 2, port := leAt b 14 1 % 4, cond := leAt b 14 1 / 4 % 4, bb := leAt b 14 1 / 16 % 2 == 1
                       hops := leAt b 15 1, parent := leAt b 16 3, route := (List.range (min 14 (leAt b 19 1))).map (three 20), groups := leAt b 62 2
                       leaseEnd := leAt b 64 4, lastSf := leAt b 68 4, kepoch := leAt b 72 2, mkepoch := leAt b 74 2 }
    some { m with lastDn := leAt b 76 4, upHi := leAt b 80 4, upMap := leAt b 84 4, segSz := leAt b 88 2, routeMode := leAt b 90 1, lq := leAt b 91 1
                  coopFcnt := leAt b 92 4, coopSet := ((List.range 4).map (three 96)).filter (· != 0xFFFFF), pathCost := leAt b 108 4
                  done := leAt b 112 4, failed := leAt b 116 4, upDone := leAt b 120 4, upDup := leAt b 124 4, host := takeBytes b 128 320
                  groupDn := if leAt b 8 3 % 2 ^ 20 = 0 then (List.range 15).map (fun i => leAt b (448 + 4 * i) 4) else [] }

/-- Working records come back from the endpoint store (R282, R576 step 10). -/
def State.bootEps (s : State) : State :=
  if ! s.anyDrive || s.sec.crk.isNone then s
  else
    let eps := s.sto.epStore.filterMap (fun x => (EpRec.ofBytes x.2).map (fun e => (x.1, e)))
    ({ s with net := { s.net with eps := eps } }).showEp

/-- The newest ageing record on the scorebook gives the counters back (R553). -/
def State.bootAge (s : State) : State :=
  match if s.anyDrive then (s.scb.ring.filter (fun r => r.event == 0x0A30)).getLast? else none with
  | some r => (s.wr Reg.AGE_LIFE_USED (word (leAt r.detail 2 4))).wr Reg.AGE_POWER_ON (word (leAt r.detail 6 4))
  | none => s

/-- Step 10: the drives found are adopted (R411, R576), sealed blocks start at the next unreserved counter range (R412), and what they hold is restored. Contents that no drive found carries are lost. -/
def State.bootDrives (s : State) (drives : List DriveFound) : State :=
  let held := drives.any (fun d => d.identify && (match d.label with | some (own, m, r) => own && m == s.rf Reg.STO_STO_CFG 0 2 && r == d.port | none => false))
  let s0 := { s with sto := { s.sto with mode := s.rf Reg.STO_STO_CFG 0 2, spoolGb := s.rf Reg.STO_SPOOL_GB 0 16, metGb := s.rf Reg.STO_MET_GB 0 16
                                         opPct := s.rf Reg.STO_STO_CFG 8 8, scbGib := s.rf Reg.SCB_SCB_CFG 16 8
                                         wcnt := (s.sto.wcnt / 2 ^ 24 + 1) * 2 ^ 24 } }
  let s1 := if held || drives.isEmpty then s0
    else { s0 with sto := { s0.sto with epStore := [], survArch := [], metArch := [] }, scb := { s0.scb with ring := [], perm := [] } }
  let s2 := drives.foldl (fun (s : State) d => if d.port < 2 then s.driveAttach d.port d.identify d.label d.extents d.speed d.width else s) s1
  let s3 := s2.showOp
  (s3.bootEps.bootAge).showScb

/-- Step 9: firmware runs; the pool has its size (R303), and the regions of device firmware stand (R515). -/
def State.bootLoad (s : State) : State :=
  let s1 := s.wr Reg.QMG_POOL_FREE (word (s.rf Reg.QMG_POOL_CFG 0 7 * 1048576))
  { s1 with qmg := { size := s.rf Reg.QMG_POOL_CFG 0 7 * 1048576, hotSize := s.rf Reg.QMG_HOT_CFG 0 18 }
            ump := { s1.ump with regions := fwRegions (s.rf Reg.QMG_POOL_CFG 0 7) }, sec := { s1.sec with drbgAt := s.now } }

/-- The first mode after a boot (R577, R580). -/
def State.firstMode (s : State) : Nat := if s.rb Reg.SYS_STRAP 1 && ! s.md.safeLow && ! s.sec.recovery then 2 else 9

/-- Step 11: the first mode is entered, with `SOURCE` 7 and no change counted; `SAFE_N` low forces it to SAFE (R492); `BOOT_STAT` is complete (R576, R577, R581). -/
def State.bootEnter (s : State) (st : Status) : State :=
  let e := s.enterMode { mode := s.firstMode, src := 7, fromLt := s.lt }
  let s1 := { e with md := { e.md with change := none }, boot := { e.boot with running := false } }
  let s2 := (s1.wb Reg.SYS_MODE_STAT 9 false).wb Reg.SYS_MODE_STAT 10 s.md.safeLow
  let s3 := if s.md.safeLow then (s2.cause 0x002 2).pageRecord 0x002 0x02 1 (detail 0 0 0) else s2
  s3.wr Reg.SYS_BOOT_STAT (word (11 + 16 + (if s.sec.recovery then 32 else 0) + s.sec.slot % 2 * 64 + st % 256 * 2 ^ 8
    + min 65535 ((s.now - s.boot.startAt) / msec) * 2 ^ 16))

/-- Step 8, and again after step 10 where that has found a drive with the third copies (R416, R576, log entry 216). -/
def State.bootAgain (s : State) : State := if s.anyDrive then s.bootVault else s

/-- BOOT_COMPLETE (R576): the steps of the boot, in order, up to the first mode. In recovery the pool and the regions stand as after step 9, and no vault datum and no drive is touched (R580). -/
def State.bootComplete (s : State) (drives : List DriveFound) (banks : Nat) : State :=
  if ! s.boot.running then s
  else
    let (s1, st) := ((s.bootOtp banks).bootFlash).bootImage
    let s2 := if s1.sec.recovery then s1.bootLoad else (((s1.bootVault).bootLoad).bootDrives drives).bootAgain
    s2.showSec.bootEnter st

/-! ## Image submissions (R447, R455, R580) -/

/-- Outside RETIRED a security submission is open to every state (R454, R455). -/
def State.imageOp (s : State) (c : Sub) (body : State → State) : State := if ! s.notRetired then s.finishTag c .refused else body s.secRequest

/-- The slot that the boot control record does not name as active. -/
def State.spareSlot (s : State) : Nat := 1 - s.bootActive

/-- IMAGE_WRITE (R455, R579); `data` is what the device reads at the source, `ok` says whether the flash took it (R475). -/
def State.imageWrite (s : State) (c : Sub) (data : List Byte) (ok : Bool) : State :=
  s.imageOp c (fun s =>
    let off := leAt c.part 4 4
    let n := leAt c.part 16 4
    if n % 4096 ≠ 0 || 16777216 < n || 83886080 < off + n then s.finishTag c .refused
    else if ! ok then ((s.hostRead (leAt c.part 8 8) n).incF Reg.XSPI_XSPI_ERR 16 16).finishTag c .resourceRetry
    else ((s.hostRead (leAt c.part 8 8) n).flashWrite (imgBase s.spareSlot + off) (takeBytes data 0 n)).finishTag c .done)

/-- IMAGE_ACTIVATE (R447, R580): the inactive slot is checked and named as the trial of the next boot; in recovery a device reset follows. -/
def State.imageActivate (s : State) (c : Sub) : State :=
  s.imageOp c (fun s =>
    let (s1, st) := s.imageCheck s.spareSlot
    let s2 := if s.sec.recovery then s1.wf Reg.SYS_BOOT_STAT 8 8 st else s1
    if st ≠ Status.done then s2.finishTag c st
    else
      let s3 := (s2.bootWrite s2.bootActive s2.spareSlot).finishTag c .done
      if s.sec.recovery then s3.deviceReset 4 else s3)

/-- The trial is still open: the same tick as its expiry counts as in time (R16, R447). -/
def State.trialOpen (s : State) : Bool := s.sec.inTrial && decide (s.now ≤ s.sec.bootAt + s.rf Reg.SEC_BOOT_CFG 0 16 * 1000 * msec)

/-- BOOT_CONFIRM (R447): the trial slot becomes active, `FW_SVN` rises, and keys are revoked. -/
def State.bootConfirm (s : State) (c : Sub) : State :=
  s.imageOp c (fun s =>
    if ! s.trialOpen then s.finishTag c .refused
    else
      let k := s.sec.slot
      let svn := max (s.rf Reg.OTP_FW_SVN 0 7) (leAt s.sec.header 7 1)
      let signer := s.vendorOf (takeBytes s.sec.header 64 32)
      let rev := (List.range 4).foldl (fun v i => if leAt s.sec.header 6 1 / 2 ^ i % 2 = 1 && signer != some i then v ||| word (2 ^ (4 + i)) else v) (0 : Word)
      let s0 := s.bootWrite k 0xFF
      let s1 := { s0 with sec := { s0.sec with inTrial := false } }
      let s2 := (s1.wf Reg.OTP_FW_SVN 0 7 svn).wr Reg.OTP_KEY_STAT (s1.rd Reg.OTP_KEY_STAT ||| rev)
      let s3 := ((s2.wf Reg.SEC_BOOT_STAT 16 7 svn).wb Reg.SEC_BOOT_STAT 1 false)
      (s3.record 0x010 0x1037 0 (detail 0 k svn)).finishTag c .done)

/-- TRIAL_EXPIRY (R447): the time has passed without confirmation; the trial is withdrawn and the device resets. -/
def State.trialExpiry (s : State) : State := if s.sec.inTrial && ! s.trialOpen && ! s.arrives (fun i => match i with | .bootConfirm .. => true | _ => false) then s.deviceReset 5 else s

end Sys2Proof.Machine
end

