-- ==== Sys2Proof/Machine/Test.lean ====
section
/-! DEFINITION. Self-tests and analogue test buses (R558 to R564). -/

namespace Sys2Proof.Machine

/-- A write of `TST_CMD` (R561, R563): ignored and counted outside SERVICE, and while a test runs. -/
def State.testStart (s : State) (test port cond : Nat) : State :=
  if s.mode ≠ 10 || s.tst.isSome then s.ignored 0x00A
  else { s.wb Reg.ATB_TST_STAT 0 true with tst := some (test, port, cond), dap := { s.dap with tstAt := s.now } }

/-- `TST_RES` of what a test found, and whether it passed (R561, R562). -/
def testValue : TestOut → Nat × Bool
  | .sram hits => (min 2047 hits.length, hits.isEmpty)
  | .d2d e => (min 65535 e, e == 0)
  | .loop g n => (satField 12 g + min 4095 n * 2 ^ 16, decide (-100 ≤ g) && decide (g ≤ 100) && decide (500 ≤ n))
  | .aes bad => (bad.foldl (fun v i => if i < 4 then Nat.lor v (2 ^ i) else v) 0, bad.isEmpty)
  | .trng bad => (bad.foldl (fun v i => if i < 4 then Nat.lor v (2 ^ i) else v) 0, bad.isEmpty)

/-- The number of the test that gives such a result. -/
def testKind : TestOut → Nat
  | .sram _ => 1
  | .d2d _ => 2
  | .loop _ _ => 3
  | .aes _ => 4
  | .trng _ => 5

/-- A failure enters the fault counting of its own class (R539, R561). -/
def State.testFaults (s : State) (p c : Nat) : TestOut → State
  | .sram hits => hits.foldl State.scrubHit s
  | .d2d e => if e = 0 then s else s.d2dFail p true
  | .loop g n => if (testValue (.loop g n)).2 then s else s.convFault p c
  | .aes bad => s.aesKat bad
  | .trng bad => bad.foldl (fun s n => s.trngFail n) s

/-- What a test covers (R561): the AES cores in service, and the entropy sources in use. -/
def State.testSeen (s : State) : TestOut → TestOut
  | .aes bad => .aes (bad.filter (fun n => decide (n < 4) && s.rb Reg.SEC_AES_STAT n))
  | .trng bad => .trng (bad.filter (fun n => decide (n < 4) && s.rb Reg.SEC_TRNG_STAT n))
  | .sram hits => .sram hits
  | .d2d e => .d2d e
  | .loop g n => .loop g n

/-- A test can have come to its end (R561, R562): the link test runs in a quiet region, and the loopback test takes 1.2 ms from its start (log entry 214). -/
def State.testRan (s : State) : Nat → Nat → Nat → Bool
  | 2, _, _ => s.quiet
  | 3, p, c => match s.loopStart p c with
    | some e => decide (e + 1200 * usec ≤ s.now)
    | none => false
  | _, _, _ => true

/-- TEST_DONE (R561): the test in progress ends. -/
def State.testDone (s : State) (found : TestOut) : State :=
  let r := s.testSeen found
  match s.tst with
  | some (k, p, c) =>
    if k ≠ testKind r || ! s.testRan k p c then s
    else
      let (v, ok) := testValue r
      (s.testEnd (if ok then .done else .checkFail) v).testFaults p c r
  | none => s

/-- A node code of R558. -/
def atbNode (n : Nat) : Bool :=
  decide (n ≤ 0x06) || (decide (0x10 ≤ n) && decide (n ≤ 0x17)) || (decide (0x20 ≤ n) && decide (n ≤ 0x25))
    || (decide (0x30 ≤ n) && decide (n ≤ 0x3B)) || n == 0x40 || n == 0x41

/-- ATB_SELECT (R558, R560): a write of `ATB_SEL_b`; `FORCE` is taken only through the debug port at D3, and a code that names no node is ignored. -/
def State.atbSelect (s : State) (b : Nat) (v : Word) (debug : Bool) : State :=
  if s.locked 0x00A || ! atbNode (fld v 0 7) then s
  else
    let force := debug && s.sec.dbg == 3 && bit v 8
    s.wr (Reg.ATB_ATB_SEL b) (setBit (setFld 0 0 7 (fld v 0 7)) 8 force)

/-- `ATB_SEL_b` as it reads (R558): the bus of higher number of a die reads no node while both select the same one. -/
def State.atbView (s : State) (b : Nat) : Word :=
  let v := s.rd (Reg.ATB_ATB_SEL b)
  if b % 2 = 1 && fld v 0 7 == s.rf (Reg.ATB_ATB_SEL (b - 1)) 0 7 then setFld v 0 7 0 else v

end Sys2Proof.Machine
end

