-- ==== Sys2Proof/Machine/Fire.lean ====
section
/-! DEFINITION. Fixtures at their commit point, at their prewarm lead, and the actions of R81 that no line file carries: bank swaps, engine wakes and events, converter triggers, host events and mode wakes. -/

namespace Sys2Proof.Machine

/-- FIXTURE_COMMIT (R83): at its commit point the line time is converted into a physical instant. -/
def State.fixCommit (s : State) (i : Nat) : State :=
  let d := s.edgesTo (s.fixt i).lt
  if ! (s.fixt i).armed || ! s.trk.epoch || (tfind s.fix.commits i).isSome || d < 0 || ((100 * usec : Nat) : Int) < d then s
  else { s with fix := { s.fix with commits := tins s.fix.commits i (s.now + d.toNat) } }

/-- An engine is woken (R28, R84). -/
def State.engWake (s : State) (l : Nat) : State :=
  if s.eng.awake.contains l || 96 ≤ l then s else { s with eng := { s.eng with awake := l :: s.eng.awake } }

/-- A map set the work needs is fetched into its port's cache (R184). -/
def State.fetchNeed (s : State) (p : Nat) (n : MapNeed) : State :=
  match s.maps.sets.find? (fun m => m.port == p && m.peer == n.peer && m.bb == n.bb && m.cond == n.cond && m.rx == n.rx && m.mapId == n.mapId) with
  | some m => s.cacheFetch m
  | none => s

/-- PREWARM_WAKE (R84, R184): within the lead of an armed fine fixture stopped PLLs restart; with `PREWARM` the named engine wakes and the map sets of its work are fetched. ACK_TX needs no prewarm (R81), and an entry written nearer to its line time than the lead gets none (R88). -/
def State.prewarmWake (s : State) (i : Nat) (needs : List MapNeed) : State :=
  let f := s.fixt i
  let d := s.edgesTo f.lt
  if ! f.armed || ! s.trk.epoch || s.mode < 3 || ! f.fine s.mode || d < 0 || (s.prewarmLead : Int) < d then s
  else
    let s1 := s.pllStart
    if ! f.prewarm || f.action = 0x03 || s.fix.noPre.contains i then s1
    else
      let s2 := s1.engWake (if f.pwEng = 0xFFFF then f.target else f.pwEng)
      needs.foldl (fun s n => s.fetchNeed ((f.target - 0x030) / 4) n) s2

/-- A fixture of an action with no enable of its own: it fires with `effect`, or is skipped (R82, R91). -/
def State.plainFire (s : State) (i action : Nat) (refused : Bool) (effect : State → Fixture → State) : State :=
  let f := s.fixt i
  match s.due i action with
  | none => s
  | some ok =>
    if s.fineStopped f || s.mode = 0 || refused then s.skip i .refused
    else if ! ok then s.skip i .deadlineMissed
    else match s.fixHeld f with
      | some st => s.skip i st
      | none => effect (s.fired i) f

/-- BANK_SWAP (R52, R57, R58, R81): a fixture fires the AT_LINE_TIME swap of its group, on no edge before its line time. Where the group's own fixture is skipped, no member swaps, and the request has the fixture's status. -/
def State.bankSwapFix (s : State) (i : Nat) : State :=
  let f := s.fixt i
  let g := f.target
  let own := i == g && (s.group g).pend
  if ltFuture f.lt s.lt then s else
  let s1 := s.plainFire i 0x04 false (fun s f =>
    if (s.group f.target).pend && s.rf (Reg.BANK_GRP_CTL f.target) 0 3 == 4 && s.groupTriggered f.target s.now then s.groupExchange f.target else s)
  if own && (s.due i 0x04).isSome && (s1.group g).pend then s1.groupFail g (s1.fixt i).result else s1

/-- ENGINE_WAKE (R81, R84). -/
def State.engineWakeFix (s : State) (i : Nat) : State := s.plainFire i 0x05 false (fun s f => (s.pllStart).engWake f.target)

/-- The converter that CONV_TRIGGER names is enabled and runs in the present mode (R91): metrology, surveillance, the housekeeping converter. -/
def State.convRuns (s : State) (k : Nat) : Bool := match k with
  | 0 => (List.range 4).any s.metRuns
  | 1 => s.srvRuns
  | _ => s.hkcRuns

/-- CONV_TRIGGER (R81, R368, R388, R392). -/
def State.convTriggerFix (s : State) (i : Nat) : State :=
  s.plainFire i 0x06 (! s.convRuns ((s.fixt i).arg0 % 256)) (fun s f => match f.arg0 % 256 with
    | 0 => s.snapTrigger
    | 1 => s.capTrigger 0
    | _ => s.hkcTrigger)

/-- ENGINE_EVENT (R81): the arguments pass to the engine. -/
def State.engineEventFix (s : State) (i : Nat) : State :=
  s.plainFire i 0x0A false (fun s f => { s with eng := { s.eng with events := s.eng.events ++ [(f.target, f.arg0, f.arg1)] } })

/-- HOST_EVENT (R81, R92). -/
def State.hostEventFix (s : State) (i : Nat) : State :=
  s.plainFire i 0x0B false (fun s f => (s.wr Reg.FIX_HOST_EVT (word f.arg0)).cause 0x004 2)

/-- MODE_WAKE (R81, R488, R493): the mode in `ARG0` is requested; in DORMANT and WATCH the wake is recorded. -/
def State.modeWakeFix (s : State) (i : Nat) : State :=
  s.plainFire i 0x0C false (fun s f => if s.mode = 1 || s.mode = 2 then s.wake 1 (f.arg0 % 16) else s.modeReq (f.arg0 % 16) 1)

/-- CTL_FIRE (R91, R396, R565): nothing fires while boundary scan holds the part. -/
def State.ctlFireFix (s : State) (i : Nat) : State :=
  match (if s.tapHolds then s.due i 0x07 else none) with
  | some _ => s.skip i .refused
  | none => if s.tapHolds then s else s.ctlFire i

end Sys2Proof.Machine
end

