-- ==== Sys2Proof/Machine/Flags.lean ====
section
/-! DEFINITION. The pins and counts that hardware computes from the state: `ALERT_N`, the PPS presence, the fixture list's next entry, engines by power state, and the umpire's and the rings' summaries. -/

namespace Sys2Proof.Machine

/-- A PROT page holds a cause that asserts `ALERT_N` (R111): FOLDBACK, OPEN, LN_SWAP, OPEN_NEUTRAL or VDRV_FAULT. -/
def State.protAlert (s : State) : Bool :=
  (List.range 4).any (fun p => (s.rd (Reg.INT_CAUSE (0x033 + 4 * p)) &&& 0xD6) != 0)

/-- `ALERT_N` is asserted (R69, R111, R344, R367, R401, R421, R425, R451, R519, R580). -/
def State.alert (s : State) : Bool :=
  s.protAlert || s.rb Reg.LTIME_TRK_STAT 9 || s.rf Reg.HFN_HOST_STAT 0 2 == 0 || s.rf Reg.SRV_MUTE_STAT 0 4 != 0
    || s.anyLockout || s.rb (Reg.INT_CAUSE 0x007) 0 || s.rb (Reg.INT_CAUSE 0x007) 1 || s.sto.wearAlert
    || s.sec.noEntropy != 0 || s.host.carded || s.sec.recovery

/-- The next fixture to fire: the armed entry with the earliest line time from now on, the lower index first (R89, R92). -/
def State.nextFix (s : State) : Option (Nat × Fixture) :=
  s.fix.entries.foldl (fun (acc : Option (Nat × Fixture)) e =>
    if ! e.2.armed then acc
    else match acc with
      | none => some e
      | some a => if (e.2.lt + 2 ^ 64 - s.lt) % 2 ^ 64 < (a.2.lt + 2 ^ 64 - s.lt) % 2 ^ 64 then some e else acc) none

/-- `PWR.ENG_STAT` (R497): running, clock-gated and power-gated engines. -/
def State.engStat (s : State) : Word :=
  let on := s.modeEngines.filter (fun l => decide (s.phys l < 105))
  let run := (on.filter s.eng.awake.contains).length
  word (run + (on.length - run) * 2 ^ 8 + (96 - on.length) * 2 ^ 16)

/-- Seconds of the debug lockout still to run (R510). -/
def State.lockLeft (s : State) : Nat :=
  if s.dap.lockAt = 0 then 0 else 60 - min 60 ((s.now - (s.dap.lockAt - 1)) / (1000 * msec))

end Sys2Proof.Machine
end

