-- ==== Sys2Proof/Machine/BusWrite.lean ====
section
/-! DEFINITION. Writes of register words: access codes, ranges, locks, banks and soft resets (R9, R13, R38, R41 to R59, R600), and the registers whose write is a command. -/

namespace Sys2Proof.Machine

/-! ## Ordinary registers (R13, R46, R50, R54, R600) -/

/-- The bits of a register that a write reaches: RWL and RWB fields not while the page is locked (R46). -/
def RegRow.mask (r : RegRow) (locked : Bool) : Nat := r.rw ||| (if locked then 0 else r.rwl ||| r.rwb)

/-- Every ranged field that the write reaches has a value in its range (R600). -/
def RegRow.fine (r : RegRow) (mask : Nat) (v : Word) : Bool :=
  r.rng.all (fun x => let (lo, w, least, most) := x
    ! mask.testBit lo || (decide (least ≤ fld v lo w) && decide (fld v lo w ≤ most)))

/-- A write of a banked register or memory lands in the shadow bank: the one before the swap in the fabric cycle of a swap (R54); held while a copy runs (R51). -/
def State.shadowWrite (s : State) (p : Nat) (key : Nat → Nat) (v : Word) : State :=
  let pg := s.page p
  if pg.swapCycle = s.fabric + 1 then s.wr (key pg.active) v
  else if pg.copying then s.setPage p { pg with held := pg.held ++ [(key (1 - pg.active), v)] }
  else s.bankWrite p (key (1 - pg.active)) v

/-- A write to a register that a row names: its writable bits take the value, or nothing does (R600). -/
def State.rowWrite (s : State) (a : Nat) (r : RegRow) (v : Word) : State :=
  let p := a / 0x1000
  let mask := r.mask (s.locked p)
  if ! r.fine mask v then s
  else if r.rwb ≠ 0 then (if mask = 0 then s else s.shadowWrite p (fun b => bankKey b a) (v &&& word mask))
  else s.wr a ((s.rd a &&& ~~~word mask) ||| (v &&& word mask))

/-- A write to a register with no action of its own (R13, R38): an offset that names none is ignored. -/
def State.plainWrite (s : State) (a : Nat) (v : Word) : State := match findRow (pageRows (a / 0x1000)) (a % 0x1000) with
  | some r => s.rowWrite a r v
  | none => s

/-! ## The page header (R40 to R45) -/

/-- What stands behind registers that a soft reset returned to reset follows them (R44): the tracker is in ACQUIRE with no run, slew or UTC, the conductors show no fault latched, the FIFOs of the serial blocks are empty, check units are fresh, no test or injected group runs, the umpire's regions are off unless the policy lock freezes them (R505, R515), the upstream port is in SEARCH; the level and lifecycle shown by the SEC page stand. -/
def State.srstFresh (s : State) (p : Nat) : State :=
  if p = 0x003 then s.setTrk { s.trk with rate := 0, heldF := 0, slewNs := 0, stopped := ! s.rb Reg.LTIME_TRK_CTL 0, runLen := 0, rangeRun := 0, rocofRun := 0, disRun := 0, utcArmed := false, utcAvail := false, utcMarked := false, utcRun := 0 }
  else if p = 0x00A then { s with tst := none }
  else if p = 0x00C then { s with hkc := { s.hkc with inj := false, late := false, calWait := false } }
  else if p = 0x00D then { s with io := { s.io with chks := [] } }
  else if p = 0x006 then (if (s.page 0x006).policy then s else { s with ump := { s.ump with regions := [] } })
  else if p = 0x010 then (s.wf Reg.SEC_DBG_STAT 0 2 s.sec.dbg).showSec
  else if p = 0x028 then (s.setUart 0 { cts := (s.uart 0).cts }).setSleep []
  else if p = 0x029 then s.setUart 1 { cts := (s.uart 1).cts }
  else if p = 0x02A then { s with io := { s.io with i2c := {} } }
  else if 0x030 ≤ p && p < 0x040 && p % 4 = 2 then (List.range 4).foldl (fun s ch => s.setChan ((p - 0x030) / 4) ch { s.chan ((p - 0x030) / 4) ch with held := none }) s
  else if 0x030 ≤ p && p < 0x040 && p % 4 = 3 then
    (List.range 3).foldl (fun s c => s.setCond ((p - 0x030) / 4) c { s.cond ((p - 0x030) / 4) c with supply := false, thermOff := false, fold := false, opened := false, therm := false, limit := false, limUs := 0, openRun := 0 }) s
  else if 0x060 ≤ p && p < 0x070 && p % 4 = 2 && s.isUp ((p - 0x060) / 4) then
    ({ s with mac := { s.mac with up := { s.mac.up with inForce := false, net := none } } }).showLease
  else s

/-- A write of `BLK_CTL` (R41, R44). -/
def State.blkCtlWrite (s : State) (p : Nat) (v : Word) : State :=
  let w := s.rd (Reg.BLK_CTL p)
  let w1 := if s.locked p then w else setBit (setBit w 0 (bit v 0)) 2 (bit v 2)
  let s1 := s.wr (Reg.BLK_CTL p) (setBit w1 3 (bit v 3))
  if bit v 1 && allocated p && ! (s.page p).srst then
    ((if p = 0x004 then s1.dropHeld else if p = 0x003 then s1.anchor else s1).softReset p).srstFresh p
  else s1

/-- A write of `BANK_CTL` (R41, R51 to R55): the fields keep their values while a swap is pending, and two commands at once are none. -/
def State.bankCtlWrite (s : State) (p : Nat) (v : Word) : State :=
  if ! banked p then s
  else if decide (2 ≤ ([12, 13, 14].filter (bit v)).length) then s.ignored p
  else
    let s1 := if s.locked p || (s.page p).pend then s else s.wr (Reg.BANK_CTL p) (v &&& 0x37F)
    if bit v 12 then s1.soloReq p
    else if bit v 13 then s1.soloCancel p
    else if bit v 14 then s1.bankCopy p
    else s1

/-- A write of `OWNER` (R41, R47): by domain 0 only, which the umpire has checked. -/
def State.ownerWrite (s : State) (p : Nat) (v : Word) : State := s.wr (Reg.OWNER p) (v &&& 0x87)

/-- A write of `FAULT_WIN` (R42): ignored with 0 in a field, and while locked. -/
def State.faultWinWrite (s : State) (p : Nat) (v : Word) : State :=
  if s.locked p || fld v 0 16 = 0 || fld v 16 8 = 0 then s else s.wr (Reg.FAULT_WIN p) (v &&& 0xFFFFFF)

/-- A write to a header register (R40). `FAULT_STAT.LASTING` set by hardware in the same fabric cycle stays set (R15). -/
def State.headerWrite (s : State) (p o : Nat) (v : Word) : State :=
  match o with
  | 0x00C => s.blkCtlWrite p v
  | 0x014 => s.causeClear p v
  | 0x018 => s.maskWrite p v
  | 0x01C => s.intSet p v
  | 0x028 => s.bankCtlWrite p v
  | 0x030 => s.lockWrite p v
  | 0x034 => s.ownerWrite p v
  | 0x038 => s.faultWinWrite p v
  | 0x03C => if bit v 8 && (s.page p).lastAt != s.fabric + 1 then s.wb (Reg.FAULT_STAT p) 8 false else s
  | _ => s

/-! ## System pages -/

/-- A master of firmware, whose range in the fixture list is the firmware's (R87): every one but the host function, its DMA channels and the debug port. -/
def State.hostRange (s : State) (m : Nat) : Bool :=
  m == 0x300 || m == 0x380 || (decide (0x100 ≤ m) && decide (m < 0x140) && (s.mst m).owner == 0x300)

/-- Writes to page 0x000 (R495, R573, R582): a mode request with `REQ`, and a device reset by `RST_CTL`. -/
def State.sysWrite (s : State) (o : Nat) (v : Word) : State :=
  match o with
  | 0x100 =>
    let s1 := s.wf Reg.SYS_MODE_REQ 0 4 (fld v 0 4)
    if bit v 8 then s1.modeReq (fld v 0 4) 0 else s1
  | 0x050 => if bit v 0 && ! s.locked 0x000 then s.deviceReset 4 else s
  | _ => s

/-- A write of `TRK_CTL` (R78): each field in turn, lowest bit first. -/
def State.trkCtlWrite (s : State) (v : Word) : State :=
  let s1 := s.trkEnable (bit v 0)
  let s2 := if bit v 1 then s1.trkHold else s1.wb Reg.LTIME_TRK_CTL 1 false
  let s3 := if bit v 2 then s2.trkRestart else s2
  let s4 := if bit v 3 then s3.snap else s3
  let s5 := if bit v 4 then s4.cycApply else s4
  if bit v 5 then s5.utcArm else s5

/-- A write of `ENT_CMD` (R92); operation 0 is unassigned (R600). -/
def State.entCmd (s : State) (host : Bool) (op : Nat) : State :=
  match op with
  | 1 => s.entRead
  | 2 => s.entWrite host
  | 3 => s.entDisarm host
  | _ => s

/-- Writes to page 0x005 (R56): a group's request, and its settings, kept while a request is pending. -/
def State.bankPageWrite (s : State) (a : Nat) (v : Word) : State :=
  let o := a % 0x1000
  let g := (o - 0x040) / 0x20
  if o < 0x040 || 16 ≤ g then s
  else if o % 0x20 = 0x0C then
    (if bit v 0 && bit v 1 then s.ignored 0x005
     else if bit v 0 then s.groupReq g
     else if bit v 1 then s.groupCancel g
     else s)
  else if (s.group g).pend then s
  else s.plainWrite a v

/-- A region as the registers of R521 show and write it. -/
def State.region (s : State) (i : Nat) : Region := tget {} s.ump.regions i

/-- Writes to page 0x006 (R515, R521): the selected region, for regions below 64 by CC 88 and CC 91 only; a base above the limit leaves `EN` 0. -/
def State.umpWrite (s : State) (m a : Nat) (v : Word) : State :=
  let o := a % 0x1000
  if o < 0x04C || 0x05C < o then s.plainWrite a v
  else
    let i := s.rf Reg.UMP_RGN_SEL 0 7
    let r := s.region i
    if s.locked 0x006 || (decide (i < 64) && m != 88 && m != 91) then s
    else
      let r1 : Region := match o with
        | 0x04C => { r with base := r.base / 2 ^ 20 * 2 ^ 20 + fld v 12 20 }
        | 0x050 => { r with base := r.base % 2 ^ 20 + fld v 0 16 * 2 ^ 20 }
        | 0x054 => { r with lim := r.lim / 2 ^ 20 * 2 ^ 20 + fld v 12 20 }
        | 0x058 => { r with lim := r.lim % 2 ^ 20 + fld v 0 16 * 2 ^ 20 }
        | _ => { r with rights := v &&& 0x8000FFFF }
      let r2 : Region := if r1.lim < r1.base then { r1 with rights := setBit r1.rights 31 false } else r1
      { s with ump := { s.ump with regions := tset {} s.ump.regions i r2 } }

/-- A write of `BENCH_CMD` (R555, log entry 132). -/
def State.benchCmd (s : State) (v : Word) : State :=
  let s1 := if bit v 8 then s.benchSubstitute (fld v 0 7) else s
  if bit v 9 then s1.benchSelftest else s1

/-- Writes to page 0x00A (R560, R561, R564); a test or conductor that is not assigned is ignored (R600). -/
def State.atbWrite (s : State) (m o : Nat) (v : Word) : State :=
  if 0x040 ≤ o && o < 0x050 then s.atbSelect ((o - 0x040) / 4) v (m == 0x380)
  else if o = 0x050 then
    (if fld v 0 4 = 0 || 5 < fld v 0 4 || fld v 10 2 = 3 then s else s.testStart (fld v 0 4) (fld v 8 2) (fld v 10 2))
  else s

/-- A write of `HKC_CTL` (R393, R407): a calibration runs when `EN` is set, and on request; an injected trigger of the same write goes first. -/
def State.hkcCtlWrite (s : State) (v : Word) : State :=
  let was := s.rb Reg.HKC_HKC_CTL 0
  let s1 := if s.locked 0x00C then s else s.wb Reg.HKC_HKC_CTL 0 (bit v 0)
  let s2 := if bit v 2 then s1.hkcTrigger else s1
  if bit v 1 || (! was && s2.rb Reg.HKC_HKC_CTL 0) then s2.hkcCal else s2

/-- Writes to page 0x00D (R477 to R481). While a unit is enabled only `EN` of its configuration changes; enabling starts it afresh. -/
def State.chkWrite (s : State) (a : Nat) (v : Word) : State :=
  let o := a % 0x1000
  let u := (o - 0x080) / 0x20
  if o = 0x040 then s.chkClear (fld v 0 16)
  else if o = 0x044 then s.chkFeed (fld v 8 4) [BitVec.ofNat 8 (fld v 0 8)]
  else if o < 0x080 || 16 ≤ u then s
  else if o % 0x20 = 0x08 then s.chkFeed u (leBytes 4 v.toNat)
  else if o % 0x20 = 0x00 then
    let cfg := Reg.CHK_CHK_CFG u
    let on := s.rb cfg 16
    let w := if on then setBit (s.rd cfg) 16 (bit v 16) else v
    if decide (fld v 8 8 < 4) && ! on then s
    else
      let s1 := s.plainWrite a w
      if ! on && s1.rb cfg 16 then s1.chkFresh u else s1
  else if o % 0x20 = 0x04 then
    let cfg := s.rd (Reg.CHK_CHK_CFG u)
    if bit cfg 16 || (bit cfg 2 && decide (fld cfg 8 8 ≤ fld v 0 8 + chkWidth (fld cfg 0 2))) then s else s.plainWrite a v
  else s

/-! ## Security, links, rings and queues -/

/-- A write of `SLOT_CMD` by master `m` (R436, R456): operations and sources that are not assigned are ignored (R600). -/
def State.slotCmd (s : State) (m : Nat) (v : Word) : State :=
  if fld v 8 2 = 1 && fld v 12 2 < 3 then s.slotDerive m (s.domain m) (fld v 0 6) (fld v 12 2) (fld v 16 6)
  else if fld v 8 2 = 2 then s.slotErase m (fld v 0 6)
  else s

/-- A write of `HL_CFG` (R339, R346): `EN` 0 on a port in use is the loss of its link. -/
def State.hlCfgWrite (s : State) (n a : Nat) (v : Word) : State :=
  let s1 := s.plainWrite a v
  if s.rb (Reg.HL_HL_CFG n) 0 && ! s1.rb (Reg.HL_HL_CFG n) 0 && s1.rf (Reg.HL_HL_STAT n) 0 3 != 0 then s1.linkLoss n else s1

/-- A write of `HOST_CTL` (R341, R345). -/
def State.hostCtlWrite (s : State) (v : Word) : State :=
  let s1 := if bit v 0 then s.heartbeat else s
  if bit v 1 then s1.hostSwitch else s1

/-- A write of `HOST_WD` (R347): 0, or 10 to 60,000 ms. -/
def State.hostWdWrite (s : State) (a : Nat) (v : Word) : State :=
  let n := fld v 0 16
  if n = 0 || (decide (10 ≤ n) && decide (n ≤ 60000)) then
    let s1 := s.plainWrite a v
    -- With the watchdog off, a host on an ACTIVE port is no longer absent (R344, R345).
    if n = 0 && s1.rf Reg.HFN_HOST_WD 0 16 = 0 && s1.hostState = 0 && s1.activePort.isSome then s1.hostBack else s1
  else s

/-- Writes to page 0x01B (R348): `RT_VEC` sets the route of the page selected. -/
def State.msixWrite (s : State) (a : Nat) (v : Word) : State :=
  if a % 0x1000 = 0x044 then s.wr (routeBase + s.rf Reg.MSIX_RT_SEL 0 14) (v &&& 0x81FF) else s.plainWrite a v

/-- A write of `STO_CTL` (R411). -/
def State.stoCtl (s : State) (v : Word) : State := (List.range 2).foldl (fun s n => if bit v n then s.driveAccept n else s) s

/-- A write of `Q_CMD` (R319); operations 0 and 5 to 7 are unassigned (R600). -/
def State.qCmd (s : State) (op : Nat) : State :=
  match op with
  | 1 => s.qRead
  | 2 => (s.flushWork s.qSel).qDone .done
  | 3 => s.qSetLimit
  | 4 => s.qClearErr
  | _ => s

/-- A write of `POOL_LOW` (R308): `LOW` follows the new threshold. -/
def State.poolLowWrite (s : State) (a : Nat) (v : Word) : State :=
  let s1 := s.plainWrite a v
  s1.setPool s1.poolFree s1.poolRsv

/-! ## Serial ports, outputs and inputs -/

/-- Writes to a UART page (R457 to R467): `FLOW_CFG` and the sleep registers only where the port has them. -/
def State.uartWrite (s : State) (n a : Nat) (v : Word) : State :=
  match a % 0x1000 with
  | 0x040 =>
    let s1 := s.plainWrite a (if n = 0 then v &&& 0x7F else v)
    if ! s.rb (Reg.UART_UART_CTL n) 1 && s1.rb (Reg.UART_UART_CTL n) 1 then s1.uartStart n else s1
  | 0x044 => s.uartDiv n (fld v 0 16)
  | 0x048 => if fld v 16 12 ≤ s.charBits n then s else s.plainWrite a v
  | 0x04C => if bit v 0 then s.brkSend n else s
  | 0x050 => s.uartTx n (fld v 0 9)
  | 0x058 => if bit v 0 then s.uartPop n else s
  | 0x060 => if n = 0 then s else s.plainWrite a v
  | 0x070 => if n = 0 then s.plainWrite a v else s
  | _ => s

/-- Writes to page 0x02A (R470). How many clocks free SDA is not for a register write to say: a free value (log entry 3). -/
def State.i2cPageWrite (s : State) (a : Nat) (v : Word) : State :=
  match a % 0x1000 with
  | 0x044 => s.i2cCmd (fld v 0 12)
  | 0x04C => if bit v 0 then s.i2cPop else s
  | 0x054 =>
    let s1 := if bit v 0 then s.drawn.i2cRecover (s.free.toNat % 11) else s
    if bit v 1 then s1.i2cAbort else s1
  | _ => s.plainWrite a v

/-- Writes to page 0x02B (R472). -/
def State.gpioWrite (s : State) (m a : Nat) (v : Word) : State :=
  match a % 0x1000 with
  | 0x048 => s.outSet m v
  | 0x04C => s.outClr m v
  | _ => s.plainWrite a v

/-- A write of `ARM_CMD` (R397, R400, R401), lowest bit first. -/
def State.armCmd (s : State) (v : Word) : State :=
  let n := s.rf Reg.CTL_ARM_SEL 0 3
  let s1 := if bit v 0 then s.outArm n (s.rd Reg.CTL_ARM_CYC).toNat (s.rd Reg.CTL_ARM_PH).toNat none else s
  let s2 := if bit v 1 then s1.ctlDisarmOut n else s1
  if bit v 2 then s2.clrLock n else s2

/-- Writes to page 0x02C (R408): `OUT_CFG.PORT`, `PHASE` and `OP_TIME` keep their values while the output is not IDLE; `FB_MAX` lies above `FB_MIN`. -/
def State.ctlWrite (s : State) (a : Nat) (v : Word) : State :=
  let o := a % 0x1000
  let n := (o - 0x080) / 0x20
  if o = 0x058 then s.armCmd v
  else if o = 0x044 then (s.plainWrite a v).showIlk
  else if o < 0x080 || 8 ≤ n then s.plainWrite a v
  else if o % 0x20 = 0x00 && s.outState n != 0 then
    (if fld v 2 2 = 3 then s else s.plainWrite a (setFld v 0 4 (s.rf a 0 4)))
  else if o % 0x20 = 0x04 && s.outState n != 0 then s
  else if o % 0x20 = 0x08 && decide (fld v 16 16 ≤ fld v 0 16) then s
  else s.plainWrite a v

/-! ## Line ports, PHYs and media access -/

/-- A write of `PORT_CTL` (R105, R112): bits forced to 0 stay 0; a rise of `TX_EN`, and `PROBE_REQ`, request probes. -/
def State.portCtlWrite (s : State) (p a : Nat) (v : Word) : State :=
  let was := s.rd a
  let s1 := s.plainWrite a v
  let s2 := (List.range 3).foldl (fun s c => if (s.cond p c).forcedOff then s.wb a c false else s) s1
  let s3 := (List.range 4).foldl (fun s ch => if (s.chan p ch).forcedOff then s.wb a (3 + ch) false else s) s2
  (List.range 3).foldl (fun s c => if bit v (8 + c) || (! bit was c && s.rb a c) then s.probeRequest p c else s) s3

/-- Writes to an LFE page of port `p` (R112 to R115); `EXCL_n` is written by R371 only, at every level (R506). -/
def State.lfeWrite (s : State) (p k a : Nat) (v : Word) : State :=
  let o := a % 0x1000
  if k = 0 && o = 0x040 then s.portCtlWrite p a v
  else if k = 0 && o = 0x04C then (List.range 3).foldl (fun s c => s.polRefresh p c) (s.plainWrite a v)
  else if k = 2 && o < 0x054 then (List.range 4).foldl (fun s ch => s.gainRefresh p ch) (s.plainWrite a v)
  else s.plainWrite a v

/-- A write of `NB_CTL` or `BB_CTL`: enables that load shedding forced to 0 stay 0 (R552). -/
def State.phyCtlWrite (s : State) (a : Nat) (off : Bool) (v : Word) : State :=
  s.plainWrite a (if off then setFld v 0 3 0 else v)

/-- A write of `MAP_CFG` (R185): `F_NOM` is one setting, on page 0x041. -/
def State.mapCfgWrite (s : State) (a : Nat) (v : Word) : State := s.plainWrite a (if a / 0x1000 = 0x041 then v else setBit v 0 false)

/-- Writes to a MAC page of port `p` (R222, R230 to R232): the slot schedule through its window, save on the UP port. -/
def State.macWrite (s : State) (p k a : Nat) (v : Word) : State :=
  let o := a % 0x1000
  if k = 1 && 0x800 ≤ o then
    (if s.locked (a / 0x1000) || s.isUp p then s
     else s.shadowWrite (a / 0x1000) (fun b => schedKey p b (s.rf (Reg.MAC_SCHED_SEL p) 0 5 * 512 + (o - 0x800) / 4)) v)
  else s.plainWrite a v

/-- Writes to a PHY page of port `p` (R146, R172). -/
def State.phyWrite (s : State) (bb : Bool) (p k a : Nat) (v : Word) : State :=
  let o := a % 0x1000
  if ! bb && k = 0 && o = 0x04C then s.phyCtlWrite a (s.bench.nbOff.contains p) v
  else if bb && k = 0 && o = 0x040 then s.phyCtlWrite a (s.bench.bbOff.contains p) v
  else if k = 1 && o = 0x040 then s.mapCfgWrite a v
  else s.plainWrite a v

/-- Writes to the SRV pages (R349, R367, R368, R373 to R375): `SRV_CTL.EN` is held at 1 while a list is installed. -/
def State.srvWrite (s : State) (a : Nat) (v : Word) : State :=
  if a = Reg.SRV_SRV_CTL then (if s.xlInstalled && ! bit v 0 then s else s.plainWrite a v)
  else if a = 0x07B * 0x1000 + 0x048 then s.muteClear (fld v 0 4)
  else if a = 0x07C * 0x1000 + 0x044 then
    let s1 := if bit v 0 then s.capTrigger 2 else s
    if bit v 1 then s1.capArm else s1
  else s.plainWrite a v

/-- Writes to page 0x081 (R404): `PHASE_CORR` lies within 100,000 ns. -/
def State.coefWrite (s : State) (a : Nat) (v : Word) : State :=
  let x := signedField 32 v.toNat
  if 0x400 ≤ a % 0x1000 && a % 0x1000 % 0x10 = 8 && (decide (x < -100000) || decide (100000 < x)) then s else s.plainWrite a v

/-! ## Legacy slots (R533, R535, R536) -/

/-- A write of `SLOT_CMD` (R525, R529, R534), lowest bit first. -/
def State.lgcCmd (s : State) (k : Nat) (v : Word) : State :=
  let s1 := if bit v 0 then s.cardClr k else s
  let s2 := (List.range 4).foldl (fun s c => if bit v (4 + c) then s.ctxStart k c else s) s1
  let s3 := (List.range 4).foldl (fun s c => if bit v (8 + c) then s.ctxStop k c else s) s2
  let s4 := if bit v 12 then s3.tlbInvAll k else s3
  if bit v 13 then s4.tlbInvVa k (fld v 16 8) else s4

/-- A write of `FLT_CTL` of record `r` (R527). -/
def State.fltCtl (s : State) (k r : Nat) (v : Word) : State :=
  let s1 := if bit v 0 then s.fltResume k r else s
  if bit v 1 then s1.fltAbort k r else s1

/-- A write of `CH_k` (R533): the slot is STOPPED; the channel named leaves or joins the slot (R522). -/
def State.lgcChWrite (s : State) (k a : Nat) (v : Word) : State :=
  if ! s.slotStopped k || s.locked (lgcPage k) then s
  else
    let s1 := (s.slotChans k).foldl (fun s m => s.setMst m { s.mst m with owner := 0x300 }) s
    (s1.plainWrite a v).slotOwn k

/-- Writes to a legacy slot's pages (R530, R533, R535, R536): a context's registers while it is STOPPED or FAULTED, and `STEP` never. -/
def State.lgcWriteReg (s : State) (k j a : Nat) (v : Word) : State :=
  let o := a % 0x1000
  if j = 0 then
    (if o = 0x040 then s.slotCtl k v
     else if o = 0x044 then s.lgcCmd k v
     else if 0x050 ≤ o && o < 0x060 then s.lgcChWrite k a v
     else if 0x060 ≤ o && o < 0x080 then (if s.ctxState k ((o - 0x060) / 8) = 0 then s.plainWrite a v else s)
     else s.plainWrite a v)
  else if j = 1 then (if 0x040 ≤ o && o < 0x140 && (o - 0x040) % 0x20 = 0x18 then s.fltCtl k ((o - 0x040) / 0x20) v else s)
  else if j = 2 then
    let c := (o - 0x400) / 0x100
    (if o < 0x400 || o % 0x100 = 0x84 || s.ctxState k c = 1 || s.ctxState k c = 2 then s else s.plainWrite a v)
  else s

/-! ## One word -/

/-- Writes of block registers on pages 0x000 to 0x02F. -/
def State.lowWrite (s : State) (m a : Nat) (v : Word) : State :=
  let p := a / 0x1000
  let o := a % 0x1000
  match p with
  | 0x000 => s.sysWrite o v
  | 0x001 =>
    let s1 := s.plainWrite a v
    s1.wb Reg.CLK_CLK_STAT 4 (s1.rb Reg.CLK_CLK_CFG 0 && s1.rb Reg.CLK_CLK_STAT 3)
  | 0x003 => if o = 0x040 then s.trkCtlWrite v else s.plainWrite a v
  | 0x004 => if o = 0x04C then s.entCmd (s.hostRange m) (fld v 0 2) else s.plainWrite a v
  | 0x005 => s.bankPageWrite a v
  | 0x006 => s.umpWrite m a v
  | 0x008 => if o = 0x040 then s.benchCmd v else s.plainWrite a v
  | 0x00A => s.atbWrite m o v
  | 0x00C => if o = 0x040 then s.hkcCtlWrite v else s.plainWrite a v
  | 0x00D => s.chkWrite a v
  | 0x011 => if o = 0x040 then s.slotCmd m v else s.plainWrite a v
  | 0x018 => s.hlCfgWrite 0 a v
  | 0x019 => s.hlCfgWrite 1 a v
  | 0x01A => if o = 0x040 then s.hostCtlWrite v else if o = 0x044 then s.hostWdWrite a v else s.plainWrite a v
  | 0x01B => s.msixWrite a v
  | 0x01F => if o = 0x060 then s.stoCtl v else s.plainWrite a v
  | 0x020 => if o = 0x04C then s.poolLowWrite a v else s.plainWrite a v
  | 0x021 => if o = 0x044 then s.qCmd (fld v 0 3) else s.plainWrite a v
  | 0x028 => s.uartWrite 0 a v
  | 0x029 => s.uartWrite 1 a v
  | 0x02A => s.i2cPageWrite a v
  | 0x02B => s.gpioWrite m a v
  | 0x02C => s.ctlWrite a v
  | _ => s.plainWrite a v

/-- Writes of block registers on pages from 0x030 on. -/
def State.highWrite (s : State) (a : Nat) (v : Word) : State :=
  let p := a / 0x1000
  let o := a % 0x1000
  if p < 0x040 then s.lfeWrite ((p - 0x030) / 4) (p % 4) a v
  else if p < 0x050 then s.phyWrite false ((p - 0x040) / 4) (p % 4) a v
  else if p < 0x060 then s.phyWrite true ((p - 0x050) / 4) (p % 4) a v
  else if p < 0x070 then s.macWrite ((p - 0x060) / 4) (p % 4) a v
  else if p = 0x071 && 0x200 ≤ o && o < 0x400 then s.epWinWrite ((o - 0x200) / 4) v
  else if 0x078 ≤ p && p < 0x080 then s.srvWrite a v
  else if p = 0x081 then s.coefWrite a v
  else if 0x100 ≤ p then s.lgcWriteReg ((p - 0x100) / 4) (p % 4) a v
  else s.plainWrite a v

/-- A DMA channel's owner as the DMA pages show it (R31, log entry 148): the first word of the channel's window. -/
def dmaWindow (a : Nat) : Option Nat :=
  let p := a / 0x1000
  let o := a % 0x1000
  if (p = 0x084 || p = 0x085) && decide (0x040 ≤ o) && decide (o < 0x840) && o % 0x40 = 0 then some (0x100 + 32 * (p - 0x084) + (o - 0x040) / 0x40) else none

/-- A write of a DMA channel's owner (R31, R512, log entry 148): device firmware's, which the domains 0, 1, 5 and 6 run; the owner is a logical engine or the host function. -/
def State.dmaOwnWrite (s : State) (m ch : Nat) (v : Word) : State :=
  let o := fld v 0 16
  if [0, 1, 5, 6].contains (s.domain m) && ! s.locked 0x084 && (decide (o < 96) || o == 0x300) then s.setMst ch { s.mst ch with owner := o } else s

/-- A register whose write replaces a value and does nothing else, so that writes of one fabric cycle may be set in the order of R48 whatever their order in the queue (log entry 199). -/
def State.replaces (s : State) (a : Nat) (v : Word) : Bool :=
  let o := a % 0x1000
  if o < 0x040 then o == 0x018 || o == 0x034 || (o == 0x038 && fld v 0 16 != 0 && fld v 16 8 != 0)
  else match findRow (pageRows (a / 0x1000)) o with
    | some r => r.fine (r.mask (s.locked (a / 0x1000))) v
    | none => false

/-- A whole, aligned word written to the register window at `a` by master `m`, which the umpire has let pass (R13, R38, R44). A value that a higher master wrote there in the same fabric cycle remains (R48). -/
def State.writeWord (s : State) (m a : Nat) (v : Word) : State :=
  let p := a / 0x1000
  let o := a % 0x1000
  let x : ArbRec := { addr := a, len := 4, m := m, dl := false }
  if ! allocated p then s.ignored 0x000
  else if (s.page p).srst && o != 0x014 && o != 0x018 then s
  else if s.replaces a v && s.overtaken x a then s
  else
    let s1 := if s.replaces a v then s.arbNote x else s
    if o < 0x040 then s1.headerWrite p o v
    else if p < 0x030 then s1.lowWrite m a v
    else match dmaWindow a with
      | some ch => s1.dmaOwnWrite m ch v
      | none => s1.highWrite a v

/-- A write of `n` bytes at `a` (R9): whole aligned words, or nothing, counted on the page of the first byte; SYS counts for a page that is not allocated (R38). An aligned write whose length is no multiple of 4 is ignored whole, the model's choice (log entry 149). -/
def State.regWrite (s : State) (m a : Nat) (bytes : List Byte) : State :=
  if a % 4 ≠ 0 || bytes.length % 4 ≠ 0 then s.ignored (if allocated (a / 0x1000) then a / 0x1000 else 0x000)
  else (List.range (bytes.length / 4)).foldl (fun s i => s.writeWord m (a + 4 * i) (word (leAt bytes (4 * i) 4))) s

end Sys2Proof.Machine
end

