-- ==== Sys2Proof/Machine/BusRead.lean ====
section
/-! DEFINITION. Reads of register words: no read changes anything (R14), and the registers that show what the state holds behind them (R38, R50, R599). -/

namespace Sys2Proof.Machine

/-! ## The header (R40, R41, R599) -/

/-- The domain of page `p` is powered in the present mode (R482, R485, R603): the always-on pages from DORMANT up, the pages on PCLK and on the AFE dies from WATCH up, the others with the CL core. -/
def State.powered (s : State) (p : Nat) : Bool :=
  if p < 0x005 then decide (1 ≤ s.mode)
  else if p = 0x00C || p = 0x00D || (0x028 ≤ p && p < 0x02E) || (0x030 ≤ p && p < 0x040 && p % 4 == 2) then decide (2 ≤ s.mode)
  else decide (3 ≤ s.mode)

/-- A page of a port, or of a legacy slot, holds work (R599): a transmission or probe in progress, a frame that waits to be sent, a context that runs or waits. -/
def State.busyHigh (s : State) (p : Nat) : Bool :=
  let q := p / 4 % 4
  let tx (nb bb : Bool) := (List.range 3).any (fun c => (nb && (s.cond q c).nb.isSome) || (bb && (s.cond q c).bb.isSome))
  if 0x030 ≤ p && p < 0x040 && p % 4 = 1 then tx true true
  else if 0x030 ≤ p && p < 0x040 && p % 4 = 3 then (List.range 3).any (fun c => (s.cond q c).probing != 0 || (s.cond q c).probeWait)
  else if 0x040 ≤ p && p < 0x050 && p % 4 = 0 then tx true false
  else if 0x050 ≤ p && p < 0x060 && p % 4 = 0 then tx false true
  else if 0x060 ≤ p && p < 0x070 && p % 4 = 0 then s.link.outbox.any (fun x => x.port == q) || s.link.acks.any (fun x => x.2.port == q)
  else if 0x100 ≤ p && p < 0x140 && p % 4 = 0 then (List.range 4).any (fun c => s.ctxState ((p - 0x100) / 4) c == 1 || s.ctxState ((p - 0x100) / 4) c == 2)
  else false

/-- Page `p` holds accepted work that has not completed (R599). -/
def State.busy (s : State) (p : Nat) : Bool :=
  (s.page p).copying ||
  (match p with
  | 0x000 => s.boot.running || s.md.change.isSome || s.md.wait.isSome
  | 0x003 => s.trk.slewNs != 0 || s.trk.utcArmed
  | 0x004 => ! s.fix.held.isEmpty
  | 0x005 => (List.range 16).any (fun g => (s.group g).pend)
  | 0x007 => ! s.scb.stage.isEmpty
  | 0x008 => s.rb Reg.BENCH_BENCH_STAT 0 || ! s.bench.due.isEmpty
  | 0x00A => s.tst.isSome
  | 0x00C => s.rf Reg.HKC_HKC_STAT 0 2 != 0
  | 0x012 => ! s.sec.runs.isEmpty
  | 0x01A => s.rings.any (fun x => x.2.work != 0)
  | 0x01F => ! s.sto.vault.waiting.isEmpty
  | 0x028 => (s.uart 0).shift.isSome || ! (s.uart 0).tx.isEmpty
  | 0x029 => (s.uart 1).shift.isSome || ! (s.uart 1).tx.isEmpty
  | 0x02A => ! s.io.i2c.cmds.isEmpty
  | 0x02C => (List.range 8).any (fun n => s.outState n == 1 || s.outState n == 2 || s.outState n == 3)
  | 0x010 => ! s.sec.runs.isEmpty || ! s.sec.aesWait.isEmpty
  | 0x020 => s.queues.any (fun x => decide (0 < x.2.cells))
  | 0x070 => ! s.net.carries.isEmpty || ! s.net.coop.isEmpty || ! s.net.floodTx.isEmpty
  | 0x074 => ! s.msg.msgs.isEmpty || ! s.msg.txns.isEmpty || ! s.msg.reasm.isEmpty
  | 0x078 => ! s.srv.stage.isEmpty
  | 0x088 => ! s.bench.accBusy.isEmpty || ! s.bench.accWait.isEmpty
  | 0x07C => s.capState == 2
  | 0x083 => s.rb Reg.MET_SNAP_STAT 1
  | _ => s.busyHigh p)

/-- What a header register reads (R40, R41, R45, R55, R599). -/
def State.headerRead (s : State) (p o : Nat) : Word :=
  match o with
  | 0x00C => setBit (s.rd (Reg.BLK_CTL p)) 1 (s.page p).srst
  | 0x010 => word ((if s.blkEn p && ! (s.page p).srst && s.powered p then 1 else 0) + (if s.busy p then 2 else 0) + (if (s.page p).srst then 4 else 0))
  | 0x01C => 0
  | 0x028 => if banked p then s.rd (Reg.BANK_CTL p) else 0
  | 0x02C => s.bankStat p
  | 0x030 => (s.page p).lockView
  | _ => s.rd (p * 0x1000 + o)

/-! ## Registers that show what lies behind them -/

/-- The bank a read of page `p` returns (R41, R54): the active one, before the swap in the fabric cycle of a swap; the shadow with `SHADOW_READ`. -/
def State.readBank (s : State) (p : Nat) : Nat :=
  let pg := s.page p
  let act := if pg.swapCycle = s.fabric + 1 then 1 - pg.active else pg.active
  if s.rb (Reg.BLK_CTL p) 3 then 1 - act else act

/-- Word `i` of a list of bytes. -/
def wordAt (b : List Byte) (i : Nat) : Word := word (leAt b (4 * i) 4)

/-- What the fixture list shows of its next entry (R92). -/
def State.nextView (s : State) (o : Nat) : Word := match s.nextFix with
  | none => 0
  | some (i, f) => if o = 0x080 then word (i + 2 ^ 31) else if o = 0x084 then word f.lt else word (f.lt / 2 ^ 32)

/-- `GRP_MEMBERS` of a group (R56). -/
def State.groupCount (s : State) (g : Nat) : Nat := if (s.group g).pend then (s.group g).members.length else (s.groupPages g).length

/-- `MST_STAT` of the master selected, and the selected region (R521). -/
def State.umpView (s : State) (o : Nat) : Word :=
  let m := s.rf Reg.UMP_MST_SEL 0 16
  let r := s.region (s.rf Reg.UMP_RGN_SEL 0 7)
  match o with
  | 0x044 => word (s.domain m + (if (s.mst m).card then 2 ^ 8 else 0) + min 65535 (s.mst m).cards * 2 ^ 16)
  | 0x04C => word (r.base % 2 ^ 20 * 2 ^ 12)
  | 0x050 => word (r.base / 2 ^ 20)
  | 0x054 => word (r.lim % 2 ^ 20 * 2 ^ 12)
  | 0x058 => word (r.lim / 2 ^ 20)
  | 0x05C => r.rights
  | _ => s.rd (0x006 * 0x1000 + o)

/-- `HASH_WIN`: the hash selected (R431); an absent one reads 0. -/
def State.hashView (s : State) (i : Nat) : Word :=
  let n := s.rf Reg.OTP_HASH_SEL 0 4
  wordAt (if n < 4 then tget [] s.sec.vkeys n else tget [] s.sec.ckeys (n - 4)) i

/-- `FIFO_STAT` (R467): whether a character is coming in is the line's to say, a free value (log entry 200). -/
def State.uartStat (s : State) (n : Nat) : Word :=
  let v := s.rd (Reg.UART_FIFO_STAT n)
  if s.uartHears n && ! (s.uart n).dead then setBit v 17 (bit s.free 17) else v

/-- Reads of pages 0x000 to 0x02F. -/
def State.lowRead (s : State) (a : Nat) : Word :=
  let o := a % 0x1000
  match a / 0x1000 with
  | 0x002 => if o = 0x050 then s.engStat else s.rd a
  | 0x003 => if o = 0x04C then setFld (s.rd a) 16 16 (s.holdAge) else s.rd a
  | 0x004 => if 0x080 ≤ o && o ≤ 0x088 then s.nextView o else if o = 0x08C then word s.armedCount else s.rd a
  | 0x005 => if 0x040 ≤ o && o < 0x240 && o % 0x20 = 0x14 then word (s.groupCount ((o - 0x040) / 0x20)) else s.rd a
  | 0x006 => s.umpView o
  | 0x008 =>
    if o = 0x04C then s.engMapView (s.rf Reg.BENCH_ENG_MAP_SEL 0 7)
    else if o = 0x054 then s.clsStatView (s.rf Reg.BENCH_CLS_SEL 0 5)
    else if o = 0x058 then word (s.clsCap (s.rf Reg.BENCH_CLS_SEL 0 5))
    else if o = 0x05C then s.clsFcView (s.rf Reg.BENCH_CLS_SEL 0 5)
    else s.rd a
  | 0x00A => if 0x040 ≤ o && o < 0x050 then s.atbView ((o - 0x040) / 4) else s.rd a
  | 0x00B => if o = 0x04C then word s.sto.vault.steps else if 0x080 ≤ o && o < 0x0A0 then s.hashView ((o - 0x080) / 4) else s.rd a
  | 0x010 =>
    if o = 0x044 then setFld (setBit (s.rd a) 2 (s.dap.lockAt != 0)) 16 16 s.lockLeft
    else if o = 0x04C then word s.dap.halted.length
    else s.rd a
  | 0x01A => if o = 0x050 then word (s.heldCnt % 2 ^ 24) else if o = 0x054 then word s.ringsActive else s.rd a
  | 0x01B => if o = 0x044 then s.rd (routeBase + s.rf Reg.MSIX_RT_SEL 0 14) else s.rd a
  | 0x01F => if o = 0x058 then word s.spoolUse else s.rd a
  | 0x028 => if o = 0x05C then s.uartStat 0 else s.rd a
  | 0x029 => if o = 0x05C then s.uartStat 1 else s.rd a
  | 0x02D => if o = 0x044 then setBit (s.rd a) 1 s.ppsPresent else s.rd a
  | _ => s.rd a

/-- Reads of a MAC page of port `p` (R231, R233, R266). -/
def State.macRead (s : State) (p k a : Nat) : Word :=
  let o := a % 0x1000
  if k = 1 && 0x800 ≤ o then s.rd (schedKey p (s.readBank (a / 0x1000)) (s.rf (Reg.MAC_SCHED_SEL p) 0 5 * 512 + (o - 0x800) / 4))
  else if k = 3 && o = 0x040 then setBit (s.rd a) 4 (s.rf (Reg.MAC_MAC_CTL p) 0 2 == 2 && (s.mode == 4 || s.mode == 10))
  else if k = 3 && o = 0x044 then word s.sfNow
  else if k = 3 && 0x800 ≤ o then
    match tfind s.link.nbrs (4096 * p + s.rf (Reg.MAC_NBR_SEL p) 0 6 * 64 + (o - 0x800) / 32) with
    | some r => wordAt r.bytes ((o - 0x800) % 32 / 4)
    | none => 0
  else s.rd a

/-- `ENG_TASK` of the engine that serves logical engine `l` (R28, R557): the ports whose scheduling it has (R552), and else what device firmware, once loaded, has assigned. -/
def State.engTask (s : State) (l : Nat) : Word :=
  if 96 ≤ l || s.boot.running || s.mode = 0 then 0
  else if (List.range 4).any (fun p => s.dutyOf (92 + p) == l) || 92 ≤ l then
    setFld (Config.engTask l &&& 0xFF0F) 0 4 ((List.range 4).foldl (fun v p => if s.dutyOf (92 + p) = l then v + 2 ^ p else v) 0)
  else Config.engTask l &&& 0xFF0F

/-- Reads of pages from 0x030 on. `ISP_STAT.YIELDING` reads 1 while `YIELD` and `PRESENT` are both 1: R170 names `YIELD` alone, and at reset `YIELD` is 1 and `ISP_STAT` 0, so this is the model's choice (log entry 168). -/
def State.highRead (s : State) (a : Nat) : Word :=
  let p := a / 0x1000
  let o := a % 0x1000
  if let some ch := dmaWindow a then word (s.mst ch).owner
  else if 0x040 ≤ p && p < 0x060 && p % 4 == 1 && 0x100 ≤ o && o < 0x200 then wordAt (s.blockBytes (s.rf (p * 0x1000 + 0x080) 0 23)) ((o - 0x100) / 4)
  else if 0x050 ≤ p && p < 0x060 && a == Reg.BBP_ISP_STAT ((p - 0x050) / 4) then
    setBit (s.rd a) 1 (s.rb a 0 && s.rb (Reg.BBP_ISP_CFG ((p - 0x050) / 4)) 1)
  else if 0x040 ≤ p && p < 0x060 && p % 4 == 1 && o = 0x040 then setBit (s.rd a) 0 (s.rb (Reg.NBP_MAP_CFG 0) 0)
  else if 0x040 ≤ p && p < 0x050 && p % 4 == 3 && 0x048 ≤ o && o < 0x054 then
    s.csmaStat ((p - 0x040) / 4) ((o - 0x048) / 4) (s.rd a)
  else if 0x030 ≤ p && p < 0x040 && p % 4 == 2 && o = 0x040 then
    (List.range 4).foldl (fun w ch => if s.decoding ((p - 0x030) / 4) ch then setBit w (4 + ch) true else w) (s.rd a)
  else if 0x030 ≤ p && p < 0x040 && p % 4 == 0 && o = 0x058 then word (if s.dieLinkUp ((p - 0x030) / 8) && s.powered p then 1 else 0)
  else if 0x060 ≤ p && p < 0x070 then s.macRead ((p - 0x060) / 4) (p % 4) a
  else if p = 0x071 && 0x200 ≤ o && o < 0x400 then
    let e := s.rf Reg.NET_EP_SEL 0 20
    wordAt ((s.ep e).bytes e) ((o - 0x200) / 4)
  else if 0x090 ≤ p && p ≤ 0x0F8 && o = 0x040 then
    let w := s.rd a
    setFld w 16 8 (if fld w 8 7 < 96 then s.domain (fld w 8 7) else 7)
  else if 0x090 ≤ p && p ≤ 0x0F8 && o = 0x044 then s.engTask (s.rf (p * 0x1000 + 0x040) 8 7)
  else s.rd a

/-- A banked register: an RWB row, or an exclusion entry (R50, R371). -/
def isBanked (a : Nat) : Bool :=
  let p := a / 0x1000
  rwbMask a != 0 || (0x030 ≤ p && p < 0x040 && p % 4 == 1 && decide (0x780 ≤ a % 0x1000) && decide (a % 0x1000 < 0x980))

/-- What a read of the aligned word at `a` of the register window returns (R14, R38, R50). -/
def State.readWord (s : State) (a : Nat) : Word :=
  let p := a / 0x1000
  let o := a % 0x1000
  if ! allocated p then 0
  else if o < 0x040 then s.headerRead p o
  else if isBanked a then s.rd (bankKey (s.readBank p) a)
  else if p < 0x030 then s.lowRead a
  else s.highRead a

/-- A read of `n` bytes at `a` (R9): whole aligned words; part of one aligned word; anything else reads 0. R9 does not say whether the whole words of a longer aligned access take effect when its length is no multiple of 4: the model's choice is that none does (log entry 149). -/
def State.regRead (s : State) (a n : Nat) : List Byte :=
  if a % 4 = 0 && n % 4 = 0 then (List.range (n / 4)).flatMap (fun i => leBytes 4 (s.readWord (a + 4 * i)).toNat)
  else if a % 4 = 0 && n < 4 then takeBytes (leBytes 4 (s.readWord a).toNat) 0 n
  else List.replicate n 0

/-! ## The message window (R324, R335) -/

/-- What a read of the message window at `x` returns: the doorbells are write-only. -/
def State.msgRead (s : State) (x : Nat) : Word :=
  let r := x / 0x80000
  let o := x % 0x80000
  if x < 0x8000000 then
    (if 0x2000 ≤ o && o < 0x2018 then s.rd (msgBase + x) else if 0x2018 ≤ o && o ≤ 0x2020 then s.ringView r o else 0)
  else if x < 0x8002040 then s.rd (msgBase + x)
  else 0

/-- A write of `RING_CTL` (R335, R336). -/
def State.ringCtl (s : State) (r : Nat) (v : Word) : State :=
  let on := s.rb (ringReg r 0x2014) 0
  let s1 := if bit v 0 && ! on then s.ringEnable r else if ! bit v 0 && (on || (s.ring r).state == 3) then s.ringDisable r else s
  if bit v 1 then s1.ringAbort r else s1

/-- A write of `RING_CFG` or a base register (R335, R600): only in IDLE, with `LOG2N` 4 to 12. -/
def State.ringCfg (s : State) (r o : Nat) (v : Word) : State :=
  if (s.ring r).state ≠ 0 then s
  else if o = 0x2000 then s.wr (ringReg r o) (v &&& 0xFF03FF1F)
  else if o = 0x2004 || o = 0x200C then s.wr (ringReg r o) (v &&& 0xFFFFF000)
  else s.wr (ringReg r o) v

/-- A whole word written to the message window at `x` (R324, R326, R335, R337). -/
def State.msgWrite (s : State) (x : Nat) (v : Word) : State :=
  let r := x / 0x80000
  let o := x % 0x80000
  if x < 0x8000000 then
    (if o = 0 then s.sqDoorbell r (fld v 0 16)
     else if o = 0x1000 then s.cqDoorbell r (fld v 0 16)
     else if 0x2000 ≤ o && o ≤ 0x2010 then s.ringCfg r o v
     else if o = 0x2014 then s.ringCtl r v
     else if 0x2018 ≤ o && o ≤ 0x2020 then s
     else s.ignored 0x01A)
  else if x < 0x8002000 then
    (if x % 16 = 12 then (if bit v 0 then s.wb (msgBase + x) 0 true else s.msixUnmask ((x - 0x8000000) / 16)) else s.wr (msgBase + x) v)
  else if x < 0x8002040 then s
  else s.ignored 0x01A

end Sys2Proof.Machine
end

