-- ==== Sys2Proof/Machine/Umpire.lean ====
section
/-! DEFINITION. The umpire: regions, the check of an access, the red card and its release, legacy translation at the ingress port (R511 to R528), and the access rights of the debug port (R503). -/

namespace Sys2Proof.Machine

/-! ## Rights of the debug port (R503) -/

/-- A register that software can only read: no row gives it writable bits, and it is no window onto writable memory. -/
def readOnly (a : Nat) : Bool :=
  let p := a / 0x1000
  let o := a % 0x1000
  (findRow (pageRows p) o).isNone && ! (p == 0x071 && decide (0x200 ≤ o) && decide (o < 0x400))
    && ! (0x060 ≤ p && p < 0x070 && p % 4 == 1 && decide (0x800 ≤ o)) && ! (p == 0x006 && decide (0x04C ≤ o) && decide (o ≤ 0x05C)) && ! (p == 0x01B && o == 0x044)

/-- The decision of the lowest-numbered enabled region that contains an address (R514). -/
def State.regionAt (s : State) (addr : Nat) : Option Region :=
  (s.ump.regions.find? (fun r => bit r.2.rights 31 && decide (r.2.base ≤ addr / 4096) && decide (addr / 4096 ≤ r.2.lim))).map Prod.snd

/-- A region that grants no domain but 0 any right (R503, R504). -/
def Region.secret (r : Region) : Bool := (r.rights &&& 0xFFFC) == 0

/-- A region grants a domain an access; domain 0 passes everywhere (R514). -/
def Region.grants (r : Region) (d acc : Nat) : Bool := d == 0 || bit r.rights (2 * d + (if acc = 1 then 1 else 0))

/-- Level `l` of the debug port may read the register at `a` (R503). -/
def dbgReads (l a : Nat) : Bool :=
  let p := a / 0x1000
  l == 3 || (l != 0 && (decide (a % 0x1000 < 0x040) || p == 0x007 || (readOnly a && p != 0x011))) || (l == 2 && ! readOnly a)

/-- Legacy physical memory holds a fabric address (R21, R523). -/
def inLegacy (addr : Nat) : Bool := decide (lgcBase ≤ addr) && decide (addr < lgcBase + lgcSize)

/-- Bytes of a logical engine's local memory (R25): VE, PE, ME, CC. -/
def engLocal (l : Nat) : Nat := if l < 40 then 0x40000 else if l < 88 then 0x20000 else 0x100000

/-- Local memory of a logical engine (R25, R513): the engines stand 1 MiB apart, each with as much memory as its kind has. -/
def inLocal (addr : Nat) : Bool :=
  decide (0x800000000 ≤ addr) && decide (addr < 0x806000000) && decide ((addr - 0x800000000) % 0x100000 < engLocal ((addr - 0x800000000) / 0x100000))

/-- Fabric memory: shared SRAM, local memory of an engine, DRAM (R513). -/
def inMemory (addr : Nat) : Bool :=
  (decide (0x10000000 ≤ addr) && decide (addr < 0x14000000)) || (decide (0x400000000 ≤ addr) && decide (addr < 0x780000000)) || inLocal addr

/-- The debug port's rights at the present level over a fabric address (R503). -/
def State.dbgMay (s : State) (acc addr : Nat) : Bool :=
  let l := s.sec.dbg
  if acc = 1 then l == 3
  else if addr < 2 ^ 26 then dbgReads l addr
  else l == 3 || (l == 2 && (inMemory addr || inLegacy addr) && ((s.regionAt addr).map (fun r => ! r.secret)).getD false)

/-! ## The check (R47, R514, R601) -/

/-- Page ownership lets a master of domain `d` make the access (R47, R601). -/
def State.ownerLets (s : State) (d acc addr : Nat) : Bool :=
  let p := addr / 0x1000
  let o := addr % 0x1000
  let own := s.rd (Reg.OWNER p)
  let d0 := fld own 0 3
  if ! allocated p || d = 0 then true
  else if acc != 1 && o < 0x00C then true
  else if acc = 1 && o = 0x034 then false
  else if d = 1 || d = 5 || d = 6 then d0 != 0 || (acc != 1 && bit own 7)
  else d == d0 || (acc != 1 && bit own 7)

/-- A slot is used from outside its domain (R436). -/
def State.slotForeign (s : State) (d n : Nat) : Bool := (s.slot n).loaded && (s.slot n).dom != d

/-- A word written to `SLOT_CMD` uses a slot from outside its domain, be it as the slot commanded or as the source (R436, R514). -/
def State.cmdForeign (s : State) (d : Nat) (v : Word) : Bool :=
  (decide (fld v 8 2 = 1) || decide (fld v 8 2 = 2)) &&
    (s.slotForeign d (fld v 0 6) || (decide (fld v 8 2 = 1) && decide (fld v 12 2 = 2) && s.slotForeign d (fld v 16 6)))

/-- The first check of R514 that an access at `addr` fails, by the kinds of R516. -/
def State.umpCheck (s : State) (x : FabAcc) (addr : Nat) : Option Nat :=
  let d := s.domain x.m
  let chan := decide (0x100 ≤ x.m) && decide (x.m < 0x140)
  let reg := s.regionAt addr
  let noReg := reg.isNone && (decide (addr < 2 ^ 44) || chan)
  let denied := match reg with
    | some r => ! r.grants d x.acc && (decide (addr < 2 ^ 44) || chan)
    | none => false
  if x.slot.isSome then
    (match x.slot with
    | some n => if s.slotForeign d n then some 4 else none
    | none => none)
  else if noReg then some 1
  else if denied && x.m != 0x380 then some 2
  else if decide (addr < 2 ^ 26) && x.m != 0x380 && ! s.ownerLets d x.acc addr then some 3
  else if x.m = 0x380 && ! s.dbgMay x.acc addr then some 5
  else if chan && x.issuer != (s.mst x.m).owner then some 6
  else if addr = Reg.SEC_SLOT_CMD && x.acc = 1 && s.cmdForeign d (word (leAt x.data (addr - x.addr) 4)) then some 4
  else none

/-! ## The red card (R517 to R519) -/

/-- The record of a red card (R518): `MST_STAT`, the cause, `CARD_REC` and `CARD_CNT`, event 0x0730, and the fault event, which sets `LASTING` at once for an engine (R539). Records of one fabric cycle come in ascending master identifier, so `CARD_REC` keeps that of a higher master (R520). -/
def State.cardRecord (s : State) (m kind acc addr : Nat) : State :=
  let k := s.mst m
  let s1 := (s.setMst m { k with card := true, cards := min 65535 (k.cards + 1), cardAt := s.fabric + 1 }).cause 0x006 0
  let s2 := (s1.inc Reg.UMP_CARD_CNT).wr Reg.UMP_CARD_REC_0 (word (m + kind * 2 ^ 16 + acc * 2 ^ 20 + s.domain m * 2 ^ 28))
  let later := s.ump.masters.any (fun x => decide (m < x.1) && x.2.card && x.2.cardAt == s.fabric + 1)
  let s3 := if later then s1.inc Reg.UMP_CARD_CNT
    else ((s2.wr Reg.UMP_CARD_REC_1 (word addr)).wr Reg.UMP_CARD_REC_2 (word (addr / 2 ^ 32 % 2 ^ 16))).wr64 Reg.UMP_CARD_REC_3 Reg.UMP_CARD_REC_4 s.lt
  let s4 := s3.record 0x006 0x0730 3 (detail Status.abortedByCard kind (m + addr % 2 ^ 48 * 2 ^ 16))
  if m < 96 then s4.lastingAtOnce 0x006 else (s4.faultEvent 0x006).1

/-- Descriptors in progress of a carded channel, and of the channels a carded master owns, complete with ABORTED_BY_CARD and the bytes done (R517). -/
def State.cardDesc (s : State) (m : Nat) : State :=
  (List.range 64).foldl (fun s ch =>
    let k := s.mst (0x100 + ch)
    if (0x100 + ch = m || k.owner = m) && k.prog.2 != 0 then s.setMst (0x100 + ch) { k with prog := (0, 0), desc := some (Status.abortedByCard, k.prog.1) } else s) s

/-- Units that have become free serve the requests waiting (R30). -/
def State.accServeAll (s : State) : State := (List.range 3).foldl (fun s kind => s.accServe kind (s.accQueue kind).length) s

/-- Work in flight of a carded master ends (R296, R314, R517): the messages it carries, the queues it produces, its requests to the pools, its channels' descriptors. -/
def State.cardWork (s : State) (m : Nat) (carried : List Nat) : State :=
  let s1 := s.resolveWhere (fun x => carried.contains x.1) .abortedByCard
  let qs := ((s1.queues.map Prod.fst).filter (fun q => Config.queueProd q == m))
  let s2 := qs.foldl (fun s q => s.flushWork q) s1
  let s3 := { s2 with bench := { s2.bench with accBusy := s2.bench.accBusy.filter (fun x => x.2.eng != m), accWait := s2.bench.accWait.filter (fun x => x.2.eng != m) } }
  (s3.accServeAll.aesAbort m).cardDesc m

/-- The slot an enabled legacy engine runs. -/
def State.slotOf (s : State) (m : Nat) : Option Nat := (List.range 16).find? (fun k => s.slotEn k && s.slotEng k == m)

/-- What a slot did in the fabric cycle of its card (R532): the context whose quantum ended is not saved as READY and the one that took over does not run, and a record resumed stays `VALID`, its context FAULTED. -/
def State.slotUndo (s : State) (k : Nat) : State :=
  let g := s.lslot k
  let s1 := (g.leftRun.filter (fun x => x.2.1 == s.fabric + 1)).foldl (fun s x => match x.2.2 with
    | some d => (s.setCtxState k d 1).setCtxState k x.1 2
    | none => s) s
  (g.resumed.filter (fun x => x.2 == s.fabric + 1)).foldl (fun s x =>
    let s2 := s.wb (fltReg k x.1 0) 0 true
    if x.1 < 4 then s2.setCtxState k x.1 3 else s2) s1

/-- A legacy slot freezes (R519, R528): its card, and the cards of its channels. -/
def State.slotCard (s0 : State) (k : Nat) : State :=
  let s := s0.slotUndo k
  (s.slotChans k).foldl (fun s m => s.setMst m { s.mst m with card := true, cardAt := s.fabric + 1 })
    ((s.wb (Reg.LGC_SLOT_STAT k) 8 true).cause (lgcPage k) 0)

/-- The host function freezes (R519, R563): every ring stops fetching, and a self-test in progress ends. -/
def State.hostCard (s : State) : State :=
  let s1 := { s with host := { s.host with carded := true } }
  if s1.tst.isSome then s1.testEnd .abortedByCard 0 else s1

/-- The debug port loses its level and enters the lockout (R507, R508, R519). -/
def State.debugCard (s : State) : State :=
  let s1 := s.setDebug 0
  { s1 with dap := { s1.dap with lockAt := s1.now + 1, fails := 0 } }

/-- One master is red-carded (R517 to R519). -/
def State.cardOne (s : State) (m kind acc addr : Nat) (carried : List Nat) : State :=
  let s1 := (s.cardRecord m kind acc addr).cardWork m carried
  if m < 96 then
    (match s1.slotOf m with
    | some k => s1.slotCard k
    | none => (s1.wf (Reg.ENG_ENG_STAT (s1.phys m)) 4 3 (if s1.phys m < 105 then 4 else 0)).becomeDue m true false)
  else if m = 0x300 then s1.hostCard
  else if m = 0x380 then s1.debugCard
  else s1

/-- A violation of master `m` (R516): a DMA channel takes its owner with it, the lower identifier first (R520, log entry 209). -/
def State.redCard (s : State) (m kind acc addr : Nat) (carried : List Nat) : State :=
  if 0x100 ≤ m && m < 0x140 then
    let o := (s.mst m).owner
    if o < m then (s.cardOne o kind acc addr carried).cardOne m kind acc addr [] else (s.cardOne m kind acc addr []).cardOne o kind acc addr carried
  else s.cardOne m kind acc addr carried

/-! ## Performing an access (R513, R516) -/

/-- The bytes of a store at `addr` with those replaced that a store of the same fabric cycle, which goes after this one, has already set (R33). -/
def State.settled (s : State) (x : ArbRec) (m : List Host.Cell) (base : Nat) (b : List Byte) : List Byte :=
  b.zipIdx.map (fun e => if s.overtaken x (x.addr + e.2) then cellRead m (x.addr - base + e.2) else e.1)

/-- `n` bytes read at `addr`; host memory returns what the command carries. -/
def State.fabRead (s : State) (addr n : Nat) (hostData : List Byte) : List Byte :=
  if addr < 2 ^ 26 then s.regRead addr n
  else if inLegacy addr then cellsRead s.lgcMem (addr - lgcBase) n
  else if inMemory addr then cellsRead s.mem addr n
  else if 2 ^ 44 ≤ addr then takeBytes hostData 0 n
  else List.replicate n 0

/-- Bytes written at `addr` by master `m`, with a fixture deadline or without: in memory a store of the same fabric cycle that goes after it stands (R33). -/
def State.fabWrite (s : State) (m : Nat) (dl : Bool) (addr : Nat) (b : List Byte) : State :=
  let x : ArbRec := { addr := addr, len := b.length, m := m, dl := dl }
  if addr < 2 ^ 26 then s.regWrite m addr b
  else if inLegacy addr then { s.arbNote x with lgcMem := cellsWrite s.lgcMem (addr - lgcBase) (s.settled x s.lgcMem lgcBase b) }
  else if inMemory addr then { s.arbNote x with mem := cellsWrite s.mem addr (s.settled x s.mem 0 b) }
  else if 2 ^ 44 ≤ addr then s.dmaWrite (addr - 2 ^ 44) b
  else s

/-- Words of a byte string. -/
def wordsOf (b : List Byte) : List Word := (List.range ((b.length + 3) / 4)).map (wordAt b)

/-- What a master's read returned. -/
def State.returned (s : State) (m : Nat) (b : List Byte) (ok : Bool) : State :=
  { s with reads := tset {} s.reads m { words := wordsOf b, ok := ok } }

/-- The host's aperture onto DRAM responds (R323, R504). -/
def State.aperture (s : State) : Bool := s.mode == 10 && (s.sec.lc < 2 || (s.sec.lc == 2 && s.sec.dbg == 2))

/-- An access of the host function through the aperture (R323, R504). -/
def State.apertureAcc (s : State) (x : FabAcc) : State :=
  let open_ := s.aperture && ((s.regionAt x.addr).map (fun r => ! r.secret)).getD true
  if x.acc = 1 then
    (if ! s.aperture then s.ignored 0x01A else if open_ then s.fabWrite x.m x.dl x.addr x.data else s)
  else s.returned x.m (if open_ then s.fabRead x.addr x.len [] else List.replicate x.len 0) true

/-- The pieces of a burst, one 64-byte line each, as offset and length (R514). A partial or unaligned access of the register window is one piece (R9). -/
def pieces (addr n : Nat) : Nat → List (Nat × Nat)
  | 0 => []
  | fuel + 1 =>
    if n = 0 then []
    else
      let k := min n (64 - addr % 64)
      (0, k) :: (pieces (addr + k) (n - k) fuel).map (fun x => (x.1 + k, x.2))

/-- The context a legacy master translates under: the one it runs, or its channel's. -/
def State.lgcSource (s : State) (x : FabAcc) : Option (Nat × Nat × Option Nat) := match x.ctx with
  | none => none
  | some c => if x.m < 96 then (s.slotOf x.m).map (fun k => (k, c, none))
    else ((List.range 16).flatMap (fun k => (List.range 4).map (fun j => (k, j)))).findSome? (fun kj =>
      if s.slotEn kj.1 && s.rb (Reg.LGC_CH kj.1 kj.2) 31 && 0x100 + s.rf (Reg.LGC_CH kj.1 kj.2) 0 6 == x.m
      then some (kj.1, s.rf (Reg.LGC_CH kj.1 kj.2) 8 2, some kj.2) else none)

/-- How far an access has come: the state, the bytes read, and whether it has stopped. -/
structure FabRun where
  s : State
  out : List Byte := []
  stop : Bool := false

/-- A channel's descriptor has come so far (R517): bytes done and left; with none left it completes DONE. -/
def State.chanMoved (s : State) (m done left : Nat) : State :=
  if 0x100 ≤ m && m < 0x140 then
    s.setMst m (if left = 0 then { s.mst m with prog := (0, 0), desc := some (Status.done, done) } else { s.mst m with prog := (done, left) })
  else s

/-- One piece at fabric address `addr`: checked, then performed or refused with a red card, which reports address `rep` (R514, R516, R518). -/
def FabRun.piece (r : FabRun) (x : FabAcc) (addr rep ofs n : Nat) : FabRun := match r.s.umpCheck x addr with
  | some kind => { r with s := (if x.prog.2 ≤ ofs then r.s else r.s.chanMoved x.m (x.prog.1 + ofs) (x.prog.2 - ofs)).redCard x.m kind x.acc rep x.carried, stop := true }
  | none =>
    if x.acc = 1 then { r with s := r.s.fabWrite x.m x.dl addr (takeBytes x.data ofs n) }
    else { r with out := r.out ++ r.s.fabRead addr n (x.data.drop ofs) }

/-- One piece of a legacy access: translated first; a translation fault stops its source before it (R524, R526). -/
def FabRun.legacyPiece (r : FabRun) (x : FabAcc) (k c : Nat) (ch : Option Nat) (ofs n : Nat) : FabRun :=
  let va := x.addr + ofs
  let (s1, pa) := r.s.translate k c x.acc va
  match pa with
  | .inl pa => { r with s := s1 }.piece x (lgcFabric pa) pa ofs n
  | .inr kind => match ch with
    | none => { r with s := s1.ctxFault k c kind x.acc va x.prog.1 x.prog.2, stop := true }
    | some j => { r with s := s1.chanFault k j kind x.acc va (x.prog.1 + ofs) (x.prog.2 - ofs), stop := true }

/-- Every piece of an access in order, until one stops it. -/
def State.burst (s : State) (x : FabAcc) : FabRun :=
  let n := if x.acc = 1 then x.data.length else x.len
  let whole := decide (x.addr < 2 ^ 26) && x.ctx.isNone && (x.addr % 4 != 0 || n % 4 != 0)
  let ps := if whole || n = 0 then [(0, n)] else pieces x.addr n (n + 1)
  match s.lgcSource x with
  | some (k, c, ch) => ps.foldl (fun r p => if r.stop then r else r.legacyPiece x k c ch p.1 p.2) { s := s }
  | none => ps.foldl (fun r p => if r.stop then r else r.piece x (x.addr + p.1) (x.addr + p.1) p.1 p.2) { s := s }

/-- The umpire's shadow checker disagrees with a decision (R539): a fault event; lasting, SAFE is entered. The access is checked again. -/
def State.shadowFault (s : State) : State :=
  let (s1, lasting) := s.fault 0x006 0 0
  if lasting then s1.forceSafe 5 else s1

/-- The host function reaches its windows through the ACTIVE port (R338). -/
def State.hostBlocked (s : State) (x : FabAcc) : Bool := x.m == 0x300 && ! s.windowOpen && ! s.host.carded

/-- A legacy source may access the fabric: its slot is not carded, and its context runs, or did so in this fabric cycle (R532), or its channel has no fault pending. -/
def State.lgcMay (s : State) (x : FabAcc) : Bool := match s.lgcSource x with
  | none => x.ctx.isNone
  | some (k, c, none) => ! s.slotCarded k && (s.ctxState k c == 2 || s.justLeft k c) && s.lgcRuns
  | some (k, _, some j) => ! s.slotCarded k && s.lgcRuns && ! s.fltValid k (4 + j)

/-- A master issues accesses in the present mode (R501, R503): a logical engine the mode powers and no debug command holds halted, a channel whose owner runs. -/
def State.masterRuns (s : State) (x : FabAcc) : Bool :=
  let runs (m : Nat) : Bool := decide (96 ≤ m) || (s.modeEngines.contains m && ! s.dap.halted.contains m)
  if 0x100 ≤ x.m && x.m < 0x140 then runs (s.mst x.m).owner else runs x.m

/-- FABRIC_ACCESS (R514 to R528). A carded master is not served: its reads return poison, the host's with all ones (R517, R519). -/
def State.fabricAccess (s : State) (x : FabAcc) : State :=
  let s0 := if x.m = 0x300 then s.hostTouch else s
  if s0.mode < 3 then s0
  else if s0.hostBlocked x then (if x.acc = 1 then s0 else s0.returned x.m (List.replicate x.len 0) true)
  else if (s0.mst x.m).card then
    (if x.acc = 1 then s0 else s0.returned x.m (List.replicate x.len (if x.m = 0x300 then 0xFF else 0)) false)
  else if x.m = 0x300 && decide (0x400000000 ≤ x.addr) && decide (x.addr < 0x780000000) then s0.apertureAcc x
  else if ! s0.lgcMay x || ! s0.masterRuns x then s0
  else
    let s1 := if x.shadow then s0.shadowFault else s0
    let r0 := s1.burst x
    let n := if x.acc = 1 then x.data.length else x.len
    let r := if r0.stop || x.prog.2 = 0 then r0 else { r0 with s := r0.s.chanMoved x.m (x.prog.1 + n) (x.prog.2 - n) }
    if x.acc = 1 then r.s
    else if r.stop then r.s.returned x.m (r.out ++ List.replicate (x.len - r.out.length) (if x.m = 0x300 then 0xFF else 0)) false
    else r.s.returned x.m r.out true

end Sys2Proof.Machine
end

