-- ==== Sys2Proof/Machine/Debug.lean ====
section
/-! DEFINITION. The test access port: boundary scan, the lifecycle advance, the debug access port with its authentication and lockout (R503, R508, R509, R565 to R571). -/

namespace Sys2Proof.Machine

/-! ## Instructions of the test access port (R565, R566, R571) -/

/-- An instruction is selected, or BYPASS in place of one the present level does not permit (R565). -/
def State.tapSelect (s : State) (ok : Bool) (op dr : Nat) : State :=
  if ok then { s with dap := { s.dap with ir := op, dr := dr } } else { s with dap := { s.dap with ir := 0xFF, dr := 0 } }

/-- EXTEST, CLAMP or HIGHZ takes force (R565): every driver leaves the line, and the host link counts as lost. -/
def State.tapForce (s : State) : State :=
  if ! s.tapHolds then s
  else
    let s1 := s.stopAll .refused
    match s1.activePort with
    | some n => s1.linkLoss n
    | none => s1

/-- Present level D3. -/
def State.atD3 (s : State) : Bool := s.sec.dbg == 3

/-- EXTEST and SAMPLE/PRELOAD (R565, R567): the boundary register captures the balls, and takes what is shifted in. -/
def State.tapScan (s : State) (op pins shift : Nat) : State :=
  let s1 := s.tapSelect s.atD3 op (pins % 2 ^ 158)
  (if s.atD3 then { s1 with dap := { s1.dap with bsr := shift % 2 ^ 158 } } else s1).tapForce

/-- IDCODE of the device (R566). -/
abbrev idcode : Nat := 0x196405A7

/-- LC_ADVANCE (R453, R571): a transition out of MFG where its preconditions hold; the register then captures `OTP.LC`. -/
def State.lcAdvance (s : State) (target : Nat) : State :=
  if ! (s.atD3 && s.sec.lc == 0) then s.tapSelect false 0x30 0
  else
    let s1 := if target = 1 && s.sec.dusSet && s.endorsed then s.lifecycle 1 else if target = 3 then s.lifecycle 3 else s
    s1.tapSelect true 0x30 (s1.rf Reg.OTP_LC 0 8)

/-- TAP_RESET (R565, R570): back to IDCODE; `TRST_N` also discards the challenge and the response buffer. -/
def State.tapReset (s : State) (trst : Bool) : State :=
  let s1 := s.tapSelect true 0x02 idcode
  if trst then { s1 with dap := { s1.dap with chal := [], chalAt := 0, outPos := 0, resp := [] } } else s1

/-! ## Commands of the debug access port (R568) -/

/-- A command's status and result, which the next capture returns. -/
def State.dapReply (s : State) (st : Status) (r : Nat) : State :=
  { s with dap := { s.dap with status := st, result := r % 2 ^ 32, dr := st + r % 2 ^ 32 * 256 } }

/-- A command runs while the DAP instruction is selected. -/
def State.dapRun (s : State) (body : State → State) : State := if s.dap.ir = 0x10 then body s else s

/-- CHALLENGE, IN and SUBMIT are ignored while a SUBMIT is being checked, and return REFUSED_BY_STATE (R570). -/
def State.dapFree (s : State) (body : State → State) : State := if s.now < s.dap.checkEnd then s.dapReply .refused 0 else body s

/-! ## Challenge and response (R508, R569, R570) -/

/-- A challenge is issued (R569): 80 bytes, with a nonce from the DRBG. -/
def State.challengeIssue (s : State) : State :=
  if s.sec.starved then s.dapReply .resourceRetry 0
  else
    let (s1, nonce) := s.drbgDraw 32
    let c := leBytes 4 0x4742444D ++ leBytes 1 1 ++ leBytes 1 s.sec.lc ++ leBytes 1 s.sec.dbg ++ leBytes 1 s.mode ++ s.devId ++ nonce ++ leBytes 8 s.ownLong
    ({ s1 with dap := { s1.dap with chal := c, chalAt := s.now + 1, outPos := 0, resp := [] } }).dapReply .done 0

/-- CHALLENGE (R569, R570). -/
def State.dapChallenge (s : State) : State := s.dapFree State.challengeIssue

/-- OUT: the next four bytes of the challenge; past its end, or with none issued, a value the spec leaves open. -/
def State.dapOutWord (s : State) : State :=
  let c := s.dap.chal
  if s.dap.outPos + 4 ≤ c.length then
    ({ s with dap := { s.dap with outPos := s.dap.outPos + 4 } }).dapReply .done (leAt c s.dap.outPos 4)
  else s.drawn.dapReply .done s.free.toNat

/-- IN: four bytes are appended to the response buffer (R568, R570). -/
def State.dapInWord (s : State) (v : Word) : State :=
  s.dapFree (fun s => ({ s with dap := { s.dap with resp := s.dap.resp ++ leBytes 4 v.toNat } }).dapReply .done 0)

/-- Bytes of a response, and of the words it arrives in. -/
abbrev respLen : Nat := 5269
abbrev respWords : Nat := 5272

/-- A challenge is outstanding and valid: the expiry tick itself still counts (R569, R570). -/
def State.chalValid (s : State) : Bool := s.dap.chalAt != 0 && decide (s.now ≤ s.dap.chalAt - 1 + 10000 * msec)

/-- A key that opens the level is provisioned (R508, check 3). -/
def State.debugKeySet (s : State) (l : Nat) : Bool :=
  if l = 2 then (s.ckey 4).isSome
  else (List.range 4).any (fun n => tget [] s.sec.vkeys n != [] && ! s.rb Reg.OTP_KEY_STAT (4 + n))

/-- The key of a response hashes to one that opens the level (R569). -/
def State.debugKeyOk (s : State) (l : Nat) (pk : List Byte) : Bool :=
  if l = 2 then s.ckey 4 == some (shake pk) else (List.range 4).any (fun n => tget [] s.sec.vkeys n == shake pk && ! s.rb Reg.OTP_KEY_STAT (4 + n))

/-- The context string of debug responses (R569). -/
def ctxDbg : List Byte := ascii ['C', 'I', 'M', 'A', 'I', 'N', 'O', '-', 'D', 'B', 'G']

/-- Check 4 of R508: length, form, key, challenge and signature (R569). -/
def State.respOk (s : State) (l : Nat) : Bool :=
  let r := s.dap.resp
  decide (r.length = respWords) && leAt r 0 4 == 0x4742444D && leAt r 4 1 == 1 && s.chalValid && s.debugKeyOk l (takeBytes r 8 1952)
    && dsaVerify (takeBytes r 8 1952) ctxDbg (s.dap.chal ++ r.take 1960) (takeBytes r 1960 3309)

/-- The result of a request: in `DBG_STAT`, counted in `DBG_CNT`, and returned (R510). -/
def State.dapVerdict (s : State) (st : Status) : State :=
  let s1 := s.wf Reg.SEC_DBG_STAT 8 8 st
  let s2 := if st = Status.done then s1.incF Reg.SEC_DBG_CNT 0 16 else s1.incF Reg.SEC_DBG_CNT 16 16
  s2.dapReply st 0

/-- A request refused or granted, which ends a run of failures. -/
def State.dapSettled (s : State) (st : Status) : State := ({ s with dap := { s.dap with fails := 0 } }).dapVerdict st

/-- AUTH_FAIL (R508): event 0x1039; the third in a row starts the lockout, with a LASTING record. -/
def State.dapAuthFail (s : State) : State :=
  let s1 := s.record 0x010 0x1039 0 (detail Status.authFail 0 0)
  let n := s.dap.fails + 1
  let s2 := if n < 3 then { s1 with dap := { s1.dap with fails := n } }
    else ({ s1 with dap := { s1.dap with fails := 0, lockAt := s.now + 1 } }).record 0x010 0x1039 1 (detail Status.authFail 1 0)
  s2.dapVerdict .authFail

/-- The checks of R508 in order on a request for level `l`; a lifecycle transition of the same fabric cycle wins, and the level stays D0 (R509). -/
def State.dapDecide (s : State) (l : Nat) : State :=
  if s.dap.lockAt ≠ 0 || s.sec.lcAt = s.fabric + 1 then s.dapSettled .refused
  else if ! (dbgLevels s.sec.lc s.mode).contains l then (s.record 0x010 0x1021 0 (detail Status.refused 0 l)).dapSettled .refused
  else if l = 1 || (l != 0 && s.debugKeySet l && s.respOk l) then (s.setDebug l).dapSettled .done
  else s.dapAuthFail

/-- A response is checked (R508, R569), and the challenge ends whatever the outcome. The check keeps the port for a time the spec bounds by 2 ms and leaves open (R570, log entry 213). -/
def State.submitCheck (s : State) : State :=
  let s1 := s.dapDecide (leAt s.dap.resp 5 1)
  { s1.drawn with dap := { s1.dap with chal := [], chalAt := 0, outPos := 0, resp := [], checkEnd := s1.now + s1.free.toNat % (2 * msec + 1) } }

/-- SUBMIT (R508, R569, R570). -/
def State.dapSubmit (s : State) : State := s.dapFree State.submitCheck

/-- LOWER (R509): the level falls at once. -/
def State.dapLower (s : State) (l : Nat) : State :=
  if s.sec.dbg < l % 4 then (s.wf Reg.SEC_DBG_STAT 8 8 Status.refused).dapReply .refused 0
  else ((s.setDebug (l % 4)).wf Reg.SEC_DBG_STAT 8 8 Status.done).dapReply .done 0

/-- STATUS: `SEC.DBG_STAT`. -/
def State.dapStatus (s : State) : State := s.dapReply .done (s.readWord Reg.SEC_DBG_STAT).toNat

/-- ADDR_LO and ADDR_HI. -/
def State.dapAddrLo (s : State) (v : Word) : State :=
  ({ s with dap := { s.dap with addr := s.dap.addr / 2 ^ 32 * 2 ^ 32 + v.toNat } }).dapReply .done 0
def State.dapAddrHi (s : State) (v : Word) : State :=
  ({ s with dap := { s.dap with addr := v.toNat % 2 ^ 16 * 2 ^ 32 + s.dap.addr % 2 ^ 32 } }).dapReply .done 0

/-- The access of master 0x0380 that a READ or WRITE makes. -/
def State.dapAccess (s : State) (acc : Nat) (data : List Byte) : FabAcc :=
  { m := 0x380, issuer := 0x380, ctx := none, acc := acc, addr := s.dap.addr, data := data, len := 4, slot := none, shadow := false, prog := (0, 0), carried := [], dl := false }

/-- READ and WRITE (R503, R514, R568): one word, checked as an access of master 0x0380; a violation is a red card, and the command is refused. -/
def State.dapMem (s : State) (acc : Nat) (data : List Byte) : State :=
  let x := s.dapAccess acc data
  if s.mode < 3 || (s.mst 0x380).card then s.dapReply .refused 0
  else match s.umpCheck x x.addr with
    | some k => (s.redCard 0x380 k acc x.addr []).dapReply .refused 0
    | none =>
      let s1 := { s with dap := { s.dap with addr := (s.dap.addr + 4) % 2 ^ 48 } }
      if acc = 1 then (s1.fabWrite 0x380 false x.addr data).dapReply .done 0
      else s1.dapReply .done (ofLE (s1.fabRead x.addr 4 data))

/-! ## Engine control (R503, R506) -/

/-- The level permits control of logical engine `l`; `checks` says that it carries the checks of R506, which the debug port does not halt at D2, nor at D3 once a list is installed. -/
def State.mayHalt (s : State) (l : Nat) (checks : Bool) : Bool :=
  decide (l < 96) && ! (s.mst 0x380).card
    && ((s.sec.dbg == 3 && ! (checks && s.xlInstalled))
      || (s.sec.dbg == 2 && ! checks && l != 88 && l != 91 && s.rb (Reg.BLK_CTL (engPage (s.phys l))) 2))

/-- The engines halted by debug, as `HALTED` counts them. -/
def State.setHalted (s : State) (h : List Nat) : State := { s with dap := { s.dap with halted := h } }

/-- HALT. -/
def State.dapHalt (s : State) (l : Nat) (checks : Bool) : State :=
  if ! s.mayHalt l checks then s.dapReply .refused 0
  else (s.setHalted (if s.dap.halted.contains l then s.dap.halted else s.dap.halted ++ [l])).dapReply .done 0

/-- STEP: one instruction of a halted engine. -/
def State.dapStep (s : State) (l : Nat) : State :=
  if ! s.mayHalt l false || ! s.dap.halted.contains l then s.dapReply .refused 0 else s.dapReply .done 0

/-- RESUME. -/
def State.dapResume (s : State) (l : Nat) : State :=
  if ! s.mayHalt l false || ! s.dap.halted.contains l then s.dapReply .refused 0
  else (s.setHalted (s.dap.halted.filter (· != l))).dapReply .done 0

/-! ## Expiry (R508, R569) -/

/-- CHALLENGE_EXPIRY: 10 s after its issue a challenge is no longer valid; a SUBMIT in the same tick is checked first (R570). -/
def State.chalExpiry (s : State) : State :=
  if s.dap.chalAt != 0 && decide (s.dap.chalAt - 1 + 10000 * msec ≤ s.now)
    && ! s.arrives (fun i => match i with | .dapSubmit _ => true | _ => false) then { s with dap := { s.dap with chal := [], chalAt := 0, outPos := 0 } } else s

/-- DEBUG_LOCKOUT_END: 60 s after it began the lockout ends, and with it the port's red card (R519). -/
def State.lockoutEnd (s : State) : State :=
  if s.dap.lockAt != 0 && decide (s.dap.lockAt - 1 + 60000 * msec ≤ s.now) then
    ({ s with dap := { s.dap with lockAt := 0 } }).setMst 0x380 { s.mst 0x380 with card := false }
  else s

end Sys2Proof.Machine
end

