-- ==== Sys2Proof/Machine/Access.lean ====
section
/-! DEFINITION. How commands reach the machine: register writes and host windows, bulk packets, the maintenance interface, submissions of an operation, bodies taken from the inbox (R13, R239, R323, R331, R338, R342, R343), and the ISP detector (R169). -/

namespace Sys2Proof.Machine

/-! ## Register writes -/

/-- A master's write of a register at `a`, as the umpire sees it (R32). -/
def State.asAccess (s : State) (m a : Nat) : FabAcc :=
  { m := m, issuer := (s.mst m).owner, ctx := none, acc := 1, addr := a, data := [], len := 0, slot := none, shadow := false, prog := (0, 0), carried := [], dl := false }

/-- The check of R514 that a register write of master `m` at `a` fails. Before device firmware has set the regions (R515) only the page's owner and the debug level bind (log entry 49). -/
def State.writeCheck (s : State) (m a : Nat) : Option Nat :=
  if s.ump.regions.isEmpty then
    (if m = 0x380 then (if s.dbgMay 1 a then none else some 5) else if s.ownerLets (s.domain m) 1 a then none else some 3)
  else s.umpCheck (s.asAccess m a) a

/-- A register write at `a` by master `m` (R32, R47, R514, R516): a carded master is not served, a violation is not performed and draws the red card, and otherwise the write is done. -/
def State.byMaster (s : State) (m a : Nat) (op : State → State) : State :=
  if (s.mst m).card then s
  else match s.writeCheck m a with
    | some kind => s.redCard m kind 1 a []
    | none => op s

/-- A write by master `m` to the command register at `a`: not for a host that is not served, nor on a page that is not allocated, nor during a soft reset, nor where the umpire refuses it (R38, R44, R47, R338). -/
def State.cmdReg (s : State) (m a : Nat) (op : State → State) : State :=
  let p := a / 0x1000
  if m = 0x300 && ! s.hostReaches then s
  else (if m = 0x300 then s.hostTouch else s).byMaster m a (fun s1 =>
    if ! allocated p then s1.ignored 0x000 else if (s1.page p).srst then s1 else op s1)

/-- INT_CAUSE_CLEAR (R15, R44): a W1C write, taken during a soft reset too. -/
def State.causeClearBy (s : State) (m p : Nat) (v : Word) : State :=
  if m = 0x300 && ! s.hostReaches then s
  else (if m = 0x300 then s.hostTouch else s).byMaster m (Reg.INT_CAUSE p) (fun s1 =>
    if allocated p then s1.causeClear p v else s1.ignored 0x000)

/-- A write of `BLK_CTL` with `SRST`, the other bits as they stand. -/
def State.softResetCmd (s : State) (p : Nat) : State := s.blkCtlWrite p (setBit (s.rd (Reg.BLK_CTL p)) 1 true)

/-- A write of `BANK_CTL` with one command bit, the other bits as they stand. -/
def State.bankCtlCmd (s : State) (p b : Nat) : State := s.bankCtlWrite p (setBit (s.rd (Reg.BANK_CTL p)) b true)

/-- A write of `n` bytes to the message window (R9, R323, R324): whole aligned words, or nothing, counted in `HFN.ERR_UNCORR`. -/
def State.msgBytes (s : State) (x : Nat) (bytes : List Byte) : State :=
  if x % 4 ≠ 0 || bytes.length % 4 ≠ 0 then s.ignored 0x01A
  else (List.range (bytes.length / 4)).foldl (fun s i => s.msgWrite (x + 4 * i) (word (leAt bytes (4 * i) 4))) s

/-- A write that commands a key slot of another domain is a violation (R436, R514). -/
def State.slotGuard (s : State) (m a : Nat) (bytes : List Byte) (op : State → State) : State :=
  if a = Reg.SEC_SLOT_CMD && s.cmdForeign (s.domain m) (word (leAt bytes 0 4)) then s.redCard m 4 1 a [] else op s

/-- REGISTER_WRITE (R13, R338): bytes written at `a` by master `m`; the host writes through port `via`, whose windows are the ACTIVE port's alone, to the register or the message window. -/
def State.regWriteBy (s : State) (m via : Nat) (msg : Bool) (a : Nat) (bytes : List Byte) : State :=
  if m = 0x300 then
    if s.role via = 2 then s.ignored (0x018 + via)
    else if ! s.windowOpen then s
    else if msg then s.hostTouch.msgBytes a bytes else s.hostTouch.byMaster m a (fun s => s.slotGuard m a bytes (fun s => s.regWrite m a bytes))
  else if msg then s else s.byMaster m a (fun s => s.slotGuard m a bytes (fun s => s.regWrite m a bytes))

/-- A write of the message window by the host: it counts where the ACTIVE port's windows respond (R338). -/
def State.hostMsg (s : State) (op : State → State) : State := if s.windowOpen then op s.hostTouch else s

/-! ## Uses of key slots -/

/-- A slot is used by master `m` (R436, R514): from outside the domain of a loaded slot it is a violation, at the address of its `SLOT_STAT` (log entry 197). -/
def State.slotUse (s : State) (m acc n : Nat) (op : State → State) : State :=
  if s.slotForeign (s.domain m) n then s.redCard m 4 acc (Reg.SEC_SLOT_STAT n) [] else op s

/-- KEY_DERIVE by a master (R436): the slot it names as its source is used too. -/
def State.slotDeriveBy (s : State) (m n src srcSlot : Nat) : State :=
  s.slotUse m 1 n (fun s => if src = 2 then s.slotUse m 1 srcSlot (fun s => s.slotDerive m (s.domain m) n src srcSlot) else s.slotDerive m (s.domain m) n src srcSlot)

/-- KEY_ERASE by a master (R436, R438). -/
def State.slotEraseBy (s : State) (m n : Nat) : State := s.slotUse m 1 n (fun s => s.slotErase m n)

/-- AES_OPERATION (R436, R440, R516, R517): a request for an operation reaches the pool, or the operation of a core ends. A carded engine's request is not accepted, and the use of a slot from outside its domain is a violation. -/
def State.aesOperation (s : State) (core n : Nat) (job : AesJob) (who : AccReq) (fin : Bool) (chunks : Nat) : State :=
  if fin then s.aesFinish core chunks
  else if (s.mst who.eng).card then s
  else s.slotUse who.eng 0 n (fun s => s.aesStart n job who)

/-! ## Bulk packets and the maintenance interface (R342, R343) -/

/-- An access of the host function to the register window that a packet carries. -/
def hostAcc (acc a : Nat) (data : List Byte) (n : Nat) : FabAcc :=
  { m := 0x300, issuer := 0x300, ctx := none, acc := acc, addr := a, data := data, len := n, slot := none, shadow := false, prog := (0, 0), carried := [], dl := false }

/-- REG_RD (R342): words of the register window come back in a REG_DATA packet; nothing else is reached in this mode. -/
def State.bulkRead (s : State) (a n : Nat) : State :=
  if ! s.hostReaches || s.activeMode != 3 then s
  else
    let len := 4 * (n / 4)
    if 2 ^ 26 ≤ a then s.hostTouch.bulkSend 0x81 0 a (List.replicate len 0)
    else
      let r := s.hostTouch.burst (hostAcc 0 a [] len)
      r.s.bulkSend 0x81 0 a (r.out ++ List.replicate (len - r.out.length) 0)

/-- REG_WR (R342). -/
def State.bulkWrite (s : State) (a : Nat) (data : List Byte) : State :=
  if ! s.hostReaches || s.activeMode != 3 || decide (2 ^ 26 ≤ a) then s else (s.hostTouch.burst (hostAcc 1 a data 0)).s

/-- A port serves the maintenance interface: its link runs in `MODE` 4 (R343). -/
def State.maintPort (s : State) (n : Nat) : Bool := s.rf (Reg.HL_HL_STAT n) 0 3 == 4 && decide (3 ≤ s.mode)

/-- MAINT_REG_READ (R343): one word, where D1 may read it; else the request stalls. -/
def State.maintRead (s : State) (n page ofs : Nat) : State :=
  if ! s.maintPort n then s
  else
    let a := page * 0x1000 + ofs % 0x1000
    if ofs < 0x1000 && allocated page && dbgReads 1 a then s.hostTouch.returned 0x300 (s.regRead a 4) true else s.returned 0x300 [] false

/-- MAINT_REG_WRITE (R343): one word of the SYS or SCB page; else the request stalls. -/
def State.maintWrite (s : State) (n page ofs : Nat) (v : Word) : State :=
  if ! s.maintPort n || ! ((page == 0x000 || page == 0x007) && decide (ofs < 0x1000)) then s
  else (s.hostTouch.burst (hostAcc 1 (page * 0x1000 + ofs) (leBytes 4 v.toNat) 0)).s

/-! ## Submissions -/

/-- An operation that some row of the opcode table names (R332). -/
def opKnown (op : Nat) : Bool := opOnRing true op || opOnRing false op

/-- NOP (R332); the checks of R331 refuse an operation no row names. -/
def State.nopSub (s : State) (r : Nat) (e : List Byte) : State := s.submit r e (fun op => op == 0 || ! opKnown op) (fun s c => s.finishTag c .done)

/-! ## Bodies received -/

/-- A management body of type `mt` is taken from the inbox, and acted on. -/
def State.mgmtBody (s : State) (mt : Nat) (op : State → Delivered → State) : State :=
  match s.takeInbox (fun d => d.mgmt && d.mtype == mt) with
  | none => s
  | some (s1, d) => op s1 d

/-- COOP_CARRY (R278): a carry delivered as data. -/
def State.carryBody (s : State) : State :=
  match s.takeInbox (fun d => d.mtype == 0x103) with
  | none => s
  | some (s1, d) => s1.coopCarry d.port d.cond d.body

/-- What an occurrence that a step skipped does to its owner (R70, R58, R91, R148, R396): a group swap fails, an armed operation resolves, an acknowledgement is not sent. -/
def State.stepOwner (s : State) (i : Nat) (f : Fixture) : State := match f.action with
  | 0x03 =>
    let a := tfind s.link.acks f.arg1
    { s with link := { s.link with acks := tdel s.link.acks f.arg1 } }.cause ((if (match a with | some y => y.bb | none => false) then 0x053 else 0x043) + 4 * ((f.target - 0x031) / 4)) 1
  | 0x04 => if i == f.target && (s.group i).pend then s.groupFail i .deadlineMissed else s
  | 0x07 => if s.outState (f.arg0 % 8) = 1 && (s.out (f.arg0 % 8)).fix = i then s.outResolve (f.arg0 % 8) .deadlineMissed else s
  | _ => s

/-- ZERO_CROSSING_EDGE with the cycle counts of the grid conditions (R106), and what follows for the owners of the occurrences a step skipped (R63, R70). -/
def State.crossing (s : State) (stayed falling : Bool) (freq : Nat) (rocof zcDelay diff : Int) (lags : List (Fin 12 × Word)) : State :=
  let s0 := s.zcEdge stayed falling freq rocof zcDelay diff lags
  let s1 := if s.trk.stopped || ! stayed || falling != s.trk.zcInv || s.isOff || s.mode == 1 then s0 else s0.gridCycle (lags.map Prod.fst)
  (s.fix.entries.filter (fun e => e.2.armed && s1.fixt e.1 != e.2 && (s1.fixt e.1).result == Status.deadlineMissed)).foldl
    (fun s e => s.stepOwner e.1 e.2) (if s.isOff || s.mode == 1 then s1 else s1.planStart)

/-- MAP_CHANGE_RESEND (R191): the bodies go to the peer. -/
def State.mapResendTo (s : State) (peer p : Nat) (bb : Bool) (c : Nat) : State :=
  let (s1, bodies) := s.mapResend (linkKey peer p bb (if bb then 0 else c) true)
  bodies.foldl (fun s b => s.sendMap p bb c peer b) s1

/-- NBR_REPORT_SEND (R272): an associated node reports once `NBR_REP_SF` superframes have passed, and when it has marked a neighbour lost. -/
def State.nbrReportDue (s : State) (p : Nat) (lqs : List (Nat × Nat × Nat)) : State :=
  if s.isUp p && s.ownShort p != 0xFFFFE && s.roleInEffect p == 2 &&
    (s.sfReached s.sfNow (s.mac.up.reportSf + s.rf Reg.NET_ROUTE_CFG 16 8) || s.mac.up.lostDue) then s.nbrReportSend p lqs else s

/-! ## Queue cells and converters -/

/-- TRANSMISSION_END with what its loopback check found (R539): `conv` is a converter that differed from its digital input. -/
def State.txEndWith (s : State) (p c : Nat) (bb : Bool) (a b d : LineEnd) (conv : Bool) : State :=
  let s1 := s.transmissionEnd p c bb a b d
  if conv && (if bb then (s.cond p c).bb else (s.cond p c).nb).isSome then s1.convFault p c else s1

/-- The lasting response to faults of queue cells (R539): as shared SRAM or DRAM, by where the cells lie. -/
def State.cellsLasting (s : State) : ScrubFound → State
  | .sram hits => hits.foldl State.memRepair s
  | .dram rows => rows.foldl (fun s x => s.dramRetire x.1 x.2.1) s
  | .keys _ => s

/-- READ_LINE with the lasting response of R539, in the memory that holds the line's cells (R304): `loc` says where in it. -/
def State.lineRead (s : State) (q corr : Nat) (bad : List Nat) (loc : ScrubFound) : State :=
  let (s1, lasting) := s.readLine q corr bad
  let (hot, cold) := s.lineCells q
  let there := match loc with
    | .sram _ => ! hot.isEmpty
    | .dram _ => ! cold.isEmpty
    | .keys _ => false
  if lasting && there then s1.cellsLasting loc else s1

/-- HKC_REGULAR_SCAN with the SAFE mode an overheated die enters (R539). -/
def State.hkcScanDone (s : State) (rs : List (Nat × Int)) : State :=
  let (s1, hot) := s.hkcScan rs
  if hot then s1.forceSafe 5 else s1

/-! ## ISP detection (R169) -/

/-- `INT_CAUSE.ISP_CHANGE` and its record. -/
def State.ispChange (s : State) (p : Nat) : State := (s.cause (0x053 + 4 * p) 0).pageRecord (0x053 + 4 * p) 0x00 0 (detail 0 p 0)

/-- What a port hears of ISP signals. -/
def State.ispOf (s : State) (p : Nat) : IspSt := tget {} s.air.isp p
def State.setIsp (s : State) (p : Nat) (x : IspSt) : State := { s with air := { s.air with isp := tset {} s.air.isp p x } }

/-- A window holds an ISP signal: some channel of the receive set at or above `ISP_THR` (R169); a window gives the levels of phases A, B, C and the common mode in dBµV. -/
def State.ispHeard (s : State) (p : Nat) (w : List Nat) : Bool := (w.take (s.rxSet p)).any (fun v => decide (s.rf (Reg.BBP_ISP_CFG p) 8 8 ≤ v))

/-- ISP_DETECT (R169): the last windows, at the spacing of IEEE 1901, the last of them now; three in a row with signals detect them, and an allocation may have been decoded. -/
def State.ispDetect (s : State) (p : Nat) (windows : List (List Nat)) (alloc : Option IspAlloc) : State :=
  let a := Reg.BBP_ISP_STAT p
  if ! s.rb (Reg.BBP_ISP_CFG p) 0 then s
  else
    let k := s.ispOf p
    let heard := match windows.getLast? with
      | some w => s.ispHeard p w
      | none => false
    let s1 := if heard then s.setIsp p { k with seen := s.now + 1 } else s
    let three := decide (3 ≤ windows.length) && (windows.drop (windows.length - 3)).all (s.ispHeard p)
    let s2 := if three && ! s.rb a 0 then (s1.wb a 0 true).ispChange p else s1
    if s2.rb a 0 && alloc.isSome then (s2.setIsp p { s2.ispOf p with alloc := alloc }).wb a 2 true else s2

/-- ISP_CLEAR (R169): no signal for `ISP_CLR_S` seconds. -/
def State.ispClear (s : State) (p : Nat) : State :=
  let a := Reg.BBP_ISP_STAT p
  if s.rb a 0 && decide ((s.ispOf p).seen + s.rf (Reg.BBP_ISP_CFG p) 16 16 * 1000 * msec ≤ s.now + 1) then
    (((s.wb a 0 false).wb a 2 false).setIsp p {}).ispChange p
  else s

end Sys2Proof.Machine
end

