-- ==== Sys2Proof/Machine/BenchCmds.lean ====
section
/-! DEFINITION. Meanings of the commands of fault absorption, substitution and ageing (R537 to R557): each sets the instant, then performs its operation. -/

namespace Sys2Proof.Machine

/-- ENGINE_WATCHDOG (R539). -/
def execEngineWatchdog (t : Nat) (l : Fin 96) (work : Option Nat) (late again : Bool) (s : State) : Host.Outcome State Fault Refusal :=
  .next ((s.advance t).engineWatchdog l work late again)

/-- ENGINE_PARITY_ERROR (R539). -/
def execEngineParityError (t : Nat) (l : Fin 96) (uncorr : Bool) (work : Option Nat) (late again : Bool) (s : State) : Host.Outcome State Fault Refusal :=
  .next ((s.advance t).engineParity l uncorr work late again)

/-- SUBSTITUTE_READY (R540). -/
def execSubstituteReady (t : Nat) (l : Fin 96) (s : State) : Host.Outcome State Fault Refusal := .next ((s.advance t).substReady l)

/-- SUBSTITUTION_MOVE (R540). -/
def execSubstitutionMove (t : Nat) (l : Fin 96) (steps ports : Nat) (s : State) : Host.Outcome State Fault Refusal :=
  .next ((s.advance t).substMove l steps ports)

/-- ENGINE_SELFTEST_DONE (R540). -/
def execEngineSelftestDone (t : Nat) (eng : Fin 105) (st : Nat) (s : State) : Host.Outcome State Fault Refusal := .next ((s.advance t).selftestDone eng st)

/-- BENCH_SUBSTITUTE (R555). -/
def execBenchSubstitute (t : Nat) (m : Nat) (l : Fin 128) (s : State) : Host.Outcome State Fault Refusal :=
  .next ((s.advance t).cmdReg m 0x8040 (fun s => s.benchSubstitute l))

/-- BENCH_SELFTEST (R555). -/
def execBenchSelftest (t : Nat) (m : Nat) (s : State) : Host.Outcome State Fault Refusal := .next ((s.advance t).cmdReg m 0x8040 State.benchSelftest)

/-- LEG_SUBSTITUTION (R547). -/
def execLegSubstitution (t : Nat) (p : Fin 4) (c : Fin 3) (s : State) : Host.Outcome State Fault Refusal := .next ((s.advance t).legSubst p c)

/-- SLICE_CHECK (R546). -/
def execSliceCheck (t : Nat) (die : Fin 2) (i : Nat) (mismatch : Bool) (s : State) : Host.Outcome State Fault Refusal :=
  .next ((s.advance t).sliceCheck die i mismatch)

/-- SLICE_SUBSTITUTION (R546). -/
def execSliceSubstitution (t : Nat) (die : Fin 2) (s : State) : Host.Outcome State Fault Refusal := .next ((s.advance t).sliceSubst die)

/-- D2D_RETRAIN (R539). -/
def execD2dRetrain (t : Nat) (n : Fin 5) (ok : Bool) (s : State) : Host.Outcome State Fault Refusal := .next ((s.advance t).d2dRetrain n ok)

/-- SCRUB_PASS (R549). -/
def execScrubPass (t : Nat) (found : ScrubFound) (s : State) : Host.Outcome State Fault Refusal := .next ((s.advance t).scrubPass found)

/-- AGEING_HOURLY (R554). -/
def execAgeingHourly (t : Nat) (ro em : List Nat) (s : State) : Host.Outcome State Fault Refusal := .next ((s.advance t).ageingHourly ro em)

/-- LIFE_MINUTE (R553). -/
def execLifeMinute (t : Nat) (s : State) : Host.Outcome State Fault Refusal := .next ((s.advance t).lifeMinute)

/-- AGEING_DAILY (R553). -/
def execAgeingDaily (t : Nat) (s : State) : Host.Outcome State Fault Refusal := .next ((s.advance t).ageingDaily)

/-- ACCELERATOR_REQUEST_DONE (R30). -/
def execAcceleratorRequestDone (t : Nat) (kind : Fin 3) (u : Nat) (ok : Bool) (arrived : List AccReq) (s : State) : Host.Outcome State Fault Refusal :=
  .next ((s.advance t).accDone kind u ok arrived)

end Sys2Proof.Machine
end

