-- ==== Sys2Proof/Machine/BootCmds.lean ====
section
/-! DEFINITION. Meanings of the commands of resets and the boot (R572 to R583): each sets the instant, then performs its operation. -/

namespace Sys2Proof.Machine

/-- POWER_ON_RESET (R574). -/
def execPowerOnReset (t : Nat) (straps : Fin 8) (s : State) : Host.Outcome State Fault Refusal := .next ((s.advance t).powerOnReset 0 straps)

/-- AON_MONITOR_RESET (R573). -/
def execAonMonitorReset (t : Nat) (straps : Fin 8) (s : State) : Host.Outcome State Fault Refusal := .next ((s.advance t).powerOnReset 1 straps)

/-- DEVICE_RESET (R574). -/
def execDeviceReset (t : Nat) (s : State) : Host.Outcome State Fault Refusal := .next ((s.advance t).deviceReset 2)

/-- CORE_RAIL_RESET (R573). -/
def execCoreRailReset (t : Nat) (s : State) : Host.Outcome State Fault Refusal := .next ((s.advance t).deviceReset 3)

/-- RST_REQ (R573). -/
def execRstReq (t : Nat) (m : Nat) (s : State) : Host.Outcome State Fault Refusal := .next ((s.advance t).cmdReg m 0x50 (fun s => s.sysWrite 0x050 1))

/-- BOOT_COMPLETE (R576). -/
def execBootComplete (t : Nat) (drives : List DriveFound) (banks : Nat) (s : State) : Host.Outcome State Fault Refusal :=
  .next ((s.advance t).bootComplete drives banks)

end Sys2Proof.Machine
end

