-- ==== Sys2Proof/Machine/DebugCmds.lean ====
section
/-! DEFINITION. Meanings of the commands of the test access port and the debug port (R503, R508, R509, R565 to R571): each sets the instant, then performs its operation. -/

namespace Sys2Proof.Machine

/-- CHALLENGE (R569). -/
def execDapChallenge (t : Nat) (s : State) : Host.Outcome State Fault Refusal := .next ((s.advance t).dapRun State.dapChallenge)

/-- OUT (R568). -/
def execDapOut (t : Nat) (s : State) : Host.Outcome State Fault Refusal := .next ((s.advance t).dapRun State.dapOutWord)

/-- IN (R568). -/
def execDapIn (t : Nat) (v : Word) (s : State) : Host.Outcome State Fault Refusal := .next ((s.advance t).dapRun (fun s => s.dapInWord v))

/-- DAP_SUBMIT (R508). -/
def execDapSubmit (t : Nat) (s : State) : Host.Outcome State Fault Refusal := .next ((s.advance t).dapRun State.dapSubmit)

/-- STATUS (R568). -/
def execDapStatus (t : Nat) (s : State) : Host.Outcome State Fault Refusal := .next ((s.advance t).dapRun State.dapStatus)

/-- LOWER (R509). -/
def execDapLower (t : Nat) (l : Fin 4) (s : State) : Host.Outcome State Fault Refusal := .next ((s.advance t).dapRun (fun s => s.dapLower l))

/-- ADDR_LO (R568). -/
def execDapAddrLo (t : Nat) (v : Word) (s : State) : Host.Outcome State Fault Refusal := .next ((s.advance t).dapRun (fun s => s.dapAddrLo v))

/-- ADDR_HI (R568). -/
def execDapAddrHi (t : Nat) (v : Word) (s : State) : Host.Outcome State Fault Refusal := .next ((s.advance t).dapRun (fun s => s.dapAddrHi v))

/-- READ (R568). -/
def execDapRead (t : Nat) (host : List Byte) (s : State) : Host.Outcome State Fault Refusal := .next ((s.advance t).dapRun (fun s => s.dapMem 0 host))

/-- WRITE (R568). -/
def execDapWrite (t : Nat) (v : Word) (s : State) : Host.Outcome State Fault Refusal := .next ((s.advance t).dapRun (fun s => s.dapMem 1 (leBytes 4 v.toNat)))

/-- HALT (R503). -/
def execDapHalt (t : Nat) (l : Fin 128) (checks : Bool) (s : State) : Host.Outcome State Fault Refusal :=
  .next ((s.advance t).dapRun (fun s => s.dapHalt l checks))

/-- STEP (R503). -/
def execDapStep (t : Nat) (l : Fin 128) (s : State) : Host.Outcome State Fault Refusal := .next ((s.advance t).dapRun (fun s => s.dapStep l))

/-- RESUME (R503). -/
def execDapResume (t : Nat) (l : Fin 128) (s : State) : Host.Outcome State Fault Refusal := .next ((s.advance t).dapRun (fun s => s.dapResume l))

/-- CHALLENGE_EXPIRY (R569). -/
def execChallengeExpiry (t : Nat) (s : State) : Host.Outcome State Fault Refusal := .next ((s.advance t).chalExpiry)

/-- DEBUG_LOCKOUT_END (R508). -/
def execDebugLockoutEnd (t : Nat) (s : State) : Host.Outcome State Fault Refusal := .next ((s.advance t).lockoutEnd)

/-- EXTEST (R565). -/
def execExtest (t : Nat) (pins shift : Nat) (s : State) : Host.Outcome State Fault Refusal := .next ((s.advance t).tapScan 0x00 pins shift)

/-- SAMPLE_PRELOAD (R565). -/
def execSamplePreload (t : Nat) (pins shift : Nat) (s : State) : Host.Outcome State Fault Refusal := .next ((s.advance t).tapScan 0x01 pins shift)

/-- IDCODE (R566). -/
def execIdcode (t : Nat) (s : State) : Host.Outcome State Fault Refusal := .next ((s.advance t).tapSelect true 0x02 idcode)

/-- CLAMP (R565). -/
def execClamp (t : Nat) (s : State) : Host.Outcome State Fault Refusal :=
  let s := s.advance t
  .next ((s.tapSelect s.atD3 0x03 0).tapForce)

/-- HIGHZ (R565). -/
def execHighz (t : Nat) (s : State) : Host.Outcome State Fault Refusal :=
  let s := s.advance t
  .next ((s.tapSelect s.atD3 0x04 0).tapForce)

/-- DAP (R568). -/
def execDapSelect (t : Nat) (s : State) : Host.Outcome State Fault Refusal :=
  let s := s.advance t
  .next (s.tapSelect true 0x10 (s.dap.status + s.dap.result * 256))

/-- LC_ADVANCE (R571). -/
def execLcAdvance (t : Nat) (target : Fin 4) (s : State) : Host.Outcome State Fault Refusal := .next ((s.advance t).lcAdvance target)

/-- BYPASS (R565). -/
def execBypass (t : Nat) (s : State) : Host.Outcome State Fault Refusal := .next ((s.advance t).tapSelect true 0xFF 0)

/-- TAP_RESET (R565). -/
def execTapReset (t : Nat) (trst : Bool) (s : State) : Host.Outcome State Fault Refusal := .next ((s.advance t).tapReset trst)

end Sys2Proof.Machine
end

