-- ==== Sys2Proof/Machine/FixtureCmds.lean ====
section
/-! DEFINITION. Meanings of the commands of the line-time calendar (R79 to R92): each sets the instant, then performs its operation. -/

namespace Sys2Proof.Machine

/-- ENT_CMD_READ (R92). -/
def execEntCmdRead (t : Nat) (m : Nat) (s : State) : Host.Outcome State Fault Refusal := .next ((s.advance t).cmdReg m 0x404C State.entRead)

/-- ENT_CMD_WRITE (R88). -/
def execEntCmdWrite (t : Nat) (m : Nat) (s : State) : Host.Outcome State Fault Refusal :=
  .next ((s.advance t).cmdReg m 0x404C (fun s => s.entWrite (s.hostRange m)))

/-- ENT_CMD_DISARM (R90). -/
def execEntCmdDisarm (t : Nat) (m : Nat) (s : State) : Host.Outcome State Fault Refusal :=
  .next ((s.advance t).cmdReg m 0x404C (fun s => s.entDisarm (s.hostRange m)))

/-- FIX_HELD_WRITE_APPLY (R90). -/
def execFixHeldWriteApply (t : Nat) (s : State) : Host.Outcome State Fault Refusal := .next ((s.advance t).applyHeld)

/-- FIXTURE_COMMIT (R83). -/
def execFixtureCommit (t : Nat) (i : Fin 8192) (s : State) : Host.Outcome State Fault Refusal := .next ((s.advance t).fixCommit i)

/-- PREWARM_WAKE (R84). -/
def execPrewarmWake (t : Nat) (i : Fin 8192) (needs : List MapNeed) (s : State) : Host.Outcome State Fault Refusal := .next ((s.advance t).prewarmWake i needs)

/-- TX_START (R81). -/
def execTxStart (t : Nat) (i : Fin 8192) (x : TxDesc) (s : State) : Host.Outcome State Fault Refusal := .next ((s.advance t).txStart i x)

/-- RX_WINDOW (R81). -/
def execRxWindow (t : Nat) (i : Fin 8192) (s : State) : Host.Outcome State Fault Refusal := .next ((s.advance t).rxWindow i)

/-- RX_WINDOW_CLOSE (R218). -/
def execRxWindowClose (t : Nat) (p ch : Fin 4) (s : State) : Host.Outcome State Fault Refusal := .next ((s.advance t).rxWindowClose p ch)

/-- ACK_TX (R142). -/
def execAckTx (t : Nat) (i : Fin 8192) (bandC : List (Nat × Nat)) (s : State) : Host.Outcome State Fault Refusal := .next ((s.advance t).ackTx i bandC)

/-- BANK_SWAP (R57). -/
def execBankSwap (t : Nat) (i : Fin 8192) (s : State) : Host.Outcome State Fault Refusal :=
  let s := s.advance t
  .next ((s.bankSwapFix i).refilter s)

/-- ENGINE_WAKE (R84). -/
def execEngineWake (t : Nat) (i : Fin 8192) (s : State) : Host.Outcome State Fault Refusal := .next ((s.advance t).engineWakeFix i)

/-- CONV_TRIGGER (R81). -/
def execConvTrigger (t : Nat) (i : Fin 8192) (s : State) : Host.Outcome State Fault Refusal := .next ((s.advance t).convTriggerFix i)

/-- CTL_FIRE (R396). -/
def execCtlFire (t : Nat) (i : Fin 8192) (s : State) : Host.Outcome State Fault Refusal := .next ((s.advance t).ctlFireFix i)

/-- SF_BOUNDARY (R81). -/
def execSfBoundary (t : Nat) (i : Fin 8192) (s : State) : Host.Outcome State Fault Refusal := .next ((s.advance t).sfBoundary i)

/-- QUIET (R224). -/
def execQuiet (t : Nat) (i : Fin 8192) (s : State) : Host.Outcome State Fault Refusal := .next ((s.advance t).quietFix i)

/-- ENGINE_EVENT (R81). -/
def execEngineEvent (t : Nat) (i : Fin 8192) (s : State) : Host.Outcome State Fault Refusal := .next ((s.advance t).engineEventFix i)

/-- HOST_EVENT (R81). -/
def execHostEvent (t : Nat) (i : Fin 8192) (s : State) : Host.Outcome State Fault Refusal := .next ((s.advance t).hostEventFix i)

/-- MODE_WAKE (R493). -/
def execModeWake (t : Nat) (i : Fin 8192) (s : State) : Host.Outcome State Fault Refusal := .next ((s.advance t).modeWakeFix i)

end Sys2Proof.Machine
end

