-- ==== Sys2Proof/Machine/HeaderCmds.lean ====
section
/-! DEFINITION. Meanings of the commands of registers and page headers (R13, R38 to R59, R537): each sets the instant, then performs its operation. -/

namespace Sys2Proof.Machine

/-- REGISTER_WRITE (R13). -/
def execRegisterWrite (t : Nat) (m : Nat) (via : Fin 2) (msg : Bool) (a : Nat) (data : List Byte) (s : State) : Host.Outcome State Fault Refusal :=
  .next ((s.advance t).regWriteBy m via msg a data)

/-- INT_SET (R41). -/
def execIntSet (t : Nat) (m page : Nat) (v : Word) (s : State) : Host.Outcome State Fault Refusal :=
  .next ((s.advance t).cmdReg m (Reg.INT_SET page) (fun s => s.intSet page v))

/-- INT_CAUSE_CLEAR (R15). -/
def execIntCauseClear (t : Nat) (m page : Nat) (v : Word) (s : State) : Host.Outcome State Fault Refusal := .next ((s.advance t).causeClearBy m page v)

/-- SOFT_RESET (R44). -/
def execSoftReset (t : Nat) (m page : Nat) (s : State) : Host.Outcome State Fault Refusal :=
  .next ((s.advance t).cmdReg m (Reg.BLK_CTL page) (fun s => s.softResetCmd page))

/-- SOFT_RESET_DONE (R44). -/
def execSoftResetDone (t : Nat) (page : Nat) (s : State) : Host.Outcome State Fault Refusal :=
  let s := s.advance t
  .next (if allocated page then s.softResetDone page else s)

/-- LOCK_WRITE (R45). -/
def execLockWrite (t : Nat) (m page : Nat) (v : Word) (s : State) : Host.Outcome State Fault Refusal :=
  .next ((s.advance t).cmdReg m (Reg.LOCK page) (fun s => s.lockWrite page v))

/-- BANK_COPY (R51). -/
def execBankCopy (t : Nat) (m page : Nat) (s : State) : Host.Outcome State Fault Refusal :=
  .next ((s.advance t).cmdReg m (Reg.BANK_CTL page) (fun s => s.bankCtlCmd page 14))

/-- BANK_COPY_DONE (R51). -/
def execBankCopyDone (t : Nat) (page : Nat) (s : State) : Host.Outcome State Fault Refusal := .next ((s.advance t).bankCopyDone page)

/-- SOLO_SWAP_REQUEST (R53). -/
def execSoloSwapRequest (t : Nat) (m page : Nat) (s : State) : Host.Outcome State Fault Refusal :=
  .next ((s.advance t).cmdReg m (Reg.BANK_CTL page) (fun s => s.bankCtlCmd page 12))

/-- SOLO_SWAP_CANCEL (R59). -/
def execSoloSwapCancel (t : Nat) (m page : Nat) (s : State) : Host.Outcome State Fault Refusal :=
  .next ((s.advance t).cmdReg m (Reg.BANK_CTL page) (fun s => s.bankCtlCmd page 13))

/-- SOLO_SWAP (R58). -/
def execSoloSwap (t : Nat) (page : Nat) (s : State) : Host.Outcome State Fault Refusal :=
  let s := s.advance t
  .next ((s.soloSwapAny page).refilter s)

/-- GROUP_SWAP_REQUEST (R57). -/
def execGroupSwapRequest (t : Nat) (m : Nat) (g : Fin 16) (s : State) : Host.Outcome State Fault Refusal :=
  .next ((s.advance t).cmdReg m (0x504C + 0x20 * g) (fun s => s.groupReq g))

/-- GROUP_SWAP_CANCEL (R58). -/
def execGroupSwapCancel (t : Nat) (m : Nat) (g : Fin 16) (s : State) : Host.Outcome State Fault Refusal :=
  .next ((s.advance t).cmdReg m (0x504C + 0x20 * g) (fun s => s.groupCancel g))

/-- GROUP_SWAP (R58). -/
def execGroupSwap (t : Nat) (g : Fin 16) (s : State) : Host.Outcome State Fault Refusal :=
  let s := s.advance t
  .next ((s.groupSwap g).refilter s)

/-- D2D_CRC_FAIL (R20). -/
def execD2dCrcFail (t : Nat) (n : Fin 5) (again : Bool) (s : State) : Host.Outcome State Fault Refusal := .next ((s.advance t).d2dFail n again)

/-- FAULT_WINDOW_CLOSE (R537). -/
def execFaultWindowClose (t : Nat) (page : Nat) (s : State) : Host.Outcome State Fault Refusal := .next ((s.advance t).windowClose page)

end Sys2Proof.Machine
end

