-- ==== Sys2Proof/Machine/HostCmds.lean ====
section
/-! DEFINITION. Meanings of the commands of the host link and its rings (R321 to R348): each sets the instant, then performs its operation. -/

namespace Sys2Proof.Machine

/-- LINK_UP (R338). -/
def execLinkUp (t : Nat) (n : Fin 2) (mode : Fin 8) (s : State) : Host.Outcome State Fault Refusal := .next ((s.advance t).linkUp n mode)

/-- LINK_LOSS (R339). -/
def execLinkLoss (t : Nat) (n : Fin 2) (s : State) : Host.Outcome State Fault Refusal := .next ((s.advance t).linkLoss n)

/-- FAILOVER_COMPLETE (R340). -/
def execFailoverComplete (t : Nat) (s : State) : Host.Outcome State Fault Refusal := .next ((s.advance t).failoverDone)

/-- HOST_SWITCH (R341). -/
def execHostSwitch (t : Nat) (m : Nat) (s : State) : Host.Outcome State Fault Refusal := .next ((s.advance t).cmdReg m 0x1A040 (fun s => s.hostSwitch))

/-- HEARTBEAT (R345). -/
def execHeartbeat (t : Nat) (m : Nat) (s : State) : Host.Outcome State Fault Refusal := .next ((s.advance t).cmdReg m 0x1A040 (fun s => s.heartbeat))

/-- HOST_WATCHDOG (R344). -/
def execHostWatchdog (t : Nat) (s : State) : Host.Outcome State Fault Refusal := .next ((s.advance t).hostWatchdog)

/-- SQ_DOORBELL (R337). -/
def execSqDoorbell (t : Nat) (r : Fin 256) (v : Word) (s : State) : Host.Outcome State Fault Refusal :=
  .next ((s.advance t).hostMsg (fun s => s.sqDoorbell r (fld v 0 16)))

/-- CQ_DOORBELL (R337). -/
def execCqDoorbell (t : Nat) (r : Fin 256) (v : Word) (s : State) : Host.Outcome State Fault Refusal :=
  .next ((s.advance t).hostMsg (fun s => s.cqDoorbell r (fld v 0 16)))

/-- IRQ_GAP_EXPIRY (R325). -/
def execIrqGapExpiry (t : Nat) (r : Fin 256) (s : State) : Host.Outcome State Fault Refusal := .next ((s.advance t).irqGapEnd r)

/-- MSIX_UNMASK (R326). -/
def execMsixUnmask (t : Nat) (v : Fin 512) (s : State) : Host.Outcome State Fault Refusal := .next ((s.advance t).hostMsg (fun s => s.msixUnmask v))

/-- NOP (R332). -/
def execNop (t : Nat) (r : Fin 256) (e : List Byte) (s : State) : Host.Outcome State Fault Refusal := .next ((s.advance t).nopSub r e)

/-- FIX_WRITE (R332). -/
def execFixWrite (t : Nat) (r : Fin 256) (e : List Byte) (s : State) : Host.Outcome State Fault Refusal :=
  .next ((s.advance t).submit r e (· == 0x08) (fun s x => s.fixWrite x))

/-- FIX_DISARM (R332). -/
def execFixDisarm (t : Nat) (r : Fin 256) (e : List Byte) (s : State) : Host.Outcome State Fault Refusal :=
  .next ((s.advance t).submit r e (· == 0x09) (fun s x => s.fixDisarm x))

/-- FIX_READ (R332). -/
def execFixRead (t : Nat) (r : Fin 256) (e : List Byte) (s : State) : Host.Outcome State Fault Refusal :=
  .next ((s.advance t).submit r e (· == 0x0A) (fun s x => s.fixRead x))

/-- RXBUF_POST (R334). -/
def execRxbufPost (t : Nat) (r : Fin 256) (e : List Byte) (s : State) : Host.Outcome State Fault Refusal :=
  .next ((s.advance t).submit r e (· == 0x20) (fun s x => s.rxbufPost x))

/-- RING_ENABLE (R336). -/
def execRingEnable (t : Nat) (r : Fin 256) (s : State) : Host.Outcome State Fault Refusal := .next ((s.advance t).hostMsg (fun s => s.ringCtl r 1))

/-- RING_DISABLE (R336). -/
def execRingDisable (t : Nat) (r : Fin 256) (s : State) : Host.Outcome State Fault Refusal := .next ((s.advance t).hostMsg (fun s => s.ringCtl r 0))

/-- RING_ABORT (R336). -/
def execRingAbort (t : Nat) (r : Fin 256) (s : State) : Host.Outcome State Fault Refusal := .next ((s.advance t).hostMsg (fun s => s.ringAbort r))

/-- RING_DRAIN_DONE (R336). -/
def execRingDrainDone (t : Nat) (r : Fin 256) (s : State) : Host.Outcome State Fault Refusal := .next ((s.advance t).ringDrainDone r)

/-- RING_DMA_ERROR (R336). -/
def execRingDmaError (t : Nat) (r : Fin 256) (failed : Nat) (s : State) : Host.Outcome State Fault Refusal := .next ((s.advance t).ringError r failed)

/-- FUNCTION_LEVEL_RESET (R336). -/
def execFunctionLevelReset (t : Nat) (s : State) : Host.Outcome State Fault Refusal := .next ((s.advance t).functionReset)

/-- REG_RD (R342). -/
def execRegRd (t : Nat) (a n : Nat) (s : State) : Host.Outcome State Fault Refusal := .next ((s.advance t).bulkRead a n)

/-- REG_WR (R342). -/
def execRegWr (t : Nat) (a : Nat) (data : List Byte) (s : State) : Host.Outcome State Fault Refusal := .next ((s.advance t).bulkWrite a data)

/-- SUBMIT (R342). -/
def execBulkSubmit (t : Nat) (r : Fin 256) (idx : Nat) (entries : List (List Byte)) (s : State) : Host.Outcome State Fault Refusal :=
  .next ((s.advance t).bulkSubmit r idx entries)

/-- CQ_ACK (R342). -/
def execCqAck (t : Nat) (r : Fin 256) (v : Word) (s : State) : Host.Outcome State Fault Refusal := .next ((s.advance t).bulkAck r (fld v 0 16))

/-- DATA (R342). -/
def execBulkData (t : Nat) (a : Nat) (data : List Byte) (s : State) : Host.Outcome State Fault Refusal := .next ((s.advance t).bulkData a data)

/-- MAINT_REG_READ (R343). -/
def execMaintRegRead (t : Nat) (n : Fin 2) (page ofs : Nat) (s : State) : Host.Outcome State Fault Refusal := .next ((s.advance t).maintRead n page ofs)

/-- MAINT_REG_WRITE (R343). -/
def execMaintRegWrite (t : Nat) (n : Fin 2) (page ofs : Nat) (v : Word) (s : State) : Host.Outcome State Fault Refusal :=
  .next ((s.advance t).maintWrite n page ofs v)

end Sys2Proof.Machine
end

