-- ==== Sys2Proof/Machine/LegacyCmds.lean ====
section
/-! DEFINITION. Meanings of the commands of the umpire and legacy memory management (R511 to R536): each sets the instant, then performs its operation. -/

namespace Sys2Proof.Machine

/-- FABRIC_ACCESS (R514). -/
def execFabricAccess (t : Nat) (x : FabAcc) (s : State) : Host.Outcome State Fault Refusal := .next ((s.advance t).fabricAccess x)

/-- LEGACY_SLOT_ENABLE (R522). -/
def execLegacySlotEnable (t : Nat) (m : Nat) (k : Fin 16) (v : Word) (s : State) : Host.Outcome State Fault Refusal :=
  .next ((s.advance t).cmdReg m (Reg.LGC_SLOT_CTL k) (fun s => s.slotCtl k v))

/-- CARD_CLR (R534). -/
def execCardClr (t : Nat) (m : Nat) (k : Fin 16) (s : State) : Host.Outcome State Fault Refusal :=
  .next ((s.advance t).cmdReg m (Reg.LGC_SLOT_CMD k) (fun s => s.cardClr k))

/-- START (R529). -/
def execLgcStart (t : Nat) (m : Nat) (k : Fin 16) (c : Fin 4) (s : State) : Host.Outcome State Fault Refusal :=
  .next ((s.advance t).cmdReg m (Reg.LGC_SLOT_CMD k) (fun s => s.ctxStart k c))

/-- STOP (R529). -/
def execLgcStop (t : Nat) (m : Nat) (k : Fin 16) (c : Fin 4) (s : State) : Host.Outcome State Fault Refusal :=
  .next ((s.advance t).cmdReg m (Reg.LGC_SLOT_CMD k) (fun s => s.ctxStop k c))

/-- TLB_INV_ALL (R525). -/
def execTlbInvAll (t : Nat) (m : Nat) (k : Fin 16) (s : State) : Host.Outcome State Fault Refusal :=
  .next ((s.advance t).cmdReg m (Reg.LGC_SLOT_CMD k) (fun s => s.tlbInvAll k))

/-- TLB_INV_VA (R525). -/
def execTlbInvVa (t : Nat) (m : Nat) (k : Fin 16) (asid : Fin 256) (s : State) : Host.Outcome State Fault Refusal :=
  .next ((s.advance t).cmdReg m (Reg.LGC_SLOT_CMD k) (fun s => s.tlbInvVa k asid))

/-- FLT_RESUME (R527). -/
def execFltResume (t : Nat) (m : Nat) (k : Fin 16) (n : Fin 8) (s : State) : Host.Outcome State Fault Refusal :=
  .next ((s.advance t).cmdReg m (lgcPage k * 0x1000 + 0x1058 + 0x20 * n) (fun s => s.fltResume k n))

/-- FLT_ABORT (R527). -/
def execFltAbort (t : Nat) (m : Nat) (k : Fin 16) (n : Fin 8) (s : State) : Host.Outcome State Fault Refusal :=
  .next ((s.advance t).cmdReg m (lgcPage k * 0x1000 + 0x1058 + 0x20 * n) (fun s => s.fltAbort k n))

/-- QUANTUM_EXPIRY (R529). -/
def execQuantumExpiry (t : Nat) (k : Fin 16) (s : State) : Host.Outcome State Fault Refusal := .next ((s.advance t).quantumEnd k)

/-- LGC_READ (R523). -/
def execLgcRead (t : Nat) (r : Fin 256) (e : List Byte) (s : State) : Host.Outcome State Fault Refusal :=
  .next ((s.advance t).submit r e (· == 0x71) (fun s x => s.lgcRead x))

/-- LGC_WRITE (R523). -/
def execLgcWrite (t : Nat) (r : Fin 256) (e : List Byte) (data : List Byte) (s : State) : Host.Outcome State Fault Refusal :=
  .next ((s.advance t).submit r e (· == 0x70) (fun s x => s.lgcWrite x data))

end Sys2Proof.Machine
end

