-- ==== Sys2Proof/Machine/LineTimeCmds.lean ====
section
/-! DEFINITION. Meanings of the commands of line time and UTC (R61 to R76): each sets the instant, then performs its operation. -/

namespace Sys2Proof.Machine

/-- ZERO_CROSSING_EDGE (R63). -/
def execZeroCrossingEdge (t : Nat) (stayed falling : Bool) (freq : Nat) (rocof zcDelay diff : Int) (lags : List (Fin 12 × Word)) (s : State) : Host.Outcome State Fault Refusal :=
  .next ((s.advance t).crossing stayed falling freq rocof zcDelay diff lags)

/-- SLEW_COMPLETE (R70). -/
def execSlewComplete (t : Nat) (s : State) : Host.Outcome State Fault Refusal := .next ((s.advance t).slewComplete)

/-- HOLDOVER_TIMEOUT (R65). -/
def execHoldoverTimeout (t : Nat) (s : State) : Host.Outcome State Fault Refusal := .next ((s.advance t).holdoverTimeout)

/-- HOLD_TX_REACHED (R69). -/
def execHoldTxReached (t : Nat) (s : State) : Host.Outcome State Fault Refusal := .next ((s.advance t).holdTxReached)

/-- HOLD_LONG (R69). -/
def execHoldLong (t : Nat) (s : State) : Host.Outcome State Fault Refusal := .next ((s.advance t).holdLong)

/-- TRK_HOLD (R65). -/
def execTrkHold (t : Nat) (m : Nat) (s : State) : Host.Outcome State Fault Refusal := .next ((s.advance t).cmdReg m 0x3040 (fun s => s.trkHold))

/-- TRACKER_RESTART (R64). -/
def execTrackerRestart (t : Nat) (m : Nat) (s : State) : Host.Outcome State Fault Refusal := .next ((s.advance t).cmdReg m 0x3040 (fun s => s.trkRestart))

/-- TRACKER_ENABLE (R64). -/
def execTrackerEnable (t : Nat) (m : Nat) (en : Bool) (s : State) : Host.Outcome State Fault Refusal :=
  .next ((s.advance t).cmdReg m 0x3040 (fun s => s.trkEnable en))

/-- SNAP (R76). -/
def execSnap (t : Nat) (m : Nat) (s : State) : Host.Outcome State Fault Refusal := .next ((s.advance t).cmdReg m 0x3040 (fun s => s.snap))

/-- CYC_APPLY (R73). -/
def execCycApply (t : Nat) (m : Nat) (s : State) : Host.Outcome State Fault Refusal := .next ((s.advance t).cmdReg m 0x3040 (fun s => s.cycApply))

/-- UTC_ARM (R74). -/
def execUtcArm (t : Nat) (m : Nat) (s : State) : Host.Outcome State Fault Refusal := .next ((s.advance t).cmdReg m 0x3040 (fun s => s.utcArm))

/-- PPS_EDGE (R473). -/
def execPpsEdge (t : Nat) (falling : Bool) (held : Nat) (s : State) : Host.Outcome State Fault Refusal := .next ((s.advance t).ppsEdge falling held)

/-- PPS_TIMEOUT (R75). -/
def execPpsTimeout (t : Nat) (s : State) : Host.Outcome State Fault Refusal := .next ((s.advance t).ppsTimeout)

/-- UTC_HOLD_EXPIRY (R75). -/
def execUtcHoldExpiry (t : Nat) (s : State) : Host.Outcome State Fault Refusal := .next ((s.advance t).utcHoldExpiry)

/-- MET_OK_CHANGE (R62). -/
def execMetOkChange (t : Nat) (ok : Bool) (s : State) : Host.Outcome State Fault Refusal := .next ((s.advance t).metOkChange ok)

end Sys2Proof.Machine
end

