-- ==== Sys2Proof/Machine/MacCmds.lean ====
section
/-! DEFINITION. Meanings of the commands of superframes, access and association (R202 to R233, R254 to R263): each sets the instant, then performs its operation. -/

namespace Sys2Proof.Machine

/-- S_CHANGE (R206). -/
def execSChange (t : Nat) (s : State) : Host.Outcome State Fault Refusal := .next ((s.advance t).sChange)

/-- BEACON_RX (R226). -/
def execBeaconRx (t : Nat) (lq : Nat) (s : State) : Host.Outcome State Fault Refusal := .next ((s.advance t).beaconRx lq)

/-- BEACON_MISS (R228). -/
def execBeaconMiss (t : Nat) (s : State) : Host.Outcome State Fault Refusal := .next ((s.advance t).beaconMiss)

/-- CONTENTION_ACCESS (R214). -/
def execContentionAccess (t : Nat) (id level : Nat) (preamble : Bool) (s : State) : Host.Outcome State Fault Refusal :=
  .next ((s.advance t).contention id level preamble)

/-- GRANT_RESEND (R221). -/
def execGrantResend (t : Nat) (s : State) : Host.Outcome State Fault Refusal := .next ((s.advance t).grantResend)

/-- SLOT_GRANT (R220). -/
def execSlotGrant (t : Nat) (s : State) : Host.Outcome State Fault Refusal := .next ((s.advance t).slotGrant)

/-- ASSOC_REQ (R261). -/
def execAssocReq (t : Nat) (s : State) : Host.Outcome State Fault Refusal := .next ((s.advance t).assocRequest)

/-- ASSOC_RESP (R260). -/
def execAssocResp (t : Nat) (s : State) : Host.Outcome State Fault Refusal := .next ((s.advance t).assocResponse)

/-- DISASSOC (R263). -/
def execDisassoc (t : Nat) (s : State) : Host.Outcome State Fault Refusal := .next ((s.advance t).disassoc)

/-- LEASE_RENEW (R262). -/
def execLeaseRenew (t : Nat) (s : State) : Host.Outcome State Fault Refusal := .next ((s.advance t).leaseRenew)

/-- LEASE_ACK (R262). -/
def execLeaseAck (t : Nat) (s : State) : Host.Outcome State Fault Refusal := .next ((s.advance t).leaseAck)

/-- NULL (R254). -/
def execMgmtNull (t : Nat) (s : State) : Host.Outcome State Fault Refusal := .next ((s.advance t).nullRx)

/-- LEASE_RENEW_SEND (R262). -/
def execLeaseRenewSend (t : Nat) (s : State) : Host.Outcome State Fault Refusal := .next ((s.advance t).leaseRenewSend)

/-- LEASE_END (R228). -/
def execLeaseEnd (t : Nat) (s : State) : Host.Outcome State Fault Refusal := .next ((s.advance t).leaseEnd)

/-- QUARANTINE_END (R262). -/
def execQuarantineEnd (t : Nat) (s : State) : Host.Outcome State Fault Refusal := .next ((s.advance t).quarantineEnd)

/-- IR_HOLD_EXPIRY (R253). -/
def execIrHoldExpiry (t : Nat) (s : State) : Host.Outcome State Fault Refusal := .next ((s.advance t).irExpiry)

/-- NBR_EXPIRY (R255). -/
def execNbrExpiry (t : Nat) (p : Fin 4) (s : State) : Host.Outcome State Fault Refusal := .next ((s.advance t).nbrExpiry p)

/-- EPOCH_GRACE_END (R435). -/
def execEpochGraceEnd (t : Nat) (s : State) : Host.Outcome State Fault Refusal := .next ((s.advance t).graceEnd)

end Sys2Proof.Machine
end

