-- ==== Sys2Proof/Machine/MetroCmds.lean ====
section
/-! DEFINITION. Meanings of the commands of metrology, housekeeping and control outputs (R376 to R408): each sets the instant, then performs its operation. -/

namespace Sys2Proof.Machine

/-- METRO_INTERVAL (R383). -/
def execMetroInterval (t : Nat) (p : Fin 4) (xs : List MetSample) (credit : Bool) (s : State) : Host.Outcome State Fault Refusal :=
  .next ((s.advance t).metInterval p xs credit)

/-- METRO_UTC_BOUNDARY (R383). -/
def execMetroUtcBoundary (t : Nat) (p : Fin 4) (xs : List MetSample) (credit : Bool) (s : State) : Host.Outcome State Fault Refusal :=
  .next ((s.advance t).metBoundary p xs credit)

/-- DIP_SWELL_DETECT (R385). -/
def execDipSwellDetect (t : Nat) (p : Fin 4) (xs : List MetSample) (credit : Bool) (s : State) : Host.Outcome State Fault Refusal :=
  .next ((s.advance t).dipSwell p xs credit)

/-- MET_SNAP_DONE (R388). -/
def execMetSnapDone (t : Nat) (xs : List (List Int)) (s : State) : Host.Outcome State Fault Refusal := .next ((s.advance t).snapDone xs)

/-- MET_SNAP_READ (R388). -/
def execMetSnapRead (t : Nat) (r : Fin 256) (e : List Byte) (s : State) : Host.Outcome State Fault Refusal :=
  .next ((s.advance t).submit r e (· == 0x48) (fun s x => s.snapRead x))

/-- HKC_REGULAR_SCAN (R391). -/
def execHkcRegularScan (t : Nat) (rs : List (Nat × Int)) (s : State) : Host.Outcome State Fault Refusal := .next ((s.advance t).hkcScanDone rs)

/-- HKC_INJ_TRIG (R392). -/
def execHkcInjTrig (t : Nat) (m : Nat) (s : State) : Host.Outcome State Fault Refusal := .next ((s.advance t).cmdReg m 0xC040 (fun s => s.hkcTrigger))

/-- HKC_INJ_DONE (R392). -/
def execHkcInjDone (t : Nat) (rs : List (Nat × Int)) (s : State) : Host.Outcome State Fault Refusal := .next ((s.advance t).hkcInjDone rs)

/-- HKC_CAL (R393). -/
def execHkcCal (t : Nat) (s : State) : Host.Outcome State Fault Refusal := .next ((s.advance t).hkcCal)

/-- HKC_CAL_DONE (R393). -/
def execHkcCalDone (t : Nat) (s : State) : Host.Outcome State Fault Refusal := .next ((s.advance t).hkcCalDone)

/-- CTL_ARM (R397). -/
def execCtlArm (t : Nat) (r : Fin 256) (e : List Byte) (s : State) : Host.Outcome State Fault Refusal :=
  .next ((s.advance t).submit r e (· == 0x44) (fun s x => s.ctlArm x))

/-- ARM_CMD_ARM (R397). -/
def execArmCmdArm (t : Nat) (m : Nat) (s : State) : Host.Outcome State Fault Refusal := .next ((s.advance t).cmdReg m 0x2C058 (fun s => s.armCmd 1))

/-- ARM_CMD_DISARM (R400). -/
def execArmCmdDisarm (t : Nat) (m : Nat) (s : State) : Host.Outcome State Fault Refusal := .next ((s.advance t).cmdReg m 0x2C058 (fun s => s.armCmd 2))

/-- CTL_DISARM (R400). -/
def execCtlDisarm (t : Nat) (r : Fin 256) (e : List Byte) (s : State) : Host.Outcome State Fault Refusal :=
  .next ((s.advance t).submit r e (· == 0x45) (fun s x => s.ctlDisarm x))

/-- CLR_LOCK (R401). -/
def execClrLock (t : Nat) (m : Nat) (s : State) : Host.Outcome State Fault Refusal := .next ((s.advance t).cmdReg m 0x2C058 (fun s => s.armCmd 4))

/-- PULSE_END (R400). -/
def execPulseEnd (t : Nat) (n : Fin 8) (s : State) : Host.Outcome State Fault Refusal := .next ((s.advance t).pulseEnd n)

/-- CTLFB_EDGE (R399). -/
def execCtlfbEdge (t : Nat) (n : Fin 8) (level : Bool) (s : State) : Host.Outcome State Fault Refusal := .next ((s.advance t).feedbackEdge n level)

/-- FEEDBACK_TIMEOUT (R400). -/
def execFeedbackTimeout (t : Nat) (n : Fin 8) (s : State) : Host.Outcome State Fault Refusal := .next ((s.advance t).feedbackTimeout n)

/-- INTERLOCK_CHANGE (R398). -/
def execInterlockChange (t : Nat) (n : Fin 4) (level : Bool) (s : State) : Host.Outcome State Fault Refusal := .next ((s.advance t).interlockChange n level)

end Sys2Proof.Machine
end

