-- ==== Sys2Proof/Machine/ModeCmds.lean ====
section
/-! DEFINITION. Meanings of the commands of operating modes, clocks and power (R482 to R501): each sets the instant, then performs its operation. -/

namespace Sys2Proof.Machine

/-- MODE_REQUEST (R488). -/
def execModeRequest (t : Nat) (m : Nat) (mode : Fin 16) (s : State) : Host.Outcome State Fault Refusal :=
  .next ((s.advance t).cmdReg m 0x100 (fun s => s.sysWrite 0x100 (word (256 + mode))))

/-- MODE_SWITCH (R489). -/
def execModeSwitch (t : Nat) (s : State) : Host.Outcome State Fault Refusal := .next ((s.advance t).modeSwitch)

/-- MODE_CHANGE_DONE (R490). -/
def execModeChangeDone (t : Nat) (s : State) : Host.Outcome State Fault Refusal := .next ((s.advance t).modeSettle)

/-- SAFE_N_ASSERT (R492). -/
def execSafeNAssert (t : Nat) (s : State) : Host.Outcome State Fault Refusal := .next ((s.advance t).safeAssert)

/-- SAFE_N_RELEASE (R492). -/
def execSafeNRelease (t : Nat) (s : State) : Host.Outcome State Fault Refusal := .next ((s.advance t).safeRelease)

/-- HOST_LINK_ATTACH (R493). -/
def execHostLinkAttach (t : Nat) (s : State) : Host.Outcome State Fault Refusal := .next ((s.advance t).hostAttach)

/-- XTAL32_FAIL (R487). -/
def execXtal32Fail (t : Nat) (s : State) : Host.Outcome State Fault Refusal := .next ((s.advance t).xtal32Fail)

/-- XTAL25_FAIL (R487). -/
def execXtal25Fail (t : Nat) (s : State) : Host.Outcome State Fault Refusal := .next ((s.advance t).xtal25Fail)

/-- REF_LOST (R486). -/
def execRefLost (t : Nat) (s : State) : Host.Outcome State Fault Refusal := .next ((s.advance t).refLost)

/-- REF10_RESTORE (R486). -/
def execRef10Restore (t : Nat) (s : State) : Host.Outcome State Fault Refusal := .next ((s.advance t).refRestore)

/-- PLL_STOP (R494). -/
def execPllStop (t : Nat) (s : State) : Host.Outcome State Fault Refusal := .next ((s.advance t).pllStop)

/-- CC91_GATE (R501). -/
def execCc91Gate (t : Nat) (s : State) : Host.Outcome State Fault Refusal := .next ((s.advance t).cc91Gate)

end Sys2Proof.Machine
end

