-- ==== Sys2Proof/Machine/PhyCmds.lean ====
section
/-! DEFINITION. Meanings of the commands of reception, acknowledgement and adaptation (R119 to R200, R241 to R248): each sets the instant, then performs its operation. -/

namespace Sys2Proof.Machine

/-- NB_FRAME_RX (R144). -/
def execNbFrameRx (t : Nat) (p : Fin 4) (c : Fin 3) (x : RxFrame) (s : State) : Host.Outcome State Fault Refusal := .next ((s.advance t).nbFrameRx p c x)

/-- BB_FRAME_RX (R167). -/
def execBbFrameRx (t : Nat) (p : Fin 4) (c : Fin 3) (x : RxFrame) (s : State) : Host.Outcome State Fault Refusal := .next ((s.advance t).bbFrameRx p c x)

/-- BANDC_MAX_TX (R141). -/
def execBandcMaxTx (t : Nat) (p : Fin 4) (c : Fin 3) (s : State) : Host.Outcome State Fault Refusal := .next ((s.advance t).bandcMax p c)

/-- ISP_DETECT (R169). -/
def execIspDetect (t : Nat) (p : Fin 4) (windows : List (List Nat)) (alloc : Option IspAlloc) (s : State) : Host.Outcome State Fault Refusal :=
  .next ((s.advance t).ispDetect p windows alloc)

/-- ISP_CLEAR (R169). -/
def execIspClear (t : Nat) (p : Fin 4) (s : State) : Host.Outcome State Fault Refusal := .next ((s.advance t).ispClear p)

/-- ACK_RX (R247). -/
def execAckRx (t : Nat) (s : State) : Host.Outcome State Fault Refusal := .next ((s.advance t).ackRx)

/-- ACK_TIMEOUT (R246). -/
def execAckTimeout (t : Nat) (d : Nat) (s : State) : Host.Outcome State Fault Refusal := .next ((s.advance t).ackTimeout d)

/-- MAP_CHANGE (R190). -/
def execMapChange (t : Nat) (s : State) : Host.Outcome State Fault Refusal := .next ((s.advance t).mgmtBody 6 (fun s d => s.mapChange d.src d.port d.body))

/-- MAP_CHANGE_APPLY (R179). -/
def execMapChangeApply (t : Nat) (peer : Nat) (p : Fin 4) (bb : Bool) (c : Fin 3) (rx : Bool) (s : State) : Host.Outcome State Fault Refusal :=
  .next ((s.advance t).mapApply (linkKey peer p bb (if bb then 0 else c) rx))

/-- MAP_CHANGE_RESEND (R191). -/
def execMapChangeResend (t : Nat) (peer : Nat) (p : Fin 4) (bb : Bool) (c : Fin 3) (s : State) : Host.Outcome State Fault Refusal :=
  .next ((s.advance t).mapResendTo peer p bb c)

/-- OLD_SET_RELEASE (R191). -/
def execOldSetRelease (t : Nat) (peer : Nat) (p : Fin 4) (bb : Bool) (c : Fin 3) (rx : Bool) (s : State) : Host.Outcome State Fault Refusal :=
  .next ((s.advance t).oldRelease (linkKey peer p bb (if bb then 0 else c) rx))

end Sys2Proof.Machine
end

