-- ==== Sys2Proof/Machine/PortCmds.lean ====
section
/-! DEFINITION. Meanings of the commands of the line ports (R95 to R115): each sets the instant, then performs its operation. -/

namespace Sys2Proof.Machine

/-- AGC_OVERLOAD (R95). -/
def execAgcOverload (t : Nat) (p ch : Fin 4) (s : State) : Host.Outcome State Fault Refusal := .next ((s.advance t).agcOverload p ch)

/-- AGC_STEP_UP (R95). -/
def execAgcStepUp (t : Nat) (p ch : Fin 4) (s : State) : Host.Outcome State Fault Refusal := .next ((s.advance t).agcStepUp p ch)

/-- TRANSMISSION_END (R98). -/
def execTransmissionEnd (t : Nat) (p : Fin 4) (c : Fin 3) (bb : Bool) (a b d : LineEnd) (conv : Bool) (s : State) : Host.Outcome State Fault Refusal :=
  .next ((s.advance t).txEndWith p c bb a b d conv)

/-- CURRENT_LIMIT (R106). -/
def execCurrentLimit (t : Nat) (p : Fin 4) (c : Fin 3) (us : Nat) (s : State) : Host.Outcome State Fault Refusal := .next ((s.advance t).currentLimit p c us)

/-- FOLDBACK (R106). -/
def execFoldback (t : Nat) (p : Fin 4) (c : Fin 3) (s : State) : Host.Outcome State Fault Refusal := .next ((s.advance t).foldback p c)

/-- LIMIT_EXPIRY (R107). -/
def execLimitExpiry (t : Nat) (p : Fin 4) (c : Fin 3) (s : State) : Host.Outcome State Fault Refusal := .next ((s.advance t).limitExpiry p c)

/-- PROBE_REQUEST (R105). -/
def execProbeRequest (t : Nat) (m : Nat) (p : Fin 4) (c : Fin 3) (s : State) : Host.Outcome State Fault Refusal :=
  .next ((s.advance t).cmdReg m (0x30040 + 0x4000 * p) (fun s => s.probeRequest p c))

/-- PROBE_START (R105). -/
def execProbeStart (t : Nat) (p : Fin 4) (c : Fin 3) (s : State) : Host.Outcome State Fault Refusal := .next ((s.advance t).probeStart p c)

/-- PROBE_DONE (R109). -/
def execProbeDone (t : Nat) (p : Fin 4) (c : Fin 3) (z : Nat) (s : State) : Host.Outcome State Fault Refusal := .next ((s.advance t).probeDone p c z)

/-- PROBE_RETRY (R109). -/
def execProbeRetry (t : Nat) (p : Fin 4) (c : Fin 3) (s : State) : Host.Outcome State Fault Refusal := .next ((s.advance t).probeRetry p c)

/-- POLARITY_CHANGE (R110). -/
def execPolarityChange (t : Nat) (p : Fin 4) (c : Fin 3) (s : State) : Host.Outcome State Fault Refusal := .next ((s.advance t).polarityChange p c)

/-- LN_SWAP_DETECT (R106). -/
def execLnSwapDetect (t : Nat) (p : Fin 4) (c : Fin 3) (s : State) : Host.Outcome State Fault Refusal := .next ((s.advance t).lnSwap p c)

/-- SEQ_REV_DETECT (R106). -/
def execSeqRevDetect (t : Nat) (p : Fin 4) (s : State) : Host.Outcome State Fault Refusal := .next ((s.advance t).seqRev p)

/-- OPEN_NEUTRAL_DETECT (R106). -/
def execOpenNeutralDetect (t : Nat) (p : Fin 4) (cycles : List (Nat × List Nat)) (s : State) : Host.Outcome State Fault Refusal :=
  .next ((s.advance t).openNeutral p cycles)

/-- VDRV_FAULT (R106). -/
def execVdrvFault (t : Nat) (p : Fin 4) (mv : Int) (s : State) : Host.Outcome State Fault Refusal := .next ((s.advance t).vdrvFault p mv)

/-- VDRV_RECOVER (R106). -/
def execVdrvRecover (t : Nat) (p : Fin 4) (mv : Int) (s : State) : Host.Outcome State Fault Refusal := .next ((s.advance t).vdrvRecover p mv)

end Sys2Proof.Machine
end

