-- ==== Sys2Proof/Machine/QueueCmds.lean ====
section
/-! DEFINITION. Meanings of the commands of the queue manager (R301 to R319): each sets the instant, then performs its operation. -/

namespace Sys2Proof.Machine

/-- CREDIT_REQUEST (R308). -/
def execCreditRequest (t : Nat) (q : Nat) (n : Nat) (s : State) : Host.Outcome State Fault Refusal := .next ((s.advance t).creditTurn q n)

/-- CREDIT_RETURN (R309). -/
def execCreditReturn (t : Nat) (q : Nat) (n : Nat) (s : State) : Host.Outcome State Fault Refusal := .next ((s.advance t).creditBack q n)

/-- QUEUE_WRITE (R311). -/
def execQueueWrite (t : Nat) (q : Nat) (writer epoch : Nat) (data : List Byte) (start fin : Bool) (s : State) : Host.Outcome State Fault Refusal :=
  .next ((s.advance t).queueWrite q writer epoch data start fin)

/-- READ_LINE (R313). -/
def execReadLine (t : Nat) (q : Nat) (corr : Nat) (bad : List Nat) (loc : ScrubFound) (s : State) : Host.Outcome State Fault Refusal :=
  .next ((s.advance t).lineRead q corr bad loc)

/-- REWIND (R313). -/
def execRewind (t : Nat) (q : Nat) (s : State) : Host.Outcome State Fault Refusal := .next ((s.advance t).rewind q)

/-- RELEASE (R313). -/
def execRelease (t : Nat) (q : Nat) (s : State) : Host.Outcome State Fault Refusal := .next ((s.advance t).releaseWork q)

/-- QUEUE_FLUSH (R314). -/
def execQueueFlush (t : Nat) (q : Nat) (s : State) : Host.Outcome State Fault Refusal := .next ((s.advance t).flushWork q)

/-- CELL_RETURN_DONE (R314). -/
def execCellReturnDone (t : Nat) (q : Nat) (s : State) : Host.Outcome State Fault Refusal := .next ((s.advance t).cellReturnDone q)

/-- Q_READ_DESC (R319). -/
def execQReadDesc (t : Nat) (m : Nat) (s : State) : Host.Outcome State Fault Refusal := .next ((s.advance t).cmdReg m 0x21044 (fun s => s.qCmd 1))

/-- Q_FLUSH (R319). -/
def execQFlush (t : Nat) (m : Nat) (s : State) : Host.Outcome State Fault Refusal := .next ((s.advance t).cmdReg m 0x21044 (fun s => s.qCmd 2))

/-- Q_SET_LIMIT (R319). -/
def execQSetLimit (t : Nat) (m : Nat) (s : State) : Host.Outcome State Fault Refusal := .next ((s.advance t).cmdReg m 0x21044 (fun s => s.qCmd 3))

/-- Q_CLEAR_ERR (R319). -/
def execQClearErr (t : Nat) (m : Nat) (s : State) : Host.Outcome State Fault Refusal := .next ((s.advance t).cmdReg m 0x21044 (fun s => s.qCmd 4))

end Sys2Proof.Machine
end

