-- ==== Sys2Proof/Machine/RelayCmds.lean ====
section
/-! DEFINITION. Meanings of the commands of routing, cooperation, flooding and messages (R268 to R300): each sets the instant, then performs its operation. -/

namespace Sys2Proof.Machine

/-- NBR_REPORT (R272). -/
def execNbrReport (t : Nat) (s : State) : Host.Outcome State Fault Refusal := .next ((s.advance t).mgmtBody 0x20 (fun s d => s.nbrReport d.body))

/-- NBR_REPORT_SEND (R272). -/
def execNbrReportSend (t : Nat) (p : Fin 4) (lqs : List (Nat × Nat × Nat)) (s : State) : Host.Outcome State Fault Refusal :=
  .next ((s.advance t).nbrReportDue p lqs)

/-- PARENT_SET (R272). -/
def execParentSet (t : Nat) (s : State) : Host.Outcome State Fault Refusal := .next ((s.advance t).mgmtBody 0x21 (fun s d => s.parentSet d.body))

/-- PARENT_SET_APPLY (R272). -/
def execParentSetApply (t : Nat) (s : State) : Host.Outcome State Fault Refusal := .next ((s.advance t).parentApply)

/-- ROUTE_ERR (R274). -/
def execRouteErr (t : Nat) (s : State) : Host.Outcome State Fault Refusal := .next ((s.advance t).mgmtBody 0x22 (fun s d => s.routeErr d.body))

/-- COOP_RESULT (R279). -/
def execCoopResult (t : Nat) (s : State) : Host.Outcome State Fault Refusal := .next ((s.advance t).mgmtBody 0x23 (fun s d => s.coopResult d.body))

/-- GROUP_SET (R281). -/
def execGroupSet (t : Nat) (s : State) : Host.Outcome State Fault Refusal := .next ((s.advance t).mgmtBody 0x24 (fun s d => s.groupSet d.body))

/-- COOP_CARRY (R278). -/
def execCoopCarry (t : Nat) (s : State) : Host.Outcome State Fault Refusal := .next ((s.advance t).carryBody)

/-- FORWARD_HOLD_EXPIRY (R273). -/
def execForwardHoldExpiry (t : Nat) (s : State) : Host.Outcome State Fault Refusal := .next ((s.advance t).forwardExpiry)

/-- ROUTE_WAIT_EXPIRY (R274). -/
def execRouteWaitExpiry (t : Nat) (a : Nat) (s : State) : Host.Outcome State Fault Refusal := .next ((s.advance t).routeWaitExpiry a)

/-- COOP_WAIT_EXPIRY (R279). -/
def execCoopWaitExpiry (t : Nat) (s : State) : Host.Outcome State Fault Refusal := .next ((s.advance t).coopExpiry)

/-- FLOOD_REBROADCAST (R280). -/
def execFloodRebroadcast (t : Nat) (orig fseq : Nat) (s : State) : Host.Outcome State Fault Refusal := .next ((s.advance t).floodSend orig fseq)

/-- FLOOD_DUP_EXPIRY (R280). -/
def execFloodDupExpiry (t : Nat) (s : State) : Host.Outcome State Fault Refusal := .next ((s.advance t).floodExpiry)

/-- EP_WIN_WRITE (R285). -/
def execEpWinWrite (t : Nat) (m : Nat) (i : Fin 128) (v : Word) (s : State) : Host.Outcome State Fault Refusal :=
  .next ((s.advance t).cmdReg m (0x71200 + 4 * i) (fun s => s.epWinWrite i v))

/-- ENDPOINT_RECORD_STORE (R282). -/
def execEndpointRecordStore (t : Nat) (s : State) : Host.Outcome State Fault Refusal := .next ((s.advance t).epStore)

/-- MSG_SEND (R294). -/
def execMsgSend (t : Nat) (r : Fin 256) (e : List Byte) (payload : List Byte) (free : Bool) (s : State) : Host.Outcome State Fault Refusal :=
  .next ((s.advance t).submit r e (· == 0x01) (fun s x => s.msgSend x payload free))

/-- TXN_SEND (R297). -/
def execTxnSend (t : Nat) (r : Fin 256) (e : List Byte) (members : List Byte) (payloads : List (List Byte)) (free : List Bool) (s : State) : Host.Outcome State Fault Refusal :=
  .next ((s.advance t).submit r e (· == 0x02) (fun s x => s.txnSend x members payloads free))

/-- ADMIT (R284). -/
def execAdmission (t : Nat) (r : Fin 256) (e : List Byte) (s : State) : Host.Outcome State Fault Refusal :=
  .next ((s.advance t).submit r e (· == 0x10) (fun s x => s.admission x))

/-- REVOKE (R284). -/
def execRevoke (t : Nat) (r : Fin 256) (e : List Byte) (s : State) : Host.Outcome State Fault Refusal :=
  .next ((s.advance t).submit r e (· == 0x11) (fun s x => s.revoke x))

/-- RECEIPT_TIMEOUT (R295). -/
def execReceiptTimeout (t : Nat) (msg : Nat) (s : State) : Host.Outcome State Fault Refusal := .next ((s.advance t).receiptTimeout msg)

/-- MESSAGE_DEADLINE (R295). -/
def execMessageDeadline (t : Nat) (msg : Nat) (s : State) : Host.Outcome State Fault Refusal := .next ((s.advance t).msgDeadline msg)

/-- REPORT_RX (R296). -/
def execReportRx (t : Nat) (s : State) : Host.Outcome State Fault Refusal := .next ((s.advance t).reportRx)

/-- UPLINK_MESSAGE_RX (R291). -/
def execUplinkMessageRx (t : Nat) (s : State) : Host.Outcome State Fault Refusal := .next ((s.advance t).uplinkRx)

/-- REASSEMBLY_TIMEOUT (R291). -/
def execReassemblyTimeout (t : Nat) (s : State) : Host.Outcome State Fault Refusal := .next ((s.advance t).reasmTimeout)

end Sys2Proof.Machine
end

