-- ==== Sys2Proof/Machine/SecurityCmds.lean ====
section
/-! DEFINITION. Meanings of the commands of the security core (R427 to R456): each sets the instant, then performs its operation. -/

namespace Sys2Proof.Machine

/-- KEY_DERIVE (R437). -/
def execKeyDerive (t : Nat) (m : Nat) (n : Fin 64) (src : Fin 3) (srcSlot : Fin 64) (s : State) : Host.Outcome State Fault Refusal :=
  .next ((s.advance t).cmdReg m 0x11040 (fun s => s.slotDeriveBy m n src srcSlot))

/-- KEY_ERASE (R438). -/
def execKeyErase (t : Nat) (m : Nat) (n : Fin 64) (s : State) : Host.Outcome State Fault Refusal :=
  .next ((s.advance t).cmdReg m 0x11040 (fun s => s.slotEraseBy m n))

/-- AES_OPERATION (R440). -/
def execAesOperation (t : Nat) (core : Fin 4) (slot : Nat) (job : AesJob) (who : AccReq) (fin : Bool) (chunks : Nat) (s : State) : Host.Outcome State Fault Refusal :=
  .next ((s.advance t).aesOperation core slot job who fin chunks)

/-- AES_KAT_PERIODIC (R539). -/
def execAesKatPeriodic (t : Nat) (bad : List Nat) (s : State) : Host.Outcome State Fault Refusal := .next ((s.advance t).aesKat bad)

/-- TRNG_SOURCE_FAIL (R451). -/
def execTrngSourceFail (t : Nat) (n : Fin 4) (s : State) : Host.Outcome State Fault Refusal := .next ((s.advance t).trngFail n)

/-- ENTROPY_TIMEOUT (R451). -/
def execEntropyTimeout (t : Nat) (s : State) : Host.Outcome State Fault Refusal := .next ((s.advance t).entropyTimeout)

/-- DRBG_RESEED (R452). -/
def execDrbgReseed (t : Nat) (s : State) : Host.Outcome State Fault Refusal := .next ((s.advance t).drbgReseed)

/-- DRBG_GENERATE (R452). -/
def execDrbgGenerate (t : Nat) (n : Nat) (s : State) : Host.Outcome State Fault Refusal := .next ((s.advance t).drbgGenerate n)

/-- ATTEST (R444). -/
def execAttest (t : Nat) (r : Fin 256) (e : List Byte) (nonce : List Byte) (s : State) : Host.Outcome State Fault Refusal :=
  .next ((s.advance t).submit r e (· == 0x60) (fun s x => s.attest x nonce))

/-- IDENTITY_READ (R455). -/
def execIdentityRead (t : Nat) (r : Fin 256) (e : List Byte) (s : State) : Host.Outcome State Fault Refusal :=
  .next ((s.advance t).submit r e (· == 0x61) (fun s x => s.identityRead x))

/-- KEY_EPOCH (R435). -/
def execKeyEpoch (t : Nat) (r : Fin 256) (e : List Byte) (blk : List Byte) (s : State) : Host.Outcome State Fault Refusal :=
  .next ((s.advance t).submit r e (· == 0x62) (fun s x => s.keyEpoch x blk))

/-- PROV_INSTALL (R455). -/
def execProvInstall (t : Nat) (r : Fin 256) (e : List Byte) (blk : List Byte) (s : State) : Host.Outcome State Fault Refusal :=
  .next ((s.advance t).submit r e (· == 0x63) (fun s x => s.provInstall x blk))

/-- KEY_INSTALL (R455). -/
def execKeyInstall (t : Nat) (r : Fin 256) (e : List Byte) (blk : List Byte) (s : State) : Host.Outcome State Fault Refusal :=
  .next ((s.advance t).submit r e (· == 0x64) (fun s x => s.keyInstall x blk))

/-- FIELD_LOCK (R453). -/
def execFieldLock (t : Nat) (r : Fin 256) (e : List Byte) (blk : List Byte) (s : State) : Host.Outcome State Fault Refusal :=
  .next ((s.advance t).submit r e (· == 0x65) (fun s x => s.fieldLock x blk))

/-- SESSION_OPEN (R448). -/
def execSessionOpen (t : Nat) (r : Fin 256) (e : List Byte) (nonce : List Byte) (s : State) : Host.Outcome State Fault Refusal :=
  .next ((s.advance t).submit r e (· == 0x66) (fun s x => s.sessionOpen x nonce))

/-- SESSION_FINISH (R448). -/
def execSessionFinish (t : Nat) (r : Fin 256) (e : List Byte) (buf : List Byte) (s : State) : Host.Outcome State Fault Refusal :=
  .next ((s.advance t).submit r e (· == 0x67) (fun s x => s.sessionFinish x buf))

/-- SESSION_CLOSE (R450). -/
def execSessionClose (t : Nat) (r : Fin 256) (e : List Byte) (s : State) : Host.Outcome State Fault Refusal :=
  .next ((s.advance t).submit r e (· == 0x68) (fun s x => s.sessionClose x))

/-- IMAGE_WRITE (R455). -/
def execImageWrite (t : Nat) (r : Fin 256) (e : List Byte) (data : List Byte) (ok : Bool) (s : State) : Host.Outcome State Fault Refusal :=
  .next ((s.advance t).submit r e (· == 0x69) (fun s x => s.imageWrite x data ok))

/-- IMAGE_ACTIVATE (R447). -/
def execImageActivate (t : Nat) (r : Fin 256) (e : List Byte) (s : State) : Host.Outcome State Fault Refusal :=
  .next ((s.advance t).submit r e (· == 0x6A) (fun s x => s.imageActivate x))

/-- BOOT_CONFIRM (R447). -/
def execBootConfirm (t : Nat) (r : Fin 256) (e : List Byte) (s : State) : Host.Outcome State Fault Refusal :=
  .next ((s.advance t).submit r e (· == 0x6B) (fun s x => s.bootConfirm x))

/-- TRIAL_EXPIRY (R447). -/
def execTrialExpiry (t : Nat) (s : State) : Host.Outcome State Fault Refusal := .next ((s.advance t).trialExpiry)

/-- RETIRE (R453). -/
def execRetire (t : Nat) (r : Fin 256) (e : List Byte) (blk : List Byte) (s : State) : Host.Outcome State Fault Refusal :=
  .next ((s.advance t).submit r e (· == 0x6C) (fun s x => s.retire x blk))

end Sys2Proof.Machine
end

