-- ==== Sys2Proof/Machine/SerialCmds.lean ====
section
/-! DEFINITION. Meanings of the commands of UARTs, I2C, general-purpose pins and check units (R457 to R481): each sets the instant, then performs its operation. -/

namespace Sys2Proof.Machine

/-- UART_RX_CHAR (R458). -/
def execUartRxChar (t : Nat) (n : Fin 2) (c : UartChar) (s : State) : Host.Outcome State Fault Refusal := .next ((s.advance t).uartRx n c)

/-- UART_BREAK (R462). -/
def execUartBreak (t : Nat) (n : Fin 2) (start : Nat) (s : State) : Host.Outcome State Fault Refusal := .next ((s.advance t).uartBreak n start)

/-- UART_DEAD_LINE (R462). -/
def execUartDeadLine (t : Nat) (n : Fin 2) (start : Nat) (s : State) : Host.Outcome State Fault Refusal := .next ((s.advance t).deadLine n start)

/-- UART_DEAD_CLEAR (R462). -/
def execUartDeadClear (t : Nat) (n : Fin 2) (s : State) : Host.Outcome State Fault Refusal := .next ((s.advance t).deadClear n)

/-- UART_TX_DATA (R457). -/
def execUartTxData (t : Nat) (m : Nat) (n : Fin 2) (char : Fin 512) (s : State) : Host.Outcome State Fault Refusal :=
  .next ((s.advance t).cmdReg m (0x28050 + 0x1000 * n) (fun s => s.uartTx n char))

/-- UART_TX_CHAR_DONE (R466). -/
def execUartTxCharDone (t : Nat) (n : Fin 2) (s : State) : Host.Outcome State Fault Refusal := .next ((s.advance t).uartTxDone n)

/-- UART_RX_POP (R460). -/
def execUartRxPop (t : Nat) (m : Nat) (n : Fin 2) (s : State) : Host.Outcome State Fault Refusal :=
  .next ((s.advance t).cmdReg m (0x28058 + 0x1000 * n) (fun s => s.uartPop n))

/-- UART_DIV_WRITE (R459). -/
def execUartDivWrite (t : Nat) (m : Nat) (n : Fin 2) (v : Word) (s : State) : Host.Outcome State Fault Refusal :=
  .next ((s.advance t).cmdReg m (0x28044 + 0x1000 * n) (fun s => s.uartDiv n (fld v 0 16)))

/-- BRK_SEND (R461). -/
def execBrkSend (t : Nat) (m : Nat) (n : Fin 2) (s : State) : Host.Outcome State Fault Refusal :=
  .next ((s.advance t).cmdReg m (0x2804C + 0x1000 * n) (fun s => s.brkSend n))

/-- UART_WAKE_MATCH (R464). -/
def execUartWakeMatch (t : Nat) (c : UartChar) (s : State) : Host.Outcome State Fault Refusal := .next ((s.advance t).wakeMatch c)

/-- UART_HANDOVER (R465). -/
def execUartHandover (t : Nat) (s : State) : Host.Outcome State Fault Refusal := .next ((s.advance t).handover)

/-- UART_CTS_CHANGE (R466). -/
def execUartCtsChange (t : Nat) (high : Bool) (s : State) : Host.Outcome State Fault Refusal := .next ((s.advance t).ctsChange high)

/-- UART_IDLE_BOUNDARY (R478). -/
def execUartIdleBoundary (t : Nat) (n : Fin 2) (s : State) : Host.Outcome State Fault Refusal := .next ((s.advance t).uartIdle n)

/-- I2C_START (R468). -/
def execI2cStart (t : Nat) (clocks : Nat) (nack arb : Bool) (s : State) : Host.Outcome State Fault Refusal := .next ((s.advance t).i2cStart clocks nack arb)

/-- I2C_WRITE (R468). -/
def execI2cWrite (t : Nat) (nack arb : Bool) (s : State) : Host.Outcome State Fault Refusal := .next ((s.advance t).i2cWrite nack arb)

/-- I2C_READ (R468). -/
def execI2cRead (t : Nat) (b : Byte) (arb : Bool) (s : State) : Host.Outcome State Fault Refusal := .next ((s.advance t).i2cRead b arb)

/-- I2C_STOP (R468). -/
def execI2cStop (t : Nat) (s : State) : Host.Outcome State Fault Refusal := .next ((s.advance t).i2cStop)

/-- I2C_RECOVER (R469). -/
def execI2cRecover (t : Nat) (m clocks : Nat) (s : State) : Host.Outcome State Fault Refusal :=
  .next ((s.advance t).cmdReg m 0x2A054 (fun s => s.i2cRecover clocks))

/-- I2C_ABORT (R470). -/
def execI2cAbort (t : Nat) (m : Nat) (s : State) : Host.Outcome State Fault Refusal := .next ((s.advance t).cmdReg m 0x2A054 (fun s => s.i2cAbort))

/-- I2C_RD_POP (R470). -/
def execI2cRdPop (t : Nat) (m : Nat) (s : State) : Host.Outcome State Fault Refusal := .next ((s.advance t).cmdReg m 0x2A04C (fun s => s.i2cPop))

/-- I2C_SCL_TIMEOUT (R469). -/
def execI2cSclTimeout (t : Nat) (s : State) : Host.Outcome State Fault Refusal := .next ((s.advance t).sclTimeout)

/-- I2C_SCL_RELEASE (R469). -/
def execI2cSclRelease (t : Nat) (s : State) : Host.Outcome State Fault Refusal := .next ((s.advance t).sclRelease)

/-- OUT_SET (R471). -/
def execOutSet (t : Nat) (m : Nat) (v : Word) (s : State) : Host.Outcome State Fault Refusal := .next ((s.advance t).cmdReg m 0x2B048 (fun s => s.outSet m v))

/-- OUT_CLR (R471). -/
def execOutClr (t : Nat) (m : Nat) (v : Word) (s : State) : Host.Outcome State Fault Refusal := .next ((s.advance t).cmdReg m 0x2B04C (fun s => s.outClr m v))

/-- GPIO_EDGE (R471). -/
def execGpioEdge (t : Nat) (n : Fin 24) (high : Bool) (held : Nat) (s : State) : Host.Outcome State Fault Refusal := .next ((s.advance t).gpioEdge n high held)

/-- CHK_FEED (R478). -/
def execChkFeed (t : Nat) (m : Nat) (u : Fin 16) (v : Word) (s : State) : Host.Outcome State Fault Refusal :=
  .next ((s.advance t).cmdReg m (0xD088 + 0x20 * u) (fun s => s.chkFeed u (leBytes 4 v.toNat)))

/-- CHK_FEED_B (R478). -/
def execChkFeedB (t : Nat) (m : Nat) (u : Fin 16) (b : Byte) (s : State) : Host.Outcome State Fault Refusal :=
  .next ((s.advance t).cmdReg m 0xD044 (fun s => s.chkFeed u [b]))

/-- CHK_CLR (R480). -/
def execChkClr (t : Nat) (m : Nat) (units : Fin 65536) (s : State) : Host.Outcome State Fault Refusal :=
  .next ((s.advance t).cmdReg m 0xD040 (fun s => s.chkClear units))

/-- CHK_TIMEOUT (R479). -/
def execChkTimeout (t : Nat) (u : Fin 16) (s : State) : Host.Outcome State Fault Refusal := .next ((s.advance t).chkTimeout u)

end Sys2Proof.Machine
end

