-- ==== Sys2Proof/Machine/StorageCmds.lean ====
section
/-! DEFINITION. Meanings of the commands of storage, vault and scorebook (R409 to R426): each sets the instant, then performs its operation. -/

namespace Sys2Proof.Machine

/-- DRIVE_ATTACH (R411). -/
def execDriveAttach (t : Nat) (x : DriveFound) (s : State) : Host.Outcome State Fault Refusal :=
  .next ((s.advance t).driveAttach x.port x.identify x.label x.extents x.speed x.width)

/-- DRIVE_ACCEPT (R411). -/
def execDriveAccept (t : Nat) (m : Nat) (n : Fin 2) (s : State) : Host.Outcome State Fault Refusal :=
  .next ((s.advance t).cmdReg m 0x1F060 (fun s => s.driveAccept n))

/-- DRIVE_LOSS (R423). -/
def execDriveLoss (t : Nat) (n : Fin 2) (cause : Nat) (s : State) : Host.Outcome State Fault Refusal := .next ((s.advance t).driveLoss n cause)

/-- BLOCK_REPAIR (R423). -/
def execBlockRepair (t : Nat) (n : Fin 2) (region lba : Nat) (gone : List Nat) (s : State) : Host.Outcome State Fault Refusal :=
  .next ((s.advance t).blockRepair n region lba gone)

/-- RESYNC_DONE (R424). -/
def execResyncDone (t : Nat) (s : State) : Host.Outcome State Fault Refusal := .next ((s.advance t).resyncDone)

/-- SMART_POLL (R425). -/
def execSmartPoll (t : Nat) (n : Fin 2) (used spare thr retired : Nat) (temp : Int) (s : State) : Host.Outcome State Fault Refusal :=
  .next ((s.advance t).smartPoll n used spare thr retired temp)

/-- VAULT_COMMIT (R415). -/
def execVaultCommit (t : Nat) (datum : Fin 8) (oks : List Bool) (s : State) : Host.Outcome State Fault Refusal := .next ((s.advance t).vaultStep datum oks)

/-- LEASE_TABLE_COMMIT (R414). -/
def execLeaseTableCommit (t : Nat) (s : State) : Host.Outcome State Fault Refusal := .next ((s.advance t).leaseCommitDue)

/-- SCOREBOOK_STORE (R420). -/
def execScorebookStore (t : Nat) (s : State) : Host.Outcome State Fault Refusal := .next ((s.advance t).scorebookStore)

/-- SCB_READ (R422). -/
def execScbRead (t : Nat) (r : Fin 256) (e : List Byte) (s : State) : Host.Outcome State Fault Refusal :=
  .next ((s.advance t).submit r e (· == 0x40) (fun s x => s.scbRead x))

/-- ARCH_READ (R422). -/
def execArchRead (t : Nat) (r : Fin 256) (e : List Byte) (s : State) : Host.Outcome State Fault Refusal :=
  .next ((s.advance t).submit r e (· == 0x41) (fun s x => s.archRead x))

end Sys2Proof.Machine
end

