-- ==== Sys2Proof/Machine/SurveilCmds.lean ====
section
/-! DEFINITION. Meanings of the commands of the surveillance receiver and the exclusion list (R349 to R375): each sets the instant, then performs its operation. -/

namespace Sys2Proof.Machine

/-- SECOND_RECORD (R360). -/
def execSecondRecord (t : Nat) (xs : List SrvSample) (credit : Bool) (s : State) : Host.Outcome State Fault Refusal :=
  .next ((s.advance t).secondRecord xs credit)

/-- REFERENCE_RECORD (R359). -/
def execReferenceRecord (t : Nat) (xs : List SrvSample) (credit : Bool) (s : State) : Host.Outcome State Fault Refusal :=
  .next ((s.advance t).referenceRecord xs credit)

/-- IL_CONVERGED (R352). -/
def execIlConverged (t : Nat) (image : Nat) (s : State) : Host.Outcome State Fault Refusal := .next ((s.advance t).ilConverged image)

/-- IL_FALLBACK (R353). -/
def execIlFallback (t : Nat) (s : State) : Host.Outcome State Fault Refusal := .next ((s.advance t).ilFallback)

/-- LOOPBACK_CHECK (R365). -/
def execLoopbackCheck (t : Nat) (p : Fin 4) (c : Fin 3) (tone : Int) (bands : List (Nat × Int)) (s : State) : Host.Outcome State Fault Refusal :=
  .next ((s.advance t).loopback p c tone bands)

/-- MUTE_CLEAR (R367). -/
def execMuteClear (t : Nat) (m : Nat) (ports : Fin 16) (s : State) : Host.Outcome State Fault Refusal :=
  .next ((s.advance t).cmdReg m 0x7B048 (fun s => s.muteClear ports))

/-- CAPTURE_TRIGGER (R368). -/
def execCaptureTrigger (t : Nat) (m : Nat) (s : State) : Host.Outcome State Fault Refusal := .next ((s.advance t).cmdReg m 0x7C044 (fun s => s.capTrigger 2))

/-- LIMIT_LINE_TRIGGER (R368). -/
def execLimitLineTrigger (t : Nat) (n f : Nat) (level : Int) (s : State) : Host.Outcome State Fault Refusal := .next ((s.advance t).limitTrigger n f level)

/-- CAPTURE_HELD (R368). -/
def execCaptureHeld (t : Nat) (xs : List SrvSample) (credit : Bool) (s : State) : Host.Outcome State Fault Refusal := .next ((s.advance t).capHeld xs credit)

/-- CAPTURE_ARM (R368). -/
def execCaptureArm (t : Nat) (m : Nat) (s : State) : Host.Outcome State Fault Refusal := .next ((s.advance t).cmdReg m 0x7C044 State.capArm)

/-- CAP_READ (R375). -/
def execCapRead (t : Nat) (r : Fin 256) (e : List Byte) (s : State) : Host.Outcome State Fault Refusal :=
  .next ((s.advance t).submit r e (· == 0x51) (fun s x => s.capRead x))

/-- XL_INSTALL (R370). -/
def execXlInstall (t : Nat) (r : Fin 256) (e : List Byte) (data : List Byte) (s : State) : Host.Outcome State Fault Refusal :=
  .next ((s.advance t).submit r e (· == 0x50) (fun s x => s.xlInstall x data))

/-- EXCLUSION_APPLY (R371). -/
def execExclusionApply (t : Nat) (s : State) : Host.Outcome State Fault Refusal :=
  let s := s.advance t
  .next (s.exclusionApply.refilter s)

end Sys2Proof.Machine
end

