-- ==== Sys2Proof/Machine/TestCmds.lean ====
section
/-! DEFINITION. Meanings of the commands of self-tests and analogue test buses (R558 to R564): each sets the instant, then performs its operation. -/

namespace Sys2Proof.Machine

/-- TEST_SRAM (R561). -/
def execTestSram (t : Nat) (m : Nat) (s : State) : Host.Outcome State Fault Refusal := .next ((s.advance t).cmdReg m 0xA050 (fun s => s.testStart 1 0 0))

/-- TEST_D2D (R561). -/
def execTestD2d (t : Nat) (m : Nat) (p : Fin 4) (s : State) : Host.Outcome State Fault Refusal :=
  .next ((s.advance t).cmdReg m 0xA050 (fun s => s.testStart 2 p 0))

/-- TEST_LOOP (R562). -/
def execTestLoop (t : Nat) (m : Nat) (p : Fin 4) (c : Fin 3) (s : State) : Host.Outcome State Fault Refusal :=
  .next ((s.advance t).cmdReg m 0xA050 (fun s => s.testStart 3 p c))

/-- TEST_AES_KAT (R561). -/
def execTestAesKat (t : Nat) (m : Nat) (s : State) : Host.Outcome State Fault Refusal := .next ((s.advance t).cmdReg m 0xA050 (fun s => s.testStart 4 0 0))

/-- TEST_TRNG (R561). -/
def execTestTrng (t : Nat) (m : Nat) (s : State) : Host.Outcome State Fault Refusal := .next ((s.advance t).cmdReg m 0xA050 (fun s => s.testStart 5 0 0))

/-- TEST_DONE (R561). -/
def execTestDone (t : Nat) (found : TestOut) (s : State) : Host.Outcome State Fault Refusal := .next ((s.advance t).testDone found)

/-- ATB_SELECT (R560). -/
def execAtbSelect (t : Nat) (m : Nat) (bus : Fin 4) (v : Word) (s : State) : Host.Outcome State Fault Refusal :=
  .next ((s.advance t).cmdReg m (0xA040 + 4 * bus) (fun s => s.atbSelect bus v (m == 0x380)))

end Sys2Proof.Machine
end

