-- ==== Sys2Proof/Machine/Dispatch.lean ====
section
/-! DEFINITION. One arm per command: a direct call of its meaning. -/

namespace Sys2Proof.Machine

/-- The effect of a command on everything but the queue. -/
def exec (i : Instr) (s : State) : Host.Outcome State Fault Refusal :=
  match i with
  | .registerWrite t m via msg a data => Sys2Proof.Machine.execRegisterWrite t m via msg a data s
  | .intSet t m page v => Sys2Proof.Machine.execIntSet t m page v s
  | .intCauseClear t m page v => Sys2Proof.Machine.execIntCauseClear t m page v s
  | .softReset t m page => Sys2Proof.Machine.execSoftReset t m page s
  | .softResetDone t page => Sys2Proof.Machine.execSoftResetDone t page s
  | .lockWrite t m page v => Sys2Proof.Machine.execLockWrite t m page v s
  | .bankCopy t m page => Sys2Proof.Machine.execBankCopy t m page s
  | .bankCopyDone t page => Sys2Proof.Machine.execBankCopyDone t page s
  | .soloSwapRequest t m page => Sys2Proof.Machine.execSoloSwapRequest t m page s
  | .soloSwapCancel t m page => Sys2Proof.Machine.execSoloSwapCancel t m page s
  | .soloSwap t page => Sys2Proof.Machine.execSoloSwap t page s
  | .groupSwapRequest t m g => Sys2Proof.Machine.execGroupSwapRequest t m g s
  | .groupSwapCancel t m g => Sys2Proof.Machine.execGroupSwapCancel t m g s
  | .groupSwap t g => Sys2Proof.Machine.execGroupSwap t g s
  | .d2dCrcFail t n again => Sys2Proof.Machine.execD2dCrcFail t n again s
  | .faultWindowClose t page => Sys2Proof.Machine.execFaultWindowClose t page s
  | .zeroCrossingEdge t stayed falling freq rocof zcDelay diff lags => Sys2Proof.Machine.execZeroCrossingEdge t stayed falling freq rocof zcDelay diff lags s
  | .slewComplete t => Sys2Proof.Machine.execSlewComplete t s
  | .holdoverTimeout t => Sys2Proof.Machine.execHoldoverTimeout t s
  | .holdTxReached t => Sys2Proof.Machine.execHoldTxReached t s
  | .holdLong t => Sys2Proof.Machine.execHoldLong t s
  | .trkHold t m => Sys2Proof.Machine.execTrkHold t m s
  | .trackerRestart t m => Sys2Proof.Machine.execTrackerRestart t m s
  | .trackerEnable t m en => Sys2Proof.Machine.execTrackerEnable t m en s
  | .snap t m => Sys2Proof.Machine.execSnap t m s
  | .cycApply t m => Sys2Proof.Machine.execCycApply t m s
  | .utcArm t m => Sys2Proof.Machine.execUtcArm t m s
  | .ppsEdge t falling held => Sys2Proof.Machine.execPpsEdge t falling held s
  | .ppsTimeout t => Sys2Proof.Machine.execPpsTimeout t s
  | .utcHoldExpiry t => Sys2Proof.Machine.execUtcHoldExpiry t s
  | .entCmdRead t m => Sys2Proof.Machine.execEntCmdRead t m s
  | .entCmdWrite t m => Sys2Proof.Machine.execEntCmdWrite t m s
  | .entCmdDisarm t m => Sys2Proof.Machine.execEntCmdDisarm t m s
  | .fixHeldWriteApply t => Sys2Proof.Machine.execFixHeldWriteApply t s
  | .fixtureCommit t ix => Sys2Proof.Machine.execFixtureCommit t ix s
  | .prewarmWake t ix needs => Sys2Proof.Machine.execPrewarmWake t ix needs s
  | .txStart t ix x => Sys2Proof.Machine.execTxStart t ix x s
  | .rxWindow t ix => Sys2Proof.Machine.execRxWindow t ix s
  | .rxWindowClose t p ch => Sys2Proof.Machine.execRxWindowClose t p ch s
  | .ackTx t ix bandC => Sys2Proof.Machine.execAckTx t ix bandC s
  | .bankSwap t ix => Sys2Proof.Machine.execBankSwap t ix s
  | .engineWake t ix => Sys2Proof.Machine.execEngineWake t ix s
  | .convTrigger t ix => Sys2Proof.Machine.execConvTrigger t ix s
  | .ctlFire t ix => Sys2Proof.Machine.execCtlFire t ix s
  | .sfBoundary t ix => Sys2Proof.Machine.execSfBoundary t ix s
  | .quiet t ix => Sys2Proof.Machine.execQuiet t ix s
  | .engineEvent t ix => Sys2Proof.Machine.execEngineEvent t ix s
  | .hostEvent t ix => Sys2Proof.Machine.execHostEvent t ix s
  | .modeWake t ix => Sys2Proof.Machine.execModeWake t ix s
  | .agcOverload t p ch => Sys2Proof.Machine.execAgcOverload t p ch s
  | .agcStepUp t p ch => Sys2Proof.Machine.execAgcStepUp t p ch s
  | .transmissionEnd t p c bb a b d conv => Sys2Proof.Machine.execTransmissionEnd t p c bb a b d conv s
  | .currentLimit t p c us => Sys2Proof.Machine.execCurrentLimit t p c us s
  | .foldback t p c => Sys2Proof.Machine.execFoldback t p c s
  | .limitExpiry t p c => Sys2Proof.Machine.execLimitExpiry t p c s
  | .probeRequest t m p c => Sys2Proof.Machine.execProbeRequest t m p c s
  | .probeStart t p c => Sys2Proof.Machine.execProbeStart t p c s
  | .probeDone t p c z => Sys2Proof.Machine.execProbeDone t p c z s
  | .probeRetry t p c => Sys2Proof.Machine.execProbeRetry t p c s
  | .polarityChange t p c => Sys2Proof.Machine.execPolarityChange t p c s
  | .lnSwapDetect t p c => Sys2Proof.Machine.execLnSwapDetect t p c s
  | .seqRevDetect t p => Sys2Proof.Machine.execSeqRevDetect t p s
  | .openNeutralDetect t p cycles => Sys2Proof.Machine.execOpenNeutralDetect t p cycles s
  | .vdrvFault t p mv => Sys2Proof.Machine.execVdrvFault t p mv s
  | .vdrvRecover t p mv => Sys2Proof.Machine.execVdrvRecover t p mv s
  | .nbFrameRx t p c x => Sys2Proof.Machine.execNbFrameRx t p c x s
  | .bbFrameRx t p c x => Sys2Proof.Machine.execBbFrameRx t p c x s
  | .bandcMaxTx t p c => Sys2Proof.Machine.execBandcMaxTx t p c s
  | .ispDetect t p windows alloc => Sys2Proof.Machine.execIspDetect t p windows alloc s
  | .ispClear t p => Sys2Proof.Machine.execIspClear t p s
  | .ackRx t => Sys2Proof.Machine.execAckRx t s
  | .ackTimeout t d => Sys2Proof.Machine.execAckTimeout t d s
  | .mapChange t => Sys2Proof.Machine.execMapChange t s
  | .mapChangeApply t peer p bb c rx => Sys2Proof.Machine.execMapChangeApply t peer p bb c rx s
  | .mapChangeResend t peer p bb c => Sys2Proof.Machine.execMapChangeResend t peer p bb c s
  | .oldSetRelease t peer p bb c rx => Sys2Proof.Machine.execOldSetRelease t peer p bb c rx s
  | .sChange t => Sys2Proof.Machine.execSChange t s
  | .beaconRx t lq => Sys2Proof.Machine.execBeaconRx t lq s
  | .beaconMiss t => Sys2Proof.Machine.execBeaconMiss t s
  | .contentionAccess t id level preamble => Sys2Proof.Machine.execContentionAccess t id level preamble s
  | .grantResend t => Sys2Proof.Machine.execGrantResend t s
  | .slotGrant t => Sys2Proof.Machine.execSlotGrant t s
  | .assocReq t => Sys2Proof.Machine.execAssocReq t s
  | .assocResp t => Sys2Proof.Machine.execAssocResp t s
  | .disassoc t => Sys2Proof.Machine.execDisassoc t s
  | .leaseRenew t => Sys2Proof.Machine.execLeaseRenew t s
  | .leaseAck t => Sys2Proof.Machine.execLeaseAck t s
  | .mgmtNull t => Sys2Proof.Machine.execMgmtNull t s
  | .leaseRenewSend t => Sys2Proof.Machine.execLeaseRenewSend t s
  | .leaseEnd t => Sys2Proof.Machine.execLeaseEnd t s
  | .quarantineEnd t => Sys2Proof.Machine.execQuarantineEnd t s
  | .irHoldExpiry t => Sys2Proof.Machine.execIrHoldExpiry t s
  | .nbrExpiry t p => Sys2Proof.Machine.execNbrExpiry t p s
  | .epochGraceEnd t => Sys2Proof.Machine.execEpochGraceEnd t s
  | .nbrReport t => Sys2Proof.Machine.execNbrReport t s
  | .nbrReportSend t p lqs => Sys2Proof.Machine.execNbrReportSend t p lqs s
  | .parentSet t => Sys2Proof.Machine.execParentSet t s
  | .parentSetApply t => Sys2Proof.Machine.execParentSetApply t s
  | .routeErr t => Sys2Proof.Machine.execRouteErr t s
  | .coopResult t => Sys2Proof.Machine.execCoopResult t s
  | .groupSet t => Sys2Proof.Machine.execGroupSet t s
  | .coopCarry t => Sys2Proof.Machine.execCoopCarry t s
  | .forwardHoldExpiry t => Sys2Proof.Machine.execForwardHoldExpiry t s
  | .routeWaitExpiry t a => Sys2Proof.Machine.execRouteWaitExpiry t a s
  | .coopWaitExpiry t => Sys2Proof.Machine.execCoopWaitExpiry t s
  | .floodRebroadcast t orig fseq => Sys2Proof.Machine.execFloodRebroadcast t orig fseq s
  | .floodDupExpiry t => Sys2Proof.Machine.execFloodDupExpiry t s
  | .epWinWrite t m ix v => Sys2Proof.Machine.execEpWinWrite t m ix v s
  | .endpointRecordStore t => Sys2Proof.Machine.execEndpointRecordStore t s
  | .msgSend t r e payload free => Sys2Proof.Machine.execMsgSend t r e payload free s
  | .txnSend t r e members payloads free => Sys2Proof.Machine.execTxnSend t r e members payloads free s
  | .admission t r e => Sys2Proof.Machine.execAdmission t r e s
  | .revoke t r e => Sys2Proof.Machine.execRevoke t r e s
  | .receiptTimeout t msg => Sys2Proof.Machine.execReceiptTimeout t msg s
  | .messageDeadline t msg => Sys2Proof.Machine.execMessageDeadline t msg s
  | .reportRx t => Sys2Proof.Machine.execReportRx t s
  | .uplinkMessageRx t => Sys2Proof.Machine.execUplinkMessageRx t s
  | .reassemblyTimeout t => Sys2Proof.Machine.execReassemblyTimeout t s
  | .creditRequest t q n => Sys2Proof.Machine.execCreditRequest t q n s
  | .creditReturn t q n => Sys2Proof.Machine.execCreditReturn t q n s
  | .queueWrite t q writer epoch data start fin => Sys2Proof.Machine.execQueueWrite t q writer epoch data start fin s
  | .readLine t q corr bad loc => Sys2Proof.Machine.execReadLine t q corr bad loc s
  | .rewind t q => Sys2Proof.Machine.execRewind t q s
  | .release t q => Sys2Proof.Machine.execRelease t q s
  | .queueFlush t q => Sys2Proof.Machine.execQueueFlush t q s
  | .cellReturnDone t q => Sys2Proof.Machine.execCellReturnDone t q s
  | .qReadDesc t m => Sys2Proof.Machine.execQReadDesc t m s
  | .qFlush t m => Sys2Proof.Machine.execQFlush t m s
  | .qSetLimit t m => Sys2Proof.Machine.execQSetLimit t m s
  | .qClearErr t m => Sys2Proof.Machine.execQClearErr t m s
  | .linkUp t n mode => Sys2Proof.Machine.execLinkUp t n mode s
  | .linkLoss t n => Sys2Proof.Machine.execLinkLoss t n s
  | .failoverComplete t => Sys2Proof.Machine.execFailoverComplete t s
  | .hostSwitch t m => Sys2Proof.Machine.execHostSwitch t m s
  | .heartbeat t m => Sys2Proof.Machine.execHeartbeat t m s
  | .hostWatchdog t => Sys2Proof.Machine.execHostWatchdog t s
  | .sqDoorbell t r v => Sys2Proof.Machine.execSqDoorbell t r v s
  | .cqDoorbell t r v => Sys2Proof.Machine.execCqDoorbell t r v s
  | .irqGapExpiry t r => Sys2Proof.Machine.execIrqGapExpiry t r s
  | .msixUnmask t v => Sys2Proof.Machine.execMsixUnmask t v s
  | .nop t r e => Sys2Proof.Machine.execNop t r e s
  | .fixWrite t r e => Sys2Proof.Machine.execFixWrite t r e s
  | .fixDisarm t r e => Sys2Proof.Machine.execFixDisarm t r e s
  | .fixRead t r e => Sys2Proof.Machine.execFixRead t r e s
  | .rxbufPost t r e => Sys2Proof.Machine.execRxbufPost t r e s
  | .ringEnable t r => Sys2Proof.Machine.execRingEnable t r s
  | .ringDisable t r => Sys2Proof.Machine.execRingDisable t r s
  | .ringAbort t r => Sys2Proof.Machine.execRingAbort t r s
  | .ringDrainDone t r => Sys2Proof.Machine.execRingDrainDone t r s
  | .ringDmaError t r failed => Sys2Proof.Machine.execRingDmaError t r failed s
  | .functionLevelReset t => Sys2Proof.Machine.execFunctionLevelReset t s
  | .regRd t a n => Sys2Proof.Machine.execRegRd t a n s
  | .regWr t a data => Sys2Proof.Machine.execRegWr t a data s
  | .bulkSubmit t r idx entries => Sys2Proof.Machine.execBulkSubmit t r idx entries s
  | .cqAck t r v => Sys2Proof.Machine.execCqAck t r v s
  | .bulkData t a data => Sys2Proof.Machine.execBulkData t a data s
  | .maintRegRead t n page ofs => Sys2Proof.Machine.execMaintRegRead t n page ofs s
  | .maintRegWrite t n page ofs v => Sys2Proof.Machine.execMaintRegWrite t n page ofs v s
  | .secondRecord t xs credit => Sys2Proof.Machine.execSecondRecord t xs credit s
  | .referenceRecord t xs credit => Sys2Proof.Machine.execReferenceRecord t xs credit s
  | .ilConverged t image => Sys2Proof.Machine.execIlConverged t image s
  | .ilFallback t => Sys2Proof.Machine.execIlFallback t s
  | .loopbackCheck t p c tone bands => Sys2Proof.Machine.execLoopbackCheck t p c tone bands s
  | .muteClear t m ports => Sys2Proof.Machine.execMuteClear t m ports s
  | .captureTrigger t m => Sys2Proof.Machine.execCaptureTrigger t m s
  | .limitLineTrigger t n f level => Sys2Proof.Machine.execLimitLineTrigger t n f level s
  | .captureHeld t xs credit => Sys2Proof.Machine.execCaptureHeld t xs credit s
  | .captureArm t m => Sys2Proof.Machine.execCaptureArm t m s
  | .capRead t r e => Sys2Proof.Machine.execCapRead t r e s
  | .xlInstall t r e data => Sys2Proof.Machine.execXlInstall t r e data s
  | .exclusionApply t => Sys2Proof.Machine.execExclusionApply t s
  | .metroInterval t p xs credit => Sys2Proof.Machine.execMetroInterval t p xs credit s
  | .metroUtcBoundary t p xs credit => Sys2Proof.Machine.execMetroUtcBoundary t p xs credit s
  | .dipSwellDetect t p xs credit => Sys2Proof.Machine.execDipSwellDetect t p xs credit s
  | .metSnapDone t xs => Sys2Proof.Machine.execMetSnapDone t xs s
  | .metSnapRead t r e => Sys2Proof.Machine.execMetSnapRead t r e s
  | .hkcRegularScan t rs => Sys2Proof.Machine.execHkcRegularScan t rs s
  | .hkcInjTrig t m => Sys2Proof.Machine.execHkcInjTrig t m s
  | .hkcInjDone t rs => Sys2Proof.Machine.execHkcInjDone t rs s
  | .hkcCal t => Sys2Proof.Machine.execHkcCal t s
  | .hkcCalDone t => Sys2Proof.Machine.execHkcCalDone t s
  | .ctlArm t r e => Sys2Proof.Machine.execCtlArm t r e s
  | .armCmdArm t m => Sys2Proof.Machine.execArmCmdArm t m s
  | .armCmdDisarm t m => Sys2Proof.Machine.execArmCmdDisarm t m s
  | .ctlDisarm t r e => Sys2Proof.Machine.execCtlDisarm t r e s
  | .clrLock t m => Sys2Proof.Machine.execClrLock t m s
  | .pulseEnd t n => Sys2Proof.Machine.execPulseEnd t n s
  | .ctlfbEdge t n level => Sys2Proof.Machine.execCtlfbEdge t n level s
  | .feedbackTimeout t n => Sys2Proof.Machine.execFeedbackTimeout t n s
  | .interlockChange t n level => Sys2Proof.Machine.execInterlockChange t n level s
  | .driveAttach t x => Sys2Proof.Machine.execDriveAttach t x s
  | .driveAccept t m n => Sys2Proof.Machine.execDriveAccept t m n s
  | .driveLoss t n cause => Sys2Proof.Machine.execDriveLoss t n cause s
  | .blockRepair t n region lba gone => Sys2Proof.Machine.execBlockRepair t n region lba gone s
  | .resyncDone t => Sys2Proof.Machine.execResyncDone t s
  | .smartPoll t n used spare thr retired temp => Sys2Proof.Machine.execSmartPoll t n used spare thr retired temp s
  | .vaultCommit t datum oks => Sys2Proof.Machine.execVaultCommit t datum oks s
  | .leaseTableCommit t => Sys2Proof.Machine.execLeaseTableCommit t s
  | .scorebookStore t => Sys2Proof.Machine.execScorebookStore t s
  | .scbRead t r e => Sys2Proof.Machine.execScbRead t r e s
  | .archRead t r e => Sys2Proof.Machine.execArchRead t r e s
  | .keyDerive t m n src srcSlot => Sys2Proof.Machine.execKeyDerive t m n src srcSlot s
  | .keyErase t m n => Sys2Proof.Machine.execKeyErase t m n s
  | .aesOperation t core slot job who fin chunks => Sys2Proof.Machine.execAesOperation t core slot job who fin chunks s
  | .aesKatPeriodic t bad => Sys2Proof.Machine.execAesKatPeriodic t bad s
  | .trngSourceFail t n => Sys2Proof.Machine.execTrngSourceFail t n s
  | .entropyTimeout t => Sys2Proof.Machine.execEntropyTimeout t s
  | .drbgReseed t => Sys2Proof.Machine.execDrbgReseed t s
  | .drbgGenerate t n => Sys2Proof.Machine.execDrbgGenerate t n s
  | .attest t r e nonce => Sys2Proof.Machine.execAttest t r e nonce s
  | .identityRead t r e => Sys2Proof.Machine.execIdentityRead t r e s
  | .keyEpoch t r e blk => Sys2Proof.Machine.execKeyEpoch t r e blk s
  | .provInstall t r e blk => Sys2Proof.Machine.execProvInstall t r e blk s
  | .keyInstall t r e blk => Sys2Proof.Machine.execKeyInstall t r e blk s
  | .fieldLock t r e blk => Sys2Proof.Machine.execFieldLock t r e blk s
  | .sessionOpen t r e nonce => Sys2Proof.Machine.execSessionOpen t r e nonce s
  | .sessionFinish t r e buf => Sys2Proof.Machine.execSessionFinish t r e buf s
  | .sessionClose t r e => Sys2Proof.Machine.execSessionClose t r e s
  | .imageWrite t r e data ok => Sys2Proof.Machine.execImageWrite t r e data ok s
  | .imageActivate t r e => Sys2Proof.Machine.execImageActivate t r e s
  | .bootConfirm t r e => Sys2Proof.Machine.execBootConfirm t r e s
  | .trialExpiry t => Sys2Proof.Machine.execTrialExpiry t s
  | .retire t r e blk => Sys2Proof.Machine.execRetire t r e blk s
  | .uartRxChar t n c => Sys2Proof.Machine.execUartRxChar t n c s
  | .uartBreak t n start => Sys2Proof.Machine.execUartBreak t n start s
  | .uartDeadLine t n start => Sys2Proof.Machine.execUartDeadLine t n start s
  | .uartDeadClear t n => Sys2Proof.Machine.execUartDeadClear t n s
  | .uartTxData t m n char => Sys2Proof.Machine.execUartTxData t m n char s
  | .uartTxCharDone t n => Sys2Proof.Machine.execUartTxCharDone t n s
  | .uartRxPop t m n => Sys2Proof.Machine.execUartRxPop t m n s
  | .uartDivWrite t m n v => Sys2Proof.Machine.execUartDivWrite t m n v s
  | .brkSend t m n => Sys2Proof.Machine.execBrkSend t m n s
  | .uartWakeMatch t c => Sys2Proof.Machine.execUartWakeMatch t c s
  | .uartHandover t => Sys2Proof.Machine.execUartHandover t s
  | .i2cStart t clocks nack arb => Sys2Proof.Machine.execI2cStart t clocks nack arb s
  | .i2cWrite t nack arb => Sys2Proof.Machine.execI2cWrite t nack arb s
  | .i2cRead t b arb => Sys2Proof.Machine.execI2cRead t b arb s
  | .i2cStop t => Sys2Proof.Machine.execI2cStop t s
  | .i2cRecover t m clocks => Sys2Proof.Machine.execI2cRecover t m clocks s
  | .i2cAbort t m => Sys2Proof.Machine.execI2cAbort t m s
  | .i2cRdPop t m => Sys2Proof.Machine.execI2cRdPop t m s
  | .i2cSclTimeout t => Sys2Proof.Machine.execI2cSclTimeout t s
  | .outSet t m v => Sys2Proof.Machine.execOutSet t m v s
  | .outClr t m v => Sys2Proof.Machine.execOutClr t m v s
  | .gpioEdge t n high held => Sys2Proof.Machine.execGpioEdge t n high held s
  | .chkFeed t m u v => Sys2Proof.Machine.execChkFeed t m u v s
  | .chkFeedB t m u b => Sys2Proof.Machine.execChkFeedB t m u b s
  | .chkClr t m units => Sys2Proof.Machine.execChkClr t m units s
  | .chkTimeout t u => Sys2Proof.Machine.execChkTimeout t u s
  | .modeRequest t m mode => Sys2Proof.Machine.execModeRequest t m mode s
  | .modeSwitch t => Sys2Proof.Machine.execModeSwitch t s
  | .modeChangeDone t => Sys2Proof.Machine.execModeChangeDone t s
  | .safeNAssert t => Sys2Proof.Machine.execSafeNAssert t s
  | .safeNRelease t => Sys2Proof.Machine.execSafeNRelease t s
  | .hostLinkAttach t => Sys2Proof.Machine.execHostLinkAttach t s
  | .xtal32Fail t => Sys2Proof.Machine.execXtal32Fail t s
  | .xtal25Fail t => Sys2Proof.Machine.execXtal25Fail t s
  | .refLost t => Sys2Proof.Machine.execRefLost t s
  | .ref10Restore t => Sys2Proof.Machine.execRef10Restore t s
  | .pllStop t => Sys2Proof.Machine.execPllStop t s
  | .cc91Gate t => Sys2Proof.Machine.execCc91Gate t s
  | .dapChallenge t => Sys2Proof.Machine.execDapChallenge t s
  | .dapOut t => Sys2Proof.Machine.execDapOut t s
  | .dapIn t v => Sys2Proof.Machine.execDapIn t v s
  | .dapSubmit t => Sys2Proof.Machine.execDapSubmit t s
  | .dapStatus t => Sys2Proof.Machine.execDapStatus t s
  | .dapLower t l => Sys2Proof.Machine.execDapLower t l s
  | .dapAddrLo t v => Sys2Proof.Machine.execDapAddrLo t v s
  | .dapAddrHi t v => Sys2Proof.Machine.execDapAddrHi t v s
  | .dapRead t host => Sys2Proof.Machine.execDapRead t host s
  | .dapWrite t v => Sys2Proof.Machine.execDapWrite t v s
  | .dapHalt t l checks => Sys2Proof.Machine.execDapHalt t l checks s
  | .dapStep t l => Sys2Proof.Machine.execDapStep t l s
  | .dapResume t l => Sys2Proof.Machine.execDapResume t l s
  | .challengeExpiry t => Sys2Proof.Machine.execChallengeExpiry t s
  | .debugLockoutEnd t => Sys2Proof.Machine.execDebugLockoutEnd t s
  | .extest t pins shift => Sys2Proof.Machine.execExtest t pins shift s
  | .samplePreload t pins shift => Sys2Proof.Machine.execSamplePreload t pins shift s
  | .idcode t => Sys2Proof.Machine.execIdcode t s
  | .clamp t => Sys2Proof.Machine.execClamp t s
  | .highz t => Sys2Proof.Machine.execHighz t s
  | .dapSelect t => Sys2Proof.Machine.execDapSelect t s
  | .lcAdvance t target => Sys2Proof.Machine.execLcAdvance t target s
  | .bypass t => Sys2Proof.Machine.execBypass t s
  | .tapReset t trst => Sys2Proof.Machine.execTapReset t trst s
  | .fabricAccess t x => Sys2Proof.Machine.execFabricAccess t x s
  | .legacySlotEnable t m k v => Sys2Proof.Machine.execLegacySlotEnable t m k v s
  | .cardClr t m k => Sys2Proof.Machine.execCardClr t m k s
  | .lgcStart t m k c => Sys2Proof.Machine.execLgcStart t m k c s
  | .lgcStop t m k c => Sys2Proof.Machine.execLgcStop t m k c s
  | .tlbInvAll t m k => Sys2Proof.Machine.execTlbInvAll t m k s
  | .tlbInvVa t m k asid => Sys2Proof.Machine.execTlbInvVa t m k asid s
  | .fltResume t m k n => Sys2Proof.Machine.execFltResume t m k n s
  | .fltAbort t m k n => Sys2Proof.Machine.execFltAbort t m k n s
  | .quantumExpiry t k => Sys2Proof.Machine.execQuantumExpiry t k s
  | .lgcRead t r e => Sys2Proof.Machine.execLgcRead t r e s
  | .lgcWrite t r e data => Sys2Proof.Machine.execLgcWrite t r e data s
  | .engineWatchdog t l work late again => Sys2Proof.Machine.execEngineWatchdog t l work late again s
  | .substituteReady t l => Sys2Proof.Machine.execSubstituteReady t l s
  | .substitutionMove t l steps ports => Sys2Proof.Machine.execSubstitutionMove t l steps ports s
  | .engineSelftestDone t eng st => Sys2Proof.Machine.execEngineSelftestDone t eng st s
  | .benchSubstitute t m l => Sys2Proof.Machine.execBenchSubstitute t m l s
  | .benchSelftest t m => Sys2Proof.Machine.execBenchSelftest t m s
  | .legSubstitution t p c => Sys2Proof.Machine.execLegSubstitution t p c s
  | .sliceCheck t die ix mismatch => Sys2Proof.Machine.execSliceCheck t die ix mismatch s
  | .sliceSubstitution t die => Sys2Proof.Machine.execSliceSubstitution t die s
  | .d2dRetrain t n ok => Sys2Proof.Machine.execD2dRetrain t n ok s
  | .scrubPass t found => Sys2Proof.Machine.execScrubPass t found s
  | .ageingHourly t ro em => Sys2Proof.Machine.execAgeingHourly t ro em s
  | .lifeMinute t => Sys2Proof.Machine.execLifeMinute t s
  | .ageingDaily t => Sys2Proof.Machine.execAgeingDaily t s
  | .testSram t m => Sys2Proof.Machine.execTestSram t m s
  | .testD2d t m p => Sys2Proof.Machine.execTestD2d t m p s
  | .testLoop t m p c => Sys2Proof.Machine.execTestLoop t m p c s
  | .testAesKat t m => Sys2Proof.Machine.execTestAesKat t m s
  | .testTrng t m => Sys2Proof.Machine.execTestTrng t m s
  | .testDone t found => Sys2Proof.Machine.execTestDone t found s
  | .atbSelect t m bus v => Sys2Proof.Machine.execAtbSelect t m bus v s
  | .powerOnReset t straps => Sys2Proof.Machine.execPowerOnReset t straps s
  | .aonMonitorReset t straps => Sys2Proof.Machine.execAonMonitorReset t straps s
  | .deviceReset t => Sys2Proof.Machine.execDeviceReset t s
  | .coreRailReset t => Sys2Proof.Machine.execCoreRailReset t s
  | .rstReq t m => Sys2Proof.Machine.execRstReq t m s
  | .bootComplete t drives banks => Sys2Proof.Machine.execBootComplete t drives banks s
  | .uartCtsChange t high => Sys2Proof.Machine.execUartCtsChange t high s
  | .uartIdleBoundary t n => Sys2Proof.Machine.execUartIdleBoundary t n s
  | .i2cSclRelease t => Sys2Proof.Machine.execI2cSclRelease t s
  | .acceleratorRequestDone t kind u ok arrived => Sys2Proof.Machine.execAcceleratorRequestDone t kind u ok arrived s
  | .engineParityError t l uncorr work late again => Sys2Proof.Machine.execEngineParityError t l uncorr work late again s
  | .metOkChange t ok => Sys2Proof.Machine.execMetOkChange t ok s

end Sys2Proof.Machine
end

