-- ==== Sys2Proof/Safety.lean ====
section
/-! DEFINITION. What counts as a safe run: the stores keep their canonical form and their bounds, no command stops the block, and a silent port drives no conductor. -/

namespace Sys2Proof.Machine

/-- The register map is canonical: keys rise strictly, and no entry holds the reset value of its key, so that equal registers are equal data. -/
def regsCanon (m : List (Nat × Word)) : Prop := tsorted m = true ∧ ∀ x ∈ m, x.2 ≠ keyReset x.1

/-- The stores are in canonical form: the register map, fabric memory, legacy memory and host memory. -/
def State.Wf (s : State) : Prop := regsCanon s.regs ∧ Memory.wf s.mem = true ∧ Memory.wf s.lgcMem = true ∧ Memory.wf s.hostMem = true

/-- The scorebook's staging buffer holds at most its 64 records (R420). -/
def State.stageOk (s : State) : Prop := s.scb.stage.length ≤ 64

/-- The state in which a command write by master `m` takes effect: an access by the host function is noted. -/
def State.served (s : State) (m : Nat) : State := if m = 0x300 then s.hostTouch else s

/-- A write by master `m` at `a` is performed: the host is served, the master is not carded, and the umpire finds no violation (R47, R338, R514, R516). -/
def State.mayWrite (s : State) (m a : Nat) : Prop :=
  (m = 0x300 → s.hostReaches = true) ∧ ((s.served m).mst m).card = false ∧ (s.served m).writeCheck m a = none

/-- A command write by master `m` reaches the register at `a`: it is performed, on an allocated page that is not in soft reset (R38, R44). -/
def State.passes (s : State) (m a : Nat) : Prop :=
  s.mayWrite m a ∧ allocated (a / 0x1000) = true ∧ ((s.served m).page (a / 0x1000)).srst = false

/-- Ring `r` takes entry `e` as a submission of operation `op`: it can be fetched, and passes every check of R331. -/
def State.takes (s : State) (r : Nat) (e : List Byte) (op : Nat) : Prop :=
  leAt e 12 1 = op ∧ s.canFetch r e = true ∧ (s.fetch r e).2.2 = none

/-- A run of steps none of which stops. -/
def State.runs : Nat → State → Prop
  | 0, _ => True
  | n + 1, s => ∃ t, step s = .next t ∧ t.runs n

/-- Port `p` is silent: no conductor of it transmits. -/
def State.silent (s : State) (p : Nat) : Prop := ∀ c, c < 3 → (s.cond p c).nb = none ∧ (s.cond p c).bb = none

end Sys2Proof.Machine
end

