-- ==== Sys2Proof/Certificates/Slice0/Obligations.lean ====
section
/-! DEFINITION. The statements for the provers: what every step does and keeps, what each family of commands answers, and the rules of the spec that say what a command does. -/

section
open Sys2Proof Sys2Proof.Machine

/-- One step takes the command at the front of the queue and carries it out with the queue's rest. -/
def Obligations.StepRunsFrontCommand : Prop :=
  ∀ (c : Instr) (s : State), step { s with pending := c :: s.pending } = exec c s

/-- The model's choice, log entry 13: on an empty queue the block idles. -/
def Obligations.EmptyQueueIdles : Prop := ∀ s : State, s.pending = [] → step s = .next s

/-- Every command is carried out in every state: it answers a next state, at the command's own instant or later, and leaves the queue alone. -/
def Obligations.EveryCommandAnswersNextState : Prop :=
  ∀ (c : Instr) (s : State), ∃ u, exec c s = .next u ∧ u.pending = s.pending ∧ u.now = max s.now c.time

/-- A queue of commands runs to its end: after as many steps as commands wait, the queue is empty. -/
def Obligations.QueueRunsToEmpty : Prop :=
  ∀ s : State, ∃ u : State, Sys2Proof.core.run s.pending.length s = .next u ∧ u.pending = []

/-- Every step keeps the register map, fabric memory, legacy memory and host memory in canonical form. -/
def Obligations.StepKeepsStoresCanonical : Prop := ∀ s t : State, s.Wf → step s = .next t → t.Wf

/-- After reset the stores are canonical and the scorebook's stage is within its bound. -/
def Obligations.ResetStoresCanonical : Prop := State.reset.Wf ∧ State.reset.stageOk

/-- R453: no step takes the lifecycle back to an earlier state. -/
def Obligations.LifecycleNeverGoesBack : Prop := ∀ s t : State, step s = .next t → s.sec.lc ≤ t.sec.lc

/-- R420: the staging buffer never holds more than its 64 records. -/
def Obligations.ScorebookStageNeverOverfills : Prop := ∀ s t : State, s.stageOk → step s = .next t → t.stageOk

/-- R508, R509: no command but SUBMIT raises the debug level. -/
def Obligations.DebugLevelRisesOnlyBySubmit : Prop :=
  ∀ (c : Instr) (s u : State), exec c s = .next u → s.sec.dbg < u.sec.dbg → ∃ t, c = .dapSubmit t

/-- R71, R574: after reset line time and UTC read 0, the debug level is D0, no page is in soft reset, nothing waits, and every register but `RST_CAUSE` and `BOOT_STAT` holds its reset value; `RST_CAUSE` names `PORESET_N`. -/
def Obligations.ResetState : Prop :=
  State.reset.lt = 0 ∧ State.reset.utc = 0 ∧ State.reset.sec.dbg = 0 ∧ (∀ p, (State.reset.page p).srst = false) ∧ State.reset.pending = [] ∧
  (∀ a, a ≠ Reg.SYS_RST_CAUSE → a ≠ Reg.SYS_BOOT_STAT → State.reset.rd a = keyReset a) ∧ State.reset.rb Reg.SYS_RST_CAUSE 0 = true

/-- R42: a write to `FAULT_WIN` that places 0 in `WINDOW` or in `THRESH` changes nothing, whether a master makes it that no check turns away, or the host through the window of the ACTIVE port. -/
def Obligations.FaultWindowZeroIgnored : Prop :=
  ∀ (t m p : Nat) (via : Fin 2) (v : Word) (s : State), allocated p = true → fld v 0 16 = 0 ∨ fld v 16 8 = 0 → let S := s.advance t; let a := Reg.FAULT_WIN p
    (m ≠ 0x300 → (S.mst m).card = false → S.writeCheck m a = none → exec (.registerWrite t m via false a (leBytes 4 v.toNat)) s = .next S) ∧
    (m = 0x300 → S.role via ≠ 2 → S.windowOpen = true → (S.hostTouch.mst m).card = false → S.hostTouch.writeCheck m a = none →
      exec (.registerWrite t m via false a (leBytes 4 v.toNat)) s = .next S.hostTouch)

/-- R32, R514, R516: a register write of any bytes by a master is performed where the umpire finds no violation, but for a write of the slot command register, which has a check of its own; a violation is not performed and draws the red card; a carded master is not served. The host writes so through the open window of a port that is not STANDBY. -/
def Obligations.RegisterWriteChecked : Prop :=
  ∀ (t m a : Nat) (via : Fin 2) (b : List Byte) (s : State), let S := (s.advance t).served m
    (m = 0x300 → (s.advance t).role via ≠ 2 ∧ (s.advance t).windowOpen = true) →
      ((S.mst m).card = true → exec (.registerWrite t m via false a b) s = .next S) ∧
      (∀ kind, (S.mst m).card = false → S.writeCheck m a = some kind → exec (.registerWrite t m via false a b) s = .next (S.redCard m kind 1 a [])) ∧
      ((S.mst m).card = false → S.writeCheck m a = none → a ≠ Reg.SEC_SLOT_CMD → exec (.registerWrite t m via false a b) s = .next (S.regWrite m a b))

/-- R38, R598: a word of a page the allocation table does not list reads 0; a write there that no check turns away only counts in `SYS.ERR_UNCORR` and sets `INT_CAUSE.UNCORR`: no window opens, no other register of the window changes but the message counter, and no memory changes. -/
def Obligations.UnallocatedPageIgnored : Prop :=
  ∀ (t m a : Nat) (via : Fin 2) (b : List Byte) (s : State), allocated (a / 0x1000) = false → a % 4 = 0 → b.length = 4 → m ≠ 0x300 →
    ((s.advance t).mst m).card = false → (s.advance t).writeCheck m a = none →
    s.readWord a = 0 ∧
    ∃ u, exec (.registerWrite t m via false a b) s = .next u ∧ u.rd (Reg.ERR_UNCORR 0) = satInc (s.rd (Reg.ERR_UNCORR 0)) 0 32 ∧
      u.rd (Reg.INT_CAUSE 0) = s.rd (Reg.INT_CAUSE 0) ||| word (2 ^ 28) ∧
      (∀ k, k < 2 ^ 26 → k ≠ Reg.ERR_UNCORR 0 → k ≠ Reg.INT_CAUSE 0 → k ≠ Reg.MSIX_VEC_CNT → u.rd k = s.rd k) ∧
      u.mem = s.mem ∧ u.lgcMem = s.lgcMem ∧ u.hostMem = s.hostMem ∧ u.scb = s.scb

/-- R15 for interrupt causes: where a clear is performed, causes set and cleared in one fabric cycle end set, in either order; with none set in the cycle, exactly the causes written 1 clear, and nothing else changes. -/
def Obligations.SameCycleSetSurvivesClear : Prop :=
  ∀ (t m p : Nat) (v bits : Word) (s : State), let a := Reg.INT_CAUSE p; let S := (s.advance t).served m
    allocated p = true → (s.advance t).mayWrite m a → (((s.advance t).setCause p bits).advance t).mayWrite m a →
    (∃ u, exec (.intCauseClear t m p v) ((s.advance t).setCause p bits) = .next u ∧ u.rd a &&& bits = bits) ∧
    (∃ u, exec (.intCauseClear t m p v) s = .next u ∧ (u.setCause p bits).rd a &&& bits = bits) ∧
    ((S.page p).setCycle ≠ S.fabric + 1 → exec (.intCauseClear t m p v) s = .next (S.wr a (S.rd a &&& ~~~v)))

/-- R45: what a write of `LOCK` does in each state of the lock, and what a read shows of it. -/
def Obligations.LockFollowsItsTable : Prop :=
  ∀ (t m p : Nat) (v : Word) (s : State), (s.advance t).passes m (Reg.LOCK p) →
    let S := (s.advance t).served m
    let g := S.page p
    (g.policy = false → g.keyed = false → v ≠ 0 → exec (.lockWrite t m p v) s = .next (S.setPage p { g with keyed := true, key := v })) ∧
    (g.policy = false → g.keyed = false → v = 0 → exec (.lockWrite t m p v) s = .next S) ∧
    (g.policy = false → g.keyed = true → v = g.key → exec (.lockWrite t m p v) s = .next (S.setPage p { g with keyed := false, key := 0, wrong := 0 })) ∧
    (g.policy = false → g.keyed = true → v ≠ g.key →
      exec (.lockWrite t m p v) s = .next ((S.setPage p { g with wrong := min 255 (g.wrong + 1) }).pageRecord p 0x24 0 (detail 0 0 0))) ∧
    (g.policy = true → exec (.lockWrite t m p v) s = .next (S.setPage p { g with wrong := min 255 (g.wrong + 1) })) ∧
    (g.wrong < 256 → bit g.lockView 0 = (g.keyed || g.policy) ∧ bit g.lockView 1 = g.policy ∧ fld g.lockView 8 8 = g.wrong ∧ fld g.lockView 16 16 = 0)

/-- R44: a soft reset of a page other than FIX and BANK keeps its error counters, its lock, its owner, its fault window, its active bank and its epoch, returns `INT_CAUSE` and `BLK_CTL` to their reset values, abandons a pending swap and a copy, and holds the page in soft reset until it is done. -/
def Obligations.SoftResetKeepsCounters : Prop :=
  ∀ (t m p : Nat) (s : State), (s.advance t).passes m (Reg.BLK_CTL p) → p ≠ 0x004 → p ≠ 0x005 →
    let S := (s.advance t).served m
    ∃ u, exec (.softReset t m p) s = .next u ∧ (u.page p).srst = true ∧ (u.page p).soloPend = false ∧ (u.page p).groupPend = none ∧ (u.page p).copying = false ∧
      (∀ o, o ∈ [0x020, 0x024, 0x034, 0x038, 0x03C] → u.rd (p * 0x1000 + o) = S.rd (p * 0x1000 + o)) ∧
      (u.page p).keyed = (S.page p).keyed ∧ (u.page p).wrong = (S.page p).wrong ∧ (u.page p).active = (S.page p).active ∧ (u.page p).epoch = (S.page p).epoch ∧
      u.rd (Reg.INT_CAUSE p) = keyReset (Reg.INT_CAUSE p) ∧ u.rd (Reg.BLK_CTL p) = keyReset (Reg.BLK_CTL p) ∧ u.mem = s.mem ∧ u.fix = s.fix

/-- R76: SNAP captures line time and UTC of one instant and raises `SNAP_SEQ`; it changes nothing else. -/
def Obligations.SnapCaptures : Prop :=
  ∀ (t m : Nat) (s : State), (s.advance t).passes m 0x3040 →
    let S := (s.advance t).served m
    ∃ u, exec (.snap t m) s = .next u ∧
      u.rd Reg.LTIME_SNAP_LT_LO = word S.lt ∧ u.rd Reg.LTIME_SNAP_LT_HI = word (S.lt / 2 ^ 32) ∧
      u.rd Reg.LTIME_SNAP_UTC_LO = word S.utc ∧ u.rd Reg.LTIME_SNAP_UTC_HI = word (S.utc / 2 ^ 32) ∧
      u.rd Reg.LTIME_SNAP_SEQ = S.rd Reg.LTIME_SNAP_SEQ + 1 ∧
      (∀ k, k ∉ [Reg.LTIME_SNAP_LT_LO, Reg.LTIME_SNAP_LT_HI, Reg.LTIME_SNAP_UTC_LO, Reg.LTIME_SNAP_UTC_HI, Reg.LTIME_SNAP_SEQ] → u.rd k = S.rd k) ∧
      { u with regs := S.regs } = S

/-- R64: a write of `TRK_CTL.EN` 0 stops a running tracker, and line time holds its value at every later instant. -/
def Obligations.StoppedTrackerHoldsLineTime : Prop :=
  ∀ (t m : Nat) (s : State), (s.advance t).passes m 0x3040 → (s.page 0x003).keyed = false → (s.page 0x003).policy = false → s.trk.stopped = false →
    ∃ u, exec (.trackerEnable t m false) s = .next u ∧ u.trk.stopped = true ∧ u.rf Reg.LTIME_TRK_STAT 0 2 = 0 ∧ u.holdAge = 0 ∧
      ∀ later, u.ltAt later = ((s.advance t).served m).lt

/-- R80: after an occurrence, fired or skipped, a non-zero `COUNT` falls by one; while occurrences remain the cycle count rises by `PERIOD` and the entry stays as armed as it was; otherwise it is disarmed. -/
def Obligations.OccurrenceRepeats : Prop :=
  ∀ (i : Nat) (st : Status) (s : State), let f := s.fixt i
    ∀ g, g = (s.skip i st).fixt i ∨ g = (s.fired i).fixt i →
      g.count = f.count - 1 ∧
      (f.period ≠ 0 → f.count = 0 ∨ 1 < f.count → g.lt = wrap64 (f.lt + f.period * 2 ^ 32) ∧ g.armed = f.armed) ∧
      (f.period = 0 ∨ f.count = 1 → g.lt = f.lt ∧ g.armed = false)

/-- R81, R92: a HOST_EVENT fixture due within its tolerance, in a mode that runs it, reports its argument, fires once, and sets its cause. -/
def Obligations.HostEventFires : Prop :=
  ∀ (t : Nat) (i : Fin 8192) (s : State), (s.advance t).due i 0x0B = some true → s.mode ≠ 0 → (s.advance t).fixHeld (s.fixt i) = none →
    exec (.hostEvent t i) s = .next ((((s.advance t).fired i).wr Reg.FIX_HOST_EVT (word (s.fixt i).arg0)).cause 0x004 2)

/-- R88: the status of a WRITE, in the order of its checks; a refused one leaves the entry, the others store it armed or disarmed with `FIRES` and `FIRE_ERR` 0. -/
def Obligations.FixtureWriteOutcome : Prop :=
  ∀ (host : Bool) (i : Nat) (b : List Byte) (s : State), let f := Fixture.ofBytes b; let r := s.applyWrite host i b
    (s.inRange host i = false ∨ f.valid = false → r = (s, Status.refused)) ∧
    (s.inRange host i = true → f.valid = true →
      (r.1.fixt i).fires = 0 ∧ (r.1.fixt i).fireErr = 0 ∧ (r.1.fixt i).result = r.2 ∧
      (f.armed = false → r.2 = Status.done ∧ (r.1.fixt i).armed = false) ∧
      (f.armed = true → ltFuture f.lt s.lt = false → r.2 = Status.deadlineMissed ∧ (r.1.fixt i).armed = false) ∧
      (f.armed = true → ltFuture f.lt s.lt = true → f.action = 0x03 → s.edgesTo f.lt < (150 * usec : Nat) → r.2 = Status.deadlineMissed ∧ (r.1.fixt i).armed = false) ∧
      (f.armed = true → ltFuture f.lt s.lt = true → ¬ (f.action = 0x03 ∧ s.edgesTo f.lt < (150 * usec : Nat)) → r.2 = Status.done ∧ (r.1.fixt i).armed = true))

/-- R106, R107: a conductor whose current is limited enters LIMIT, and its limit time adds up; entry alone is reported; nothing of another conductor changes. One second after the last limiting the limit time returns to 0 and the conductor leaves LIMIT; before that nothing happens. -/
def Obligations.LimitAccumulatesAndExpires : Prop :=
  ∀ (t us : Nat) (p : Fin 4) (c : Fin 3) (s : State),
    (∃ u, exec (.currentLimit t p c us) s = .next u ∧ (u.cond p c).limit = true ∧ (u.cond p c).limUs = (s.cond p c).limUs + us ∧
      ((s.cond p c).limit = true → u.scb = s.scb) ∧ (∀ p' c', 3 * p' + c' ≠ 3 * p.val + c.val → u.cond p' c' = s.cond p' c') ∧ u.fix = s.fix ∧ u.mem = s.mem) ∧
    ((s.cond p c).limit = true → (s.cond p c).lastLim + 1500000000 ≤ max s.now t →
      exec (.limitExpiry t p c) s = .next ((s.advance t).putCond p c { s.cond p c with limit := false, limUs := 0 })) ∧
    ((s.cond p c).limit = true → max s.now t < (s.cond p c).lastLim + 1500000000 → exec (.limitExpiry t p c) s = .next (s.advance t))

/-- R169: with `DET_EN` 1 three windows in a row that the receive set hears set `PRESENT`, its cause and its record; an allocation decoded while `PRESENT` stands is kept and shown; a clear returns both to 0 with the same cause and record once `ISP_CLR_S` has passed since the last signal heard, and not before; with `DET_EN` 0 nothing is detected. -/
def Obligations.IspPresence : Prop :=
  ∀ (t : Nat) (p : Fin 4) (ws : List (List Nat)) (w : List Nat) (x : IspAlloc) (s : State), let a := Reg.BBP_ISP_STAT p; let S := s.advance t
    (s.rb (Reg.BBP_ISP_CFG p) 0 = false → ∀ al, exec (.ispDetect t p ws al) s = .next S) ∧
    (s.rb (Reg.BBP_ISP_CFG p) 0 = true → s.rb a 0 = false → 3 ≤ ws.length → ws.getLast? = some w → (ws.drop (ws.length - 3)).all (s.ispHeard p) = true →
      let u := ((S.setIsp p { S.ispOf p with seen := S.now + 1 }).wb a 0 true).ispChange p
      exec (.ispDetect t p ws none) s = .next u ∧
      (u.rb a 0 = true → exec (.ispDetect t p ws (some x)) s = .next ((u.setIsp p { u.ispOf p with alloc := some x }).wb a 2 true))) ∧
    (s.rb a 0 = true →
      ((s.ispOf p).seen + s.rf (Reg.BBP_ISP_CFG p) 16 16 * 1000 * msec ≤ S.now + 1 →
        exec (.ispClear t p) s = .next ((((S.wb a 0 false).wb a 2 false).setIsp p {}).ispChange p)) ∧
      (S.now + 1 < (s.ispOf p).seen + s.rf (Reg.BBP_ISP_CFG p) 16 16 * 1000 * msec → exec (.ispClear t p) s = .next S))

/-- R255: a neighbour record of the port unheard for 255 superframes is freed, and no other. -/
def Obligations.NeighbourExpiry : Prop :=
  ∀ (t : Nat) (p : Fin 4) (s : State), ∃ u, exec (.nbrExpiry t p) s = .next u ∧
    ∀ x, x ∈ u.link.nbrs ↔ x ∈ s.link.nbrs ∧ ¬ (x.1 / 4096 = p ∧ (s.advance t).sfReached (s.advance t).sfNow (x.2.lastSf + 255) = true)

/-- R280: a pair leaves the flood cache once `DUP_SF` superframes have passed, and no other; nothing else changes. -/
def Obligations.FloodCacheExpiry : Prop :=
  ∀ (t : Nat) (s : State), ∃ u, exec (.floodDupExpiry t) s = .next u ∧
    (∀ x, x ∈ u.net.floods ↔ x ∈ s.net.floods ∧ (s.advance t).sfReached (s.advance t).sfNow (x.2.2 + s.rf Reg.NET_FLOOD_CFG 16 8) = false) ∧ { u with net := s.net } = s.advance t

/-- R307 to R310: where no flush falls in the fabric cycle, credit requests and returns, those of the same cycle that go first among them, keep `CELLS` + `CREDITS` of every queue within `LIMIT`; and where none of the cycle goes first, a request is granted no more than it names and a return frees what it names or all that is held. -/
def Obligations.CreditsWithinLimit : Prop :=
  ∀ (t q n : Nat) (s : State), let S := s.advance t; let g := s.queue q
    ((∀ k, (s.queue k).cells + (s.queue k).credits ≤ (s.queue k).limit) → (∀ k, S.flushWaits k = false) →
      (∃ u, exec (.creditRequest t q n) s = .next u ∧ ∀ k, (u.queue k).cells + (u.queue k).credits ≤ (u.queue k).limit) ∧
      (∃ u, exec (.creditReturn t q n) s = .next u ∧ ∀ k, (u.queue k).cells + (u.queue k).credits ≤ (u.queue k).limit)) ∧
    (S.creditWaits = [] → S.flushWaits q = false → S.qmg.turn ≠ S.fabric + 1 →
      (queueAlloc q = true → ∃ u, exec (.creditRequest t q n) s = .next u ∧ g.credits ≤ (u.queue q).credits ∧ (u.queue q).credits ≤ g.credits + n ∧
        (u.queue q).cells = g.cells ∧ (u.queue q).limit = g.limit) ∧
      (∃ u, exec (.creditReturn t q n) s = .next u ∧ (u.queue q).credits = g.credits - n ∧ (u.queue q).items = g.items ∧ (u.queue q).opened = g.opened))

/-- R337: the SQ_TAIL doorbell moves the tail of a ring that is ACTIVE, or that began to drain in the same fabric cycle, where both distances allow it; does nothing where the value stands already; and is otherwise rejected and counted. -/
def Obligations.SqDoorbell : Prop :=
  ∀ (t : Nat) (r : Fin 256) (v : Word) (s : State), (s.advance t).windowOpen = true →
    let S := (s.advance t).hostTouch
    let g := S.ring r
    let x := fld v 0 16
    let fits := (x + 65536 - g.sqHead) % 65536 ≤ 2 ^ S.log2n r ∧ (x + 65536 - g.sqTail) % 65536 ≤ 2 ^ S.log2n r
    let takes := g.state = 1 ∨ (g.state = 2 ∧ g.drainAt = S.fabric + 1)
    (x = g.sqTail → exec (.sqDoorbell t r v) s = .next S) ∧
    (x ≠ g.sqTail → takes → fits → exec (.sqDoorbell t r v) s = .next (S.setRing r { g with sqTail := x })) ∧
    (x ≠ g.sqTail → ¬ (takes ∧ fits) →
      exec (.sqDoorbell t r v) s = .next (((S.setRing r { g with rejected := min 255 (g.rejected + 1) }).inc Reg.HFN_DB_BAD).cause 0x01A 4))

/-- R336: a failed host-memory access takes an ACTIVE or DRAINING ring to ERROR and sets `RING_ERR`. The last `n` completions of a failed write are owed again; a failed read owes none, and changes nothing else. An IDLE ring, or one in ERROR, is left as it is. -/
def Obligations.RingDmaError : Prop :=
  ∀ (t n : Nat) (r : Fin 256) (s : State),
    ((s.ring r).state = 1 ∨ (s.ring r).state = 2 →
      (let u := (s.advance t).cqUnwrite r n
       exec (.ringDmaError t r n) s = .next ((u.setRing r { u.ring r with state := 3 }).cause 0x01A 3)) ∧
      exec (.ringDmaError t r 0) s = .next (((s.advance t).setRing r { s.ring r with state := 3 }).cause 0x01A 3)) ∧
    ((s.ring r).state = 0 ∨ (s.ring r).state = 3 → exec (.ringDmaError t r n) s = .next (s.advance t))

/-- R368: `CAP_CTL.ARM` arms an idle or held capture buffer and clears its flags and content; no other register and no memory changes. -/
def Obligations.CaptureArms : Prop :=
  ∀ (t m : Nat) (s : State), (s.advance t).passes m 0x7C044 → s.capState = 0 ∨ s.capState = 3 →
    let S := (s.advance t).served m
    ∃ u, exec (.captureArm t m) s = .next u ∧ u.capState = 1 ∧ u.srv.cap = [] ∧ (∀ k, k ≠ Reg.SRV_CAP_STAT → u.rd k = S.rd k) ∧ u.mem = s.mem ∧ u.scb = s.scb

/-- R392, R393: an injected-group trigger is taken where none is pending or running, its results late where a calibration runs; one in the fabric cycle in which the calibration began goes first, and the calibration waits; a further one is ignored and counted. -/
def Obligations.InjectedTrigger : Prop :=
  ∀ (t m : Nat) (s : State), (s.advance t).passes m 0xC040 → let S := (s.advance t).served m; S.hkcRuns = true →
    (S.hkc.inj = false → S.rb Reg.HKC_HKC_STAT 0 = false ∨ S.hkc.calAt ≠ S.fabric + 1 → exec (.hkcInjTrig t m) s =
      .next { S.wb Reg.HKC_HKC_STAT 1 true with hkc := { S.hkc with inj := true, late := S.rb Reg.HKC_HKC_STAT 0 } }) ∧
    (S.hkc.inj = false → S.rb Reg.HKC_HKC_STAT 0 = true → S.hkc.calAt = S.fabric + 1 → exec (.hkcInjTrig t m) s =
      .next { (S.wb Reg.HKC_HKC_STAT 0 false).wb Reg.HKC_HKC_STAT 1 true with hkc := { S.hkc with inj := true, late := false, calWait := true } }) ∧
    (S.hkc.inj = true → exec (.hkcInjTrig t m) s = .next ((S.inc Reg.HKC_INJ_OVR).cause 0x00C 3))

/-- R420, R421: where the store manager runs, the staged records go to the ring in their order, none is lost of the newest, and the stage is empty. -/
def Obligations.ScorebookStores : Prop :=
  ∀ (t : Nat) (s : State), 4 ≤ s.mode → ∃ u, exec (.scorebookStore t) s = .next u ∧ u.scb.stage = [] ∧
    ∃ old, s.scb.ring ++ s.scb.stage.map Staged.body = old ++ u.scb.ring

/-- R436, R438, R501: where slot commands are served, the slot is of the master's own domain and no higher master's command on it came in the same fabric cycle, a loaded slot that is erased holds no key and is no longer loaded; no other slot and no memory changes, and outside LISTEN no register but the slot's status and the command status; a slot of another domain is not touched, and the master draws the red card. -/
def Obligations.KeyErased : Prop :=
  ∀ (t m : Nat) (n : Fin 64) (s : State), (s.advance t).passes m 0x11040 → let S := (s.advance t).served m
    (S.slotForeign (S.domain m) n = true → exec (.keyErase t m n) s = .next (S.redCard m 4 1 (Reg.SEC_SLOT_STAT n) [])) ∧
    (S.slotForeign (S.domain m) n = false → S.slotLate m n = false → 3 ≤ s.mode → s.sec.lc ≠ 3 → (s.slot n).retired = false → (s.slot n).loaded = true →
      ∃ u, exec (.keyErase t m n) s = .next u ∧ (u.slot n).loaded = false ∧ (u.slot n).key = [] ∧ (u.slot n).prevKey = [] ∧
        (∀ n', n' ≠ n.val → u.slot n' = s.slot n') ∧ (s.mode ≠ 3 → ∀ k, k ≠ Reg.SEC_SLOT_CMD_STAT → k ≠ Reg.SEC_SLOT_STAT n → u.rd k = S.rd k) ∧ u.mem = s.mem)

/-- R48, R471: OUT_SET raises and OUT_CLR lowers exactly the outputs written 1, but for those that a higher master wrote in the same fabric cycle; no other register changes. -/
def Obligations.GpioOutputs : Prop :=
  ∀ (t m : Nat) (v : Word) (s : State), let S := (s.advance t).served m; let w := S.outFree m v
    (S.io.outAt ≠ S.fabric + 1 → w = v) ∧
    (S.io.outAt = S.fabric + 1 → ∀ x, x ∈ S.io.outBy → m < x.1 → w &&& x.2 = 0) ∧
    ((s.advance t).passes m 0x2B048 → ∃ u, exec (.outSet t m v) s = .next u ∧ u.rd Reg.GPIO_OUT = (S.rd Reg.GPIO_OUT ||| w) &&& 0xFFFFFF ∧
      (∀ k, k ≠ Reg.GPIO_OUT → u.rd k = S.rd k) ∧ u.mem = s.mem) ∧
    ((s.advance t).passes m 0x2B04C → ∃ u, exec (.outClr t m v) s = .next u ∧ u.rd Reg.GPIO_OUT = S.rd Reg.GPIO_OUT &&& ~~~w ∧
      (∀ k, k ≠ Reg.GPIO_OUT → u.rd k = S.rd k) ∧ u.mem = s.mem)

/-- R565, R566: IDCODE selects the data register 0x1964_05A7 at every debug level, and leaves everything else. -/
def Obligations.IdcodeRead : Prop :=
  ∀ (t : Nat) (s : State), exec (.idcode t) s = .next { s.advance t with dap := { s.dap with ir := 0x02, dr := 0x196405A7 } } ∧
    (0x196405A7 : Word) = (1#4 ++ 0x9640#16 ++ 0x2D3#11 ++ 1#1)

/-- R565: below D3 EXTEST, SAMPLE/PRELOAD, CLAMP, HIGHZ and LC_ADVANCE select BYPASS; a reset of the port selects IDCODE and leaves the debug level. -/
def Obligations.TapInstructionsByLevel : Prop :=
  ∀ (t pins shift : Nat) (target : Fin 4) (trst : Bool) (s : State),
    (s.sec.dbg ≠ 3 → ∀ c, c ∈ [Instr.extest t pins shift, .samplePreload t pins shift, .clamp t, .highz t, .lcAdvance t target, .bypass t] →
      exec c s = .next { s.advance t with dap := { s.dap with ir := 0xFF, dr := 0 } }) ∧
    ∃ u, exec (.tapReset t trst) s = .next u ∧ u.dap.ir = 0x02 ∧ u.sec = s.sec ∧ (trst = true → u.dap.chal = [] ∧ u.dap.resp = [])

/-- R534: CARD_CLR while the slot holds no card has no effect. -/
def Obligations.CardClearNeedsCard : Prop :=
  ∀ (t m : Nat) (k : Fin 16) (s : State), (s.advance t).passes m (Reg.LGC_SLOT_CMD k) → s.slotCarded k = false →
    exec (.cardClr t m k) s = .next ((s.advance t).served m)

/-- R33, R514: a word written by an engine that runs to shared SRAM, within one 64-byte line, that passes every check of the umpire and that no store of the same fabric cycle goes after, is stored, and no other byte of any memory, and no register, changes. -/
def Obligations.FabricStore : Prop :=
  ∀ (t : Nat) (x : FabAcc) (s : State), let S := s.advance t; let rec_ : ArbRec := { addr := x.addr, len := x.data.length, m := x.m, dl := x.dl }
    x.m < 96 → x.ctx = none → x.acc = 1 → x.shadow = false → 3 ≤ s.mode → (s.mst x.m).card = false → S.masterRuns x = true →
    0x10000000 ≤ x.addr → 64 * (x.addr / 64) + 64 ≤ 0x14000000 → x.data ≠ [] → x.addr % 64 + x.data.length ≤ 64 →
    S.umpCheck x x.addr = none → (∀ b, x.addr ≤ b → b < x.addr + x.data.length → S.overtaken rec_ b = false) →
    ∃ u, exec (.fabricAccess t x) s = .next u ∧ u = { S.arbNote rec_ with mem := cellsWrite s.mem x.addr x.data } ∧
      cellsRead u.mem x.addr x.data.length = x.data ∧ ∀ b, b < x.addr ∨ x.addr + x.data.length ≤ b → cellRead u.mem b = cellRead s.mem b

/-- R555, R561, R563, R600: outside SERVICE a bench or self-test command is ignored and counted, and so is a self-test while another runs; a substitution that names no logical engine does nothing. -/
def Obligations.ServiceCommandsIgnored : Prop :=
  ∀ (t m : Nat) (l : Fin 128) (p : Fin 4) (c : Fin 3) (s : State), let S := (s.advance t).served m
    ((s.advance t).passes m 0x8040 →
      (96 ≤ l.val → exec (.benchSubstitute t m l) s = .next S) ∧
      (s.mode ≠ 10 → (l.val < 96 → exec (.benchSubstitute t m l) s = .next (S.ignored 0x008)) ∧ exec (.benchSelftest t m) s = .next (S.ignored 0x008))) ∧
    (s.mode ≠ 10 ∨ s.tst.isSome = true → (s.advance t).passes m 0xA050 →
      ∀ i, i ∈ [Instr.testSram t m, .testD2d t m p, .testLoop t m p c, .testAesKat t m, .testTrng t m] → exec i s = .next (S.ignored 0x00A))

/-- R43, R49, R71, R574: a power-on reset clears line time, the calendar, the queues and the debug level; fuses and the queue of commands stay; and where no counter rose in its own fabric cycle, the error counters of every page read 0 and `STRAP` the straps. -/
def Obligations.PowerOnResetClears : Prop :=
  ∀ (t : Nat) (straps : Fin 8) (s : State), ∃ u, exec (.powerOnReset t straps) s = .next u ∧
    u.lt = 0 ∧ u.sec.dbg = 0 ∧ u.fix.entries = [] ∧ u.queues = [] ∧ u.sec.lc = s.sec.lc ∧ u.pending = s.pending ∧ u.boot.running = true ∧
    (s.ctrCycle ≠ (s.advance t).fabric + 1 → (∀ p, p < 0x4000 → u.rd (Reg.ERR_CORR p) = 0 ∧ u.rd (Reg.ERR_UNCORR p) = 0) ∧ u.rd Reg.SYS_STRAP = word straps)

/-- R574: a device reset disarms every fixture, discards queues and rings, keeps the staging buffer, and returns the debug level to D0; line time goes on, where the tracker has measured a frequency and no counter rose in the reset's own fabric cycle. -/
def Obligations.DeviceResetKeepsTime : Prop :=
  ∀ (t : Nat) (s : State), s.mode ≠ 0 ∨ s.boot.running = true → s.boot.rstAt ≠ (s.advance t).fabric + 1 → ∃ u, exec (.deviceReset t) s = .next u ∧
    (s.trk.heldF ≠ 0 ∨ s.rd Reg.LTIME_FREQ ≠ 0 → s.ctrCycle ≠ (s.advance t).fabric + 1 → ∀ later, u.ltAt later = s.ltAt later) ∧
    (∀ x, x ∈ u.fix.entries → x.2.armed = false) ∧ u.queues = [] ∧ u.rings = [] ∧ u.sec.dbg = 0 ∧ u.scb.stage = s.scb.stage ∧ u.boot.running = true

/-- Each command of registers and page headers (R13, R38 to R59, R537) answers a next state, and the state is that of its operation at the instant of the command (rows of chapter 02). -/
def Obligations.CompleteHeader : Prop :=
  (∀ (t : Nat) (m : Nat) (via : Fin 2) (msg : Bool) (a : Nat) (data : List Byte) (s : State), exec (.registerWrite t m via msg a data) s = .next ((s.advance t).regWriteBy m via msg a data)) ∧
  (∀ (t : Nat) (m page : Nat) (v : Word) (s : State), (s.advance t).passes m (Reg.INT_SET page) → exec (.intSet t m page v) s = .next (((s.advance t).served m).intSet page v)) ∧
  (∀ (t : Nat) (m page : Nat) (v : Word) (s : State), exec (.intCauseClear t m page v) s = .next ((s.advance t).causeClearBy m page v)) ∧
  (∀ (t : Nat) (m page : Nat) (s : State), (s.advance t).passes m (Reg.BLK_CTL page) → exec (.softReset t m page) s = .next (((s.advance t).served m).softResetCmd page)) ∧
  (∀ (t : Nat) (page : Nat) (s : State), exec (.softResetDone t page) s = .next (if allocated page then (s.advance t).softResetDone page else (s.advance t))) ∧
  (∀ (t : Nat) (m page : Nat) (v : Word) (s : State), (s.advance t).passes m (Reg.LOCK page) → exec (.lockWrite t m page v) s = .next (((s.advance t).served m).lockWrite page v)) ∧
  (∀ (t : Nat) (m page : Nat) (s : State), (s.advance t).passes m (Reg.BANK_CTL page) → exec (.bankCopy t m page) s = .next (((s.advance t).served m).bankCtlCmd page 14)) ∧
  (∀ (t : Nat) (page : Nat) (s : State), exec (.bankCopyDone t page) s = .next ((s.advance t).bankCopyDone page)) ∧
  (∀ (t : Nat) (m page : Nat) (s : State), (s.advance t).passes m (Reg.BANK_CTL page) → exec (.soloSwapRequest t m page) s = .next (((s.advance t).served m).bankCtlCmd page 12)) ∧
  (∀ (t : Nat) (m page : Nat) (s : State), (s.advance t).passes m (Reg.BANK_CTL page) → exec (.soloSwapCancel t m page) s = .next (((s.advance t).served m).bankCtlCmd page 13)) ∧
  (∀ (t : Nat) (page : Nat) (s : State), exec (.soloSwap t page) s = .next (((s.advance t).soloSwapAny page).refilter (s.advance t))) ∧
  (∀ (t : Nat) (m : Nat) (g : Fin 16) (s : State), (s.advance t).passes m (0x504C + 0x20 * g) → exec (.groupSwapRequest t m g) s = .next (((s.advance t).served m).groupReq g)) ∧
  (∀ (t : Nat) (m : Nat) (g : Fin 16) (s : State), (s.advance t).passes m (0x504C + 0x20 * g) → exec (.groupSwapCancel t m g) s = .next (((s.advance t).served m).groupCancel g)) ∧
  (∀ (t : Nat) (g : Fin 16) (s : State), exec (.groupSwap t g) s = .next (((s.advance t).groupSwap g).refilter (s.advance t))) ∧
  (∀ (t : Nat) (n : Fin 5) (again : Bool) (s : State), exec (.d2dCrcFail t n again) s = .next ((s.advance t).d2dFail n again)) ∧
  (∀ (t : Nat) (page : Nat) (s : State), exec (.faultWindowClose t page) s = .next ((s.advance t).windowClose page))

/-- Each command of line time and UTC (R61 to R76) answers a next state, and the state is that of its operation at the instant of the command (rows of chapter 03). -/
def Obligations.CompleteLineTime : Prop :=
  (∀ (t : Nat) (stayed falling : Bool) (freq : Nat) (rocof zcDelay diff : Int) (lags : List (Fin 12 × Word)) (s : State), exec (.zeroCrossingEdge t stayed falling freq rocof zcDelay diff lags) s = .next ((s.advance t).crossing stayed falling freq rocof zcDelay diff lags)) ∧
  (∀ (t : Nat) (s : State), exec (.slewComplete t) s = .next ((s.advance t).slewComplete)) ∧
  (∀ (t : Nat) (s : State), exec (.holdoverTimeout t) s = .next ((s.advance t).holdoverTimeout)) ∧
  (∀ (t : Nat) (s : State), exec (.holdTxReached t) s = .next ((s.advance t).holdTxReached)) ∧
  (∀ (t : Nat) (s : State), exec (.holdLong t) s = .next ((s.advance t).holdLong)) ∧
  (∀ (t : Nat) (m : Nat) (s : State), (s.advance t).passes m 0x3040 → exec (.trkHold t m) s = .next (((s.advance t).served m).trkHold)) ∧
  (∀ (t : Nat) (m : Nat) (s : State), (s.advance t).passes m 0x3040 → exec (.trackerRestart t m) s = .next (((s.advance t).served m).trkRestart)) ∧
  (∀ (t : Nat) (m : Nat) (en : Bool) (s : State), (s.advance t).passes m 0x3040 → exec (.trackerEnable t m en) s = .next (((s.advance t).served m).trkEnable en)) ∧
  (∀ (t : Nat) (m : Nat) (s : State), (s.advance t).passes m 0x3040 → exec (.snap t m) s = .next (((s.advance t).served m).snap)) ∧
  (∀ (t : Nat) (m : Nat) (s : State), (s.advance t).passes m 0x3040 → exec (.cycApply t m) s = .next (((s.advance t).served m).cycApply)) ∧
  (∀ (t : Nat) (m : Nat) (s : State), (s.advance t).passes m 0x3040 → exec (.utcArm t m) s = .next (((s.advance t).served m).utcArm)) ∧
  (∀ (t : Nat) (falling : Bool) (held : Nat) (s : State), exec (.ppsEdge t falling held) s = .next ((s.advance t).ppsEdge falling held)) ∧
  (∀ (t : Nat) (s : State), exec (.ppsTimeout t) s = .next ((s.advance t).ppsTimeout)) ∧
  (∀ (t : Nat) (s : State), exec (.utcHoldExpiry t) s = .next ((s.advance t).utcHoldExpiry)) ∧
  (∀ (t : Nat) (ok : Bool) (s : State), exec (.metOkChange t ok) s = .next ((s.advance t).metOkChange ok))

/-- Each command of the line-time calendar (R79 to R92) answers a next state, and the state is that of its operation at the instant of the command (rows of chapter 03). -/
def Obligations.CompleteFixture : Prop :=
  (∀ (t : Nat) (m : Nat) (s : State), (s.advance t).passes m 0x404C → exec (.entCmdRead t m) s = .next (((s.advance t).served m).entRead)) ∧
  (∀ (t : Nat) (m : Nat) (s : State), (s.advance t).passes m 0x404C → exec (.entCmdWrite t m) s = .next (((s.advance t).served m).entWrite (((s.advance t).served m).hostRange m))) ∧
  (∀ (t : Nat) (m : Nat) (s : State), (s.advance t).passes m 0x404C → exec (.entCmdDisarm t m) s = .next (((s.advance t).served m).entDisarm (((s.advance t).served m).hostRange m))) ∧
  (∀ (t : Nat) (s : State), exec (.fixHeldWriteApply t) s = .next ((s.advance t).applyHeld)) ∧
  (∀ (t : Nat) (i : Fin 8192) (s : State), exec (.fixtureCommit t i) s = .next ((s.advance t).fixCommit i)) ∧
  (∀ (t : Nat) (i : Fin 8192) (needs : List MapNeed) (s : State), exec (.prewarmWake t i needs) s = .next ((s.advance t).prewarmWake i needs)) ∧
  (∀ (t : Nat) (i : Fin 8192) (x : TxDesc) (s : State), exec (.txStart t i x) s = .next ((s.advance t).txStart i x)) ∧
  (∀ (t : Nat) (i : Fin 8192) (s : State), exec (.rxWindow t i) s = .next ((s.advance t).rxWindow i)) ∧
  (∀ (t : Nat) (p ch : Fin 4) (s : State), exec (.rxWindowClose t p ch) s = .next ((s.advance t).rxWindowClose p ch)) ∧
  (∀ (t : Nat) (i : Fin 8192) (bandC : List (Nat × Nat)) (s : State), exec (.ackTx t i bandC) s = .next ((s.advance t).ackTx i bandC)) ∧
  (∀ (t : Nat) (i : Fin 8192) (s : State), exec (.bankSwap t i) s = .next (((s.advance t).bankSwapFix i).refilter (s.advance t))) ∧
  (∀ (t : Nat) (i : Fin 8192) (s : State), exec (.engineWake t i) s = .next ((s.advance t).engineWakeFix i)) ∧
  (∀ (t : Nat) (i : Fin 8192) (s : State), exec (.convTrigger t i) s = .next ((s.advance t).convTriggerFix i)) ∧
  (∀ (t : Nat) (i : Fin 8192) (s : State), exec (.ctlFire t i) s = .next ((s.advance t).ctlFireFix i)) ∧
  (∀ (t : Nat) (i : Fin 8192) (s : State), exec (.sfBoundary t i) s = .next ((s.advance t).sfBoundary i)) ∧
  (∀ (t : Nat) (i : Fin 8192) (s : State), exec (.quiet t i) s = .next ((s.advance t).quietFix i)) ∧
  (∀ (t : Nat) (i : Fin 8192) (s : State), exec (.engineEvent t i) s = .next ((s.advance t).engineEventFix i)) ∧
  (∀ (t : Nat) (i : Fin 8192) (s : State), exec (.hostEvent t i) s = .next ((s.advance t).hostEventFix i)) ∧
  (∀ (t : Nat) (i : Fin 8192) (s : State), exec (.modeWake t i) s = .next ((s.advance t).modeWakeFix i))

/-- Each command of the line ports (R95 to R115) answers a next state, and the state is that of its operation at the instant of the command (rows of chapter 04). -/
def Obligations.CompletePort : Prop :=
  (∀ (t : Nat) (p ch : Fin 4) (s : State), exec (.agcOverload t p ch) s = .next ((s.advance t).agcOverload p ch)) ∧
  (∀ (t : Nat) (p ch : Fin 4) (s : State), exec (.agcStepUp t p ch) s = .next ((s.advance t).agcStepUp p ch)) ∧
  (∀ (t : Nat) (p : Fin 4) (c : Fin 3) (bb : Bool) (a b d : LineEnd) (conv : Bool) (s : State), exec (.transmissionEnd t p c bb a b d conv) s = .next ((s.advance t).txEndWith p c bb a b d conv)) ∧
  (∀ (t : Nat) (p : Fin 4) (c : Fin 3) (us : Nat) (s : State), exec (.currentLimit t p c us) s = .next ((s.advance t).currentLimit p c us)) ∧
  (∀ (t : Nat) (p : Fin 4) (c : Fin 3) (s : State), exec (.foldback t p c) s = .next ((s.advance t).foldback p c)) ∧
  (∀ (t : Nat) (p : Fin 4) (c : Fin 3) (s : State), exec (.limitExpiry t p c) s = .next ((s.advance t).limitExpiry p c)) ∧
  (∀ (t : Nat) (m : Nat) (p : Fin 4) (c : Fin 3) (s : State), (s.advance t).passes m (0x30040 + 0x4000 * p) → exec (.probeRequest t m p c) s = .next (((s.advance t).served m).probeRequest p c)) ∧
  (∀ (t : Nat) (p : Fin 4) (c : Fin 3) (s : State), exec (.probeStart t p c) s = .next ((s.advance t).probeStart p c)) ∧
  (∀ (t : Nat) (p : Fin 4) (c : Fin 3) (z : Nat) (s : State), exec (.probeDone t p c z) s = .next ((s.advance t).probeDone p c z)) ∧
  (∀ (t : Nat) (p : Fin 4) (c : Fin 3) (s : State), exec (.probeRetry t p c) s = .next ((s.advance t).probeRetry p c)) ∧
  (∀ (t : Nat) (p : Fin 4) (c : Fin 3) (s : State), exec (.polarityChange t p c) s = .next ((s.advance t).polarityChange p c)) ∧
  (∀ (t : Nat) (p : Fin 4) (c : Fin 3) (s : State), exec (.lnSwapDetect t p c) s = .next ((s.advance t).lnSwap p c)) ∧
  (∀ (t : Nat) (p : Fin 4) (s : State), exec (.seqRevDetect t p) s = .next ((s.advance t).seqRev p)) ∧
  (∀ (t : Nat) (p : Fin 4) (cycles : List (Nat × List Nat)) (s : State), exec (.openNeutralDetect t p cycles) s = .next ((s.advance t).openNeutral p cycles)) ∧
  (∀ (t : Nat) (p : Fin 4) (mv : Int) (s : State), exec (.vdrvFault t p mv) s = .next ((s.advance t).vdrvFault p mv)) ∧
  (∀ (t : Nat) (p : Fin 4) (mv : Int) (s : State), exec (.vdrvRecover t p mv) s = .next ((s.advance t).vdrvRecover p mv))

/-- Each command of reception, acknowledgement and adaptation (R119 to R200, R241 to R248) answers a next state, and the state is that of its operation at the instant of the command (rows of chapter 05 to 07). -/
def Obligations.CompletePhy : Prop :=
  (∀ (t : Nat) (p : Fin 4) (c : Fin 3) (x : RxFrame) (s : State), exec (.nbFrameRx t p c x) s = .next ((s.advance t).nbFrameRx p c x)) ∧
  (∀ (t : Nat) (p : Fin 4) (c : Fin 3) (x : RxFrame) (s : State), exec (.bbFrameRx t p c x) s = .next ((s.advance t).bbFrameRx p c x)) ∧
  (∀ (t : Nat) (p : Fin 4) (c : Fin 3) (s : State), exec (.bandcMaxTx t p c) s = .next ((s.advance t).bandcMax p c)) ∧
  (∀ (t : Nat) (p : Fin 4) (windows : List (List Nat)) (alloc : Option IspAlloc) (s : State), exec (.ispDetect t p windows alloc) s = .next ((s.advance t).ispDetect p windows alloc)) ∧
  (∀ (t : Nat) (p : Fin 4) (s : State), exec (.ispClear t p) s = .next ((s.advance t).ispClear p)) ∧
  (∀ (t : Nat) (s : State), exec (.ackRx t) s = .next ((s.advance t).ackRx)) ∧
  (∀ (t : Nat) (d : Nat) (s : State), exec (.ackTimeout t d) s = .next ((s.advance t).ackTimeout d)) ∧
  (∀ (t : Nat) (s : State), ∀ (s₁ : State) (d : Delivered), (s.advance t).takeInbox (fun d => d.mgmt && d.mtype == 6) = some (s₁, d) → exec (.mapChange t) s = .next (s₁.mapChange d.src d.port d.body)) ∧
  (∀ (t : Nat) (peer : Nat) (p : Fin 4) (bb : Bool) (c : Fin 3) (rx : Bool) (s : State), exec (.mapChangeApply t peer p bb c rx) s = .next ((s.advance t).mapApply (linkKey peer p bb (if bb then 0 else c) rx))) ∧
  (∀ (t : Nat) (peer : Nat) (p : Fin 4) (bb : Bool) (c : Fin 3) (s : State), exec (.mapChangeResend t peer p bb c) s = .next ((s.advance t).mapResendTo peer p bb c)) ∧
  (∀ (t : Nat) (peer : Nat) (p : Fin 4) (bb : Bool) (c : Fin 3) (rx : Bool) (s : State), exec (.oldSetRelease t peer p bb c rx) s = .next ((s.advance t).oldRelease (linkKey peer p bb (if bb then 0 else c) rx)))

/-- Each command of superframes, access and association (R202 to R233, R254 to R263) answers a next state, and the state is that of its operation at the instant of the command (rows of chapter 08 and 09). -/
def Obligations.CompleteAccess : Prop :=
  (∀ (t : Nat) (s : State), exec (.sChange t) s = .next ((s.advance t).sChange)) ∧
  (∀ (t : Nat) (lq : Nat) (s : State), exec (.beaconRx t lq) s = .next ((s.advance t).beaconRx lq)) ∧
  (∀ (t : Nat) (s : State), exec (.beaconMiss t) s = .next ((s.advance t).beaconMiss)) ∧
  (∀ (t : Nat) (id level : Nat) (preamble : Bool) (s : State), exec (.contentionAccess t id level preamble) s = .next ((s.advance t).contention id level preamble)) ∧
  (∀ (t : Nat) (s : State), exec (.grantResend t) s = .next ((s.advance t).grantResend)) ∧
  (∀ (t : Nat) (s : State), exec (.slotGrant t) s = .next ((s.advance t).slotGrant)) ∧
  (∀ (t : Nat) (s : State), exec (.assocReq t) s = .next ((s.advance t).assocRequest)) ∧
  (∀ (t : Nat) (s : State), exec (.assocResp t) s = .next ((s.advance t).assocResponse)) ∧
  (∀ (t : Nat) (s : State), exec (.disassoc t) s = .next ((s.advance t).disassoc)) ∧
  (∀ (t : Nat) (s : State), exec (.leaseRenew t) s = .next ((s.advance t).leaseRenew)) ∧
  (∀ (t : Nat) (s : State), exec (.leaseAck t) s = .next ((s.advance t).leaseAck)) ∧
  (∀ (t : Nat) (s : State), exec (.mgmtNull t) s = .next ((s.advance t).nullRx)) ∧
  (∀ (t : Nat) (s : State), exec (.leaseRenewSend t) s = .next ((s.advance t).leaseRenewSend)) ∧
  (∀ (t : Nat) (s : State), exec (.leaseEnd t) s = .next ((s.advance t).leaseEnd)) ∧
  (∀ (t : Nat) (s : State), exec (.quarantineEnd t) s = .next ((s.advance t).quarantineEnd)) ∧
  (∀ (t : Nat) (s : State), exec (.irHoldExpiry t) s = .next ((s.advance t).irExpiry)) ∧
  (∀ (t : Nat) (p : Fin 4) (s : State), exec (.nbrExpiry t p) s = .next ((s.advance t).nbrExpiry p)) ∧
  (∀ (t : Nat) (s : State), exec (.epochGraceEnd t) s = .next ((s.advance t).graceEnd))

/-- Each command of routing, cooperation, flooding and messages (R268 to R300) answers a next state, and the state is that of its operation at the instant of the command (rows of chapter 10). -/
def Obligations.CompleteRelay : Prop :=
  (∀ (t : Nat) (s : State), ∀ (s₁ : State) (d : Delivered), (s.advance t).takeInbox (fun d => d.mgmt && d.mtype == 0x20) = some (s₁, d) → exec (.nbrReport t) s = .next (s₁.nbrReport d.body)) ∧
  (∀ (t : Nat) (p : Fin 4) (lqs : List (Nat × Nat × Nat)) (s : State), exec (.nbrReportSend t p lqs) s = .next ((s.advance t).nbrReportDue p lqs)) ∧
  (∀ (t : Nat) (s : State), ∀ (s₁ : State) (d : Delivered), (s.advance t).takeInbox (fun d => d.mgmt && d.mtype == 0x21) = some (s₁, d) → exec (.parentSet t) s = .next (s₁.parentSet d.body)) ∧
  (∀ (t : Nat) (s : State), exec (.parentSetApply t) s = .next ((s.advance t).parentApply)) ∧
  (∀ (t : Nat) (s : State), ∀ (s₁ : State) (d : Delivered), (s.advance t).takeInbox (fun d => d.mgmt && d.mtype == 0x22) = some (s₁, d) → exec (.routeErr t) s = .next (s₁.routeErr d.body)) ∧
  (∀ (t : Nat) (s : State), ∀ (s₁ : State) (d : Delivered), (s.advance t).takeInbox (fun d => d.mgmt && d.mtype == 0x23) = some (s₁, d) → exec (.coopResult t) s = .next (s₁.coopResult d.body)) ∧
  (∀ (t : Nat) (s : State), ∀ (s₁ : State) (d : Delivered), (s.advance t).takeInbox (fun d => d.mgmt && d.mtype == 0x24) = some (s₁, d) → exec (.groupSet t) s = .next (s₁.groupSet d.body)) ∧
  (∀ (t : Nat) (s : State), exec (.coopCarry t) s = .next ((s.advance t).carryBody)) ∧
  (∀ (t : Nat) (s : State), exec (.forwardHoldExpiry t) s = .next ((s.advance t).forwardExpiry)) ∧
  (∀ (t : Nat) (a : Nat) (s : State), exec (.routeWaitExpiry t a) s = .next ((s.advance t).routeWaitExpiry a)) ∧
  (∀ (t : Nat) (s : State), exec (.coopWaitExpiry t) s = .next ((s.advance t).coopExpiry)) ∧
  (∀ (t : Nat) (orig fseq : Nat) (s : State), exec (.floodRebroadcast t orig fseq) s = .next ((s.advance t).floodSend orig fseq)) ∧
  (∀ (t : Nat) (s : State), exec (.floodDupExpiry t) s = .next ((s.advance t).floodExpiry)) ∧
  (∀ (t : Nat) (m : Nat) (i : Fin 128) (v : Word) (s : State), (s.advance t).passes m (0x71200 + 4 * i) → exec (.epWinWrite t m i v) s = .next (((s.advance t).served m).epWinWrite i v)) ∧
  (∀ (t : Nat) (s : State), exec (.endpointRecordStore t) s = .next ((s.advance t).epStore)) ∧
  (∀ (t : Nat) (r : Fin 256) (e : List Byte) (payload : List Byte) (free : Bool) (s : State), (s.advance t).takes r e 0x01 → exec (.msgSend t r e payload free) s = .next (((s.advance t).fetch r e).1.msgSend ((s.advance t).fetch r e).2.1 payload free)) ∧
  (∀ (t : Nat) (r : Fin 256) (e : List Byte) (members : List Byte) (payloads : List (List Byte)) (free : List Bool) (s : State), (s.advance t).takes r e 0x02 → exec (.txnSend t r e members payloads free) s = .next (((s.advance t).fetch r e).1.txnSend ((s.advance t).fetch r e).2.1 members payloads free)) ∧
  (∀ (t : Nat) (r : Fin 256) (e : List Byte) (s : State), (s.advance t).takes r e 0x10 → exec (.admission t r e) s = .next (((s.advance t).fetch r e).1.admission ((s.advance t).fetch r e).2.1)) ∧
  (∀ (t : Nat) (r : Fin 256) (e : List Byte) (s : State), (s.advance t).takes r e 0x11 → exec (.revoke t r e) s = .next (((s.advance t).fetch r e).1.revoke ((s.advance t).fetch r e).2.1)) ∧
  (∀ (t : Nat) (msg : Nat) (s : State), exec (.receiptTimeout t msg) s = .next ((s.advance t).receiptTimeout msg)) ∧
  (∀ (t : Nat) (msg : Nat) (s : State), exec (.messageDeadline t msg) s = .next ((s.advance t).msgDeadline msg)) ∧
  (∀ (t : Nat) (s : State), exec (.reportRx t) s = .next ((s.advance t).reportRx)) ∧
  (∀ (t : Nat) (s : State), exec (.uplinkMessageRx t) s = .next ((s.advance t).uplinkRx)) ∧
  (∀ (t : Nat) (s : State), exec (.reassemblyTimeout t) s = .next ((s.advance t).reasmTimeout))

/-- Each command of the queue manager (R301 to R319) answers a next state, and the state is that of its operation at the instant of the command (rows of chapter 11). -/
def Obligations.CompleteQueue : Prop :=
  (∀ (t : Nat) (q : Nat) (n : Nat) (s : State), exec (.creditRequest t q n) s = .next ((s.advance t).creditTurn q n)) ∧
  (∀ (t : Nat) (q : Nat) (n : Nat) (s : State), exec (.creditReturn t q n) s = .next ((s.advance t).creditBack q n)) ∧
  (∀ (t : Nat) (q : Nat) (writer epoch : Nat) (data : List Byte) (start fin : Bool) (s : State), exec (.queueWrite t q writer epoch data start fin) s = .next ((s.advance t).queueWrite q writer epoch data start fin)) ∧
  (∀ (t : Nat) (q : Nat) (corr : Nat) (bad : List Nat) (loc : ScrubFound) (s : State), exec (.readLine t q corr bad loc) s = .next ((s.advance t).lineRead q corr bad loc)) ∧
  (∀ (t : Nat) (q : Nat) (s : State), exec (.rewind t q) s = .next ((s.advance t).rewind q)) ∧
  (∀ (t : Nat) (q : Nat) (s : State), exec (.release t q) s = .next ((s.advance t).releaseWork q)) ∧
  (∀ (t : Nat) (q : Nat) (s : State), exec (.queueFlush t q) s = .next ((s.advance t).flushWork q)) ∧
  (∀ (t : Nat) (q : Nat) (s : State), exec (.cellReturnDone t q) s = .next ((s.advance t).cellReturnDone q)) ∧
  (∀ (t : Nat) (m : Nat) (s : State), (s.advance t).passes m 0x21044 → exec (.qReadDesc t m) s = .next (((s.advance t).served m).qCmd 1)) ∧
  (∀ (t : Nat) (m : Nat) (s : State), (s.advance t).passes m 0x21044 → exec (.qFlush t m) s = .next (((s.advance t).served m).qCmd 2)) ∧
  (∀ (t : Nat) (m : Nat) (s : State), (s.advance t).passes m 0x21044 → exec (.qSetLimit t m) s = .next (((s.advance t).served m).qCmd 3)) ∧
  (∀ (t : Nat) (m : Nat) (s : State), (s.advance t).passes m 0x21044 → exec (.qClearErr t m) s = .next (((s.advance t).served m).qCmd 4))

/-- Each command of the host link and its rings (R321 to R348) answers a next state, and the state is that of its operation at the instant of the command (rows of chapter 12). -/
def Obligations.CompleteHost : Prop :=
  (∀ (t : Nat) (n : Fin 2) (mode : Fin 8) (s : State), exec (.linkUp t n mode) s = .next ((s.advance t).linkUp n mode)) ∧
  (∀ (t : Nat) (n : Fin 2) (s : State), exec (.linkLoss t n) s = .next ((s.advance t).linkLoss n)) ∧
  (∀ (t : Nat) (s : State), exec (.failoverComplete t) s = .next ((s.advance t).failoverDone)) ∧
  (∀ (t : Nat) (m : Nat) (s : State), (s.advance t).passes m 0x1A040 → exec (.hostSwitch t m) s = .next (((s.advance t).served m).hostSwitch)) ∧
  (∀ (t : Nat) (m : Nat) (s : State), (s.advance t).passes m 0x1A040 → exec (.heartbeat t m) s = .next (((s.advance t).served m).heartbeat)) ∧
  (∀ (t : Nat) (s : State), exec (.hostWatchdog t) s = .next ((s.advance t).hostWatchdog)) ∧
  (∀ (t : Nat) (r : Fin 256) (v : Word) (s : State), (s.advance t).windowOpen = true → exec (.sqDoorbell t r v) s = .next ((s.advance t).hostTouch.sqDoorbell r (fld v 0 16))) ∧
  (∀ (t : Nat) (r : Fin 256) (v : Word) (s : State), (s.advance t).windowOpen = true → exec (.cqDoorbell t r v) s = .next ((s.advance t).hostTouch.cqDoorbell r (fld v 0 16))) ∧
  (∀ (t : Nat) (r : Fin 256) (s : State), exec (.irqGapExpiry t r) s = .next ((s.advance t).irqGapEnd r)) ∧
  (∀ (t : Nat) (v : Fin 512) (s : State), (s.advance t).windowOpen = true → exec (.msixUnmask t v) s = .next ((s.advance t).hostTouch.msixUnmask v)) ∧
  (∀ (t : Nat) (r : Fin 256) (e : List Byte) (s : State), exec (.nop t r e) s = .next ((s.advance t).nopSub r e)) ∧
  (∀ (t : Nat) (r : Fin 256) (e : List Byte) (s : State), (s.advance t).takes r e 0x08 → exec (.fixWrite t r e) s = .next (((s.advance t).fetch r e).1.fixWrite ((s.advance t).fetch r e).2.1)) ∧
  (∀ (t : Nat) (r : Fin 256) (e : List Byte) (s : State), (s.advance t).takes r e 0x09 → exec (.fixDisarm t r e) s = .next (((s.advance t).fetch r e).1.fixDisarm ((s.advance t).fetch r e).2.1)) ∧
  (∀ (t : Nat) (r : Fin 256) (e : List Byte) (s : State), (s.advance t).takes r e 0x0A → exec (.fixRead t r e) s = .next (((s.advance t).fetch r e).1.fixRead ((s.advance t).fetch r e).2.1)) ∧
  (∀ (t : Nat) (r : Fin 256) (e : List Byte) (s : State), (s.advance t).takes r e 0x20 → exec (.rxbufPost t r e) s = .next (((s.advance t).fetch r e).1.rxbufPost ((s.advance t).fetch r e).2.1)) ∧
  (∀ (t : Nat) (r : Fin 256) (s : State), (s.advance t).windowOpen = true → exec (.ringEnable t r) s = .next ((s.advance t).hostTouch.ringCtl r 1)) ∧
  (∀ (t : Nat) (r : Fin 256) (s : State), (s.advance t).windowOpen = true → exec (.ringDisable t r) s = .next ((s.advance t).hostTouch.ringCtl r 0)) ∧
  (∀ (t : Nat) (r : Fin 256) (s : State), (s.advance t).windowOpen = true → exec (.ringAbort t r) s = .next ((s.advance t).hostTouch.ringAbort r)) ∧
  (∀ (t : Nat) (r : Fin 256) (s : State), exec (.ringDrainDone t r) s = .next ((s.advance t).ringDrainDone r)) ∧
  (∀ (t : Nat) (r : Fin 256) (failed : Nat) (s : State), exec (.ringDmaError t r failed) s = .next ((s.advance t).ringError r failed)) ∧
  (∀ (t : Nat) (s : State), exec (.functionLevelReset t) s = .next ((s.advance t).functionReset)) ∧
  (∀ (t : Nat) (a n : Nat) (s : State), exec (.regRd t a n) s = .next ((s.advance t).bulkRead a n)) ∧
  (∀ (t : Nat) (a : Nat) (data : List Byte) (s : State), exec (.regWr t a data) s = .next ((s.advance t).bulkWrite a data)) ∧
  (∀ (t : Nat) (r : Fin 256) (idx : Nat) (entries : List (List Byte)) (s : State), exec (.bulkSubmit t r idx entries) s = .next ((s.advance t).bulkSubmit r idx entries)) ∧
  (∀ (t : Nat) (r : Fin 256) (v : Word) (s : State), exec (.cqAck t r v) s = .next ((s.advance t).bulkAck r (fld v 0 16))) ∧
  (∀ (t : Nat) (a : Nat) (data : List Byte) (s : State), exec (.bulkData t a data) s = .next ((s.advance t).bulkData a data)) ∧
  (∀ (t : Nat) (n : Fin 2) (page ofs : Nat) (s : State), exec (.maintRegRead t n page ofs) s = .next ((s.advance t).maintRead n page ofs)) ∧
  (∀ (t : Nat) (n : Fin 2) (page ofs : Nat) (v : Word) (s : State), exec (.maintRegWrite t n page ofs v) s = .next ((s.advance t).maintWrite n page ofs v))

/-- Each command of the surveillance receiver and the exclusion list (R349 to R375) answers a next state, and the state is that of its operation at the instant of the command (rows of chapter 13). -/
def Obligations.CompleteSurveillance : Prop :=
  (∀ (t : Nat) (xs : List SrvSample) (credit : Bool) (s : State), exec (.secondRecord t xs credit) s = .next ((s.advance t).secondRecord xs credit)) ∧
  (∀ (t : Nat) (xs : List SrvSample) (credit : Bool) (s : State), exec (.referenceRecord t xs credit) s = .next ((s.advance t).referenceRecord xs credit)) ∧
  (∀ (t : Nat) (image : Nat) (s : State), exec (.ilConverged t image) s = .next ((s.advance t).ilConverged image)) ∧
  (∀ (t : Nat) (s : State), exec (.ilFallback t) s = .next ((s.advance t).ilFallback)) ∧
  (∀ (t : Nat) (p : Fin 4) (c : Fin 3) (tone : Int) (bands : List (Nat × Int)) (s : State), exec (.loopbackCheck t p c tone bands) s = .next ((s.advance t).loopback p c tone bands)) ∧
  (∀ (t : Nat) (m : Nat) (ports : Fin 16) (s : State), (s.advance t).passes m 0x7B048 → exec (.muteClear t m ports) s = .next (((s.advance t).served m).muteClear ports)) ∧
  (∀ (t : Nat) (m : Nat) (s : State), (s.advance t).passes m 0x7C044 → exec (.captureTrigger t m) s = .next (((s.advance t).served m).capTrigger 2)) ∧
  (∀ (t : Nat) (n f : Nat) (level : Int) (s : State), exec (.limitLineTrigger t n f level) s = .next ((s.advance t).limitTrigger n f level)) ∧
  (∀ (t : Nat) (xs : List SrvSample) (credit : Bool) (s : State), exec (.captureHeld t xs credit) s = .next ((s.advance t).capHeld xs credit)) ∧
  (∀ (t : Nat) (m : Nat) (s : State), (s.advance t).passes m 0x7C044 → exec (.captureArm t m) s = .next (((s.advance t).served m).capArm)) ∧
  (∀ (t : Nat) (r : Fin 256) (e : List Byte) (s : State), (s.advance t).takes r e 0x51 → exec (.capRead t r e) s = .next (((s.advance t).fetch r e).1.capRead ((s.advance t).fetch r e).2.1)) ∧
  (∀ (t : Nat) (r : Fin 256) (e : List Byte) (data : List Byte) (s : State), (s.advance t).takes r e 0x50 → exec (.xlInstall t r e data) s = .next (((s.advance t).fetch r e).1.xlInstall ((s.advance t).fetch r e).2.1 data)) ∧
  (∀ (t : Nat) (s : State), exec (.exclusionApply t) s = .next ((s.advance t).exclusionApply.refilter (s.advance t)))

/-- Each command of metrology, housekeeping and control outputs (R376 to R408) answers a next state, and the state is that of its operation at the instant of the command (rows of chapter 14). -/
def Obligations.CompleteMetrology : Prop :=
  (∀ (t : Nat) (p : Fin 4) (xs : List MetSample) (credit : Bool) (s : State), exec (.metroInterval t p xs credit) s = .next ((s.advance t).metInterval p xs credit)) ∧
  (∀ (t : Nat) (p : Fin 4) (xs : List MetSample) (credit : Bool) (s : State), exec (.metroUtcBoundary t p xs credit) s = .next ((s.advance t).metBoundary p xs credit)) ∧
  (∀ (t : Nat) (p : Fin 4) (xs : List MetSample) (credit : Bool) (s : State), exec (.dipSwellDetect t p xs credit) s = .next ((s.advance t).dipSwell p xs credit)) ∧
  (∀ (t : Nat) (xs : List (List Int)) (s : State), exec (.metSnapDone t xs) s = .next ((s.advance t).snapDone xs)) ∧
  (∀ (t : Nat) (r : Fin 256) (e : List Byte) (s : State), (s.advance t).takes r e 0x48 → exec (.metSnapRead t r e) s = .next (((s.advance t).fetch r e).1.snapRead ((s.advance t).fetch r e).2.1)) ∧
  (∀ (t : Nat) (rs : List (Nat × Int)) (s : State), exec (.hkcRegularScan t rs) s = .next ((s.advance t).hkcScanDone rs)) ∧
  (∀ (t : Nat) (m : Nat) (s : State), (s.advance t).passes m 0xC040 → exec (.hkcInjTrig t m) s = .next (((s.advance t).served m).hkcTrigger)) ∧
  (∀ (t : Nat) (rs : List (Nat × Int)) (s : State), exec (.hkcInjDone t rs) s = .next ((s.advance t).hkcInjDone rs)) ∧
  (∀ (t : Nat) (s : State), exec (.hkcCal t) s = .next ((s.advance t).hkcCal)) ∧
  (∀ (t : Nat) (s : State), exec (.hkcCalDone t) s = .next ((s.advance t).hkcCalDone)) ∧
  (∀ (t : Nat) (r : Fin 256) (e : List Byte) (s : State), (s.advance t).takes r e 0x44 → exec (.ctlArm t r e) s = .next (((s.advance t).fetch r e).1.ctlArm ((s.advance t).fetch r e).2.1)) ∧
  (∀ (t : Nat) (m : Nat) (s : State), (s.advance t).passes m 0x2C058 → exec (.armCmdArm t m) s = .next (((s.advance t).served m).armCmd 1)) ∧
  (∀ (t : Nat) (m : Nat) (s : State), (s.advance t).passes m 0x2C058 → exec (.armCmdDisarm t m) s = .next (((s.advance t).served m).armCmd 2)) ∧
  (∀ (t : Nat) (r : Fin 256) (e : List Byte) (s : State), (s.advance t).takes r e 0x45 → exec (.ctlDisarm t r e) s = .next (((s.advance t).fetch r e).1.ctlDisarm ((s.advance t).fetch r e).2.1)) ∧
  (∀ (t : Nat) (m : Nat) (s : State), (s.advance t).passes m 0x2C058 → exec (.clrLock t m) s = .next (((s.advance t).served m).armCmd 4)) ∧
  (∀ (t : Nat) (n : Fin 8) (s : State), exec (.pulseEnd t n) s = .next ((s.advance t).pulseEnd n)) ∧
  (∀ (t : Nat) (n : Fin 8) (level : Bool) (s : State), exec (.ctlfbEdge t n level) s = .next ((s.advance t).feedbackEdge n level)) ∧
  (∀ (t : Nat) (n : Fin 8) (s : State), exec (.feedbackTimeout t n) s = .next ((s.advance t).feedbackTimeout n)) ∧
  (∀ (t : Nat) (n : Fin 4) (level : Bool) (s : State), exec (.interlockChange t n level) s = .next ((s.advance t).interlockChange n level))

/-- Each command of storage, vault and scorebook (R409 to R426) answers a next state, and the state is that of its operation at the instant of the command (rows of chapter 15). -/
def Obligations.CompleteStorage : Prop :=
  (∀ (t : Nat) (x : DriveFound) (s : State), exec (.driveAttach t x) s = .next ((s.advance t).driveAttach x.port x.identify x.label x.extents x.speed x.width)) ∧
  (∀ (t : Nat) (m : Nat) (n : Fin 2) (s : State), (s.advance t).passes m 0x1F060 → exec (.driveAccept t m n) s = .next (((s.advance t).served m).driveAccept n)) ∧
  (∀ (t : Nat) (n : Fin 2) (cause : Nat) (s : State), exec (.driveLoss t n cause) s = .next ((s.advance t).driveLoss n cause)) ∧
  (∀ (t : Nat) (n : Fin 2) (region lba : Nat) (gone : List Nat) (s : State), exec (.blockRepair t n region lba gone) s = .next ((s.advance t).blockRepair n region lba gone)) ∧
  (∀ (t : Nat) (s : State), exec (.resyncDone t) s = .next ((s.advance t).resyncDone)) ∧
  (∀ (t : Nat) (n : Fin 2) (used spare thr retired : Nat) (temp : Int) (s : State), exec (.smartPoll t n used spare thr retired temp) s = .next ((s.advance t).smartPoll n used spare thr retired temp)) ∧
  (∀ (t : Nat) (datum : Fin 8) (oks : List Bool) (s : State), exec (.vaultCommit t datum oks) s = .next ((s.advance t).vaultStep datum oks)) ∧
  (∀ (t : Nat) (s : State), exec (.leaseTableCommit t) s = .next ((s.advance t).leaseCommitDue)) ∧
  (∀ (t : Nat) (s : State), exec (.scorebookStore t) s = .next ((s.advance t).scorebookStore)) ∧
  (∀ (t : Nat) (r : Fin 256) (e : List Byte) (s : State), (s.advance t).takes r e 0x40 → exec (.scbRead t r e) s = .next (((s.advance t).fetch r e).1.scbRead ((s.advance t).fetch r e).2.1)) ∧
  (∀ (t : Nat) (r : Fin 256) (e : List Byte) (s : State), (s.advance t).takes r e 0x41 → exec (.archRead t r e) s = .next (((s.advance t).fetch r e).1.archRead ((s.advance t).fetch r e).2.1))

/-- Each command of the security core (R427 to R456) answers a next state, and the state is that of its operation at the instant of the command (rows of chapter 16). -/
def Obligations.CompleteSecurity : Prop :=
  (∀ (t : Nat) (m : Nat) (n : Fin 64) (src : Fin 3) (srcSlot : Fin 64) (s : State), (s.advance t).passes m 0x11040 → exec (.keyDerive t m n src srcSlot) s = .next (((s.advance t).served m).slotDeriveBy m n src srcSlot)) ∧
  (∀ (t : Nat) (m : Nat) (n : Fin 64) (s : State), (s.advance t).passes m 0x11040 → exec (.keyErase t m n) s = .next (((s.advance t).served m).slotEraseBy m n)) ∧
  (∀ (t : Nat) (core : Fin 4) (slot : Nat) (job : AesJob) (who : AccReq) (fin : Bool) (chunks : Nat) (s : State), exec (.aesOperation t core slot job who fin chunks) s = .next ((s.advance t).aesOperation core slot job who fin chunks)) ∧
  (∀ (t : Nat) (bad : List Nat) (s : State), exec (.aesKatPeriodic t bad) s = .next ((s.advance t).aesKat bad)) ∧
  (∀ (t : Nat) (n : Fin 4) (s : State), exec (.trngSourceFail t n) s = .next ((s.advance t).trngFail n)) ∧
  (∀ (t : Nat) (s : State), exec (.entropyTimeout t) s = .next ((s.advance t).entropyTimeout)) ∧
  (∀ (t : Nat) (s : State), exec (.drbgReseed t) s = .next ((s.advance t).drbgReseed)) ∧
  (∀ (t : Nat) (n : Nat) (s : State), exec (.drbgGenerate t n) s = .next ((s.advance t).drbgGenerate n)) ∧
  (∀ (t : Nat) (r : Fin 256) (e : List Byte) (nonce : List Byte) (s : State), (s.advance t).takes r e 0x60 → exec (.attest t r e nonce) s = .next (((s.advance t).fetch r e).1.attest ((s.advance t).fetch r e).2.1 nonce)) ∧
  (∀ (t : Nat) (r : Fin 256) (e : List Byte) (s : State), (s.advance t).takes r e 0x61 → exec (.identityRead t r e) s = .next (((s.advance t).fetch r e).1.identityRead ((s.advance t).fetch r e).2.1)) ∧
  (∀ (t : Nat) (r : Fin 256) (e : List Byte) (blk : List Byte) (s : State), (s.advance t).takes r e 0x62 → exec (.keyEpoch t r e blk) s = .next (((s.advance t).fetch r e).1.keyEpoch ((s.advance t).fetch r e).2.1 blk)) ∧
  (∀ (t : Nat) (r : Fin 256) (e : List Byte) (blk : List Byte) (s : State), (s.advance t).takes r e 0x63 → exec (.provInstall t r e blk) s = .next (((s.advance t).fetch r e).1.provInstall ((s.advance t).fetch r e).2.1 blk)) ∧
  (∀ (t : Nat) (r : Fin 256) (e : List Byte) (blk : List Byte) (s : State), (s.advance t).takes r e 0x64 → exec (.keyInstall t r e blk) s = .next (((s.advance t).fetch r e).1.keyInstall ((s.advance t).fetch r e).2.1 blk)) ∧
  (∀ (t : Nat) (r : Fin 256) (e : List Byte) (blk : List Byte) (s : State), (s.advance t).takes r e 0x65 → exec (.fieldLock t r e blk) s = .next (((s.advance t).fetch r e).1.fieldLock ((s.advance t).fetch r e).2.1 blk)) ∧
  (∀ (t : Nat) (r : Fin 256) (e : List Byte) (nonce : List Byte) (s : State), (s.advance t).takes r e 0x66 → exec (.sessionOpen t r e nonce) s = .next (((s.advance t).fetch r e).1.sessionOpen ((s.advance t).fetch r e).2.1 nonce)) ∧
  (∀ (t : Nat) (r : Fin 256) (e : List Byte) (buf : List Byte) (s : State), (s.advance t).takes r e 0x67 → exec (.sessionFinish t r e buf) s = .next (((s.advance t).fetch r e).1.sessionFinish ((s.advance t).fetch r e).2.1 buf)) ∧
  (∀ (t : Nat) (r : Fin 256) (e : List Byte) (s : State), (s.advance t).takes r e 0x68 → exec (.sessionClose t r e) s = .next (((s.advance t).fetch r e).1.sessionClose ((s.advance t).fetch r e).2.1)) ∧
  (∀ (t : Nat) (r : Fin 256) (e : List Byte) (data : List Byte) (ok : Bool) (s : State), (s.advance t).takes r e 0x69 → exec (.imageWrite t r e data ok) s = .next (((s.advance t).fetch r e).1.imageWrite ((s.advance t).fetch r e).2.1 data ok)) ∧
  (∀ (t : Nat) (r : Fin 256) (e : List Byte) (s : State), (s.advance t).takes r e 0x6A → exec (.imageActivate t r e) s = .next (((s.advance t).fetch r e).1.imageActivate ((s.advance t).fetch r e).2.1)) ∧
  (∀ (t : Nat) (r : Fin 256) (e : List Byte) (s : State), (s.advance t).takes r e 0x6B → exec (.bootConfirm t r e) s = .next (((s.advance t).fetch r e).1.bootConfirm ((s.advance t).fetch r e).2.1)) ∧
  (∀ (t : Nat) (s : State), exec (.trialExpiry t) s = .next ((s.advance t).trialExpiry)) ∧
  (∀ (t : Nat) (r : Fin 256) (e : List Byte) (blk : List Byte) (s : State), (s.advance t).takes r e 0x6C → exec (.retire t r e blk) s = .next (((s.advance t).fetch r e).1.retire ((s.advance t).fetch r e).2.1 blk))

/-- Each command of UARTs, I2C, general-purpose pins and check units (R457 to R481) answers a next state, and the state is that of its operation at the instant of the command (rows of chapter 17). -/
def Obligations.CompleteSerial : Prop :=
  (∀ (t : Nat) (n : Fin 2) (c : UartChar) (s : State), exec (.uartRxChar t n c) s = .next ((s.advance t).uartRx n c)) ∧
  (∀ (t : Nat) (n : Fin 2) (start : Nat) (s : State), exec (.uartBreak t n start) s = .next ((s.advance t).uartBreak n start)) ∧
  (∀ (t : Nat) (n : Fin 2) (start : Nat) (s : State), exec (.uartDeadLine t n start) s = .next ((s.advance t).deadLine n start)) ∧
  (∀ (t : Nat) (n : Fin 2) (s : State), exec (.uartDeadClear t n) s = .next ((s.advance t).deadClear n)) ∧
  (∀ (t : Nat) (m : Nat) (n : Fin 2) (char : Fin 512) (s : State), (s.advance t).passes m (0x28050 + 0x1000 * n) → exec (.uartTxData t m n char) s = .next (((s.advance t).served m).uartTx n char)) ∧
  (∀ (t : Nat) (n : Fin 2) (s : State), exec (.uartTxCharDone t n) s = .next ((s.advance t).uartTxDone n)) ∧
  (∀ (t : Nat) (m : Nat) (n : Fin 2) (s : State), (s.advance t).passes m (0x28058 + 0x1000 * n) → exec (.uartRxPop t m n) s = .next (((s.advance t).served m).uartPop n)) ∧
  (∀ (t : Nat) (m : Nat) (n : Fin 2) (v : Word) (s : State), (s.advance t).passes m (0x28044 + 0x1000 * n) → exec (.uartDivWrite t m n v) s = .next (((s.advance t).served m).uartDiv n (fld v 0 16))) ∧
  (∀ (t : Nat) (m : Nat) (n : Fin 2) (s : State), (s.advance t).passes m (0x2804C + 0x1000 * n) → exec (.brkSend t m n) s = .next (((s.advance t).served m).brkSend n)) ∧
  (∀ (t : Nat) (c : UartChar) (s : State), exec (.uartWakeMatch t c) s = .next ((s.advance t).wakeMatch c)) ∧
  (∀ (t : Nat) (s : State), exec (.uartHandover t) s = .next ((s.advance t).handover)) ∧
  (∀ (t : Nat) (high : Bool) (s : State), exec (.uartCtsChange t high) s = .next ((s.advance t).ctsChange high)) ∧
  (∀ (t : Nat) (n : Fin 2) (s : State), exec (.uartIdleBoundary t n) s = .next ((s.advance t).uartIdle n)) ∧
  (∀ (t : Nat) (clocks : Nat) (nack arb : Bool) (s : State), exec (.i2cStart t clocks nack arb) s = .next ((s.advance t).i2cStart clocks nack arb)) ∧
  (∀ (t : Nat) (nack arb : Bool) (s : State), exec (.i2cWrite t nack arb) s = .next ((s.advance t).i2cWrite nack arb)) ∧
  (∀ (t : Nat) (b : Byte) (arb : Bool) (s : State), exec (.i2cRead t b arb) s = .next ((s.advance t).i2cRead b arb)) ∧
  (∀ (t : Nat) (s : State), exec (.i2cStop t) s = .next ((s.advance t).i2cStop)) ∧
  (∀ (t : Nat) (m clocks : Nat) (s : State), (s.advance t).passes m 0x2A054 → exec (.i2cRecover t m clocks) s = .next (((s.advance t).served m).i2cRecover clocks)) ∧
  (∀ (t : Nat) (m : Nat) (s : State), (s.advance t).passes m 0x2A054 → exec (.i2cAbort t m) s = .next (((s.advance t).served m).i2cAbort)) ∧
  (∀ (t : Nat) (m : Nat) (s : State), (s.advance t).passes m 0x2A04C → exec (.i2cRdPop t m) s = .next (((s.advance t).served m).i2cPop)) ∧
  (∀ (t : Nat) (s : State), exec (.i2cSclTimeout t) s = .next ((s.advance t).sclTimeout)) ∧
  (∀ (t : Nat) (s : State), exec (.i2cSclRelease t) s = .next ((s.advance t).sclRelease)) ∧
  (∀ (t : Nat) (m : Nat) (v : Word) (s : State), (s.advance t).passes m 0x2B048 → exec (.outSet t m v) s = .next (((s.advance t).served m).outSet m v)) ∧
  (∀ (t : Nat) (m : Nat) (v : Word) (s : State), (s.advance t).passes m 0x2B04C → exec (.outClr t m v) s = .next (((s.advance t).served m).outClr m v)) ∧
  (∀ (t : Nat) (n : Fin 24) (high : Bool) (held : Nat) (s : State), exec (.gpioEdge t n high held) s = .next ((s.advance t).gpioEdge n high held)) ∧
  (∀ (t : Nat) (m : Nat) (u : Fin 16) (v : Word) (s : State), (s.advance t).passes m (0xD088 + 0x20 * u) → exec (.chkFeed t m u v) s = .next (((s.advance t).served m).chkFeed u (leBytes 4 v.toNat))) ∧
  (∀ (t : Nat) (m : Nat) (u : Fin 16) (b : Byte) (s : State), (s.advance t).passes m 0xD044 → exec (.chkFeedB t m u b) s = .next (((s.advance t).served m).chkFeed u [b])) ∧
  (∀ (t : Nat) (m : Nat) (units : Fin 65536) (s : State), (s.advance t).passes m 0xD040 → exec (.chkClr t m units) s = .next (((s.advance t).served m).chkClear units)) ∧
  (∀ (t : Nat) (u : Fin 16) (s : State), exec (.chkTimeout t u) s = .next ((s.advance t).chkTimeout u))

/-- Each command of operating modes, clocks and power (R482 to R501) answers a next state, and the state is that of its operation at the instant of the command (rows of chapter 18). -/
def Obligations.CompleteMode : Prop :=
  (∀ (t : Nat) (m : Nat) (mode : Fin 16) (s : State), (s.advance t).passes m 0x100 → exec (.modeRequest t m mode) s = .next (((s.advance t).served m).sysWrite 0x100 (word (256 + mode)))) ∧
  (∀ (t : Nat) (s : State), exec (.modeSwitch t) s = .next ((s.advance t).modeSwitch)) ∧
  (∀ (t : Nat) (s : State), exec (.modeChangeDone t) s = .next ((s.advance t).modeSettle)) ∧
  (∀ (t : Nat) (s : State), exec (.safeNAssert t) s = .next ((s.advance t).safeAssert)) ∧
  (∀ (t : Nat) (s : State), exec (.safeNRelease t) s = .next ((s.advance t).safeRelease)) ∧
  (∀ (t : Nat) (s : State), exec (.hostLinkAttach t) s = .next ((s.advance t).hostAttach)) ∧
  (∀ (t : Nat) (s : State), exec (.xtal32Fail t) s = .next ((s.advance t).xtal32Fail)) ∧
  (∀ (t : Nat) (s : State), exec (.xtal25Fail t) s = .next ((s.advance t).xtal25Fail)) ∧
  (∀ (t : Nat) (s : State), exec (.refLost t) s = .next ((s.advance t).refLost)) ∧
  (∀ (t : Nat) (s : State), exec (.ref10Restore t) s = .next ((s.advance t).refRestore)) ∧
  (∀ (t : Nat) (s : State), exec (.pllStop t) s = .next ((s.advance t).pllStop)) ∧
  (∀ (t : Nat) (s : State), exec (.cc91Gate t) s = .next ((s.advance t).cc91Gate))

/-- Each command of the test access port and the debug port (R503, R508, R509, R565 to R571) answers a next state, and the state is that of its operation at the instant of the command (rows of chapter 22). -/
def Obligations.CompleteDebug : Prop :=
  (∀ (t : Nat) (s : State), s.dap.ir = 0x10 → exec (.dapChallenge t) s = .next ((s.advance t).dapChallenge)) ∧
  (∀ (t : Nat) (s : State), s.dap.ir = 0x10 → exec (.dapOut t) s = .next ((s.advance t).dapOutWord)) ∧
  (∀ (t : Nat) (v : Word) (s : State), s.dap.ir = 0x10 → exec (.dapIn t v) s = .next ((s.advance t).dapInWord v)) ∧
  (∀ (t : Nat) (s : State), s.dap.ir = 0x10 → exec (.dapSubmit t) s = .next ((s.advance t).dapSubmit)) ∧
  (∀ (t : Nat) (s : State), s.dap.ir = 0x10 → exec (.dapStatus t) s = .next ((s.advance t).dapStatus)) ∧
  (∀ (t : Nat) (l : Fin 4) (s : State), s.dap.ir = 0x10 → exec (.dapLower t l) s = .next ((s.advance t).dapLower l)) ∧
  (∀ (t : Nat) (v : Word) (s : State), s.dap.ir = 0x10 → exec (.dapAddrLo t v) s = .next ((s.advance t).dapAddrLo v)) ∧
  (∀ (t : Nat) (v : Word) (s : State), s.dap.ir = 0x10 → exec (.dapAddrHi t v) s = .next ((s.advance t).dapAddrHi v)) ∧
  (∀ (t : Nat) (host : List Byte) (s : State), s.dap.ir = 0x10 → exec (.dapRead t host) s = .next ((s.advance t).dapMem 0 host)) ∧
  (∀ (t : Nat) (v : Word) (s : State), s.dap.ir = 0x10 → exec (.dapWrite t v) s = .next ((s.advance t).dapMem 1 (leBytes 4 v.toNat))) ∧
  (∀ (t : Nat) (l : Fin 128) (checks : Bool) (s : State), s.dap.ir = 0x10 → exec (.dapHalt t l checks) s = .next ((s.advance t).dapHalt l checks)) ∧
  (∀ (t : Nat) (l : Fin 128) (s : State), s.dap.ir = 0x10 → exec (.dapStep t l) s = .next ((s.advance t).dapStep l)) ∧
  (∀ (t : Nat) (l : Fin 128) (s : State), s.dap.ir = 0x10 → exec (.dapResume t l) s = .next ((s.advance t).dapResume l)) ∧
  (∀ (t : Nat) (s : State), exec (.challengeExpiry t) s = .next ((s.advance t).chalExpiry)) ∧
  (∀ (t : Nat) (s : State), exec (.debugLockoutEnd t) s = .next ((s.advance t).lockoutEnd)) ∧
  (∀ (t : Nat) (pins shift : Nat) (s : State), exec (.extest t pins shift) s = .next ((s.advance t).tapScan 0x00 pins shift)) ∧
  (∀ (t : Nat) (pins shift : Nat) (s : State), exec (.samplePreload t pins shift) s = .next ((s.advance t).tapScan 0x01 pins shift)) ∧
  (∀ (t : Nat) (s : State), exec (.idcode t) s = .next ((s.advance t).tapSelect true 0x02 idcode)) ∧
  (∀ (t : Nat) (s : State), exec (.clamp t) s = .next (((s.advance t).tapSelect (s.advance t).atD3 0x03 0).tapForce)) ∧
  (∀ (t : Nat) (s : State), exec (.highz t) s = .next (((s.advance t).tapSelect (s.advance t).atD3 0x04 0).tapForce)) ∧
  (∀ (t : Nat) (s : State), exec (.dapSelect t) s = .next ((s.advance t).tapSelect true 0x10 ((s.advance t).dap.status + (s.advance t).dap.result * 256))) ∧
  (∀ (t : Nat) (target : Fin 4) (s : State), exec (.lcAdvance t target) s = .next ((s.advance t).lcAdvance target)) ∧
  (∀ (t : Nat) (s : State), exec (.bypass t) s = .next ((s.advance t).tapSelect true 0xFF 0)) ∧
  (∀ (t : Nat) (trst : Bool) (s : State), exec (.tapReset t trst) s = .next ((s.advance t).tapReset trst))

/-- Each command of the umpire and legacy memory management (R511 to R536) answers a next state, and the state is that of its operation at the instant of the command (rows of chapter 20). -/
def Obligations.CompleteLegacy : Prop :=
  (∀ (t : Nat) (x : FabAcc) (s : State), exec (.fabricAccess t x) s = .next ((s.advance t).fabricAccess x)) ∧
  (∀ (t : Nat) (m : Nat) (k : Fin 16) (v : Word) (s : State), (s.advance t).passes m (Reg.LGC_SLOT_CTL k) → exec (.legacySlotEnable t m k v) s = .next (((s.advance t).served m).slotCtl k v)) ∧
  (∀ (t : Nat) (m : Nat) (k : Fin 16) (s : State), (s.advance t).passes m (Reg.LGC_SLOT_CMD k) → exec (.cardClr t m k) s = .next (((s.advance t).served m).cardClr k)) ∧
  (∀ (t : Nat) (m : Nat) (k : Fin 16) (c : Fin 4) (s : State), (s.advance t).passes m (Reg.LGC_SLOT_CMD k) → exec (.lgcStart t m k c) s = .next (((s.advance t).served m).ctxStart k c)) ∧
  (∀ (t : Nat) (m : Nat) (k : Fin 16) (c : Fin 4) (s : State), (s.advance t).passes m (Reg.LGC_SLOT_CMD k) → exec (.lgcStop t m k c) s = .next (((s.advance t).served m).ctxStop k c)) ∧
  (∀ (t : Nat) (m : Nat) (k : Fin 16) (s : State), (s.advance t).passes m (Reg.LGC_SLOT_CMD k) → exec (.tlbInvAll t m k) s = .next (((s.advance t).served m).tlbInvAll k)) ∧
  (∀ (t : Nat) (m : Nat) (k : Fin 16) (asid : Fin 256) (s : State), (s.advance t).passes m (Reg.LGC_SLOT_CMD k) → exec (.tlbInvVa t m k asid) s = .next (((s.advance t).served m).tlbInvVa k asid)) ∧
  (∀ (t : Nat) (m : Nat) (k : Fin 16) (n : Fin 8) (s : State), (s.advance t).passes m (lgcPage k * 0x1000 + 0x1058 + 0x20 * n) → exec (.fltResume t m k n) s = .next (((s.advance t).served m).fltResume k n)) ∧
  (∀ (t : Nat) (m : Nat) (k : Fin 16) (n : Fin 8) (s : State), (s.advance t).passes m (lgcPage k * 0x1000 + 0x1058 + 0x20 * n) → exec (.fltAbort t m k n) s = .next (((s.advance t).served m).fltAbort k n)) ∧
  (∀ (t : Nat) (k : Fin 16) (s : State), exec (.quantumExpiry t k) s = .next ((s.advance t).quantumEnd k)) ∧
  (∀ (t : Nat) (r : Fin 256) (e : List Byte) (s : State), (s.advance t).takes r e 0x71 → exec (.lgcRead t r e) s = .next (((s.advance t).fetch r e).1.lgcRead ((s.advance t).fetch r e).2.1)) ∧
  (∀ (t : Nat) (r : Fin 256) (e : List Byte) (data : List Byte) (s : State), (s.advance t).takes r e 0x70 → exec (.lgcWrite t r e data) s = .next (((s.advance t).fetch r e).1.lgcWrite ((s.advance t).fetch r e).2.1 data))

/-- Each command of fault absorption, substitution and ageing (R537 to R557) answers a next state, and the state is that of its operation at the instant of the command (rows of chapter 21). -/
def Obligations.CompleteBench : Prop :=
  (∀ (t : Nat) (l : Fin 96) (work : Option Nat) (late again : Bool) (s : State), exec (.engineWatchdog t l work late again) s = .next ((s.advance t).engineWatchdog l work late again)) ∧
  (∀ (t : Nat) (l : Fin 96) (uncorr : Bool) (work : Option Nat) (late again : Bool) (s : State), exec (.engineParityError t l uncorr work late again) s = .next ((s.advance t).engineParity l uncorr work late again)) ∧
  (∀ (t : Nat) (l : Fin 96) (s : State), exec (.substituteReady t l) s = .next ((s.advance t).substReady l)) ∧
  (∀ (t : Nat) (l : Fin 96) (steps ports : Nat) (s : State), exec (.substitutionMove t l steps ports) s = .next ((s.advance t).substMove l steps ports)) ∧
  (∀ (t : Nat) (eng : Fin 105) (st : Nat) (s : State), exec (.engineSelftestDone t eng st) s = .next ((s.advance t).selftestDone eng st)) ∧
  (∀ (t : Nat) (m : Nat) (l : Fin 128) (s : State), (s.advance t).passes m 0x8040 → exec (.benchSubstitute t m l) s = .next (((s.advance t).served m).benchSubstitute l)) ∧
  (∀ (t : Nat) (m : Nat) (s : State), (s.advance t).passes m 0x8040 → exec (.benchSelftest t m) s = .next (((s.advance t).served m).benchSelftest)) ∧
  (∀ (t : Nat) (p : Fin 4) (c : Fin 3) (s : State), exec (.legSubstitution t p c) s = .next ((s.advance t).legSubst p c)) ∧
  (∀ (t : Nat) (die : Fin 2) (i : Nat) (mismatch : Bool) (s : State), exec (.sliceCheck t die i mismatch) s = .next ((s.advance t).sliceCheck die i mismatch)) ∧
  (∀ (t : Nat) (die : Fin 2) (s : State), exec (.sliceSubstitution t die) s = .next ((s.advance t).sliceSubst die)) ∧
  (∀ (t : Nat) (n : Fin 5) (ok : Bool) (s : State), exec (.d2dRetrain t n ok) s = .next ((s.advance t).d2dRetrain n ok)) ∧
  (∀ (t : Nat) (found : ScrubFound) (s : State), exec (.scrubPass t found) s = .next ((s.advance t).scrubPass found)) ∧
  (∀ (t : Nat) (ro em : List Nat) (s : State), exec (.ageingHourly t ro em) s = .next ((s.advance t).ageingHourly ro em)) ∧
  (∀ (t : Nat) (s : State), exec (.lifeMinute t) s = .next ((s.advance t).lifeMinute)) ∧
  (∀ (t : Nat) (s : State), exec (.ageingDaily t) s = .next ((s.advance t).ageingDaily)) ∧
  (∀ (t : Nat) (kind : Fin 3) (u : Nat) (ok : Bool) (arrived : List AccReq) (s : State), exec (.acceleratorRequestDone t kind u ok arrived) s = .next ((s.advance t).accDone kind u ok arrived))

/-- Each command of self-tests and analogue test buses (R558 to R564) answers a next state, and the state is that of its operation at the instant of the command (rows of chapter 22). -/
def Obligations.CompleteTest : Prop :=
  (∀ (t : Nat) (m : Nat) (s : State), (s.advance t).passes m 0xA050 → exec (.testSram t m) s = .next (((s.advance t).served m).testStart 1 0 0)) ∧
  (∀ (t : Nat) (m : Nat) (p : Fin 4) (s : State), (s.advance t).passes m 0xA050 → exec (.testD2d t m p) s = .next (((s.advance t).served m).testStart 2 p 0)) ∧
  (∀ (t : Nat) (m : Nat) (p : Fin 4) (c : Fin 3) (s : State), (s.advance t).passes m 0xA050 → exec (.testLoop t m p c) s = .next (((s.advance t).served m).testStart 3 p c)) ∧
  (∀ (t : Nat) (m : Nat) (s : State), (s.advance t).passes m 0xA050 → exec (.testAesKat t m) s = .next (((s.advance t).served m).testStart 4 0 0)) ∧
  (∀ (t : Nat) (m : Nat) (s : State), (s.advance t).passes m 0xA050 → exec (.testTrng t m) s = .next (((s.advance t).served m).testStart 5 0 0)) ∧
  (∀ (t : Nat) (found : TestOut) (s : State), exec (.testDone t found) s = .next ((s.advance t).testDone found)) ∧
  (∀ (t : Nat) (m : Nat) (bus : Fin 4) (v : Word) (s : State), (s.advance t).passes m (0xA040 + 4 * bus) → exec (.atbSelect t m bus v) s = .next (((s.advance t).served m).atbSelect bus v (m == 0x380)))

/-- Each command of resets and the boot (R572 to R583) answers a next state, and the state is that of its operation at the instant of the command (rows of chapter 23). -/
def Obligations.CompleteBoot : Prop :=
  (∀ (t : Nat) (straps : Fin 8) (s : State), exec (.powerOnReset t straps) s = .next ((s.advance t).powerOnReset 0 straps)) ∧
  (∀ (t : Nat) (straps : Fin 8) (s : State), exec (.aonMonitorReset t straps) s = .next ((s.advance t).powerOnReset 1 straps)) ∧
  (∀ (t : Nat) (s : State), exec (.deviceReset t) s = .next ((s.advance t).deviceReset 2)) ∧
  (∀ (t : Nat) (s : State), exec (.coreRailReset t) s = .next ((s.advance t).deviceReset 3)) ∧
  (∀ (t : Nat) (m : Nat) (s : State), (s.advance t).passes m 0x50 → exec (.rstReq t m) s = .next (((s.advance t).served m).sysWrite 0x050 1)) ∧
  (∀ (t : Nat) (drives : List DriveFound) (banks : Nat) (s : State), exec (.bootComplete t drives banks) s = .next ((s.advance t).bootComplete drives banks))

end
end

