-- ==== Sys2Proof/Laws/Access.lean ====
section
/-! SUPPORT. How commands reach the machine, said once for each path: a command write that is served runs its operation, a submission that a ring takes runs its own, a body found in the inbox is acted on. -/

-- One declaration after another: the package is compiled as one text, and its memory stays within bounds.
set_option Elab.async false

namespace Sys2Proof.Machine

/-- A command write that reaches its register runs its operation. -/
theorem cmdReg_of_passes {s : State} {m a : Nat} (op : State → State) (h : s.passes m a) : s.cmdReg m a op = op (s.served m) := by
  obtain ⟨⟨h1, h2, h3⟩, h4, h5⟩ := h
  have h6 : (s.served m).byMaster m a (fun s1 => if ! allocated (a / 0x1000) then s1.ignored 0x000 else if (s1.page (a / 0x1000)).srst then s1 else op s1) = op (s.served m) := by
    simp [State.byMaster, h2, h3, h4, h5]
  unfold State.cmdReg
  refine Eq.trans (if_neg ?_) h6
  rw [Bool.and_eq_true, decide_eq_true_eq, Bool.not_eq_true']
  exact fun hc => Bool.false_ne_true (hc.2.symm.trans (h1 hc.1))

/-- Every allocated page lies below 0x140 (R39). -/
theorem allocated_lt {p : Nat} (h : allocated p = true) : p < 0x140 := by
  refine Nat.lt_of_not_le (fun hp => ?_)
  unfold allocated at h
  have e : blockOf p = none := by
    unfold blockOf
    repeat rw [if_neg (by omega)]
  rw [e] at h
  exact absurd h (by decide)

/-- A master other than the host function is served in the state as it stands. -/
theorem served_of_ne {s : State} {m : Nat} (h : m ≠ 0x300) : s.served m = s := by simp [State.served, h]

/-- A write of the message window runs where the ACTIVE port's windows respond. -/
theorem hostMsg_of_windowOpen {s : State} (op : State → State) (h : s.windowOpen = true) : s.hostMsg op = op s.hostTouch := by
  simp [State.hostMsg, h]

/-- A command of the debug access port runs while its instruction is selected. -/
theorem dapRun_of_ir {s : State} (op : State → State) (h : s.dap.ir = 0x10) : s.dapRun op = op s := by simp [State.dapRun, h]

/-- A submission that the ring takes runs its operation on what was fetched. -/
theorem submit_of_takes {s : State} {r op : Nat} {e : List Byte} (body : State → Sub → State) (h : s.takes r e op) :
    s.submit r e (· == op) body = body (s.fetch r e).1 (s.fetch r e).2.1 := by
  obtain ⟨h1, h2, h3⟩ := h
  simp only [State.submit, h1, h2, BEq.rfl, Bool.not_true, Bool.or_self, Bool.false_eq_true, if_false]
  rcases hf : s.fetch r e with ⟨s1, c, st⟩
  rw [hf] at h3
  cases h3
  rfl

/-- A management body found in the inbox is taken and acted on. -/
theorem mgmtBody_of_take {s s₁ : State} {mt : Nat} {d : Delivered} (op : State → Delivered → State)
    (h : s.takeInbox (fun d => d.mgmt && d.mtype == mt) = some (s₁, d)) : s.mgmtBody mt op = op s₁ d := by
  simp [State.mgmtBody, h]

end Sys2Proof.Machine
end

