-- ==== Sys2Proof/Laws/Bits.lean ====
section
/-! SUPPORT. Fields and bits of a word after a field of it is set. -/

-- One declaration after another: the package is compiled as one text, and its memory stays within bounds.
set_option Elab.async false

namespace Sys2Proof.Machine

/-- A word split at a field: what lies below, the field, what lies above. -/
theorem split_field (x lo n : Nat) : x = x % 2 ^ lo + 2 ^ lo * (x / 2 ^ lo % 2 ^ n + 2 ^ n * (x / 2 ^ (lo + n))) := by
  have h1 := Nat.div_add_mod x (2 ^ lo)
  have h2 := Nat.div_add_mod (x / 2 ^ lo) (2 ^ n)
  rw [Nat.div_div_eq_div_mul, ← Nat.pow_add] at h2
  rw [Nat.add_comm (x / 2 ^ lo % 2 ^ n), h2]
  omega

/-- The number of a word with a field set. -/
theorem setFld_toNat (w : Word) (lo n v : Nat) (h : lo + n ≤ 32) :
    (setFld w lo n v).toNat = w.toNat % 2 ^ lo + 2 ^ lo * (v % 2 ^ n + 2 ^ n * (w.toNat / 2 ^ (lo + n))) := by
  have hs := split_field w.toNat lo n
  have hw : w.toNat < 2 ^ 32 := w.isLt
  have e : w.toNat - w.toNat / 2 ^ lo % 2 ^ n * 2 ^ lo + v % 2 ^ n * 2 ^ lo =
      w.toNat % 2 ^ lo + 2 ^ lo * (v % 2 ^ n + 2 ^ n * (w.toNat / 2 ^ (lo + n))) := by
    generalize w.toNat / 2 ^ (lo + n) = c at *
    generalize w.toNat / 2 ^ lo % 2 ^ n = a at *
    generalize w.toNat % 2 ^ lo = b at *
    rw [Nat.mul_add] at hs ⊢
    rw [Nat.mul_comm a, Nat.mul_comm (v % 2 ^ n)]
    omega
  unfold setFld
  rw [e, BitVec.toNat_ofNat]
  apply Nat.mod_eq_of_lt
  have hb : w.toNat % 2 ^ lo < 2 ^ lo := Nat.mod_lt _ (Nat.two_pow_pos _)
  have hv : v % 2 ^ n < 2 ^ n := Nat.mod_lt _ (Nat.two_pow_pos _)
  have hc : w.toNat / 2 ^ (lo + n) < 2 ^ (32 - (lo + n)) := by
    rw [Nat.div_lt_iff_lt_mul (Nat.two_pow_pos _), ← Nat.pow_add]
    rwa [Nat.sub_add_cancel h]
  have h1 : v % 2 ^ n + 2 ^ n * (w.toNat / 2 ^ (lo + n)) < 2 ^ (32 - lo) := by
    have : 2 ^ (32 - lo) = 2 ^ n * 2 ^ (32 - (lo + n)) := by rw [← Nat.pow_add]; congr 1; omega
    rw [this]
    calc v % 2 ^ n + 2 ^ n * (w.toNat / 2 ^ (lo + n)) < 2 ^ n + 2 ^ n * (w.toNat / 2 ^ (lo + n)) := Nat.add_lt_add_right hv _
      _ = 2 ^ n * (w.toNat / 2 ^ (lo + n) + 1) := by rw [Nat.mul_add, Nat.mul_one, Nat.add_comm]
      _ ≤ 2 ^ n * 2 ^ (32 - (lo + n)) := Nat.mul_le_mul_left _ hc
  calc w.toNat % 2 ^ lo + 2 ^ lo * (v % 2 ^ n + 2 ^ n * (w.toNat / 2 ^ (lo + n)))
      < 2 ^ lo + 2 ^ lo * (v % 2 ^ n + 2 ^ n * (w.toNat / 2 ^ (lo + n))) := Nat.add_lt_add_right hb _
    _ = 2 ^ lo * (v % 2 ^ n + 2 ^ n * (w.toNat / 2 ^ (lo + n)) + 1) := by rw [Nat.mul_add _ _ 1, Nat.mul_one, Nat.add_comm]
    _ ≤ 2 ^ lo * 2 ^ (32 - lo) := Nat.mul_le_mul_left _ h1
    _ = 2 ^ 32 := by rw [← Nat.pow_add]; congr 1; omega

/-- A field just set reads as the value, modulo its size. -/
theorem fld_setFld (w : Word) (lo n v : Nat) (h : lo + n ≤ 32) : fld (setFld w lo n v) lo n = v % 2 ^ n := by
  unfold fld
  rw [setFld_toNat w lo n v h, Nat.add_comm, Nat.mul_add_div (Nat.two_pow_pos _), Nat.div_eq_of_lt (Nat.mod_lt _ (Nat.two_pow_pos _)), Nat.add_zero,
    Nat.add_mul_mod_self_left, Nat.mod_mod]

/-- A field below another keeps its value when the other is set. -/
theorem fld_setFld_below (w : Word) (lo n v lo' n' : Nat) (h : lo + n ≤ 32) (hd : lo' + n' ≤ lo) : fld (setFld w lo n v) lo' n' = fld w lo' n' := by
  have hm : ∀ y : Nat, y / 2 ^ lo' % 2 ^ n' = y % 2 ^ lo / 2 ^ lo' % 2 ^ n' := by
    intro y
    have e : 2 ^ lo = 2 ^ lo' * 2 ^ (lo - lo') := by rw [← Nat.pow_add]; congr 1; omega
    rw [e, Nat.mod_mul_right_div_self, Nat.mod_mod_of_dvd]
    exact Nat.pow_dvd_pow 2 (by omega)
  unfold fld
  rw [hm, hm w.toNat, setFld_toNat w lo n v h, Nat.add_mul_mod_self_left, Nat.mod_mod]

/-- A field above another keeps its value when the other is set. -/
theorem fld_setFld_above (w : Word) (lo n v lo' n' : Nat) (h : lo + n ≤ 32) (hd : lo + n ≤ lo') : fld (setFld w lo n v) lo' n' = fld w lo' n' := by
  have hm : ∀ y : Nat, y / 2 ^ lo' = y / 2 ^ (lo + n) / 2 ^ (lo' - (lo + n)) := by
    intro y
    rw [Nat.div_div_eq_div_mul, ← Nat.pow_add]
    congr 2
    omega
  have hq : (setFld w lo n v).toNat / 2 ^ (lo + n) = w.toNat / 2 ^ (lo + n) := by
    rw [setFld_toNat w lo n v h, Nat.pow_add, ← Nat.div_div_eq_div_mul, Nat.add_comm, Nat.mul_add_div (Nat.two_pow_pos _),
      Nat.div_eq_of_lt (Nat.mod_lt _ (Nat.two_pow_pos _)), Nat.add_zero, Nat.add_comm, Nat.mul_add_div (Nat.two_pow_pos _),
      Nat.div_eq_of_lt (Nat.mod_lt _ (Nat.two_pow_pos _)), Nat.add_zero]
  unfold fld
  rw [hm, hm w.toNat, hq]

/-- A bit is the field of width one. -/
theorem bit_eq_fld (w : Word) (n : Nat) : bit w n = decide (fld w n 1 = 1) := by
  unfold bit fld
  rw [BitVec.getLsbD, Nat.testBit_eq_decide_div_mod_eq, Nat.pow_one]

/-- A bit just set reads as the value. -/
theorem bit_setBit (w : Word) (n : Nat) (b : Bool) (h : n < 32) : bit (setBit w n b) n = b := by
  rw [bit_eq_fld, setBit, fld_setFld w n 1 _ (by omega)]
  cases b <;> rfl

/-- Another bit keeps its value. -/
theorem bit_setBit_ne (w : Word) (n m : Nat) (b : Bool) (h : n < 32) (hm : m ≠ n) : bit (setBit w n b) m = bit w m := by
  rw [bit_eq_fld, bit_eq_fld, setBit]
  rcases Nat.lt_or_gt_of_ne hm with hlt | hgt
  · rw [fld_setFld_below w n 1 _ m 1 (by omega) (by omega)]
  · rw [fld_setFld_above w n 1 _ m 1 (by omega) (by omega)]

end Sys2Proof.Machine
end

