-- ==== Sys2Proof/Laws/Tables.lean ====
section
/-! SUPPORT. Sparse tables and memories: read after write, and that every write keeps the canonical form. -/

-- One declaration after another: the package is compiled as one text, and its memory stays within bounds.
set_option Elab.async false

namespace Sys2Proof.Machine

/-! ## Read after write -/

theorem tget_tdel_self {β : Type} (d : β) (m : List (Nat × β)) (k : Nat) : tget d (tdel m k) k = d := by
  induction m with
  | nil => rfl
  | cons x m ih =>
    obtain ⟨a, v⟩ := x
    unfold tdel
    split
    · exact ih
    · rename_i h
      simpa only [tget, if_neg h] using ih

theorem tget_tdel_ne {β : Type} (d : β) (m : List (Nat × β)) {k a : Nat} (h : a ≠ k) : tget d (tdel m k) a = tget d m a := by
  induction m with
  | nil => rfl
  | cons x m ih =>
    obtain ⟨b, v⟩ := x
    unfold tdel
    split
    · rename_i hb
      subst hb
      rw [ih, tget, if_neg (Ne.symm h)]
    · simp only [tget, ih]

theorem tget_tins_self {β : Type} (d : β) (m : List (Nat × β)) (k : Nat) (v : β) : tget d (tins m k v) k = v := by
  induction m with
  | nil => simp only [tins, tget, if_true]
  | cons x m ih =>
    obtain ⟨b, w⟩ := x
    unfold tins
    split
    · simp only [tget, if_true]
    · split
      · simp only [tget, if_true]
      · rename_i h
        simpa only [tget, if_neg h] using ih

theorem tget_tins_ne {β : Type} (d : β) (m : List (Nat × β)) {k a : Nat} (v : β) (h : a ≠ k) : tget d (tins m k v) a = tget d m a := by
  induction m with
  | nil => simp only [tins, tget, if_neg (Ne.symm h)]
  | cons x m ih =>
    obtain ⟨b, w⟩ := x
    unfold tins
    split
    · rw [tget, if_neg (Ne.symm h)]
    · split
      · rename_i hb
        subst hb
        simp only [tget, if_neg (Ne.symm h)]
      · simp only [tget, ih]

/-- A table entry just set reads as its value. -/
@[simp] theorem tget_tset_self {β : Type} [DecidableEq β] (d : β) (m : List (Nat × β)) (k : Nat) (v : β) : tget d (tset d m k v) k = v := by
  unfold tset
  split
  · rename_i h
    rw [tget_tdel_self, h]
  · exact tget_tins_self d m k v

/-- Every other entry keeps its value. -/
theorem tget_tset_ne {β : Type} [DecidableEq β] (d d' : β) (m : List (Nat × β)) {k a : Nat} (v : β) (h : a ≠ k) : tget d' (tset d m k v) a = tget d' m a := by
  unfold tset
  split
  · exact tget_tdel_ne d' m h
  · exact tget_tins_ne d' m v h

/-! ## Canonical form -/

/-- A sorted table: its rest is sorted, and its first key is the least. -/
theorem tsorted_head {β : Type} {m : List (Nat × β)} {x : Nat × β} (h : tsorted (x :: m) = true) : tsorted m = true ∧ ∀ y ∈ m, x.1 < y.1 := by
  induction m generalizing x with
  | nil => simp [tsorted]
  | cons y m ih =>
    obtain ⟨a, v⟩ := x; obtain ⟨b, w⟩ := y
    simp only [tsorted, Bool.and_eq_true, decide_eq_true_eq] at h
    refine ⟨h.2, ?_⟩
    intro z hz
    rcases List.mem_cons.1 hz with rfl | hz
    · exact h.1
    · exact Nat.lt_trans h.1 ((ih h.2).2 z hz)

/-- A lesser key in front keeps a table sorted. -/
theorem tsorted_cons {β : Type} {m : List (Nat × β)} {x : Nat × β} (h : tsorted m = true) (hx : ∀ y ∈ m, x.1 < y.1) : tsorted (x :: m) = true := by
  cases m with
  | nil => simp [tsorted]
  | cons y m =>
    obtain ⟨a, v⟩ := x; obtain ⟨b, w⟩ := y
    simp only [tsorted, Bool.and_eq_true, decide_eq_true_eq]
    exact ⟨hx _ (List.mem_cons_self ..), h⟩

/-- What remains after a deletion was there, under another key. -/
theorem mem_tdel {β : Type} {m : List (Nat × β)} {k : Nat} {x : Nat × β} (h : x ∈ tdel m k) : x ∈ m ∧ x.1 ≠ k := by
  induction m with
  | nil => simp [tdel] at h
  | cons y m ih =>
    obtain ⟨a, v⟩ := y
    unfold tdel at h
    split at h
    · exact ⟨List.mem_cons_of_mem _ (ih h).1, (ih h).2⟩
    · rcases List.mem_cons.1 h with rfl | h
      · exact ⟨List.mem_cons_self .., by assumption⟩
      · exact ⟨List.mem_cons_of_mem _ (ih h).1, (ih h).2⟩

/-- What a placement leaves is the new entry or was there. -/
theorem mem_tins {β : Type} {m : List (Nat × β)} {k : Nat} {v : β} {x : Nat × β} (h : x ∈ tins m k v) : x = (k, v) ∨ x ∈ m := by
  induction m with
  | nil => simpa [tins] using h
  | cons y m ih =>
    obtain ⟨a, w⟩ := y
    unfold tins at h
    split at h
    · simpa using h
    · split at h
      · rcases List.mem_cons.1 h with h | h
        · exact .inl h
        · exact .inr (List.mem_cons_of_mem _ h)
      · rcases List.mem_cons.1 h with h | h
        · exact .inr (h ▸ List.mem_cons_self ..)
        · rcases ih h with h | h
          · exact .inl h
          · exact .inr (List.mem_cons_of_mem _ h)

/-- A deletion keeps a table sorted. -/
theorem tsorted_tdel {β : Type} {m : List (Nat × β)} (k : Nat) (h : tsorted m = true) : tsorted (tdel m k) = true := by
  induction m with
  | nil => simp [tdel, tsorted]
  | cons y m ih =>
    obtain ⟨a, v⟩ := y
    have h2 := tsorted_head h
    unfold tdel
    split
    · exact ih h2.1
    · exact tsorted_cons (ih h2.1) (fun z hz => h2.2 z (mem_tdel hz).1)

/-- A placement keeps a table sorted. -/
theorem tsorted_tins {β : Type} {m : List (Nat × β)} (k : Nat) (v : β) (h : tsorted m = true) : tsorted (tins m k v) = true := by
  induction m with
  | nil => simp [tins, tsorted]
  | cons y m ih =>
    obtain ⟨a, w⟩ := y
    have h2 := tsorted_head h
    unfold tins
    split
    · rename_i hk
      refine tsorted_cons h (fun z hz => ?_)
      rcases List.mem_cons.1 hz with rfl | hz
      · exact hk
      · exact Nat.lt_trans hk (h2.2 z hz)
    · split
      · rename_i hk
        subst hk
        exact tsorted_cons h2.1 h2.2
      · refine tsorted_cons (ih h2.1) (fun z hz => ?_)
        rcases mem_tins hz with rfl | hz
        · dsimp only; omega
        · exact h2.2 z hz

/-- A write keeps a table sorted. -/
theorem tsorted_tset {β : Type} [DecidableEq β] (d : β) {m : List (Nat × β)} (k : Nat) (v : β) (h : tsorted m = true) : tsorted (tset d m k v) = true := by
  unfold tset
  split
  · exact tsorted_tdel k h
  · exact tsorted_tins k v h

/-- A register write keeps the register map canonical. -/
theorem regsCanon_tset {m : List (Nat × Word)} (k : Nat) (v : Word) (h : regsCanon m) : regsCanon (tset (keyReset k) m k v) := by
  refine ⟨tsorted_tset _ _ _ h.1, fun x hx => ?_⟩
  unfold tset at hx
  split at hx
  · exact h.2 x (mem_tdel hx).1
  · rcases mem_tins hx with rfl | hx
    · assumption
    · exact h.2 x hx

/-- Dropping entries keeps a table sorted. -/
theorem tsorted_filter {β : Type} {m : List (Nat × β)} (f : Nat × β → Bool) (h : tsorted m = true) : tsorted (m.filter f) = true := by
  induction m with
  | nil => rfl
  | cons y m ih =>
    have h2 := tsorted_head h
    rw [List.filter_cons]
    split
    · exact tsorted_cons (ih h2.1) (fun z hz => h2.2 z (List.mem_filter.1 hz).1)
    · exact ih h2.1

/-- Dropping entries keeps the register map canonical. -/
theorem regsCanon_filter {m : List (Nat × Word)} (f : Nat × Word → Bool) (h : regsCanon m) : regsCanon (m.filter f) :=
  ⟨tsorted_filter f h.1, fun x hx => h.2 x (List.mem_filter.1 hx).1⟩

/-- The canonical form of a memory, as a proposition. -/
theorem wf_iff (m : List Host.Cell) : Memory.wf m = true ↔ tsorted m = true ∧ ∀ x ∈ m, x.2 ≠ memDefault := by
  simp [Memory.wf, Host.Cell]

/-- Cells dropped from a canonical memory leave a canonical memory. -/
theorem wf_filter {m : List Host.Cell} (f : Host.Cell → Bool) (h : Memory.wf m = true) : Memory.wf (m.filter f) = true := by
  rw [wf_iff] at h ⊢
  exact ⟨tsorted_filter f h.1, fun x hx => h.2 x (List.mem_filter.1 hx).1⟩

/-- A byte write keeps the canonical form. -/
theorem wf_cellWrite {m : List Host.Cell} (a : Nat) (b : Byte) (h : Memory.wf m = true) : Memory.wf (cellWrite m a b) = true := by
  rw [wf_iff] at h ⊢
  refine ⟨tsorted_tset _ _ _ h.1, fun x hx => ?_⟩
  unfold cellWrite tset at hx
  split at hx
  · exact h.2 x (mem_tdel hx).1
  · rcases mem_tins hx with rfl | hx
    · assumption
    · exact h.2 x hx

/-- A write of a byte string keeps the canonical form. -/
theorem wf_cellsWrite {m : List Host.Cell} (a : Nat) (bs : List Byte) (h : Memory.wf m = true) : Memory.wf (cellsWrite m a bs) = true := by
  induction bs generalizing m a with
  | nil => exact h
  | cons b bs ih => exact ih _ (wf_cellWrite a b h)

/-! ## Memory: read after write -/

/-- A byte just written reads as its value. -/
@[simp] theorem cellRead_cellWrite_self (m : List Host.Cell) (a : Nat) (b : Byte) : cellRead (cellWrite m a b) a = b := tget_tset_self ..

/-- Every other byte keeps its value. -/
theorem cellRead_cellWrite_ne (m : List Host.Cell) {a c : Nat} (b : Byte) (h : c ≠ a) : cellRead (cellWrite m a b) c = cellRead m c := tget_tset_ne _ _ _ _ h

/-- Bytes outside a written range keep their values. -/
theorem cellRead_cellsWrite_outside (m : List Host.Cell) (a : Nat) (bs : List Byte) {c : Nat} (h : c < a ∨ a + bs.length ≤ c) :
    cellRead (cellsWrite m a bs) c = cellRead m c := by
  induction bs generalizing m a with
  | nil => rfl
  | cons b bs ih =>
    simp only [List.length_cons] at h
    rw [cellsWrite, ih _ _ (by omega), cellRead_cellWrite_ne _ _ (by omega)]

/-- The bytes of a written range read as written. -/
theorem cellsRead_cellsWrite (m : List Host.Cell) (a : Nat) (bs : List Byte) : cellsRead (cellsWrite m a bs) a bs.length = bs := by
  induction bs generalizing m a with
  | nil => rfl
  | cons b bs ih =>
    rw [List.length_cons, cellsRead, cellsWrite, ih, cellRead_cellsWrite_outside _ _ _ (by omega), cellRead_cellWrite_self]

end Sys2Proof.Machine
end

