-- ==== Sys2Proof/Laws/State.lean ====
section
/-! SUPPORT. What the plain updates of the state leave alone, and registers read after write. -/

-- One declaration after another: the package is compiled as one text, and its memory stays within bounds.
set_option Elab.async false

namespace Sys2Proof.Machine

/-! ## Registers: read after write -/

/-- A register just set reads as its value. -/
@[simp] theorem State.rd_wr_self (s : State) (a : Nat) (v : Word) : (s.wr a v).rd a = v := tget_tset_self ..

/-- Every other register keeps its value. -/
theorem State.rd_wr_ne (s : State) {a b : Nat} (v : Word) (h : b ≠ a) : (s.wr a v).rd b = s.rd b := tget_tset_ne _ _ _ _ h

/-- A register read after a write to it or to another. -/
theorem State.rd_wr (s : State) (a b : Nat) (v : Word) : (s.wr a v).rd b = if b = a then v else s.rd b := by
  split
  · rename_i h
    rw [h, State.rd_wr_self]
  · exact State.rd_wr_ne s v ‹_›

/-- A field just set reads as the value, modulo its size. -/
theorem State.rf_wf_self (s : State) (a lo n v : Nat) (h : lo + n ≤ 32) : (s.wf a lo n v).rf a lo n = v % 2 ^ n := by
  rw [State.rf, State.wf, State.rd_wr_self, fld_setFld _ _ _ _ h]

/-- A bit just set reads as the value. -/
theorem State.rb_wb_self (s : State) (a n : Nat) (b : Bool) (h : n < 32) : (s.wb a n b).rb a n = b := by
  rw [State.rb, State.wb, State.rd_wr_self, bit_setBit _ _ _ h]

/-- Every register but the one a field is set in keeps its value. -/
theorem State.rd_wf_ne (s : State) {a b : Nat} (lo n v : Nat) (h : b ≠ a) : (s.wf a lo n v).rd b = s.rd b := State.rd_wr_ne _ _ h

/-- Every register but the one a bit is set in keeps its value. -/
theorem State.rd_wb_ne (s : State) {a b : Nat} (n : Nat) (v : Bool) (h : b ≠ a) : (s.wb a n v).rd b = s.rd b := State.rd_wr_ne _ _ h

/-! ## `State.advance` changes `now` only -/

@[simp] theorem State.advance_draws (s : State) (t : Nat) : (State.advance s t).draws = s.draws := rfl
@[simp] theorem State.advance_regs (s : State) (t : Nat) : (State.advance s t).regs = s.regs := rfl
@[simp] theorem State.advance_pages (s : State) (t : Nat) : (State.advance s t).pages = s.pages := rfl
@[simp] theorem State.advance_groups (s : State) (t : Nat) : (State.advance s t).groups = s.groups := rfl
@[simp] theorem State.advance_air (s : State) (t : Nat) : (State.advance s t).air = s.air := rfl
@[simp] theorem State.advance_scb (s : State) (t : Nat) : (State.advance s t).scb = s.scb := rfl
@[simp] theorem State.advance_vecCycle (s : State) (t : Nat) : (State.advance s t).vecCycle = s.vecCycle := rfl
@[simp] theorem State.advance_vecSent (s : State) (t : Nat) : (State.advance s t).vecSent = s.vecSent := rfl
@[simp] theorem State.advance_ctrCycle (s : State) (t : Nat) : (State.advance s t).ctrCycle = s.ctrCycle := rfl
@[simp] theorem State.advance_ctrInc (s : State) (t : Nat) : (State.advance s t).ctrInc = s.ctrInc := rfl
@[simp] theorem State.advance_arbCycle (s : State) (t : Nat) : (State.advance s t).arbCycle = s.arbCycle := rfl
@[simp] theorem State.advance_arbLog (s : State) (t : Nat) : (State.advance s t).arbLog = s.arbLog := rfl
@[simp] theorem State.advance_aonAt (s : State) (t : Nat) : (State.advance s t).aonAt = s.aonAt := rfl
@[simp] theorem State.advance_trk (s : State) (t : Nat) : (State.advance s t).trk = s.trk := rfl
@[simp] theorem State.advance_fix (s : State) (t : Nat) : (State.advance s t).fix = s.fix := rfl
@[simp] theorem State.advance_conds (s : State) (t : Nat) : (State.advance s t).conds = s.conds := rfl
@[simp] theorem State.advance_chans (s : State) (t : Nat) : (State.advance s t).chans = s.chans := rfl
@[simp] theorem State.advance_descs (s : State) (t : Nat) : (State.advance s t).descs = s.descs := rfl
@[simp] theorem State.advance_quiet (s : State) (t : Nat) : (State.advance s t).quiet = s.quiet := rfl
@[simp] theorem State.advance_sto (s : State) (t : Nat) : (State.advance s t).sto = s.sto := rfl
@[simp] theorem State.advance_bench (s : State) (t : Nat) : (State.advance s t).bench = s.bench := rfl
@[simp] theorem State.advance_queues (s : State) (t : Nat) : (State.advance s t).queues = s.queues := rfl
@[simp] theorem State.advance_qmg (s : State) (t : Nat) : (State.advance s t).qmg = s.qmg := rfl
@[simp] theorem State.advance_rings (s : State) (t : Nat) : (State.advance s t).rings = s.rings := rfl
@[simp] theorem State.advance_host (s : State) (t : Nat) : (State.advance s t).host = s.host := rfl
@[simp] theorem State.advance_hostMem (s : State) (t : Nat) : (State.advance s t).hostMem = s.hostMem := rfl
@[simp] theorem State.advance_sec (s : State) (t : Nat) : (State.advance s t).sec = s.sec := rfl
@[simp] theorem State.advance_reads (s : State) (t : Nat) : (State.advance s t).reads = s.reads := rfl
@[simp] theorem State.advance_ctl (s : State) (t : Nat) : (State.advance s t).ctl = s.ctl := rfl
@[simp] theorem State.advance_met (s : State) (t : Nat) : (State.advance s t).met = s.met := rfl
@[simp] theorem State.advance_hkc (s : State) (t : Nat) : (State.advance s t).hkc = s.hkc := rfl
@[simp] theorem State.advance_maps (s : State) (t : Nat) : (State.advance s t).maps = s.maps := rfl
@[simp] theorem State.advance_mac (s : State) (t : Nat) : (State.advance s t).mac = s.mac := rfl
@[simp] theorem State.advance_link (s : State) (t : Nat) : (State.advance s t).link = s.link := rfl
@[simp] theorem State.advance_net (s : State) (t : Nat) : (State.advance s t).net = s.net := rfl
@[simp] theorem State.advance_msg (s : State) (t : Nat) : (State.advance s t).msg = s.msg := rfl
@[simp] theorem State.advance_srv (s : State) (t : Nat) : (State.advance s t).srv = s.srv := rfl
@[simp] theorem State.advance_md (s : State) (t : Nat) : (State.advance s t).md = s.md := rfl
@[simp] theorem State.advance_io (s : State) (t : Nat) : (State.advance s t).io = s.io := rfl
@[simp] theorem State.advance_boot (s : State) (t : Nat) : (State.advance s t).boot = s.boot := rfl
@[simp] theorem State.advance_tst (s : State) (t : Nat) : (State.advance s t).tst = s.tst := rfl
@[simp] theorem State.advance_dap (s : State) (t : Nat) : (State.advance s t).dap = s.dap := rfl
@[simp] theorem State.advance_eng (s : State) (t : Nat) : (State.advance s t).eng = s.eng := rfl
@[simp] theorem State.advance_ump (s : State) (t : Nat) : (State.advance s t).ump = s.ump := rfl
@[simp] theorem State.advance_lgc (s : State) (t : Nat) : (State.advance s t).lgc = s.lgc := rfl
@[simp] theorem State.advance_mem (s : State) (t : Nat) : (State.advance s t).mem = s.mem := rfl
@[simp] theorem State.advance_lgcMem (s : State) (t : Nat) : (State.advance s t).lgcMem = s.lgcMem := rfl
@[simp] theorem State.advance_pending (s : State) (t : Nat) : (State.advance s t).pending = s.pending := rfl
@[simp] theorem State.advance_rd (s : State) (t : Nat) (key : Nat) : (State.advance s t).rd key = s.rd key := rfl
@[simp] theorem State.advance_rf (s : State) (t : Nat) (key lo width : Nat) : (State.advance s t).rf key lo width = s.rf key lo width := rfl
@[simp] theorem State.advance_rb (s : State) (t : Nat) (key ix : Nat) : (State.advance s t).rb key ix = s.rb key ix := rfl

/-! ## `State.drawn` changes `draws` only -/

@[simp] theorem State.drawn_now (s : State) : (State.drawn s).now = s.now := rfl
@[simp] theorem State.drawn_regs (s : State) : (State.drawn s).regs = s.regs := rfl
@[simp] theorem State.drawn_pages (s : State) : (State.drawn s).pages = s.pages := rfl
@[simp] theorem State.drawn_groups (s : State) : (State.drawn s).groups = s.groups := rfl
@[simp] theorem State.drawn_air (s : State) : (State.drawn s).air = s.air := rfl
@[simp] theorem State.drawn_scb (s : State) : (State.drawn s).scb = s.scb := rfl
@[simp] theorem State.drawn_vecCycle (s : State) : (State.drawn s).vecCycle = s.vecCycle := rfl
@[simp] theorem State.drawn_vecSent (s : State) : (State.drawn s).vecSent = s.vecSent := rfl
@[simp] theorem State.drawn_ctrCycle (s : State) : (State.drawn s).ctrCycle = s.ctrCycle := rfl
@[simp] theorem State.drawn_ctrInc (s : State) : (State.drawn s).ctrInc = s.ctrInc := rfl
@[simp] theorem State.drawn_arbCycle (s : State) : (State.drawn s).arbCycle = s.arbCycle := rfl
@[simp] theorem State.drawn_arbLog (s : State) : (State.drawn s).arbLog = s.arbLog := rfl
@[simp] theorem State.drawn_aonAt (s : State) : (State.drawn s).aonAt = s.aonAt := rfl
@[simp] theorem State.drawn_trk (s : State) : (State.drawn s).trk = s.trk := rfl
@[simp] theorem State.drawn_fix (s : State) : (State.drawn s).fix = s.fix := rfl
@[simp] theorem State.drawn_conds (s : State) : (State.drawn s).conds = s.conds := rfl
@[simp] theorem State.drawn_chans (s : State) : (State.drawn s).chans = s.chans := rfl
@[simp] theorem State.drawn_descs (s : State) : (State.drawn s).descs = s.descs := rfl
@[simp] theorem State.drawn_quiet (s : State) : (State.drawn s).quiet = s.quiet := rfl
@[simp] theorem State.drawn_sto (s : State) : (State.drawn s).sto = s.sto := rfl
@[simp] theorem State.drawn_bench (s : State) : (State.drawn s).bench = s.bench := rfl
@[simp] theorem State.drawn_queues (s : State) : (State.drawn s).queues = s.queues := rfl
@[simp] theorem State.drawn_qmg (s : State) : (State.drawn s).qmg = s.qmg := rfl
@[simp] theorem State.drawn_rings (s : State) : (State.drawn s).rings = s.rings := rfl
@[simp] theorem State.drawn_host (s : State) : (State.drawn s).host = s.host := rfl
@[simp] theorem State.drawn_hostMem (s : State) : (State.drawn s).hostMem = s.hostMem := rfl
@[simp] theorem State.drawn_sec (s : State) : (State.drawn s).sec = s.sec := rfl
@[simp] theorem State.drawn_reads (s : State) : (State.drawn s).reads = s.reads := rfl
@[simp] theorem State.drawn_ctl (s : State) : (State.drawn s).ctl = s.ctl := rfl
@[simp] theorem State.drawn_met (s : State) : (State.drawn s).met = s.met := rfl
@[simp] theorem State.drawn_hkc (s : State) : (State.drawn s).hkc = s.hkc := rfl
@[simp] theorem State.drawn_maps (s : State) : (State.drawn s).maps = s.maps := rfl
@[simp] theorem State.drawn_mac (s : State) : (State.drawn s).mac = s.mac := rfl
@[simp] theorem State.drawn_link (s : State) : (State.drawn s).link = s.link := rfl
@[simp] theorem State.drawn_net (s : State) : (State.drawn s).net = s.net := rfl
@[simp] theorem State.drawn_msg (s : State) : (State.drawn s).msg = s.msg := rfl
@[simp] theorem State.drawn_srv (s : State) : (State.drawn s).srv = s.srv := rfl
@[simp] theorem State.drawn_md (s : State) : (State.drawn s).md = s.md := rfl
@[simp] theorem State.drawn_io (s : State) : (State.drawn s).io = s.io := rfl
@[simp] theorem State.drawn_boot (s : State) : (State.drawn s).boot = s.boot := rfl
@[simp] theorem State.drawn_tst (s : State) : (State.drawn s).tst = s.tst := rfl
@[simp] theorem State.drawn_dap (s : State) : (State.drawn s).dap = s.dap := rfl
@[simp] theorem State.drawn_eng (s : State) : (State.drawn s).eng = s.eng := rfl
@[simp] theorem State.drawn_ump (s : State) : (State.drawn s).ump = s.ump := rfl
@[simp] theorem State.drawn_lgc (s : State) : (State.drawn s).lgc = s.lgc := rfl
@[simp] theorem State.drawn_mem (s : State) : (State.drawn s).mem = s.mem := rfl
@[simp] theorem State.drawn_lgcMem (s : State) : (State.drawn s).lgcMem = s.lgcMem := rfl
@[simp] theorem State.drawn_pending (s : State) : (State.drawn s).pending = s.pending := rfl
@[simp] theorem State.drawn_rd (s : State) (key : Nat) : (State.drawn s).rd key = s.rd key := rfl
@[simp] theorem State.drawn_rf (s : State) (key lo width : Nat) : (State.drawn s).rf key lo width = s.rf key lo width := rfl
@[simp] theorem State.drawn_rb (s : State) (key ix : Nat) : (State.drawn s).rb key ix = s.rb key ix := rfl

/-! ## `State.wr` changes `regs` only -/

@[simp] theorem State.wr_now (s : State) (a : Nat) (v : Word) : (State.wr s a v).now = s.now := rfl
@[simp] theorem State.wr_draws (s : State) (a : Nat) (v : Word) : (State.wr s a v).draws = s.draws := rfl
@[simp] theorem State.wr_pages (s : State) (a : Nat) (v : Word) : (State.wr s a v).pages = s.pages := rfl
@[simp] theorem State.wr_groups (s : State) (a : Nat) (v : Word) : (State.wr s a v).groups = s.groups := rfl
@[simp] theorem State.wr_air (s : State) (a : Nat) (v : Word) : (State.wr s a v).air = s.air := rfl
@[simp] theorem State.wr_scb (s : State) (a : Nat) (v : Word) : (State.wr s a v).scb = s.scb := rfl
@[simp] theorem State.wr_vecCycle (s : State) (a : Nat) (v : Word) : (State.wr s a v).vecCycle = s.vecCycle := rfl
@[simp] theorem State.wr_vecSent (s : State) (a : Nat) (v : Word) : (State.wr s a v).vecSent = s.vecSent := rfl
@[simp] theorem State.wr_ctrCycle (s : State) (a : Nat) (v : Word) : (State.wr s a v).ctrCycle = s.ctrCycle := rfl
@[simp] theorem State.wr_ctrInc (s : State) (a : Nat) (v : Word) : (State.wr s a v).ctrInc = s.ctrInc := rfl
@[simp] theorem State.wr_arbCycle (s : State) (a : Nat) (v : Word) : (State.wr s a v).arbCycle = s.arbCycle := rfl
@[simp] theorem State.wr_arbLog (s : State) (a : Nat) (v : Word) : (State.wr s a v).arbLog = s.arbLog := rfl
@[simp] theorem State.wr_aonAt (s : State) (a : Nat) (v : Word) : (State.wr s a v).aonAt = s.aonAt := rfl
@[simp] theorem State.wr_trk (s : State) (a : Nat) (v : Word) : (State.wr s a v).trk = s.trk := rfl
@[simp] theorem State.wr_fix (s : State) (a : Nat) (v : Word) : (State.wr s a v).fix = s.fix := rfl
@[simp] theorem State.wr_conds (s : State) (a : Nat) (v : Word) : (State.wr s a v).conds = s.conds := rfl
@[simp] theorem State.wr_chans (s : State) (a : Nat) (v : Word) : (State.wr s a v).chans = s.chans := rfl
@[simp] theorem State.wr_descs (s : State) (a : Nat) (v : Word) : (State.wr s a v).descs = s.descs := rfl
@[simp] theorem State.wr_quiet (s : State) (a : Nat) (v : Word) : (State.wr s a v).quiet = s.quiet := rfl
@[simp] theorem State.wr_sto (s : State) (a : Nat) (v : Word) : (State.wr s a v).sto = s.sto := rfl
@[simp] theorem State.wr_bench (s : State) (a : Nat) (v : Word) : (State.wr s a v).bench = s.bench := rfl
@[simp] theorem State.wr_queues (s : State) (a : Nat) (v : Word) : (State.wr s a v).queues = s.queues := rfl
@[simp] theorem State.wr_qmg (s : State) (a : Nat) (v : Word) : (State.wr s a v).qmg = s.qmg := rfl
@[simp] theorem State.wr_rings (s : State) (a : Nat) (v : Word) : (State.wr s a v).rings = s.rings := rfl
@[simp] theorem State.wr_host (s : State) (a : Nat) (v : Word) : (State.wr s a v).host = s.host := rfl
@[simp] theorem State.wr_hostMem (s : State) (a : Nat) (v : Word) : (State.wr s a v).hostMem = s.hostMem := rfl
@[simp] theorem State.wr_sec (s : State) (a : Nat) (v : Word) : (State.wr s a v).sec = s.sec := rfl
@[simp] theorem State.wr_reads (s : State) (a : Nat) (v : Word) : (State.wr s a v).reads = s.reads := rfl
@[simp] theorem State.wr_ctl (s : State) (a : Nat) (v : Word) : (State.wr s a v).ctl = s.ctl := rfl
@[simp] theorem State.wr_met (s : State) (a : Nat) (v : Word) : (State.wr s a v).met = s.met := rfl
@[simp] theorem State.wr_hkc (s : State) (a : Nat) (v : Word) : (State.wr s a v).hkc = s.hkc := rfl
@[simp] theorem State.wr_maps (s : State) (a : Nat) (v : Word) : (State.wr s a v).maps = s.maps := rfl
@[simp] theorem State.wr_mac (s : State) (a : Nat) (v : Word) : (State.wr s a v).mac = s.mac := rfl
@[simp] theorem State.wr_link (s : State) (a : Nat) (v : Word) : (State.wr s a v).link = s.link := rfl
@[simp] theorem State.wr_net (s : State) (a : Nat) (v : Word) : (State.wr s a v).net = s.net := rfl
@[simp] theorem State.wr_msg (s : State) (a : Nat) (v : Word) : (State.wr s a v).msg = s.msg := rfl
@[simp] theorem State.wr_srv (s : State) (a : Nat) (v : Word) : (State.wr s a v).srv = s.srv := rfl
@[simp] theorem State.wr_md (s : State) (a : Nat) (v : Word) : (State.wr s a v).md = s.md := rfl
@[simp] theorem State.wr_io (s : State) (a : Nat) (v : Word) : (State.wr s a v).io = s.io := rfl
@[simp] theorem State.wr_boot (s : State) (a : Nat) (v : Word) : (State.wr s a v).boot = s.boot := rfl
@[simp] theorem State.wr_tst (s : State) (a : Nat) (v : Word) : (State.wr s a v).tst = s.tst := rfl
@[simp] theorem State.wr_dap (s : State) (a : Nat) (v : Word) : (State.wr s a v).dap = s.dap := rfl
@[simp] theorem State.wr_eng (s : State) (a : Nat) (v : Word) : (State.wr s a v).eng = s.eng := rfl
@[simp] theorem State.wr_ump (s : State) (a : Nat) (v : Word) : (State.wr s a v).ump = s.ump := rfl
@[simp] theorem State.wr_lgc (s : State) (a : Nat) (v : Word) : (State.wr s a v).lgc = s.lgc := rfl
@[simp] theorem State.wr_mem (s : State) (a : Nat) (v : Word) : (State.wr s a v).mem = s.mem := rfl
@[simp] theorem State.wr_lgcMem (s : State) (a : Nat) (v : Word) : (State.wr s a v).lgcMem = s.lgcMem := rfl
@[simp] theorem State.wr_pending (s : State) (a : Nat) (v : Word) : (State.wr s a v).pending = s.pending := rfl

/-! ## `State.setPage` changes `pages` only -/

@[simp] theorem State.setPage_now (s : State) (p : Nat) (v : PageSt) : (State.setPage s p v).now = s.now := rfl
@[simp] theorem State.setPage_draws (s : State) (p : Nat) (v : PageSt) : (State.setPage s p v).draws = s.draws := rfl
@[simp] theorem State.setPage_regs (s : State) (p : Nat) (v : PageSt) : (State.setPage s p v).regs = s.regs := rfl
@[simp] theorem State.setPage_groups (s : State) (p : Nat) (v : PageSt) : (State.setPage s p v).groups = s.groups := rfl
@[simp] theorem State.setPage_air (s : State) (p : Nat) (v : PageSt) : (State.setPage s p v).air = s.air := rfl
@[simp] theorem State.setPage_scb (s : State) (p : Nat) (v : PageSt) : (State.setPage s p v).scb = s.scb := rfl
@[simp] theorem State.setPage_vecCycle (s : State) (p : Nat) (v : PageSt) : (State.setPage s p v).vecCycle = s.vecCycle := rfl
@[simp] theorem State.setPage_vecSent (s : State) (p : Nat) (v : PageSt) : (State.setPage s p v).vecSent = s.vecSent := rfl
@[simp] theorem State.setPage_ctrCycle (s : State) (p : Nat) (v : PageSt) : (State.setPage s p v).ctrCycle = s.ctrCycle := rfl
@[simp] theorem State.setPage_ctrInc (s : State) (p : Nat) (v : PageSt) : (State.setPage s p v).ctrInc = s.ctrInc := rfl
@[simp] theorem State.setPage_arbCycle (s : State) (p : Nat) (v : PageSt) : (State.setPage s p v).arbCycle = s.arbCycle := rfl
@[simp] theorem State.setPage_arbLog (s : State) (p : Nat) (v : PageSt) : (State.setPage s p v).arbLog = s.arbLog := rfl
@[simp] theorem State.setPage_aonAt (s : State) (p : Nat) (v : PageSt) : (State.setPage s p v).aonAt = s.aonAt := rfl
@[simp] theorem State.setPage_trk (s : State) (p : Nat) (v : PageSt) : (State.setPage s p v).trk = s.trk := rfl
@[simp] theorem State.setPage_fix (s : State) (p : Nat) (v : PageSt) : (State.setPage s p v).fix = s.fix := rfl
@[simp] theorem State.setPage_conds (s : State) (p : Nat) (v : PageSt) : (State.setPage s p v).conds = s.conds := rfl
@[simp] theorem State.setPage_chans (s : State) (p : Nat) (v : PageSt) : (State.setPage s p v).chans = s.chans := rfl
@[simp] theorem State.setPage_descs (s : State) (p : Nat) (v : PageSt) : (State.setPage s p v).descs = s.descs := rfl
@[simp] theorem State.setPage_quiet (s : State) (p : Nat) (v : PageSt) : (State.setPage s p v).quiet = s.quiet := rfl
@[simp] theorem State.setPage_sto (s : State) (p : Nat) (v : PageSt) : (State.setPage s p v).sto = s.sto := rfl
@[simp] theorem State.setPage_bench (s : State) (p : Nat) (v : PageSt) : (State.setPage s p v).bench = s.bench := rfl
@[simp] theorem State.setPage_queues (s : State) (p : Nat) (v : PageSt) : (State.setPage s p v).queues = s.queues := rfl
@[simp] theorem State.setPage_qmg (s : State) (p : Nat) (v : PageSt) : (State.setPage s p v).qmg = s.qmg := rfl
@[simp] theorem State.setPage_rings (s : State) (p : Nat) (v : PageSt) : (State.setPage s p v).rings = s.rings := rfl
@[simp] theorem State.setPage_host (s : State) (p : Nat) (v : PageSt) : (State.setPage s p v).host = s.host := rfl
@[simp] theorem State.setPage_hostMem (s : State) (p : Nat) (v : PageSt) : (State.setPage s p v).hostMem = s.hostMem := rfl
@[simp] theorem State.setPage_sec (s : State) (p : Nat) (v : PageSt) : (State.setPage s p v).sec = s.sec := rfl
@[simp] theorem State.setPage_reads (s : State) (p : Nat) (v : PageSt) : (State.setPage s p v).reads = s.reads := rfl
@[simp] theorem State.setPage_ctl (s : State) (p : Nat) (v : PageSt) : (State.setPage s p v).ctl = s.ctl := rfl
@[simp] theorem State.setPage_met (s : State) (p : Nat) (v : PageSt) : (State.setPage s p v).met = s.met := rfl
@[simp] theorem State.setPage_hkc (s : State) (p : Nat) (v : PageSt) : (State.setPage s p v).hkc = s.hkc := rfl
@[simp] theorem State.setPage_maps (s : State) (p : Nat) (v : PageSt) : (State.setPage s p v).maps = s.maps := rfl
@[simp] theorem State.setPage_mac (s : State) (p : Nat) (v : PageSt) : (State.setPage s p v).mac = s.mac := rfl
@[simp] theorem State.setPage_link (s : State) (p : Nat) (v : PageSt) : (State.setPage s p v).link = s.link := rfl
@[simp] theorem State.setPage_net (s : State) (p : Nat) (v : PageSt) : (State.setPage s p v).net = s.net := rfl
@[simp] theorem State.setPage_msg (s : State) (p : Nat) (v : PageSt) : (State.setPage s p v).msg = s.msg := rfl
@[simp] theorem State.setPage_srv (s : State) (p : Nat) (v : PageSt) : (State.setPage s p v).srv = s.srv := rfl
@[simp] theorem State.setPage_md (s : State) (p : Nat) (v : PageSt) : (State.setPage s p v).md = s.md := rfl
@[simp] theorem State.setPage_io (s : State) (p : Nat) (v : PageSt) : (State.setPage s p v).io = s.io := rfl
@[simp] theorem State.setPage_boot (s : State) (p : Nat) (v : PageSt) : (State.setPage s p v).boot = s.boot := rfl
@[simp] theorem State.setPage_tst (s : State) (p : Nat) (v : PageSt) : (State.setPage s p v).tst = s.tst := rfl
@[simp] theorem State.setPage_dap (s : State) (p : Nat) (v : PageSt) : (State.setPage s p v).dap = s.dap := rfl
@[simp] theorem State.setPage_eng (s : State) (p : Nat) (v : PageSt) : (State.setPage s p v).eng = s.eng := rfl
@[simp] theorem State.setPage_ump (s : State) (p : Nat) (v : PageSt) : (State.setPage s p v).ump = s.ump := rfl
@[simp] theorem State.setPage_lgc (s : State) (p : Nat) (v : PageSt) : (State.setPage s p v).lgc = s.lgc := rfl
@[simp] theorem State.setPage_mem (s : State) (p : Nat) (v : PageSt) : (State.setPage s p v).mem = s.mem := rfl
@[simp] theorem State.setPage_lgcMem (s : State) (p : Nat) (v : PageSt) : (State.setPage s p v).lgcMem = s.lgcMem := rfl
@[simp] theorem State.setPage_pending (s : State) (p : Nat) (v : PageSt) : (State.setPage s p v).pending = s.pending := rfl
@[simp] theorem State.setPage_rd (s : State) (p : Nat) (v : PageSt) (key : Nat) : (State.setPage s p v).rd key = s.rd key := rfl
@[simp] theorem State.setPage_rf (s : State) (p : Nat) (v : PageSt) (key lo width : Nat) : (State.setPage s p v).rf key lo width = s.rf key lo width := rfl
@[simp] theorem State.setPage_rb (s : State) (p : Nat) (v : PageSt) (key ix : Nat) : (State.setPage s p v).rb key ix = s.rb key ix := rfl

/-! ## `State.setFix` changes `fix` only -/

@[simp] theorem State.setFix_now (s : State) (i : Nat) (f : Fixture) : (State.setFix s i f).now = s.now := rfl
@[simp] theorem State.setFix_draws (s : State) (i : Nat) (f : Fixture) : (State.setFix s i f).draws = s.draws := rfl
@[simp] theorem State.setFix_regs (s : State) (i : Nat) (f : Fixture) : (State.setFix s i f).regs = s.regs := rfl
@[simp] theorem State.setFix_pages (s : State) (i : Nat) (f : Fixture) : (State.setFix s i f).pages = s.pages := rfl
@[simp] theorem State.setFix_groups (s : State) (i : Nat) (f : Fixture) : (State.setFix s i f).groups = s.groups := rfl
@[simp] theorem State.setFix_air (s : State) (i : Nat) (f : Fixture) : (State.setFix s i f).air = s.air := rfl
@[simp] theorem State.setFix_scb (s : State) (i : Nat) (f : Fixture) : (State.setFix s i f).scb = s.scb := rfl
@[simp] theorem State.setFix_vecCycle (s : State) (i : Nat) (f : Fixture) : (State.setFix s i f).vecCycle = s.vecCycle := rfl
@[simp] theorem State.setFix_vecSent (s : State) (i : Nat) (f : Fixture) : (State.setFix s i f).vecSent = s.vecSent := rfl
@[simp] theorem State.setFix_ctrCycle (s : State) (i : Nat) (f : Fixture) : (State.setFix s i f).ctrCycle = s.ctrCycle := rfl
@[simp] theorem State.setFix_ctrInc (s : State) (i : Nat) (f : Fixture) : (State.setFix s i f).ctrInc = s.ctrInc := rfl
@[simp] theorem State.setFix_arbCycle (s : State) (i : Nat) (f : Fixture) : (State.setFix s i f).arbCycle = s.arbCycle := rfl
@[simp] theorem State.setFix_arbLog (s : State) (i : Nat) (f : Fixture) : (State.setFix s i f).arbLog = s.arbLog := rfl
@[simp] theorem State.setFix_aonAt (s : State) (i : Nat) (f : Fixture) : (State.setFix s i f).aonAt = s.aonAt := rfl
@[simp] theorem State.setFix_trk (s : State) (i : Nat) (f : Fixture) : (State.setFix s i f).trk = s.trk := rfl
@[simp] theorem State.setFix_conds (s : State) (i : Nat) (f : Fixture) : (State.setFix s i f).conds = s.conds := rfl
@[simp] theorem State.setFix_chans (s : State) (i : Nat) (f : Fixture) : (State.setFix s i f).chans = s.chans := rfl
@[simp] theorem State.setFix_descs (s : State) (i : Nat) (f : Fixture) : (State.setFix s i f).descs = s.descs := rfl
@[simp] theorem State.setFix_quiet (s : State) (i : Nat) (f : Fixture) : (State.setFix s i f).quiet = s.quiet := rfl
@[simp] theorem State.setFix_sto (s : State) (i : Nat) (f : Fixture) : (State.setFix s i f).sto = s.sto := rfl
@[simp] theorem State.setFix_bench (s : State) (i : Nat) (f : Fixture) : (State.setFix s i f).bench = s.bench := rfl
@[simp] theorem State.setFix_queues (s : State) (i : Nat) (f : Fixture) : (State.setFix s i f).queues = s.queues := rfl
@[simp] theorem State.setFix_qmg (s : State) (i : Nat) (f : Fixture) : (State.setFix s i f).qmg = s.qmg := rfl
@[simp] theorem State.setFix_rings (s : State) (i : Nat) (f : Fixture) : (State.setFix s i f).rings = s.rings := rfl
@[simp] theorem State.setFix_host (s : State) (i : Nat) (f : Fixture) : (State.setFix s i f).host = s.host := rfl
@[simp] theorem State.setFix_hostMem (s : State) (i : Nat) (f : Fixture) : (State.setFix s i f).hostMem = s.hostMem := rfl
@[simp] theorem State.setFix_sec (s : State) (i : Nat) (f : Fixture) : (State.setFix s i f).sec = s.sec := rfl
@[simp] theorem State.setFix_reads (s : State) (i : Nat) (f : Fixture) : (State.setFix s i f).reads = s.reads := rfl
@[simp] theorem State.setFix_ctl (s : State) (i : Nat) (f : Fixture) : (State.setFix s i f).ctl = s.ctl := rfl
@[simp] theorem State.setFix_met (s : State) (i : Nat) (f : Fixture) : (State.setFix s i f).met = s.met := rfl
@[simp] theorem State.setFix_hkc (s : State) (i : Nat) (f : Fixture) : (State.setFix s i f).hkc = s.hkc := rfl
@[simp] theorem State.setFix_maps (s : State) (i : Nat) (f : Fixture) : (State.setFix s i f).maps = s.maps := rfl
@[simp] theorem State.setFix_mac (s : State) (i : Nat) (f : Fixture) : (State.setFix s i f).mac = s.mac := rfl
@[simp] theorem State.setFix_link (s : State) (i : Nat) (f : Fixture) : (State.setFix s i f).link = s.link := rfl
@[simp] theorem State.setFix_net (s : State) (i : Nat) (f : Fixture) : (State.setFix s i f).net = s.net := rfl
@[simp] theorem State.setFix_msg (s : State) (i : Nat) (f : Fixture) : (State.setFix s i f).msg = s.msg := rfl
@[simp] theorem State.setFix_srv (s : State) (i : Nat) (f : Fixture) : (State.setFix s i f).srv = s.srv := rfl
@[simp] theorem State.setFix_md (s : State) (i : Nat) (f : Fixture) : (State.setFix s i f).md = s.md := rfl
@[simp] theorem State.setFix_io (s : State) (i : Nat) (f : Fixture) : (State.setFix s i f).io = s.io := rfl
@[simp] theorem State.setFix_boot (s : State) (i : Nat) (f : Fixture) : (State.setFix s i f).boot = s.boot := rfl
@[simp] theorem State.setFix_tst (s : State) (i : Nat) (f : Fixture) : (State.setFix s i f).tst = s.tst := rfl
@[simp] theorem State.setFix_dap (s : State) (i : Nat) (f : Fixture) : (State.setFix s i f).dap = s.dap := rfl
@[simp] theorem State.setFix_eng (s : State) (i : Nat) (f : Fixture) : (State.setFix s i f).eng = s.eng := rfl
@[simp] theorem State.setFix_ump (s : State) (i : Nat) (f : Fixture) : (State.setFix s i f).ump = s.ump := rfl
@[simp] theorem State.setFix_lgc (s : State) (i : Nat) (f : Fixture) : (State.setFix s i f).lgc = s.lgc := rfl
@[simp] theorem State.setFix_mem (s : State) (i : Nat) (f : Fixture) : (State.setFix s i f).mem = s.mem := rfl
@[simp] theorem State.setFix_lgcMem (s : State) (i : Nat) (f : Fixture) : (State.setFix s i f).lgcMem = s.lgcMem := rfl
@[simp] theorem State.setFix_pending (s : State) (i : Nat) (f : Fixture) : (State.setFix s i f).pending = s.pending := rfl
@[simp] theorem State.setFix_rd (s : State) (i : Nat) (f : Fixture) (key : Nat) : (State.setFix s i f).rd key = s.rd key := rfl
@[simp] theorem State.setFix_rf (s : State) (i : Nat) (f : Fixture) (key lo width : Nat) : (State.setFix s i f).rf key lo width = s.rf key lo width := rfl
@[simp] theorem State.setFix_rb (s : State) (i : Nat) (f : Fixture) (key ix : Nat) : (State.setFix s i f).rb key ix = s.rb key ix := rfl

/-! ## `State.setQueue` changes `queues` only -/

@[simp] theorem State.setQueue_now (s : State) (q : Nat) (v : QueueSt) : (State.setQueue s q v).now = s.now := rfl
@[simp] theorem State.setQueue_draws (s : State) (q : Nat) (v : QueueSt) : (State.setQueue s q v).draws = s.draws := rfl
@[simp] theorem State.setQueue_regs (s : State) (q : Nat) (v : QueueSt) : (State.setQueue s q v).regs = s.regs := rfl
@[simp] theorem State.setQueue_pages (s : State) (q : Nat) (v : QueueSt) : (State.setQueue s q v).pages = s.pages := rfl
@[simp] theorem State.setQueue_groups (s : State) (q : Nat) (v : QueueSt) : (State.setQueue s q v).groups = s.groups := rfl
@[simp] theorem State.setQueue_air (s : State) (q : Nat) (v : QueueSt) : (State.setQueue s q v).air = s.air := rfl
@[simp] theorem State.setQueue_scb (s : State) (q : Nat) (v : QueueSt) : (State.setQueue s q v).scb = s.scb := rfl
@[simp] theorem State.setQueue_vecCycle (s : State) (q : Nat) (v : QueueSt) : (State.setQueue s q v).vecCycle = s.vecCycle := rfl
@[simp] theorem State.setQueue_vecSent (s : State) (q : Nat) (v : QueueSt) : (State.setQueue s q v).vecSent = s.vecSent := rfl
@[simp] theorem State.setQueue_ctrCycle (s : State) (q : Nat) (v : QueueSt) : (State.setQueue s q v).ctrCycle = s.ctrCycle := rfl
@[simp] theorem State.setQueue_ctrInc (s : State) (q : Nat) (v : QueueSt) : (State.setQueue s q v).ctrInc = s.ctrInc := rfl
@[simp] theorem State.setQueue_arbCycle (s : State) (q : Nat) (v : QueueSt) : (State.setQueue s q v).arbCycle = s.arbCycle := rfl
@[simp] theorem State.setQueue_arbLog (s : State) (q : Nat) (v : QueueSt) : (State.setQueue s q v).arbLog = s.arbLog := rfl
@[simp] theorem State.setQueue_aonAt (s : State) (q : Nat) (v : QueueSt) : (State.setQueue s q v).aonAt = s.aonAt := rfl
@[simp] theorem State.setQueue_trk (s : State) (q : Nat) (v : QueueSt) : (State.setQueue s q v).trk = s.trk := rfl
@[simp] theorem State.setQueue_fix (s : State) (q : Nat) (v : QueueSt) : (State.setQueue s q v).fix = s.fix := rfl
@[simp] theorem State.setQueue_conds (s : State) (q : Nat) (v : QueueSt) : (State.setQueue s q v).conds = s.conds := rfl
@[simp] theorem State.setQueue_chans (s : State) (q : Nat) (v : QueueSt) : (State.setQueue s q v).chans = s.chans := rfl
@[simp] theorem State.setQueue_descs (s : State) (q : Nat) (v : QueueSt) : (State.setQueue s q v).descs = s.descs := rfl
@[simp] theorem State.setQueue_quiet (s : State) (q : Nat) (v : QueueSt) : (State.setQueue s q v).quiet = s.quiet := rfl
@[simp] theorem State.setQueue_sto (s : State) (q : Nat) (v : QueueSt) : (State.setQueue s q v).sto = s.sto := rfl
@[simp] theorem State.setQueue_bench (s : State) (q : Nat) (v : QueueSt) : (State.setQueue s q v).bench = s.bench := rfl
@[simp] theorem State.setQueue_qmg (s : State) (q : Nat) (v : QueueSt) : (State.setQueue s q v).qmg = s.qmg := rfl
@[simp] theorem State.setQueue_rings (s : State) (q : Nat) (v : QueueSt) : (State.setQueue s q v).rings = s.rings := rfl
@[simp] theorem State.setQueue_host (s : State) (q : Nat) (v : QueueSt) : (State.setQueue s q v).host = s.host := rfl
@[simp] theorem State.setQueue_hostMem (s : State) (q : Nat) (v : QueueSt) : (State.setQueue s q v).hostMem = s.hostMem := rfl
@[simp] theorem State.setQueue_sec (s : State) (q : Nat) (v : QueueSt) : (State.setQueue s q v).sec = s.sec := rfl
@[simp] theorem State.setQueue_reads (s : State) (q : Nat) (v : QueueSt) : (State.setQueue s q v).reads = s.reads := rfl
@[simp] theorem State.setQueue_ctl (s : State) (q : Nat) (v : QueueSt) : (State.setQueue s q v).ctl = s.ctl := rfl
@[simp] theorem State.setQueue_met (s : State) (q : Nat) (v : QueueSt) : (State.setQueue s q v).met = s.met := rfl
@[simp] theorem State.setQueue_hkc (s : State) (q : Nat) (v : QueueSt) : (State.setQueue s q v).hkc = s.hkc := rfl
@[simp] theorem State.setQueue_maps (s : State) (q : Nat) (v : QueueSt) : (State.setQueue s q v).maps = s.maps := rfl
@[simp] theorem State.setQueue_mac (s : State) (q : Nat) (v : QueueSt) : (State.setQueue s q v).mac = s.mac := rfl
@[simp] theorem State.setQueue_link (s : State) (q : Nat) (v : QueueSt) : (State.setQueue s q v).link = s.link := rfl
@[simp] theorem State.setQueue_net (s : State) (q : Nat) (v : QueueSt) : (State.setQueue s q v).net = s.net := rfl
@[simp] theorem State.setQueue_msg (s : State) (q : Nat) (v : QueueSt) : (State.setQueue s q v).msg = s.msg := rfl
@[simp] theorem State.setQueue_srv (s : State) (q : Nat) (v : QueueSt) : (State.setQueue s q v).srv = s.srv := rfl
@[simp] theorem State.setQueue_md (s : State) (q : Nat) (v : QueueSt) : (State.setQueue s q v).md = s.md := rfl
@[simp] theorem State.setQueue_io (s : State) (q : Nat) (v : QueueSt) : (State.setQueue s q v).io = s.io := rfl
@[simp] theorem State.setQueue_boot (s : State) (q : Nat) (v : QueueSt) : (State.setQueue s q v).boot = s.boot := rfl
@[simp] theorem State.setQueue_tst (s : State) (q : Nat) (v : QueueSt) : (State.setQueue s q v).tst = s.tst := rfl
@[simp] theorem State.setQueue_dap (s : State) (q : Nat) (v : QueueSt) : (State.setQueue s q v).dap = s.dap := rfl
@[simp] theorem State.setQueue_eng (s : State) (q : Nat) (v : QueueSt) : (State.setQueue s q v).eng = s.eng := rfl
@[simp] theorem State.setQueue_ump (s : State) (q : Nat) (v : QueueSt) : (State.setQueue s q v).ump = s.ump := rfl
@[simp] theorem State.setQueue_lgc (s : State) (q : Nat) (v : QueueSt) : (State.setQueue s q v).lgc = s.lgc := rfl
@[simp] theorem State.setQueue_mem (s : State) (q : Nat) (v : QueueSt) : (State.setQueue s q v).mem = s.mem := rfl
@[simp] theorem State.setQueue_lgcMem (s : State) (q : Nat) (v : QueueSt) : (State.setQueue s q v).lgcMem = s.lgcMem := rfl
@[simp] theorem State.setQueue_pending (s : State) (q : Nat) (v : QueueSt) : (State.setQueue s q v).pending = s.pending := rfl
@[simp] theorem State.setQueue_rd (s : State) (q : Nat) (v : QueueSt) (key : Nat) : (State.setQueue s q v).rd key = s.rd key := rfl
@[simp] theorem State.setQueue_rf (s : State) (q : Nat) (v : QueueSt) (key lo width : Nat) : (State.setQueue s q v).rf key lo width = s.rf key lo width := rfl
@[simp] theorem State.setQueue_rb (s : State) (q : Nat) (v : QueueSt) (key ix : Nat) : (State.setQueue s q v).rb key ix = s.rb key ix := rfl

/-! ## `State.setRing` changes `rings` only -/

@[simp] theorem State.setRing_now (s : State) (r : Nat) (v : RingSt) : (State.setRing s r v).now = s.now := rfl
@[simp] theorem State.setRing_draws (s : State) (r : Nat) (v : RingSt) : (State.setRing s r v).draws = s.draws := rfl
@[simp] theorem State.setRing_regs (s : State) (r : Nat) (v : RingSt) : (State.setRing s r v).regs = s.regs := rfl
@[simp] theorem State.setRing_pages (s : State) (r : Nat) (v : RingSt) : (State.setRing s r v).pages = s.pages := rfl
@[simp] theorem State.setRing_groups (s : State) (r : Nat) (v : RingSt) : (State.setRing s r v).groups = s.groups := rfl
@[simp] theorem State.setRing_air (s : State) (r : Nat) (v : RingSt) : (State.setRing s r v).air = s.air := rfl
@[simp] theorem State.setRing_scb (s : State) (r : Nat) (v : RingSt) : (State.setRing s r v).scb = s.scb := rfl
@[simp] theorem State.setRing_vecCycle (s : State) (r : Nat) (v : RingSt) : (State.setRing s r v).vecCycle = s.vecCycle := rfl
@[simp] theorem State.setRing_vecSent (s : State) (r : Nat) (v : RingSt) : (State.setRing s r v).vecSent = s.vecSent := rfl
@[simp] theorem State.setRing_ctrCycle (s : State) (r : Nat) (v : RingSt) : (State.setRing s r v).ctrCycle = s.ctrCycle := rfl
@[simp] theorem State.setRing_ctrInc (s : State) (r : Nat) (v : RingSt) : (State.setRing s r v).ctrInc = s.ctrInc := rfl
@[simp] theorem State.setRing_arbCycle (s : State) (r : Nat) (v : RingSt) : (State.setRing s r v).arbCycle = s.arbCycle := rfl
@[simp] theorem State.setRing_arbLog (s : State) (r : Nat) (v : RingSt) : (State.setRing s r v).arbLog = s.arbLog := rfl
@[simp] theorem State.setRing_aonAt (s : State) (r : Nat) (v : RingSt) : (State.setRing s r v).aonAt = s.aonAt := rfl
@[simp] theorem State.setRing_trk (s : State) (r : Nat) (v : RingSt) : (State.setRing s r v).trk = s.trk := rfl
@[simp] theorem State.setRing_fix (s : State) (r : Nat) (v : RingSt) : (State.setRing s r v).fix = s.fix := rfl
@[simp] theorem State.setRing_conds (s : State) (r : Nat) (v : RingSt) : (State.setRing s r v).conds = s.conds := rfl
@[simp] theorem State.setRing_chans (s : State) (r : Nat) (v : RingSt) : (State.setRing s r v).chans = s.chans := rfl
@[simp] theorem State.setRing_descs (s : State) (r : Nat) (v : RingSt) : (State.setRing s r v).descs = s.descs := rfl
@[simp] theorem State.setRing_quiet (s : State) (r : Nat) (v : RingSt) : (State.setRing s r v).quiet = s.quiet := rfl
@[simp] theorem State.setRing_sto (s : State) (r : Nat) (v : RingSt) : (State.setRing s r v).sto = s.sto := rfl
@[simp] theorem State.setRing_bench (s : State) (r : Nat) (v : RingSt) : (State.setRing s r v).bench = s.bench := rfl
@[simp] theorem State.setRing_queues (s : State) (r : Nat) (v : RingSt) : (State.setRing s r v).queues = s.queues := rfl
@[simp] theorem State.setRing_qmg (s : State) (r : Nat) (v : RingSt) : (State.setRing s r v).qmg = s.qmg := rfl
@[simp] theorem State.setRing_host (s : State) (r : Nat) (v : RingSt) : (State.setRing s r v).host = s.host := rfl
@[simp] theorem State.setRing_hostMem (s : State) (r : Nat) (v : RingSt) : (State.setRing s r v).hostMem = s.hostMem := rfl
@[simp] theorem State.setRing_sec (s : State) (r : Nat) (v : RingSt) : (State.setRing s r v).sec = s.sec := rfl
@[simp] theorem State.setRing_reads (s : State) (r : Nat) (v : RingSt) : (State.setRing s r v).reads = s.reads := rfl
@[simp] theorem State.setRing_ctl (s : State) (r : Nat) (v : RingSt) : (State.setRing s r v).ctl = s.ctl := rfl
@[simp] theorem State.setRing_met (s : State) (r : Nat) (v : RingSt) : (State.setRing s r v).met = s.met := rfl
@[simp] theorem State.setRing_hkc (s : State) (r : Nat) (v : RingSt) : (State.setRing s r v).hkc = s.hkc := rfl
@[simp] theorem State.setRing_maps (s : State) (r : Nat) (v : RingSt) : (State.setRing s r v).maps = s.maps := rfl
@[simp] theorem State.setRing_mac (s : State) (r : Nat) (v : RingSt) : (State.setRing s r v).mac = s.mac := rfl
@[simp] theorem State.setRing_link (s : State) (r : Nat) (v : RingSt) : (State.setRing s r v).link = s.link := rfl
@[simp] theorem State.setRing_net (s : State) (r : Nat) (v : RingSt) : (State.setRing s r v).net = s.net := rfl
@[simp] theorem State.setRing_msg (s : State) (r : Nat) (v : RingSt) : (State.setRing s r v).msg = s.msg := rfl
@[simp] theorem State.setRing_srv (s : State) (r : Nat) (v : RingSt) : (State.setRing s r v).srv = s.srv := rfl
@[simp] theorem State.setRing_md (s : State) (r : Nat) (v : RingSt) : (State.setRing s r v).md = s.md := rfl
@[simp] theorem State.setRing_io (s : State) (r : Nat) (v : RingSt) : (State.setRing s r v).io = s.io := rfl
@[simp] theorem State.setRing_boot (s : State) (r : Nat) (v : RingSt) : (State.setRing s r v).boot = s.boot := rfl
@[simp] theorem State.setRing_tst (s : State) (r : Nat) (v : RingSt) : (State.setRing s r v).tst = s.tst := rfl
@[simp] theorem State.setRing_dap (s : State) (r : Nat) (v : RingSt) : (State.setRing s r v).dap = s.dap := rfl
@[simp] theorem State.setRing_eng (s : State) (r : Nat) (v : RingSt) : (State.setRing s r v).eng = s.eng := rfl
@[simp] theorem State.setRing_ump (s : State) (r : Nat) (v : RingSt) : (State.setRing s r v).ump = s.ump := rfl
@[simp] theorem State.setRing_lgc (s : State) (r : Nat) (v : RingSt) : (State.setRing s r v).lgc = s.lgc := rfl
@[simp] theorem State.setRing_mem (s : State) (r : Nat) (v : RingSt) : (State.setRing s r v).mem = s.mem := rfl
@[simp] theorem State.setRing_lgcMem (s : State) (r : Nat) (v : RingSt) : (State.setRing s r v).lgcMem = s.lgcMem := rfl
@[simp] theorem State.setRing_pending (s : State) (r : Nat) (v : RingSt) : (State.setRing s r v).pending = s.pending := rfl
@[simp] theorem State.setRing_rd (s : State) (r : Nat) (v : RingSt) (key : Nat) : (State.setRing s r v).rd key = s.rd key := rfl
@[simp] theorem State.setRing_rf (s : State) (r : Nat) (v : RingSt) (key lo width : Nat) : (State.setRing s r v).rf key lo width = s.rf key lo width := rfl
@[simp] theorem State.setRing_rb (s : State) (r : Nat) (v : RingSt) (key ix : Nat) : (State.setRing s r v).rb key ix = s.rb key ix := rfl

/-! ## `State.setCond` changes `conds` only -/

@[simp] theorem State.setCond_now (s : State) (p c : Nat) (v : CondSt) : (State.setCond s p c v).now = s.now := rfl
@[simp] theorem State.setCond_draws (s : State) (p c : Nat) (v : CondSt) : (State.setCond s p c v).draws = s.draws := rfl
@[simp] theorem State.setCond_regs (s : State) (p c : Nat) (v : CondSt) : (State.setCond s p c v).regs = s.regs := rfl
@[simp] theorem State.setCond_pages (s : State) (p c : Nat) (v : CondSt) : (State.setCond s p c v).pages = s.pages := rfl
@[simp] theorem State.setCond_groups (s : State) (p c : Nat) (v : CondSt) : (State.setCond s p c v).groups = s.groups := rfl
@[simp] theorem State.setCond_air (s : State) (p c : Nat) (v : CondSt) : (State.setCond s p c v).air = s.air := rfl
@[simp] theorem State.setCond_scb (s : State) (p c : Nat) (v : CondSt) : (State.setCond s p c v).scb = s.scb := rfl
@[simp] theorem State.setCond_vecCycle (s : State) (p c : Nat) (v : CondSt) : (State.setCond s p c v).vecCycle = s.vecCycle := rfl
@[simp] theorem State.setCond_vecSent (s : State) (p c : Nat) (v : CondSt) : (State.setCond s p c v).vecSent = s.vecSent := rfl
@[simp] theorem State.setCond_ctrCycle (s : State) (p c : Nat) (v : CondSt) : (State.setCond s p c v).ctrCycle = s.ctrCycle := rfl
@[simp] theorem State.setCond_ctrInc (s : State) (p c : Nat) (v : CondSt) : (State.setCond s p c v).ctrInc = s.ctrInc := rfl
@[simp] theorem State.setCond_arbCycle (s : State) (p c : Nat) (v : CondSt) : (State.setCond s p c v).arbCycle = s.arbCycle := rfl
@[simp] theorem State.setCond_arbLog (s : State) (p c : Nat) (v : CondSt) : (State.setCond s p c v).arbLog = s.arbLog := rfl
@[simp] theorem State.setCond_aonAt (s : State) (p c : Nat) (v : CondSt) : (State.setCond s p c v).aonAt = s.aonAt := rfl
@[simp] theorem State.setCond_trk (s : State) (p c : Nat) (v : CondSt) : (State.setCond s p c v).trk = s.trk := rfl
@[simp] theorem State.setCond_fix (s : State) (p c : Nat) (v : CondSt) : (State.setCond s p c v).fix = s.fix := rfl
@[simp] theorem State.setCond_chans (s : State) (p c : Nat) (v : CondSt) : (State.setCond s p c v).chans = s.chans := rfl
@[simp] theorem State.setCond_descs (s : State) (p c : Nat) (v : CondSt) : (State.setCond s p c v).descs = s.descs := rfl
@[simp] theorem State.setCond_quiet (s : State) (p c : Nat) (v : CondSt) : (State.setCond s p c v).quiet = s.quiet := rfl
@[simp] theorem State.setCond_sto (s : State) (p c : Nat) (v : CondSt) : (State.setCond s p c v).sto = s.sto := rfl
@[simp] theorem State.setCond_bench (s : State) (p c : Nat) (v : CondSt) : (State.setCond s p c v).bench = s.bench := rfl
@[simp] theorem State.setCond_queues (s : State) (p c : Nat) (v : CondSt) : (State.setCond s p c v).queues = s.queues := rfl
@[simp] theorem State.setCond_qmg (s : State) (p c : Nat) (v : CondSt) : (State.setCond s p c v).qmg = s.qmg := rfl
@[simp] theorem State.setCond_rings (s : State) (p c : Nat) (v : CondSt) : (State.setCond s p c v).rings = s.rings := rfl
@[simp] theorem State.setCond_host (s : State) (p c : Nat) (v : CondSt) : (State.setCond s p c v).host = s.host := rfl
@[simp] theorem State.setCond_hostMem (s : State) (p c : Nat) (v : CondSt) : (State.setCond s p c v).hostMem = s.hostMem := rfl
@[simp] theorem State.setCond_sec (s : State) (p c : Nat) (v : CondSt) : (State.setCond s p c v).sec = s.sec := rfl
@[simp] theorem State.setCond_reads (s : State) (p c : Nat) (v : CondSt) : (State.setCond s p c v).reads = s.reads := rfl
@[simp] theorem State.setCond_ctl (s : State) (p c : Nat) (v : CondSt) : (State.setCond s p c v).ctl = s.ctl := rfl
@[simp] theorem State.setCond_met (s : State) (p c : Nat) (v : CondSt) : (State.setCond s p c v).met = s.met := rfl
@[simp] theorem State.setCond_hkc (s : State) (p c : Nat) (v : CondSt) : (State.setCond s p c v).hkc = s.hkc := rfl
@[simp] theorem State.setCond_maps (s : State) (p c : Nat) (v : CondSt) : (State.setCond s p c v).maps = s.maps := rfl
@[simp] theorem State.setCond_mac (s : State) (p c : Nat) (v : CondSt) : (State.setCond s p c v).mac = s.mac := rfl
@[simp] theorem State.setCond_link (s : State) (p c : Nat) (v : CondSt) : (State.setCond s p c v).link = s.link := rfl
@[simp] theorem State.setCond_net (s : State) (p c : Nat) (v : CondSt) : (State.setCond s p c v).net = s.net := rfl
@[simp] theorem State.setCond_msg (s : State) (p c : Nat) (v : CondSt) : (State.setCond s p c v).msg = s.msg := rfl
@[simp] theorem State.setCond_srv (s : State) (p c : Nat) (v : CondSt) : (State.setCond s p c v).srv = s.srv := rfl
@[simp] theorem State.setCond_md (s : State) (p c : Nat) (v : CondSt) : (State.setCond s p c v).md = s.md := rfl
@[simp] theorem State.setCond_io (s : State) (p c : Nat) (v : CondSt) : (State.setCond s p c v).io = s.io := rfl
@[simp] theorem State.setCond_boot (s : State) (p c : Nat) (v : CondSt) : (State.setCond s p c v).boot = s.boot := rfl
@[simp] theorem State.setCond_tst (s : State) (p c : Nat) (v : CondSt) : (State.setCond s p c v).tst = s.tst := rfl
@[simp] theorem State.setCond_dap (s : State) (p c : Nat) (v : CondSt) : (State.setCond s p c v).dap = s.dap := rfl
@[simp] theorem State.setCond_eng (s : State) (p c : Nat) (v : CondSt) : (State.setCond s p c v).eng = s.eng := rfl
@[simp] theorem State.setCond_ump (s : State) (p c : Nat) (v : CondSt) : (State.setCond s p c v).ump = s.ump := rfl
@[simp] theorem State.setCond_lgc (s : State) (p c : Nat) (v : CondSt) : (State.setCond s p c v).lgc = s.lgc := rfl
@[simp] theorem State.setCond_mem (s : State) (p c : Nat) (v : CondSt) : (State.setCond s p c v).mem = s.mem := rfl
@[simp] theorem State.setCond_lgcMem (s : State) (p c : Nat) (v : CondSt) : (State.setCond s p c v).lgcMem = s.lgcMem := rfl
@[simp] theorem State.setCond_pending (s : State) (p c : Nat) (v : CondSt) : (State.setCond s p c v).pending = s.pending := rfl
@[simp] theorem State.setCond_rd (s : State) (p c : Nat) (v : CondSt) (key : Nat) : (State.setCond s p c v).rd key = s.rd key := rfl
@[simp] theorem State.setCond_rf (s : State) (p c : Nat) (v : CondSt) (key lo width : Nat) : (State.setCond s p c v).rf key lo width = s.rf key lo width := rfl
@[simp] theorem State.setCond_rb (s : State) (p c : Nat) (v : CondSt) (key ix : Nat) : (State.setCond s p c v).rb key ix = s.rb key ix := rfl

/-! ## `State.setChan` changes `chans` only -/

@[simp] theorem State.setChan_now (s : State) (p ch : Nat) (v : ChanSt) : (State.setChan s p ch v).now = s.now := rfl
@[simp] theorem State.setChan_draws (s : State) (p ch : Nat) (v : ChanSt) : (State.setChan s p ch v).draws = s.draws := rfl
@[simp] theorem State.setChan_regs (s : State) (p ch : Nat) (v : ChanSt) : (State.setChan s p ch v).regs = s.regs := rfl
@[simp] theorem State.setChan_pages (s : State) (p ch : Nat) (v : ChanSt) : (State.setChan s p ch v).pages = s.pages := rfl
@[simp] theorem State.setChan_groups (s : State) (p ch : Nat) (v : ChanSt) : (State.setChan s p ch v).groups = s.groups := rfl
@[simp] theorem State.setChan_air (s : State) (p ch : Nat) (v : ChanSt) : (State.setChan s p ch v).air = s.air := rfl
@[simp] theorem State.setChan_scb (s : State) (p ch : Nat) (v : ChanSt) : (State.setChan s p ch v).scb = s.scb := rfl
@[simp] theorem State.setChan_vecCycle (s : State) (p ch : Nat) (v : ChanSt) : (State.setChan s p ch v).vecCycle = s.vecCycle := rfl
@[simp] theorem State.setChan_vecSent (s : State) (p ch : Nat) (v : ChanSt) : (State.setChan s p ch v).vecSent = s.vecSent := rfl
@[simp] theorem State.setChan_ctrCycle (s : State) (p ch : Nat) (v : ChanSt) : (State.setChan s p ch v).ctrCycle = s.ctrCycle := rfl
@[simp] theorem State.setChan_ctrInc (s : State) (p ch : Nat) (v : ChanSt) : (State.setChan s p ch v).ctrInc = s.ctrInc := rfl
@[simp] theorem State.setChan_arbCycle (s : State) (p ch : Nat) (v : ChanSt) : (State.setChan s p ch v).arbCycle = s.arbCycle := rfl
@[simp] theorem State.setChan_arbLog (s : State) (p ch : Nat) (v : ChanSt) : (State.setChan s p ch v).arbLog = s.arbLog := rfl
@[simp] theorem State.setChan_aonAt (s : State) (p ch : Nat) (v : ChanSt) : (State.setChan s p ch v).aonAt = s.aonAt := rfl
@[simp] theorem State.setChan_trk (s : State) (p ch : Nat) (v : ChanSt) : (State.setChan s p ch v).trk = s.trk := rfl
@[simp] theorem State.setChan_fix (s : State) (p ch : Nat) (v : ChanSt) : (State.setChan s p ch v).fix = s.fix := rfl
@[simp] theorem State.setChan_conds (s : State) (p ch : Nat) (v : ChanSt) : (State.setChan s p ch v).conds = s.conds := rfl
@[simp] theorem State.setChan_descs (s : State) (p ch : Nat) (v : ChanSt) : (State.setChan s p ch v).descs = s.descs := rfl
@[simp] theorem State.setChan_quiet (s : State) (p ch : Nat) (v : ChanSt) : (State.setChan s p ch v).quiet = s.quiet := rfl
@[simp] theorem State.setChan_sto (s : State) (p ch : Nat) (v : ChanSt) : (State.setChan s p ch v).sto = s.sto := rfl
@[simp] theorem State.setChan_bench (s : State) (p ch : Nat) (v : ChanSt) : (State.setChan s p ch v).bench = s.bench := rfl
@[simp] theorem State.setChan_queues (s : State) (p ch : Nat) (v : ChanSt) : (State.setChan s p ch v).queues = s.queues := rfl
@[simp] theorem State.setChan_qmg (s : State) (p ch : Nat) (v : ChanSt) : (State.setChan s p ch v).qmg = s.qmg := rfl
@[simp] theorem State.setChan_rings (s : State) (p ch : Nat) (v : ChanSt) : (State.setChan s p ch v).rings = s.rings := rfl
@[simp] theorem State.setChan_host (s : State) (p ch : Nat) (v : ChanSt) : (State.setChan s p ch v).host = s.host := rfl
@[simp] theorem State.setChan_hostMem (s : State) (p ch : Nat) (v : ChanSt) : (State.setChan s p ch v).hostMem = s.hostMem := rfl
@[simp] theorem State.setChan_sec (s : State) (p ch : Nat) (v : ChanSt) : (State.setChan s p ch v).sec = s.sec := rfl
@[simp] theorem State.setChan_reads (s : State) (p ch : Nat) (v : ChanSt) : (State.setChan s p ch v).reads = s.reads := rfl
@[simp] theorem State.setChan_ctl (s : State) (p ch : Nat) (v : ChanSt) : (State.setChan s p ch v).ctl = s.ctl := rfl
@[simp] theorem State.setChan_met (s : State) (p ch : Nat) (v : ChanSt) : (State.setChan s p ch v).met = s.met := rfl
@[simp] theorem State.setChan_hkc (s : State) (p ch : Nat) (v : ChanSt) : (State.setChan s p ch v).hkc = s.hkc := rfl
@[simp] theorem State.setChan_maps (s : State) (p ch : Nat) (v : ChanSt) : (State.setChan s p ch v).maps = s.maps := rfl
@[simp] theorem State.setChan_mac (s : State) (p ch : Nat) (v : ChanSt) : (State.setChan s p ch v).mac = s.mac := rfl
@[simp] theorem State.setChan_link (s : State) (p ch : Nat) (v : ChanSt) : (State.setChan s p ch v).link = s.link := rfl
@[simp] theorem State.setChan_net (s : State) (p ch : Nat) (v : ChanSt) : (State.setChan s p ch v).net = s.net := rfl
@[simp] theorem State.setChan_msg (s : State) (p ch : Nat) (v : ChanSt) : (State.setChan s p ch v).msg = s.msg := rfl
@[simp] theorem State.setChan_srv (s : State) (p ch : Nat) (v : ChanSt) : (State.setChan s p ch v).srv = s.srv := rfl
@[simp] theorem State.setChan_md (s : State) (p ch : Nat) (v : ChanSt) : (State.setChan s p ch v).md = s.md := rfl
@[simp] theorem State.setChan_io (s : State) (p ch : Nat) (v : ChanSt) : (State.setChan s p ch v).io = s.io := rfl
@[simp] theorem State.setChan_boot (s : State) (p ch : Nat) (v : ChanSt) : (State.setChan s p ch v).boot = s.boot := rfl
@[simp] theorem State.setChan_tst (s : State) (p ch : Nat) (v : ChanSt) : (State.setChan s p ch v).tst = s.tst := rfl
@[simp] theorem State.setChan_dap (s : State) (p ch : Nat) (v : ChanSt) : (State.setChan s p ch v).dap = s.dap := rfl
@[simp] theorem State.setChan_eng (s : State) (p ch : Nat) (v : ChanSt) : (State.setChan s p ch v).eng = s.eng := rfl
@[simp] theorem State.setChan_ump (s : State) (p ch : Nat) (v : ChanSt) : (State.setChan s p ch v).ump = s.ump := rfl
@[simp] theorem State.setChan_lgc (s : State) (p ch : Nat) (v : ChanSt) : (State.setChan s p ch v).lgc = s.lgc := rfl
@[simp] theorem State.setChan_mem (s : State) (p ch : Nat) (v : ChanSt) : (State.setChan s p ch v).mem = s.mem := rfl
@[simp] theorem State.setChan_lgcMem (s : State) (p ch : Nat) (v : ChanSt) : (State.setChan s p ch v).lgcMem = s.lgcMem := rfl
@[simp] theorem State.setChan_pending (s : State) (p ch : Nat) (v : ChanSt) : (State.setChan s p ch v).pending = s.pending := rfl
@[simp] theorem State.setChan_rd (s : State) (p ch : Nat) (v : ChanSt) (key : Nat) : (State.setChan s p ch v).rd key = s.rd key := rfl
@[simp] theorem State.setChan_rf (s : State) (p ch : Nat) (v : ChanSt) (key lo width : Nat) : (State.setChan s p ch v).rf key lo width = s.rf key lo width := rfl
@[simp] theorem State.setChan_rb (s : State) (p ch : Nat) (v : ChanSt) (key ix : Nat) : (State.setChan s p ch v).rb key ix = s.rb key ix := rfl

/-! ## `State.setNbr` changes `link` only -/

@[simp] theorem State.setNbr_now (s : State) (k : Nat) (v : NbrRec) : (State.setNbr s k v).now = s.now := rfl
@[simp] theorem State.setNbr_draws (s : State) (k : Nat) (v : NbrRec) : (State.setNbr s k v).draws = s.draws := rfl
@[simp] theorem State.setNbr_regs (s : State) (k : Nat) (v : NbrRec) : (State.setNbr s k v).regs = s.regs := rfl
@[simp] theorem State.setNbr_pages (s : State) (k : Nat) (v : NbrRec) : (State.setNbr s k v).pages = s.pages := rfl
@[simp] theorem State.setNbr_groups (s : State) (k : Nat) (v : NbrRec) : (State.setNbr s k v).groups = s.groups := rfl
@[simp] theorem State.setNbr_air (s : State) (k : Nat) (v : NbrRec) : (State.setNbr s k v).air = s.air := rfl
@[simp] theorem State.setNbr_scb (s : State) (k : Nat) (v : NbrRec) : (State.setNbr s k v).scb = s.scb := rfl
@[simp] theorem State.setNbr_vecCycle (s : State) (k : Nat) (v : NbrRec) : (State.setNbr s k v).vecCycle = s.vecCycle := rfl
@[simp] theorem State.setNbr_vecSent (s : State) (k : Nat) (v : NbrRec) : (State.setNbr s k v).vecSent = s.vecSent := rfl
@[simp] theorem State.setNbr_ctrCycle (s : State) (k : Nat) (v : NbrRec) : (State.setNbr s k v).ctrCycle = s.ctrCycle := rfl
@[simp] theorem State.setNbr_ctrInc (s : State) (k : Nat) (v : NbrRec) : (State.setNbr s k v).ctrInc = s.ctrInc := rfl
@[simp] theorem State.setNbr_arbCycle (s : State) (k : Nat) (v : NbrRec) : (State.setNbr s k v).arbCycle = s.arbCycle := rfl
@[simp] theorem State.setNbr_arbLog (s : State) (k : Nat) (v : NbrRec) : (State.setNbr s k v).arbLog = s.arbLog := rfl
@[simp] theorem State.setNbr_aonAt (s : State) (k : Nat) (v : NbrRec) : (State.setNbr s k v).aonAt = s.aonAt := rfl
@[simp] theorem State.setNbr_trk (s : State) (k : Nat) (v : NbrRec) : (State.setNbr s k v).trk = s.trk := rfl
@[simp] theorem State.setNbr_fix (s : State) (k : Nat) (v : NbrRec) : (State.setNbr s k v).fix = s.fix := rfl
@[simp] theorem State.setNbr_conds (s : State) (k : Nat) (v : NbrRec) : (State.setNbr s k v).conds = s.conds := rfl
@[simp] theorem State.setNbr_chans (s : State) (k : Nat) (v : NbrRec) : (State.setNbr s k v).chans = s.chans := rfl
@[simp] theorem State.setNbr_descs (s : State) (k : Nat) (v : NbrRec) : (State.setNbr s k v).descs = s.descs := rfl
@[simp] theorem State.setNbr_quiet (s : State) (k : Nat) (v : NbrRec) : (State.setNbr s k v).quiet = s.quiet := rfl
@[simp] theorem State.setNbr_sto (s : State) (k : Nat) (v : NbrRec) : (State.setNbr s k v).sto = s.sto := rfl
@[simp] theorem State.setNbr_bench (s : State) (k : Nat) (v : NbrRec) : (State.setNbr s k v).bench = s.bench := rfl
@[simp] theorem State.setNbr_queues (s : State) (k : Nat) (v : NbrRec) : (State.setNbr s k v).queues = s.queues := rfl
@[simp] theorem State.setNbr_qmg (s : State) (k : Nat) (v : NbrRec) : (State.setNbr s k v).qmg = s.qmg := rfl
@[simp] theorem State.setNbr_rings (s : State) (k : Nat) (v : NbrRec) : (State.setNbr s k v).rings = s.rings := rfl
@[simp] theorem State.setNbr_host (s : State) (k : Nat) (v : NbrRec) : (State.setNbr s k v).host = s.host := rfl
@[simp] theorem State.setNbr_hostMem (s : State) (k : Nat) (v : NbrRec) : (State.setNbr s k v).hostMem = s.hostMem := rfl
@[simp] theorem State.setNbr_sec (s : State) (k : Nat) (v : NbrRec) : (State.setNbr s k v).sec = s.sec := rfl
@[simp] theorem State.setNbr_reads (s : State) (k : Nat) (v : NbrRec) : (State.setNbr s k v).reads = s.reads := rfl
@[simp] theorem State.setNbr_ctl (s : State) (k : Nat) (v : NbrRec) : (State.setNbr s k v).ctl = s.ctl := rfl
@[simp] theorem State.setNbr_met (s : State) (k : Nat) (v : NbrRec) : (State.setNbr s k v).met = s.met := rfl
@[simp] theorem State.setNbr_hkc (s : State) (k : Nat) (v : NbrRec) : (State.setNbr s k v).hkc = s.hkc := rfl
@[simp] theorem State.setNbr_maps (s : State) (k : Nat) (v : NbrRec) : (State.setNbr s k v).maps = s.maps := rfl
@[simp] theorem State.setNbr_mac (s : State) (k : Nat) (v : NbrRec) : (State.setNbr s k v).mac = s.mac := rfl
@[simp] theorem State.setNbr_net (s : State) (k : Nat) (v : NbrRec) : (State.setNbr s k v).net = s.net := rfl
@[simp] theorem State.setNbr_msg (s : State) (k : Nat) (v : NbrRec) : (State.setNbr s k v).msg = s.msg := rfl
@[simp] theorem State.setNbr_srv (s : State) (k : Nat) (v : NbrRec) : (State.setNbr s k v).srv = s.srv := rfl
@[simp] theorem State.setNbr_md (s : State) (k : Nat) (v : NbrRec) : (State.setNbr s k v).md = s.md := rfl
@[simp] theorem State.setNbr_io (s : State) (k : Nat) (v : NbrRec) : (State.setNbr s k v).io = s.io := rfl
@[simp] theorem State.setNbr_boot (s : State) (k : Nat) (v : NbrRec) : (State.setNbr s k v).boot = s.boot := rfl
@[simp] theorem State.setNbr_tst (s : State) (k : Nat) (v : NbrRec) : (State.setNbr s k v).tst = s.tst := rfl
@[simp] theorem State.setNbr_dap (s : State) (k : Nat) (v : NbrRec) : (State.setNbr s k v).dap = s.dap := rfl
@[simp] theorem State.setNbr_eng (s : State) (k : Nat) (v : NbrRec) : (State.setNbr s k v).eng = s.eng := rfl
@[simp] theorem State.setNbr_ump (s : State) (k : Nat) (v : NbrRec) : (State.setNbr s k v).ump = s.ump := rfl
@[simp] theorem State.setNbr_lgc (s : State) (k : Nat) (v : NbrRec) : (State.setNbr s k v).lgc = s.lgc := rfl
@[simp] theorem State.setNbr_mem (s : State) (k : Nat) (v : NbrRec) : (State.setNbr s k v).mem = s.mem := rfl
@[simp] theorem State.setNbr_lgcMem (s : State) (k : Nat) (v : NbrRec) : (State.setNbr s k v).lgcMem = s.lgcMem := rfl
@[simp] theorem State.setNbr_pending (s : State) (k : Nat) (v : NbrRec) : (State.setNbr s k v).pending = s.pending := rfl
@[simp] theorem State.setNbr_rd (s : State) (k : Nat) (v : NbrRec) (key : Nat) : (State.setNbr s k v).rd key = s.rd key := rfl
@[simp] theorem State.setNbr_rf (s : State) (k : Nat) (v : NbrRec) (key lo width : Nat) : (State.setNbr s k v).rf key lo width = s.rf key lo width := rfl
@[simp] theorem State.setNbr_rb (s : State) (k : Nat) (v : NbrRec) (key ix : Nat) : (State.setNbr s k v).rb key ix = s.rb key ix := rfl

/-! ## `State.setGroup` changes `groups` only -/

@[simp] theorem State.setGroup_now (s : State) (g : Nat) (v : GroupSt) : (State.setGroup s g v).now = s.now := rfl
@[simp] theorem State.setGroup_draws (s : State) (g : Nat) (v : GroupSt) : (State.setGroup s g v).draws = s.draws := rfl
@[simp] theorem State.setGroup_regs (s : State) (g : Nat) (v : GroupSt) : (State.setGroup s g v).regs = s.regs := rfl
@[simp] theorem State.setGroup_pages (s : State) (g : Nat) (v : GroupSt) : (State.setGroup s g v).pages = s.pages := rfl
@[simp] theorem State.setGroup_air (s : State) (g : Nat) (v : GroupSt) : (State.setGroup s g v).air = s.air := rfl
@[simp] theorem State.setGroup_scb (s : State) (g : Nat) (v : GroupSt) : (State.setGroup s g v).scb = s.scb := rfl
@[simp] theorem State.setGroup_vecCycle (s : State) (g : Nat) (v : GroupSt) : (State.setGroup s g v).vecCycle = s.vecCycle := rfl
@[simp] theorem State.setGroup_vecSent (s : State) (g : Nat) (v : GroupSt) : (State.setGroup s g v).vecSent = s.vecSent := rfl
@[simp] theorem State.setGroup_ctrCycle (s : State) (g : Nat) (v : GroupSt) : (State.setGroup s g v).ctrCycle = s.ctrCycle := rfl
@[simp] theorem State.setGroup_ctrInc (s : State) (g : Nat) (v : GroupSt) : (State.setGroup s g v).ctrInc = s.ctrInc := rfl
@[simp] theorem State.setGroup_arbCycle (s : State) (g : Nat) (v : GroupSt) : (State.setGroup s g v).arbCycle = s.arbCycle := rfl
@[simp] theorem State.setGroup_arbLog (s : State) (g : Nat) (v : GroupSt) : (State.setGroup s g v).arbLog = s.arbLog := rfl
@[simp] theorem State.setGroup_aonAt (s : State) (g : Nat) (v : GroupSt) : (State.setGroup s g v).aonAt = s.aonAt := rfl
@[simp] theorem State.setGroup_trk (s : State) (g : Nat) (v : GroupSt) : (State.setGroup s g v).trk = s.trk := rfl
@[simp] theorem State.setGroup_fix (s : State) (g : Nat) (v : GroupSt) : (State.setGroup s g v).fix = s.fix := rfl
@[simp] theorem State.setGroup_conds (s : State) (g : Nat) (v : GroupSt) : (State.setGroup s g v).conds = s.conds := rfl
@[simp] theorem State.setGroup_chans (s : State) (g : Nat) (v : GroupSt) : (State.setGroup s g v).chans = s.chans := rfl
@[simp] theorem State.setGroup_descs (s : State) (g : Nat) (v : GroupSt) : (State.setGroup s g v).descs = s.descs := rfl
@[simp] theorem State.setGroup_quiet (s : State) (g : Nat) (v : GroupSt) : (State.setGroup s g v).quiet = s.quiet := rfl
@[simp] theorem State.setGroup_sto (s : State) (g : Nat) (v : GroupSt) : (State.setGroup s g v).sto = s.sto := rfl
@[simp] theorem State.setGroup_bench (s : State) (g : Nat) (v : GroupSt) : (State.setGroup s g v).bench = s.bench := rfl
@[simp] theorem State.setGroup_queues (s : State) (g : Nat) (v : GroupSt) : (State.setGroup s g v).queues = s.queues := rfl
@[simp] theorem State.setGroup_qmg (s : State) (g : Nat) (v : GroupSt) : (State.setGroup s g v).qmg = s.qmg := rfl
@[simp] theorem State.setGroup_rings (s : State) (g : Nat) (v : GroupSt) : (State.setGroup s g v).rings = s.rings := rfl
@[simp] theorem State.setGroup_host (s : State) (g : Nat) (v : GroupSt) : (State.setGroup s g v).host = s.host := rfl
@[simp] theorem State.setGroup_hostMem (s : State) (g : Nat) (v : GroupSt) : (State.setGroup s g v).hostMem = s.hostMem := rfl
@[simp] theorem State.setGroup_sec (s : State) (g : Nat) (v : GroupSt) : (State.setGroup s g v).sec = s.sec := rfl
@[simp] theorem State.setGroup_reads (s : State) (g : Nat) (v : GroupSt) : (State.setGroup s g v).reads = s.reads := rfl
@[simp] theorem State.setGroup_ctl (s : State) (g : Nat) (v : GroupSt) : (State.setGroup s g v).ctl = s.ctl := rfl
@[simp] theorem State.setGroup_met (s : State) (g : Nat) (v : GroupSt) : (State.setGroup s g v).met = s.met := rfl
@[simp] theorem State.setGroup_hkc (s : State) (g : Nat) (v : GroupSt) : (State.setGroup s g v).hkc = s.hkc := rfl
@[simp] theorem State.setGroup_maps (s : State) (g : Nat) (v : GroupSt) : (State.setGroup s g v).maps = s.maps := rfl
@[simp] theorem State.setGroup_mac (s : State) (g : Nat) (v : GroupSt) : (State.setGroup s g v).mac = s.mac := rfl
@[simp] theorem State.setGroup_link (s : State) (g : Nat) (v : GroupSt) : (State.setGroup s g v).link = s.link := rfl
@[simp] theorem State.setGroup_net (s : State) (g : Nat) (v : GroupSt) : (State.setGroup s g v).net = s.net := rfl
@[simp] theorem State.setGroup_msg (s : State) (g : Nat) (v : GroupSt) : (State.setGroup s g v).msg = s.msg := rfl
@[simp] theorem State.setGroup_srv (s : State) (g : Nat) (v : GroupSt) : (State.setGroup s g v).srv = s.srv := rfl
@[simp] theorem State.setGroup_md (s : State) (g : Nat) (v : GroupSt) : (State.setGroup s g v).md = s.md := rfl
@[simp] theorem State.setGroup_io (s : State) (g : Nat) (v : GroupSt) : (State.setGroup s g v).io = s.io := rfl
@[simp] theorem State.setGroup_boot (s : State) (g : Nat) (v : GroupSt) : (State.setGroup s g v).boot = s.boot := rfl
@[simp] theorem State.setGroup_tst (s : State) (g : Nat) (v : GroupSt) : (State.setGroup s g v).tst = s.tst := rfl
@[simp] theorem State.setGroup_dap (s : State) (g : Nat) (v : GroupSt) : (State.setGroup s g v).dap = s.dap := rfl
@[simp] theorem State.setGroup_eng (s : State) (g : Nat) (v : GroupSt) : (State.setGroup s g v).eng = s.eng := rfl
@[simp] theorem State.setGroup_ump (s : State) (g : Nat) (v : GroupSt) : (State.setGroup s g v).ump = s.ump := rfl
@[simp] theorem State.setGroup_lgc (s : State) (g : Nat) (v : GroupSt) : (State.setGroup s g v).lgc = s.lgc := rfl
@[simp] theorem State.setGroup_mem (s : State) (g : Nat) (v : GroupSt) : (State.setGroup s g v).mem = s.mem := rfl
@[simp] theorem State.setGroup_lgcMem (s : State) (g : Nat) (v : GroupSt) : (State.setGroup s g v).lgcMem = s.lgcMem := rfl
@[simp] theorem State.setGroup_pending (s : State) (g : Nat) (v : GroupSt) : (State.setGroup s g v).pending = s.pending := rfl
@[simp] theorem State.setGroup_rd (s : State) (g : Nat) (v : GroupSt) (key : Nat) : (State.setGroup s g v).rd key = s.rd key := rfl
@[simp] theorem State.setGroup_rf (s : State) (g : Nat) (v : GroupSt) (key lo width : Nat) : (State.setGroup s g v).rf key lo width = s.rf key lo width := rfl
@[simp] theorem State.setGroup_rb (s : State) (g : Nat) (v : GroupSt) (key ix : Nat) : (State.setGroup s g v).rb key ix = s.rb key ix := rfl

/-! ## `State.setMst` changes `ump` only -/

@[simp] theorem State.setMst_now (s : State) (m : Nat) (v : MasterSt) : (State.setMst s m v).now = s.now := rfl
@[simp] theorem State.setMst_draws (s : State) (m : Nat) (v : MasterSt) : (State.setMst s m v).draws = s.draws := rfl
@[simp] theorem State.setMst_regs (s : State) (m : Nat) (v : MasterSt) : (State.setMst s m v).regs = s.regs := rfl
@[simp] theorem State.setMst_pages (s : State) (m : Nat) (v : MasterSt) : (State.setMst s m v).pages = s.pages := rfl
@[simp] theorem State.setMst_groups (s : State) (m : Nat) (v : MasterSt) : (State.setMst s m v).groups = s.groups := rfl
@[simp] theorem State.setMst_air (s : State) (m : Nat) (v : MasterSt) : (State.setMst s m v).air = s.air := rfl
@[simp] theorem State.setMst_scb (s : State) (m : Nat) (v : MasterSt) : (State.setMst s m v).scb = s.scb := rfl
@[simp] theorem State.setMst_vecCycle (s : State) (m : Nat) (v : MasterSt) : (State.setMst s m v).vecCycle = s.vecCycle := rfl
@[simp] theorem State.setMst_vecSent (s : State) (m : Nat) (v : MasterSt) : (State.setMst s m v).vecSent = s.vecSent := rfl
@[simp] theorem State.setMst_ctrCycle (s : State) (m : Nat) (v : MasterSt) : (State.setMst s m v).ctrCycle = s.ctrCycle := rfl
@[simp] theorem State.setMst_ctrInc (s : State) (m : Nat) (v : MasterSt) : (State.setMst s m v).ctrInc = s.ctrInc := rfl
@[simp] theorem State.setMst_arbCycle (s : State) (m : Nat) (v : MasterSt) : (State.setMst s m v).arbCycle = s.arbCycle := rfl
@[simp] theorem State.setMst_arbLog (s : State) (m : Nat) (v : MasterSt) : (State.setMst s m v).arbLog = s.arbLog := rfl
@[simp] theorem State.setMst_aonAt (s : State) (m : Nat) (v : MasterSt) : (State.setMst s m v).aonAt = s.aonAt := rfl
@[simp] theorem State.setMst_trk (s : State) (m : Nat) (v : MasterSt) : (State.setMst s m v).trk = s.trk := rfl
@[simp] theorem State.setMst_fix (s : State) (m : Nat) (v : MasterSt) : (State.setMst s m v).fix = s.fix := rfl
@[simp] theorem State.setMst_conds (s : State) (m : Nat) (v : MasterSt) : (State.setMst s m v).conds = s.conds := rfl
@[simp] theorem State.setMst_chans (s : State) (m : Nat) (v : MasterSt) : (State.setMst s m v).chans = s.chans := rfl
@[simp] theorem State.setMst_descs (s : State) (m : Nat) (v : MasterSt) : (State.setMst s m v).descs = s.descs := rfl
@[simp] theorem State.setMst_quiet (s : State) (m : Nat) (v : MasterSt) : (State.setMst s m v).quiet = s.quiet := rfl
@[simp] theorem State.setMst_sto (s : State) (m : Nat) (v : MasterSt) : (State.setMst s m v).sto = s.sto := rfl
@[simp] theorem State.setMst_bench (s : State) (m : Nat) (v : MasterSt) : (State.setMst s m v).bench = s.bench := rfl
@[simp] theorem State.setMst_queues (s : State) (m : Nat) (v : MasterSt) : (State.setMst s m v).queues = s.queues := rfl
@[simp] theorem State.setMst_qmg (s : State) (m : Nat) (v : MasterSt) : (State.setMst s m v).qmg = s.qmg := rfl
@[simp] theorem State.setMst_rings (s : State) (m : Nat) (v : MasterSt) : (State.setMst s m v).rings = s.rings := rfl
@[simp] theorem State.setMst_host (s : State) (m : Nat) (v : MasterSt) : (State.setMst s m v).host = s.host := rfl
@[simp] theorem State.setMst_hostMem (s : State) (m : Nat) (v : MasterSt) : (State.setMst s m v).hostMem = s.hostMem := rfl
@[simp] theorem State.setMst_sec (s : State) (m : Nat) (v : MasterSt) : (State.setMst s m v).sec = s.sec := rfl
@[simp] theorem State.setMst_reads (s : State) (m : Nat) (v : MasterSt) : (State.setMst s m v).reads = s.reads := rfl
@[simp] theorem State.setMst_ctl (s : State) (m : Nat) (v : MasterSt) : (State.setMst s m v).ctl = s.ctl := rfl
@[simp] theorem State.setMst_met (s : State) (m : Nat) (v : MasterSt) : (State.setMst s m v).met = s.met := rfl
@[simp] theorem State.setMst_hkc (s : State) (m : Nat) (v : MasterSt) : (State.setMst s m v).hkc = s.hkc := rfl
@[simp] theorem State.setMst_maps (s : State) (m : Nat) (v : MasterSt) : (State.setMst s m v).maps = s.maps := rfl
@[simp] theorem State.setMst_mac (s : State) (m : Nat) (v : MasterSt) : (State.setMst s m v).mac = s.mac := rfl
@[simp] theorem State.setMst_link (s : State) (m : Nat) (v : MasterSt) : (State.setMst s m v).link = s.link := rfl
@[simp] theorem State.setMst_net (s : State) (m : Nat) (v : MasterSt) : (State.setMst s m v).net = s.net := rfl
@[simp] theorem State.setMst_msg (s : State) (m : Nat) (v : MasterSt) : (State.setMst s m v).msg = s.msg := rfl
@[simp] theorem State.setMst_srv (s : State) (m : Nat) (v : MasterSt) : (State.setMst s m v).srv = s.srv := rfl
@[simp] theorem State.setMst_md (s : State) (m : Nat) (v : MasterSt) : (State.setMst s m v).md = s.md := rfl
@[simp] theorem State.setMst_io (s : State) (m : Nat) (v : MasterSt) : (State.setMst s m v).io = s.io := rfl
@[simp] theorem State.setMst_boot (s : State) (m : Nat) (v : MasterSt) : (State.setMst s m v).boot = s.boot := rfl
@[simp] theorem State.setMst_tst (s : State) (m : Nat) (v : MasterSt) : (State.setMst s m v).tst = s.tst := rfl
@[simp] theorem State.setMst_dap (s : State) (m : Nat) (v : MasterSt) : (State.setMst s m v).dap = s.dap := rfl
@[simp] theorem State.setMst_eng (s : State) (m : Nat) (v : MasterSt) : (State.setMst s m v).eng = s.eng := rfl
@[simp] theorem State.setMst_lgc (s : State) (m : Nat) (v : MasterSt) : (State.setMst s m v).lgc = s.lgc := rfl
@[simp] theorem State.setMst_mem (s : State) (m : Nat) (v : MasterSt) : (State.setMst s m v).mem = s.mem := rfl
@[simp] theorem State.setMst_lgcMem (s : State) (m : Nat) (v : MasterSt) : (State.setMst s m v).lgcMem = s.lgcMem := rfl
@[simp] theorem State.setMst_pending (s : State) (m : Nat) (v : MasterSt) : (State.setMst s m v).pending = s.pending := rfl
@[simp] theorem State.setMst_rd (s : State) (m : Nat) (v : MasterSt) (key : Nat) : (State.setMst s m v).rd key = s.rd key := rfl
@[simp] theorem State.setMst_rf (s : State) (m : Nat) (v : MasterSt) (key lo width : Nat) : (State.setMst s m v).rf key lo width = s.rf key lo width := rfl
@[simp] theorem State.setMst_rb (s : State) (m : Nat) (v : MasterSt) (key ix : Nat) : (State.setMst s m v).rb key ix = s.rb key ix := rfl

/-! ## `State.setLslot` changes `lgc` only -/

@[simp] theorem State.setLslot_now (s : State) (k : Nat) (v : LgcSlot) : (State.setLslot s k v).now = s.now := rfl
@[simp] theorem State.setLslot_draws (s : State) (k : Nat) (v : LgcSlot) : (State.setLslot s k v).draws = s.draws := rfl
@[simp] theorem State.setLslot_regs (s : State) (k : Nat) (v : LgcSlot) : (State.setLslot s k v).regs = s.regs := rfl
@[simp] theorem State.setLslot_pages (s : State) (k : Nat) (v : LgcSlot) : (State.setLslot s k v).pages = s.pages := rfl
@[simp] theorem State.setLslot_groups (s : State) (k : Nat) (v : LgcSlot) : (State.setLslot s k v).groups = s.groups := rfl
@[simp] theorem State.setLslot_air (s : State) (k : Nat) (v : LgcSlot) : (State.setLslot s k v).air = s.air := rfl
@[simp] theorem State.setLslot_scb (s : State) (k : Nat) (v : LgcSlot) : (State.setLslot s k v).scb = s.scb := rfl
@[simp] theorem State.setLslot_vecCycle (s : State) (k : Nat) (v : LgcSlot) : (State.setLslot s k v).vecCycle = s.vecCycle := rfl
@[simp] theorem State.setLslot_vecSent (s : State) (k : Nat) (v : LgcSlot) : (State.setLslot s k v).vecSent = s.vecSent := rfl
@[simp] theorem State.setLslot_ctrCycle (s : State) (k : Nat) (v : LgcSlot) : (State.setLslot s k v).ctrCycle = s.ctrCycle := rfl
@[simp] theorem State.setLslot_ctrInc (s : State) (k : Nat) (v : LgcSlot) : (State.setLslot s k v).ctrInc = s.ctrInc := rfl
@[simp] theorem State.setLslot_arbCycle (s : State) (k : Nat) (v : LgcSlot) : (State.setLslot s k v).arbCycle = s.arbCycle := rfl
@[simp] theorem State.setLslot_arbLog (s : State) (k : Nat) (v : LgcSlot) : (State.setLslot s k v).arbLog = s.arbLog := rfl
@[simp] theorem State.setLslot_aonAt (s : State) (k : Nat) (v : LgcSlot) : (State.setLslot s k v).aonAt = s.aonAt := rfl
@[simp] theorem State.setLslot_trk (s : State) (k : Nat) (v : LgcSlot) : (State.setLslot s k v).trk = s.trk := rfl
@[simp] theorem State.setLslot_fix (s : State) (k : Nat) (v : LgcSlot) : (State.setLslot s k v).fix = s.fix := rfl
@[simp] theorem State.setLslot_conds (s : State) (k : Nat) (v : LgcSlot) : (State.setLslot s k v).conds = s.conds := rfl
@[simp] theorem State.setLslot_chans (s : State) (k : Nat) (v : LgcSlot) : (State.setLslot s k v).chans = s.chans := rfl
@[simp] theorem State.setLslot_descs (s : State) (k : Nat) (v : LgcSlot) : (State.setLslot s k v).descs = s.descs := rfl
@[simp] theorem State.setLslot_quiet (s : State) (k : Nat) (v : LgcSlot) : (State.setLslot s k v).quiet = s.quiet := rfl
@[simp] theorem State.setLslot_sto (s : State) (k : Nat) (v : LgcSlot) : (State.setLslot s k v).sto = s.sto := rfl
@[simp] theorem State.setLslot_bench (s : State) (k : Nat) (v : LgcSlot) : (State.setLslot s k v).bench = s.bench := rfl
@[simp] theorem State.setLslot_queues (s : State) (k : Nat) (v : LgcSlot) : (State.setLslot s k v).queues = s.queues := rfl
@[simp] theorem State.setLslot_qmg (s : State) (k : Nat) (v : LgcSlot) : (State.setLslot s k v).qmg = s.qmg := rfl
@[simp] theorem State.setLslot_rings (s : State) (k : Nat) (v : LgcSlot) : (State.setLslot s k v).rings = s.rings := rfl
@[simp] theorem State.setLslot_host (s : State) (k : Nat) (v : LgcSlot) : (State.setLslot s k v).host = s.host := rfl
@[simp] theorem State.setLslot_hostMem (s : State) (k : Nat) (v : LgcSlot) : (State.setLslot s k v).hostMem = s.hostMem := rfl
@[simp] theorem State.setLslot_sec (s : State) (k : Nat) (v : LgcSlot) : (State.setLslot s k v).sec = s.sec := rfl
@[simp] theorem State.setLslot_reads (s : State) (k : Nat) (v : LgcSlot) : (State.setLslot s k v).reads = s.reads := rfl
@[simp] theorem State.setLslot_ctl (s : State) (k : Nat) (v : LgcSlot) : (State.setLslot s k v).ctl = s.ctl := rfl
@[simp] theorem State.setLslot_met (s : State) (k : Nat) (v : LgcSlot) : (State.setLslot s k v).met = s.met := rfl
@[simp] theorem State.setLslot_hkc (s : State) (k : Nat) (v : LgcSlot) : (State.setLslot s k v).hkc = s.hkc := rfl
@[simp] theorem State.setLslot_maps (s : State) (k : Nat) (v : LgcSlot) : (State.setLslot s k v).maps = s.maps := rfl
@[simp] theorem State.setLslot_mac (s : State) (k : Nat) (v : LgcSlot) : (State.setLslot s k v).mac = s.mac := rfl
@[simp] theorem State.setLslot_link (s : State) (k : Nat) (v : LgcSlot) : (State.setLslot s k v).link = s.link := rfl
@[simp] theorem State.setLslot_net (s : State) (k : Nat) (v : LgcSlot) : (State.setLslot s k v).net = s.net := rfl
@[simp] theorem State.setLslot_msg (s : State) (k : Nat) (v : LgcSlot) : (State.setLslot s k v).msg = s.msg := rfl
@[simp] theorem State.setLslot_srv (s : State) (k : Nat) (v : LgcSlot) : (State.setLslot s k v).srv = s.srv := rfl
@[simp] theorem State.setLslot_md (s : State) (k : Nat) (v : LgcSlot) : (State.setLslot s k v).md = s.md := rfl
@[simp] theorem State.setLslot_io (s : State) (k : Nat) (v : LgcSlot) : (State.setLslot s k v).io = s.io := rfl
@[simp] theorem State.setLslot_boot (s : State) (k : Nat) (v : LgcSlot) : (State.setLslot s k v).boot = s.boot := rfl
@[simp] theorem State.setLslot_tst (s : State) (k : Nat) (v : LgcSlot) : (State.setLslot s k v).tst = s.tst := rfl
@[simp] theorem State.setLslot_dap (s : State) (k : Nat) (v : LgcSlot) : (State.setLslot s k v).dap = s.dap := rfl
@[simp] theorem State.setLslot_eng (s : State) (k : Nat) (v : LgcSlot) : (State.setLslot s k v).eng = s.eng := rfl
@[simp] theorem State.setLslot_ump (s : State) (k : Nat) (v : LgcSlot) : (State.setLslot s k v).ump = s.ump := rfl
@[simp] theorem State.setLslot_mem (s : State) (k : Nat) (v : LgcSlot) : (State.setLslot s k v).mem = s.mem := rfl
@[simp] theorem State.setLslot_lgcMem (s : State) (k : Nat) (v : LgcSlot) : (State.setLslot s k v).lgcMem = s.lgcMem := rfl
@[simp] theorem State.setLslot_pending (s : State) (k : Nat) (v : LgcSlot) : (State.setLslot s k v).pending = s.pending := rfl
@[simp] theorem State.setLslot_rd (s : State) (k : Nat) (v : LgcSlot) (key : Nat) : (State.setLslot s k v).rd key = s.rd key := rfl
@[simp] theorem State.setLslot_rf (s : State) (k : Nat) (v : LgcSlot) (key lo width : Nat) : (State.setLslot s k v).rf key lo width = s.rf key lo width := rfl
@[simp] theorem State.setLslot_rb (s : State) (k : Nat) (v : LgcSlot) (key ix : Nat) : (State.setLslot s k v).rb key ix = s.rb key ix := rfl

/-! ## `State.setOut` changes `ctl` only -/

@[simp] theorem State.setOut_now (s : State) (n : Nat) (v : CtlOut) : (State.setOut s n v).now = s.now := rfl
@[simp] theorem State.setOut_draws (s : State) (n : Nat) (v : CtlOut) : (State.setOut s n v).draws = s.draws := rfl
@[simp] theorem State.setOut_regs (s : State) (n : Nat) (v : CtlOut) : (State.setOut s n v).regs = s.regs := rfl
@[simp] theorem State.setOut_pages (s : State) (n : Nat) (v : CtlOut) : (State.setOut s n v).pages = s.pages := rfl
@[simp] theorem State.setOut_groups (s : State) (n : Nat) (v : CtlOut) : (State.setOut s n v).groups = s.groups := rfl
@[simp] theorem State.setOut_air (s : State) (n : Nat) (v : CtlOut) : (State.setOut s n v).air = s.air := rfl
@[simp] theorem State.setOut_scb (s : State) (n : Nat) (v : CtlOut) : (State.setOut s n v).scb = s.scb := rfl
@[simp] theorem State.setOut_vecCycle (s : State) (n : Nat) (v : CtlOut) : (State.setOut s n v).vecCycle = s.vecCycle := rfl
@[simp] theorem State.setOut_vecSent (s : State) (n : Nat) (v : CtlOut) : (State.setOut s n v).vecSent = s.vecSent := rfl
@[simp] theorem State.setOut_ctrCycle (s : State) (n : Nat) (v : CtlOut) : (State.setOut s n v).ctrCycle = s.ctrCycle := rfl
@[simp] theorem State.setOut_ctrInc (s : State) (n : Nat) (v : CtlOut) : (State.setOut s n v).ctrInc = s.ctrInc := rfl
@[simp] theorem State.setOut_arbCycle (s : State) (n : Nat) (v : CtlOut) : (State.setOut s n v).arbCycle = s.arbCycle := rfl
@[simp] theorem State.setOut_arbLog (s : State) (n : Nat) (v : CtlOut) : (State.setOut s n v).arbLog = s.arbLog := rfl
@[simp] theorem State.setOut_aonAt (s : State) (n : Nat) (v : CtlOut) : (State.setOut s n v).aonAt = s.aonAt := rfl
@[simp] theorem State.setOut_trk (s : State) (n : Nat) (v : CtlOut) : (State.setOut s n v).trk = s.trk := rfl
@[simp] theorem State.setOut_fix (s : State) (n : Nat) (v : CtlOut) : (State.setOut s n v).fix = s.fix := rfl
@[simp] theorem State.setOut_conds (s : State) (n : Nat) (v : CtlOut) : (State.setOut s n v).conds = s.conds := rfl
@[simp] theorem State.setOut_chans (s : State) (n : Nat) (v : CtlOut) : (State.setOut s n v).chans = s.chans := rfl
@[simp] theorem State.setOut_descs (s : State) (n : Nat) (v : CtlOut) : (State.setOut s n v).descs = s.descs := rfl
@[simp] theorem State.setOut_quiet (s : State) (n : Nat) (v : CtlOut) : (State.setOut s n v).quiet = s.quiet := rfl
@[simp] theorem State.setOut_sto (s : State) (n : Nat) (v : CtlOut) : (State.setOut s n v).sto = s.sto := rfl
@[simp] theorem State.setOut_bench (s : State) (n : Nat) (v : CtlOut) : (State.setOut s n v).bench = s.bench := rfl
@[simp] theorem State.setOut_queues (s : State) (n : Nat) (v : CtlOut) : (State.setOut s n v).queues = s.queues := rfl
@[simp] theorem State.setOut_qmg (s : State) (n : Nat) (v : CtlOut) : (State.setOut s n v).qmg = s.qmg := rfl
@[simp] theorem State.setOut_rings (s : State) (n : Nat) (v : CtlOut) : (State.setOut s n v).rings = s.rings := rfl
@[simp] theorem State.setOut_host (s : State) (n : Nat) (v : CtlOut) : (State.setOut s n v).host = s.host := rfl
@[simp] theorem State.setOut_hostMem (s : State) (n : Nat) (v : CtlOut) : (State.setOut s n v).hostMem = s.hostMem := rfl
@[simp] theorem State.setOut_sec (s : State) (n : Nat) (v : CtlOut) : (State.setOut s n v).sec = s.sec := rfl
@[simp] theorem State.setOut_reads (s : State) (n : Nat) (v : CtlOut) : (State.setOut s n v).reads = s.reads := rfl
@[simp] theorem State.setOut_met (s : State) (n : Nat) (v : CtlOut) : (State.setOut s n v).met = s.met := rfl
@[simp] theorem State.setOut_hkc (s : State) (n : Nat) (v : CtlOut) : (State.setOut s n v).hkc = s.hkc := rfl
@[simp] theorem State.setOut_maps (s : State) (n : Nat) (v : CtlOut) : (State.setOut s n v).maps = s.maps := rfl
@[simp] theorem State.setOut_mac (s : State) (n : Nat) (v : CtlOut) : (State.setOut s n v).mac = s.mac := rfl
@[simp] theorem State.setOut_link (s : State) (n : Nat) (v : CtlOut) : (State.setOut s n v).link = s.link := rfl
@[simp] theorem State.setOut_net (s : State) (n : Nat) (v : CtlOut) : (State.setOut s n v).net = s.net := rfl
@[simp] theorem State.setOut_msg (s : State) (n : Nat) (v : CtlOut) : (State.setOut s n v).msg = s.msg := rfl
@[simp] theorem State.setOut_srv (s : State) (n : Nat) (v : CtlOut) : (State.setOut s n v).srv = s.srv := rfl
@[simp] theorem State.setOut_md (s : State) (n : Nat) (v : CtlOut) : (State.setOut s n v).md = s.md := rfl
@[simp] theorem State.setOut_io (s : State) (n : Nat) (v : CtlOut) : (State.setOut s n v).io = s.io := rfl
@[simp] theorem State.setOut_boot (s : State) (n : Nat) (v : CtlOut) : (State.setOut s n v).boot = s.boot := rfl
@[simp] theorem State.setOut_tst (s : State) (n : Nat) (v : CtlOut) : (State.setOut s n v).tst = s.tst := rfl
@[simp] theorem State.setOut_dap (s : State) (n : Nat) (v : CtlOut) : (State.setOut s n v).dap = s.dap := rfl
@[simp] theorem State.setOut_eng (s : State) (n : Nat) (v : CtlOut) : (State.setOut s n v).eng = s.eng := rfl
@[simp] theorem State.setOut_ump (s : State) (n : Nat) (v : CtlOut) : (State.setOut s n v).ump = s.ump := rfl
@[simp] theorem State.setOut_lgc (s : State) (n : Nat) (v : CtlOut) : (State.setOut s n v).lgc = s.lgc := rfl
@[simp] theorem State.setOut_mem (s : State) (n : Nat) (v : CtlOut) : (State.setOut s n v).mem = s.mem := rfl
@[simp] theorem State.setOut_lgcMem (s : State) (n : Nat) (v : CtlOut) : (State.setOut s n v).lgcMem = s.lgcMem := rfl
@[simp] theorem State.setOut_pending (s : State) (n : Nat) (v : CtlOut) : (State.setOut s n v).pending = s.pending := rfl
@[simp] theorem State.setOut_rd (s : State) (n : Nat) (v : CtlOut) (key : Nat) : (State.setOut s n v).rd key = s.rd key := rfl
@[simp] theorem State.setOut_rf (s : State) (n : Nat) (v : CtlOut) (key lo width : Nat) : (State.setOut s n v).rf key lo width = s.rf key lo width := rfl
@[simp] theorem State.setOut_rb (s : State) (n : Nat) (v : CtlOut) (key ix : Nat) : (State.setOut s n v).rb key ix = s.rb key ix := rfl

end Sys2Proof.Machine
end

