-- ==== Sys2Proof/Laws/Interrupts.lean ====
section
/-! SUPPORT. What raising an interrupt can change: `INT_CAUSE` of its page, the pending bits and the message counter, the marks of the fabric cycle (R49), and the packets to the host. -/

-- One declaration after another: the package is compiled as one text, and its memory stays within bounds.
set_option Elab.async false

namespace Sys2Proof.Machine

/-- Everything but registers, page marks, interrupt and counter marks and packets to the host stands as before. -/
structure State.Signals (s t : State) : Prop where
  rest : ∃ regs pages vc vs cc ci host, t = { s with regs := regs, pages := pages, vecCycle := vc, vecSent := vs, ctrCycle := cc, ctrInc := ci, host := host }
  win : ∀ k, k < 2 ^ 26 → k ≠ Reg.MSIX_VEC_CNT → t.rd k = s.rd k
  pages : t.pages = s.pages

theorem State.Signals.refl (s : State) : State.Signals s s := ⟨⟨_, _, _, _, _, _, _, rfl⟩, fun _ _ _ => rfl, rfl⟩

theorem State.raiseVec_signals (s : State) (v : Nat) : State.Signals s (s.raiseVec v) := by
  unfold State.raiseVec
  split
  · refine ⟨⟨_, _, _, _, _, _, _, rfl⟩, fun k hk hn => ?_, rfl⟩
    refine State.rd_wb_ne s _ _ ?_
    simp only [msgBase]
    omega
  · split
    · exact .refl s
    · dsimp only
      split
      · exact ⟨⟨_, _, _, _, _, _, _, rfl⟩, fun k _ hn => State.rd_wr_ne _ _ hn, rfl⟩
      · exact ⟨⟨_, _, _, _, _, _, _, rfl⟩, fun k _ hn => State.rd_wr_ne _ _ hn, rfl⟩

theorem State.raisePage_signals (s : State) (p : Nat) : State.Signals s (s.raisePage p) := by
  unfold State.raisePage
  dsimp only
  split
  · exact State.raiseVec_signals ..
  · exact .refl s

/-- The cause register of the page takes the bits; the other registers of the window stand, but for the message counter. -/
theorem State.setCause_rd (s : State) {p : Nat} (bits : Word) {k : Nat} (hk : k < 2 ^ 26) (hn : k ≠ Reg.MSIX_VEC_CNT) :
    (s.setCause p bits).rd k = if k = Reg.INT_CAUSE p then s.rd k ||| bits else s.rd k := by
  unfold State.setCause
  dsimp only
  have h : ∀ x : PageSt, ((s.wr (Reg.INT_CAUSE p) (s.rd (Reg.INT_CAUSE p) ||| bits)).setPage p x).rd k =
      if k = Reg.INT_CAUSE p then s.rd k ||| bits else s.rd k := by
    intro x
    show (s.wr _ _).rd k = _
    rw [State.rd_wr]
    split
    · rename_i h; rw [h]
    · rfl
  split
  · exact h _
  · rw [(State.raisePage_signals _ p).win k hk hn]; exact h _

/-- Beside registers, page marks, interrupt and counter marks and packets to the host, a cause changes nothing. -/
theorem State.setCause_rest (s : State) (p : Nat) (bits : Word) :
    ∃ regs pages vc vs cc ci host, s.setCause p bits = { s with regs := regs, pages := pages, vecCycle := vc, vecSent := vs, ctrCycle := cc, ctrInc := ci, host := host } := by
  unfold State.setCause
  dsimp only
  generalize (if (s.page p).setCycle == s.fabric + 1 then _ else _) = sb
  split
  · exact ⟨_, _, _, _, _, _, _, rfl⟩
  · obtain ⟨a, b, c, d, e, f, g, h⟩ := (State.raisePage_signals ((s.wr (Reg.INT_CAUSE p) (s.rd (Reg.INT_CAUSE p) ||| bits)).setPage p
      { s.page p with setCycle := s.fabric + 1, setBits := sb }) p).rest
    exact ⟨a, b, c, d, e, f, g, h⟩

end Sys2Proof.Machine
end

