-- ==== Sys2Proof/Laws/Kept.lean ====
section
/-! SUPPORT. What no operation of the block does: move the instant, touch the command queue, set a lifecycle fuse back, break the canonical form of a store or overfill the scorebook's stage. -/

-- One declaration after another: the package is compiled as one text, and its memory stays within bounds.
set_option Elab.async false

namespace Sys2Proof.Machine

/-- What no command of the block does: touch the command queue, set a lifecycle fuse back, break the canonical form of a store, or overfill the scorebook's stage. The instant is the command's own. -/
structure State.Base (s t : State) : Prop where
  now : t.now = s.now
  pending : t.pending = s.pending
  lc : s.sec.lc ≤ t.sec.lc
  wf : s.Wf → t.Wf
  stage : s.scb.stage.length ≤ 64 → t.scb.stage.length ≤ 64

/-- One such change after another. -/
theorem State.Base.trans {s t u : State} (h : State.Base s t) (k : State.Base t u) : State.Base s u :=
  ⟨k.now.trans h.now, k.pending.trans h.pending, Nat.le_trans h.lc k.lc, k.wf ∘ h.wf, k.stage ∘ h.stage⟩

/-- The same, and the debug level does not rise: every operation but the grant of a debug request. -/
structure State.Kept (s t : State) : Prop where
  now : t.now = s.now
  pending : t.pending = s.pending
  lc : s.sec.lc ≤ t.sec.lc
  wf : s.Wf → t.Wf
  stage : s.scb.stage.length ≤ 64 → t.scb.stage.length ≤ 64
  dbg : t.sec.dbg ≤ s.sec.dbg

/-- What is kept with the debug level is kept. -/
theorem State.Kept.base {s t : State} (h : State.Kept s t) : State.Base s t := ⟨h.now, h.pending, h.lc, h.wf, h.stage⟩

namespace State.Kept
variable {s t u : State}

/-- An unchanged state. -/
theorem rfl' : State.Kept s s := ⟨rfl, rfl, Nat.le_refl _, id, id, Nat.le_refl _⟩

/-- One change after another. -/
theorem trans (h : State.Kept s t) (k : State.Kept t u) : State.Kept s u :=
  ⟨k.now.trans h.now, k.pending.trans h.pending, Nat.le_trans h.lc k.lc, k.wf ∘ h.wf, k.stage ∘ h.stage, Nat.le_trans k.dbg h.dbg⟩

/-- An update of fields the relation says nothing of. -/
theorem mk_iff {draws pages groups air vecCycle vecSent ctrCycle ctrInc arbCycle arbLog aonAt trk fix conds chans descs quiet sto bench queues qmg rings host reads ctl met hkc maps mac link net msg srv md io boot tst dap eng ump lgc} : State.Kept s ⟨t.now, draws, t.regs, pages, groups, air, t.scb, vecCycle, vecSent, ctrCycle, ctrInc, arbCycle, arbLog, aonAt, trk, fix, conds, chans, descs, quiet, sto, bench, queues, qmg, rings, host, t.hostMem, t.sec, reads, ctl, met, hkc, maps, mac, link, net, msg, srv, md, io, boot, tst, dap, eng, ump, lgc, t.mem, t.lgcMem, t.pending⟩ ↔ State.Kept s t :=
  ⟨fun h => ⟨h.now, h.pending, h.lc, h.wf, h.stage, h.dbg⟩, fun h => ⟨h.now, h.pending, h.lc, h.wf, h.stage, h.dbg⟩⟩

/-- The same, with the security state changed but for the lifecycle fuses and the debug level. -/
theorem mkSec_iff {draws pages groups air vecCycle vecSent ctrCycle ctrInc arbCycle arbLog aonAt trk fix conds chans descs quiet sto bench queues qmg rings host dusSet_ crk_ vkeys_ ckeys_ own_ slots_ benchUsed_ runs_ aesWait_ outs_ sessions_ nextSid_ drbgN_ drbgAt_ dbgAt_ dbgWas_ lcAt_ drbgOut_ noEntropy_ starved_ flash_ slot_ inTrial_ bootAt_ header_ recovery_ cc91_ cc91At_ idStored_ reads ctl met hkc maps mac link net msg srv md io boot tst dap eng ump lgc} : State.Kept s ⟨t.now, draws, t.regs, pages, groups, air, t.scb, vecCycle, vecSent, ctrCycle, ctrInc, arbCycle, arbLog, aonAt, trk, fix, conds, chans, descs, quiet, sto, bench, queues, qmg, rings, host, t.hostMem, ⟨t.sec.lc, dusSet_, crk_, vkeys_, ckeys_, own_, slots_, benchUsed_, runs_, aesWait_, outs_, sessions_, nextSid_, drbgN_, drbgAt_, t.sec.dbg, dbgAt_, dbgWas_, lcAt_, drbgOut_, noEntropy_, starved_, flash_, slot_, inTrial_, bootAt_, header_, recovery_, cc91_, cc91At_, idStored_⟩, reads, ctl, met, hkc, maps, mac, link, net, msg, srv, md, io, boot, tst, dap, eng, ump, lgc, t.mem, t.lgcMem, t.pending⟩ ↔ State.Kept s t :=
  ⟨fun h => ⟨h.now, h.pending, h.lc, h.wf, h.stage, h.dbg⟩, fun h => ⟨h.now, h.pending, h.lc, h.wf, h.stage, h.dbg⟩⟩

/-- The same, with the scorebook changed but for its stage. -/
theorem mkScb_iff {draws pages groups air ring_ oldest_ perm_ fallback_ vecCycle vecSent ctrCycle ctrInc arbCycle arbLog aonAt trk fix conds chans descs quiet sto bench queues qmg rings host reads ctl met hkc maps mac link net msg srv md io boot tst dap eng ump lgc} : State.Kept s ⟨t.now, draws, t.regs, pages, groups, air, ⟨t.scb.stage, ring_, oldest_, perm_, fallback_⟩, vecCycle, vecSent, ctrCycle, ctrInc, arbCycle, arbLog, aonAt, trk, fix, conds, chans, descs, quiet, sto, bench, queues, qmg, rings, host, t.hostMem, t.sec, reads, ctl, met, hkc, maps, mac, link, net, msg, srv, md, io, boot, tst, dap, eng, ump, lgc, t.mem, t.lgcMem, t.pending⟩ ↔ State.Kept s t :=
  ⟨fun h => ⟨h.now, h.pending, h.lc, h.wf, h.stage, h.dbg⟩, fun h => ⟨h.now, h.pending, h.lc, h.wf, h.stage, h.dbg⟩⟩

/-- Either branch. -/
theorem ite {c : Prop} [Decidable c] {a b : State} (ha : c → State.Kept s a) (hb : ¬ c → State.Kept s b) : State.Kept s (if c then a else b) := by
  split
  · exact ha ‹_›
  · exact hb ‹_›

/-- Either branch, of a pair. -/
theorem iteFst {α : Type} {c : Prop} [Decidable c] {a b : State × α} (ha : c → State.Kept s a.1) (hb : ¬ c → State.Kept s b.1) :
    State.Kept s (if c then a else b).1 := by
  split
  · exact ha ‹_›
  · exact hb ‹_›

/-- Bytes stored in fabric memory. -/
theorem storeMem (h : State.Kept s t) (a : Nat) (b : List Byte) : State.Kept s { t with mem := cellsWrite t.mem a b } :=
  h.trans ⟨rfl, rfl, Nat.le_refl _, fun w => ⟨w.1, wf_cellsWrite _ _ w.2.1, w.2.2⟩, id, Nat.le_refl _⟩

/-- Cells dropped from fabric memory. -/
theorem filterMem (h : State.Kept s t) (f : Host.Cell → Bool) : State.Kept s { t with mem := t.mem.filter f } :=
  h.trans ⟨rfl, rfl, Nat.le_refl _, fun w => ⟨w.1, wf_filter _ w.2.1, w.2.2⟩, id, Nat.le_refl _⟩

/-- Bytes stored in legacy memory. -/
theorem storeLgc (h : State.Kept s t) (a : Nat) (b : List Byte) : State.Kept s { t with lgcMem := cellsWrite t.lgcMem a b } :=
  h.trans ⟨rfl, rfl, Nat.le_refl _, fun w => ⟨w.1, w.2.1, wf_cellsWrite _ _ w.2.2.1, w.2.2.2⟩, id, Nat.le_refl _⟩

/-- Bytes stored in host memory. -/
theorem storeHost (h : State.Kept s t) (a : Nat) (b : List Byte) : State.Kept s { t with hostMem := cellsWrite t.hostMem a b } :=
  h.trans ⟨rfl, rfl, Nat.le_refl _, fun w => ⟨w.1, w.2.1, w.2.2.1, wf_cellsWrite _ _ w.2.2.2⟩, id, Nat.le_refl _⟩

/-- A chain of changes. -/
theorem foldl {α : Type} {f : State → α → State} {l : List α} (hf : ∀ x a, State.Kept s x → State.Kept s (f x a)) (h : State.Kept s t) :
    State.Kept s (l.foldl f t) := by
  induction l generalizing t with
  | nil => exact h
  | cons a l ih => exact ih (hf t a h)

/-- A chain of changes, of pairs. -/
theorem foldlFst {α β : Type} {f : State × β → α → State × β} {l : List α} {x : State × β} (hf : ∀ y a, State.Kept s y.1 → State.Kept s (f y a).1)
    (h : State.Kept s x.1) : State.Kept s (l.foldl f x).1 := by
  induction l generalizing x with
  | nil => exact h
  | cons a l ih => exact ih (hf x a h)

/-- The state of a pair. -/
theorem ofFst {α : Type} {x : State × α} {a : α} (h : x = (t, a)) (k : State.Kept s x.1) : State.Kept s t := by
  subst h; exact k

end State.Kept


end Sys2Proof.Machine
end

