-- ==== Sys2Proof/Laws/KeptOps.lean ====
section
/-! SUPPORT. The operations of Machine/Ops.lean keep what Laws/Kept.lean says. -/

-- One declaration after another: the package is compiled as one text, and its memory stays within bounds.
set_option Elab.async false

namespace Sys2Proof.Machine

theorem State.drawn_kept {s₀ s : State} (h₀ : State.Kept s₀ s)  : State.Kept s₀ (State.drawn s) := by
  unfold State.drawn
  repeat' first
    | with_reducible assumption
    | intro x; first | (refine (fun (hx : State.Kept s₀ x) => ?_) ?_); clear_value x; rotate_left; subst x | subst x
    | lift_lets -underBinder +implicits
    | with_reducible refine .ite (fun _ => ?_) (fun _ => ?_)
    | split
    | with_reducible refine State.Kept.mk_iff.2 ?_

theorem State.wr_kept {s₀ s : State} (h₀ : State.Kept s₀ s) (a : Nat) (v : Word) : State.Kept s₀ (s.wr a v) :=
  h₀.trans ⟨rfl, rfl, Nat.le_refl _, fun w => ⟨regsCanon_tset a v w.1, w.2⟩, id, Nat.le_refl _⟩

theorem State.wf_kept {s₀ s : State} (h₀ : State.Kept s₀ s) (a lo width v : Nat) : State.Kept s₀ (State.wf s a lo width v) := by
  unfold State.wf
  repeat' first
    | with_reducible assumption
    | with_reducible apply State.wr_kept
    | with_reducible refine .ite (fun _ => ?_) (fun _ => ?_)
    | split

theorem State.wb_kept {s₀ s : State} (h₀ : State.Kept s₀ s) (a n : Nat) (b : Bool) : State.Kept s₀ (State.wb s a n b) := by
  unfold State.wb
  repeat' first
    | with_reducible assumption
    | with_reducible apply State.wr_kept
    | with_reducible refine .ite (fun _ => ?_) (fun _ => ?_)
    | split

theorem State.counted_kept {s₀ s : State} (h₀ : State.Kept s₀ s) (a lo width : Nat) : State.Kept s₀ (State.counted s a lo width) := by
  unfold State.counted
  repeat' first
    | with_reducible assumption
    | intro x; first | (refine (fun (hx : State.Kept s₀ x) => ?_) ?_); clear_value x; rotate_left; subst x | subst x
    | lift_lets -underBinder +implicits
    | with_reducible refine .ite (fun _ => ?_) (fun _ => ?_)
    | split
    | with_reducible refine State.Kept.mk_iff.2 ?_

theorem State.inc_kept {s₀ s : State} (h₀ : State.Kept s₀ s) (a : Nat) : State.Kept s₀ (State.inc s a) := by
  unfold State.inc
  repeat' first
    | with_reducible assumption
    | with_reducible apply State.counted_kept
    | with_reducible apply State.wr_kept
    | with_reducible refine .ite (fun _ => ?_) (fun _ => ?_)
    | split

theorem State.incF_kept {s₀ s : State} (h₀ : State.Kept s₀ s) (a lo width : Nat) : State.Kept s₀ (State.incF s a lo width) := by
  unfold State.incF
  repeat' first
    | with_reducible assumption
    | with_reducible apply State.counted_kept
    | with_reducible apply State.wr_kept
    | with_reducible refine .ite (fun _ => ?_) (fun _ => ?_)
    | split

theorem State.addF_kept {s₀ s : State} (h₀ : State.Kept s₀ s) (a lo width n : Nat) : State.Kept s₀ (State.addF s a lo width n) := by
  unfold State.addF
  repeat' first
    | with_reducible assumption
    | with_reducible apply State.counted_kept
    | with_reducible apply State.wr_kept
    | with_reducible refine .ite (fun _ => ?_) (fun _ => ?_)
    | split

theorem State.arbNote_kept {s₀ s : State} (h₀ : State.Kept s₀ s) (x : ArbRec) : State.Kept s₀ (State.arbNote s x) := by
  unfold State.arbNote
  repeat' first
    | with_reducible assumption
    | intro x; first | (refine (fun (hx : State.Kept s₀ x) => ?_) ?_); clear_value x; rotate_left; subst x | subst x
    | lift_lets -underBinder +implicits
    | with_reducible refine .ite (fun _ => ?_) (fun _ => ?_)
    | split
    | with_reducible refine State.Kept.mk_iff.2 ?_

theorem State.wr64_kept {s₀ s : State} (h₀ : State.Kept s₀ s) (lo hi : Nat) (v : Nat) : State.Kept s₀ (State.wr64 s lo hi v) := by
  unfold State.wr64
  repeat' first
    | with_reducible assumption
    | with_reducible apply State.wr_kept
    | with_reducible refine .ite (fun _ => ?_) (fun _ => ?_)
    | split

theorem State.setPage_kept {s₀ s : State} (h₀ : State.Kept s₀ s) (p : Nat) (v : PageSt) : State.Kept s₀ (State.setPage s p v) := by
  unfold State.setPage
  repeat' first
    | with_reducible assumption
    | intro x; first | (refine (fun (hx : State.Kept s₀ x) => ?_) ?_); clear_value x; rotate_left; subst x | subst x
    | lift_lets -underBinder +implicits
    | with_reducible refine .ite (fun _ => ?_) (fun _ => ?_)
    | split
    | with_reducible refine State.Kept.mk_iff.2 ?_

theorem State.anchor_kept {s₀ s : State} (h₀ : State.Kept s₀ s)  : State.Kept s₀ (State.anchor s) := by
  unfold State.anchor
  repeat' first
    | with_reducible assumption
    | intro x; first | (refine (fun (hx : State.Kept s₀ x) => ?_) ?_); clear_value x; rotate_left; subst x | subst x
    | lift_lets -underBinder +implicits
    | with_reducible refine .ite (fun _ => ?_) (fun _ => ?_)
    | split
    | with_reducible refine State.Kept.mk_iff.2 ?_

theorem State.bulkSend_kept {s₀ s : State} (h₀ : State.Kept s₀ s) (ptype ring addr : Nat) (data : List Byte) : State.Kept s₀ (State.bulkSend s ptype ring addr data) := by
  unfold State.bulkSend
  repeat' first
    | with_reducible assumption
    | intro x; first | (refine (fun (hx : State.Kept s₀ x) => ?_) ?_); clear_value x; rotate_left; subst x | subst x
    | lift_lets -underBinder +implicits
    | with_reducible refine .ite (fun _ => ?_) (fun _ => ?_)
    | split
    | with_reducible refine State.Kept.mk_iff.2 ?_

theorem State.setPba_kept {s₀ s : State} (h₀ : State.Kept s₀ s) (v : Nat) (b : Bool) : State.Kept s₀ (State.setPba s v b) := by
  unfold State.setPba
  repeat' first
    | with_reducible assumption
    | with_reducible apply State.wb_kept
    | with_reducible refine .ite (fun _ => ?_) (fun _ => ?_)
    | split

theorem State.raiseVec_kept {s₀ s : State} (h₀ : State.Kept s₀ s) (v : Nat) : State.Kept s₀ (State.raiseVec s v) := by
  unfold State.raiseVec
  repeat' first
    | with_reducible assumption
    | intro x; first | (refine (fun (hx : State.Kept s₀ x) => ?_) ?_); clear_value x; rotate_left; subst x | subst x
    | lift_lets -underBinder +implicits
    | with_reducible apply State.bulkSend_kept
    | with_reducible apply State.inc_kept
    | with_reducible apply State.setPba_kept
    | with_reducible refine .ite (fun _ => ?_) (fun _ => ?_)
    | split
    | with_reducible refine State.Kept.mk_iff.2 ?_

theorem State.raisePage_kept {s₀ s : State} (h₀ : State.Kept s₀ s) (p : Nat) : State.Kept s₀ (State.raisePage s p) := by
  unfold State.raisePage
  repeat' first
    | with_reducible assumption
    | intro x; first | (refine (fun (hx : State.Kept s₀ x) => ?_) ?_); clear_value x; rotate_left; subst x | subst x
    | lift_lets -underBinder +implicits
    | with_reducible apply State.raiseVec_kept
    | with_reducible refine .ite (fun _ => ?_) (fun _ => ?_)
    | split

theorem State.setCause_kept {s₀ s : State} (h₀ : State.Kept s₀ s) (p : Nat) (bits : Word) : State.Kept s₀ (State.setCause s p bits) := by
  unfold State.setCause
  repeat' first
    | with_reducible assumption
    | intro x; first | (refine (fun (hx : State.Kept s₀ x) => ?_) ?_); clear_value x; rotate_left; subst x | subst x
    | lift_lets -underBinder +implicits
    | with_reducible apply State.raisePage_kept
    | with_reducible apply State.setPage_kept
    | with_reducible apply State.wr_kept
    | with_reducible refine .ite (fun _ => ?_) (fun _ => ?_)
    | split
    | with_reducible refine State.Kept.mk_iff.2 ?_

theorem State.cause_kept {s₀ s : State} (h₀ : State.Kept s₀ s) (p n : Nat) : State.Kept s₀ (State.cause s p n) := by
  unfold State.cause
  repeat' first
    | with_reducible assumption
    | with_reducible apply State.setCause_kept
    | with_reducible refine .ite (fun _ => ?_) (fun _ => ?_)
    | split

theorem State.ignored_kept {s₀ s : State} (h₀ : State.Kept s₀ s) (p : Nat) : State.Kept s₀ (State.ignored s p) := by
  unfold State.ignored
  repeat' first
    | with_reducible assumption
    | with_reducible apply State.cause_kept
    | with_reducible apply State.inc_kept
    | with_reducible refine .ite (fun _ => ?_) (fun _ => ?_)
    | split

theorem State.corrected_kept {s₀ s : State} (h₀ : State.Kept s₀ s) (p : Nat) : State.Kept s₀ (State.corrected s p) := by
  unfold State.corrected
  repeat' first
    | with_reducible assumption
    | with_reducible apply State.inc_kept
    | with_reducible refine .ite (fun _ => ?_) (fun _ => ?_)
    | split

theorem bumpLast_length (src : Nat) (st : List Staged) : (bumpLast src st).length = st.length := by
  induction st with
  | nil => rfl
  | cons x xs ih =>
    unfold bumpLast
    split
    · rfl
    · rw [List.length_cons, ih, List.length_cons]

theorem dropSev_length {v : Nat} {st : List Staged} (h : ∃ x ∈ st, x.body.sev = v) : (dropSev v st).length + 1 = st.length := by
  induction st with
  | nil => obtain ⟨x, hx, _⟩ := h; cases hx
  | cons y ys ih =>
    unfold dropSev
    split
    · rfl
    · rename_i hy
      obtain ⟨x, hx, hv⟩ := h
      rcases List.mem_cons.1 hx with rfl | hx
      · exact absurd hv hy
      · rw [List.length_cons, List.length_cons, ih ⟨x, hx, hv⟩]

theorem minSev_mem {st : List Staged} (h : st ≠ []) : ∃ x ∈ st, x.body.sev = minSev st := by
  induction st with
  | nil => exact absurd rfl h
  | cons y ys ih =>
    cases ys with
    | nil => exact ⟨y, List.mem_cons_self, rfl⟩
    | cons z zs =>
      obtain ⟨x, hx, hv⟩ := ih (List.cons_ne_nil _ _)
      unfold minSev
      by_cases hm : y.body.sev ≤ minSev (z :: zs)
      · exact ⟨y, List.mem_cons_self, (Nat.min_eq_left hm).symm⟩
      · exact ⟨x, List.mem_cons_of_mem _ hx, by rw [hv]; exact (Nat.min_eq_right (Nat.le_of_not_le hm)).symm⟩

theorem State.Kept.stageTo {s t : State} {l : List Staged} (h : State.Kept s t) (hl : s.scb.stage.length ≤ 64 → l.length ≤ 64) :
    State.Kept s { t with scb := { t.scb with stage := l } } :=
  ⟨h.now, h.pending, h.lc, h.wf, hl, h.dbg⟩

theorem State.record_kept {s₀ s : State} (h₀ : State.Kept s₀ s) (src event sev : Nat) (dt : List Byte) : State.Kept s₀ (s.record src event sev dt) := by
  have h1 : ∀ v, State.Kept s₀ (s.wr Reg.SCB_SCB_LAST v) := fun v => State.wr_kept h₀ ..
  have h2 : ∀ v, State.Kept s₀ (if sev = 4 then (s.wr Reg.SCB_SCB_LAST v).cause 0x007 0 else if sev = 5 then (s.wr Reg.SCB_SCB_LAST v).cause 0x007 1 else s.wr Reg.SCB_SCB_LAST v) :=
    fun v => .ite (fun _ => State.cause_kept (h1 v) ..) (fun _ => .ite (fun _ => State.cause_kept (h1 v) ..) (fun _ => h1 v))
  have h4 : ∀ v, State.Kept s₀ (((if sev = 4 then (s.wr Reg.SCB_SCB_LAST v).cause 0x007 0 else if sev = 5 then (s.wr Reg.SCB_SCB_LAST v).cause 0x007 1
      else s.wr Reg.SCB_SCB_LAST v).incF Reg.SCB_SCB_STAGE 16 16).cause 0x007 2) := fun v => State.cause_kept (State.incF_kept (h2 v) ..) ..
  unfold State.record
  refine .ite (fun _ => h₀) (fun _ => State.wf_kept (.ite (fun _ => (h2 _).stageTo ?_) (fun _ => .ite (fun hf => (h2 _).stageTo ?_)
    (fun hf => .ite (fun _ => h4 _) (fun _ => (h4 _).stageTo ?_)))) ..)
  · intro w
    rw [bumpLast_length]
    exact h₀.stage w
  · intro _
    simp only [Bool.not_eq_true', decide_eq_false_iff_not] at hf
    simp only [List.length_append, List.length_cons, List.length_nil]
    omega
  · intro w
    have := h₀.stage w
    simp only [Bool.not_eq_true', decide_eq_false_iff_not, Decidable.not_not] at hf
    have hd := dropSev_length (minSev_mem (st := s.scb.stage) (by intro e; rw [e] at hf; simp at hf))
    simp only [List.length_append, List.length_cons, List.length_nil]
    omega

theorem State.pageRecord_kept {s₀ s : State} (h₀ : State.Kept s₀ s) (p code sev : Nat) (dt : List Byte) : State.Kept s₀ (State.pageRecord s p code sev dt) := by
  unfold State.pageRecord
  repeat' first
    | with_reducible assumption
    | with_reducible apply State.record_kept
    | with_reducible refine .ite (fun _ => ?_) (fun _ => ?_)
    | split

theorem State.closeWin_kept {s₀ s : State} (h₀ : State.Kept s₀ s) (p : Nat) : State.Kept s₀ (State.closeWin s p) := by
  unfold State.closeWin
  repeat' first
    | with_reducible assumption
    | with_reducible apply State.wb_kept
    | with_reducible apply State.wf_kept
    | with_reducible refine .ite (fun _ => ?_) (fun _ => ?_)
    | split

theorem State.setLasting_kept {s₀ s : State} (h₀ : State.Kept s₀ s) (p : Nat) : State.Kept s₀ (State.setLasting s p) := by
  unfold State.setLasting
  repeat' first
    | with_reducible assumption
    | intro x; first | (refine (fun (hx : State.Kept s₀ x) => ?_) ?_); clear_value x; rotate_left; subst x | subst x
    | lift_lets -underBinder +implicits
    | with_reducible apply State.setPage_kept
    | with_reducible apply State.wb_kept
    | with_reducible refine .ite (fun _ => ?_) (fun _ => ?_)
    | split
    | with_reducible refine State.Kept.mk_iff.2 ?_

theorem State.faultEvent_kept {s₀ s : State} (h₀ : State.Kept s₀ s) (p : Nat) : State.Kept s₀ (State.faultEvent s p).1 := by
  unfold State.faultEvent
  repeat' first
    | with_reducible assumption
    | intro x; first | (refine (fun (hx : State.Kept s₀ x) => ?_) ?_); clear_value x; rotate_left; subst x | (refine (fun (hx : State.Kept s₀ x.1) => ?_) ?_); clear_value x; rotate_left; subst x | subst x
    | lift_lets -underBinder +implicits
    | with_reducible apply State.cause_kept
    | with_reducible apply State.closeWin_kept
    | with_reducible apply State.pageRecord_kept
    | with_reducible apply State.setLasting_kept
    | with_reducible apply State.setPage_kept
    | with_reducible apply State.wb_kept
    | with_reducible apply State.wf_kept
    | with_reducible refine .ite (fun _ => ?_) (fun _ => ?_)
    | with_reducible refine .iteFst (fun _ => ?_) (fun _ => ?_)
    | split
    | with_reducible refine State.Kept.mk_iff.2 ?_

theorem State.lastingAtOnce_kept {s₀ s : State} (h₀ : State.Kept s₀ s) (p : Nat) : State.Kept s₀ (State.lastingAtOnce s p) := by
  unfold State.lastingAtOnce
  repeat' first
    | with_reducible assumption
    | with_reducible apply State.cause_kept
    | with_reducible apply State.pageRecord_kept
    | with_reducible apply State.setLasting_kept
    | with_reducible refine .ite (fun _ => ?_) (fun _ => ?_)
    | split

theorem State.uncorrected_kept {s₀ s : State} (h₀ : State.Kept s₀ s) (p : Nat) : State.Kept s₀ (State.uncorrected s p).1 := by
  unfold State.uncorrected
  repeat' first
    | with_reducible assumption
    | with_reducible apply State.faultEvent_kept
    | with_reducible apply State.ignored_kept
    | with_reducible refine .ite (fun _ => ?_) (fun _ => ?_)
    | with_reducible refine .iteFst (fun _ => ?_) (fun _ => ?_)
    | with_reducible refine .ofFst (by assumption) ?_
    | split

theorem State.benchEmpty_kept {s₀ s : State} (h₀ : State.Kept s₀ s) (cls : Nat) : State.Kept s₀ (State.benchEmpty s cls) := by
  unfold State.benchEmpty
  repeat' first
    | with_reducible assumption
    | with_reducible apply State.cause_kept
    | with_reducible apply State.record_kept
    | with_reducible refine .ite (fun _ => ?_) (fun _ => ?_)
    | split

theorem State.fault_kept {s₀ s : State} (h₀ : State.Kept s₀ s) (p inst obj : Nat) : State.Kept s₀ (State.fault s p inst obj).1 := by
  unfold State.fault
  repeat' first
    | with_reducible assumption
    | with_reducible apply State.faultEvent_kept
    | with_reducible apply State.pageRecord_kept
    | with_reducible refine .ite (fun _ => ?_) (fun _ => ?_)
    | with_reducible refine .iteFst (fun _ => ?_) (fun _ => ?_)
    | with_reducible refine .ofFst (by assumption) ?_
    | split

theorem State.hardFault_kept {s₀ s : State} (h₀ : State.Kept s₀ s) (p inst obj : Nat) : State.Kept s₀ (State.hardFault s p inst obj).1 := by
  unfold State.hardFault
  repeat' first
    | with_reducible assumption
    | with_reducible apply State.faultEvent_kept
    | with_reducible apply State.ignored_kept
    | with_reducible apply State.pageRecord_kept
    | with_reducible refine .ite (fun _ => ?_) (fun _ => ?_)
    | with_reducible refine .iteFst (fun _ => ?_) (fun _ => ?_)
    | with_reducible refine .ofFst (by assumption) ?_
    | split

end Sys2Proof.Machine
end

