-- ==== Sys2Proof/Laws/KeptQueue.lean ====
section
/-! SUPPORT. The operations of Machine/Queue.lean keep what Laws/Kept.lean says. -/

-- One declaration after another: the package is compiled as one text, and its memory stays within bounds.
set_option Elab.async false

namespace Sys2Proof.Machine

theorem State.setQueue_kept {s₀ s : State} (h₀ : State.Kept s₀ s) (q : Nat) (v : QueueSt) : State.Kept s₀ (State.setQueue s q v) := by
  unfold State.setQueue
  repeat' first
    | with_reducible assumption
    | intro x; first | (refine (fun (hx : State.Kept s₀ x) => ?_) ?_); clear_value x; rotate_left; subst x | subst x
    | lift_lets -underBinder +implicits
    | with_reducible refine .ite (fun _ => ?_) (fun _ => ?_)
    | split
    | with_reducible refine State.Kept.mk_iff.2 ?_

theorem State.setPool_kept {s₀ s : State} (h₀ : State.Kept s₀ s) (free rsv : Nat) : State.Kept s₀ (State.setPool s free rsv) := by
  unfold State.setPool
  repeat' first
    | with_reducible assumption
    | intro x; first | (refine (fun (hx : State.Kept s₀ x) => ?_) ?_); clear_value x; rotate_left; subst x | subst x
    | lift_lets -underBinder +implicits
    | with_reducible apply State.cause_kept
    | with_reducible apply State.wb_kept
    | with_reducible apply State.wr_kept
    | with_reducible refine .ite (fun _ => ?_) (fun _ => ?_)
    | split

theorem State.takeCells_kept {s₀ s : State} (h₀ : State.Kept s₀ s) (n : Nat) : State.Kept s₀ (s.takeCells n).1 := by
  induction n with
  | zero => exact h₀
  | succ n ih => exact State.drawn_kept ih

theorem State.cellsWritten_kept {s₀ s : State} (h₀ : State.Kept s₀ s) (new again : List Nat) : State.Kept s₀ (State.cellsWritten s new again) := by
  unfold State.cellsWritten
  repeat' first
    | with_reducible assumption
    | intro x; first | (refine (fun (hx : State.Kept s₀ x) => ?_) ?_); clear_value x; rotate_left; subst x | subst x
    | lift_lets -underBinder +implicits
    | with_reducible refine .ite (fun _ => ?_) (fun _ => ?_)
    | split
    | with_reducible refine State.Kept.mk_iff.2 ?_

theorem State.cellsFreed_kept {s₀ s : State} (h₀ : State.Kept s₀ s) (l : List Nat) : State.Kept s₀ (State.cellsFreed s l) := by
  unfold State.cellsFreed
  repeat' first
    | with_reducible assumption
    | intro x; first | (refine (fun (hx : State.Kept s₀ x) => ?_) ?_); clear_value x; rotate_left; subst x | subst x
    | lift_lets -underBinder +implicits
    | with_reducible refine .ite (fun _ => ?_) (fun _ => ?_)
    | split
    | with_reducible refine State.Kept.mk_iff.2 ?_

theorem State.creditRequest_kept {s₀ s : State} (h₀ : State.Kept s₀ s) (q n : Nat) : State.Kept s₀ (State.creditRequest s q n) := by
  unfold State.creditRequest
  repeat' first
    | with_reducible assumption
    | intro x; first | (refine (fun (hx : State.Kept s₀ x) => ?_) ?_); clear_value x; rotate_left; subst x | subst x
    | lift_lets -underBinder +implicits
    | with_reducible apply State.setPool_kept
    | with_reducible apply State.setQueue_kept
    | with_reducible refine .ite (fun _ => ?_) (fun _ => ?_)
    | split
    | with_reducible refine State.Kept.mk_iff.2 ?_

theorem State.creditReturn_kept {s₀ s : State} (h₀ : State.Kept s₀ s) (q n : Nat) : State.Kept s₀ (State.creditReturn s q n) := by
  unfold State.creditReturn
  repeat' first
    | with_reducible assumption
    | intro x; first | (refine (fun (hx : State.Kept s₀ x) => ?_) ?_); clear_value x; rotate_left; subst x | subst x
    | lift_lets -underBinder +implicits
    | with_reducible apply State.setPool_kept
    | with_reducible apply State.setQueue_kept
    | with_reducible refine .ite (fun _ => ?_) (fun _ => ?_)
    | split
    | with_reducible refine State.Kept.mk_iff.2 ?_

theorem State.violation_kept {s₀ s : State} (h₀ : State.Kept s₀ s)  : State.Kept s₀ (State.violation s) := by
  unfold State.violation
  repeat' first
    | with_reducible assumption
    | with_reducible apply State.cause_kept
    | with_reducible apply State.faultEvent_kept
    | with_reducible apply State.inc_kept
    | with_reducible refine .ite (fun _ => ?_) (fun _ => ?_)
    | with_reducible refine .ofFst (by assumption) ?_
    | split

theorem State.discardOpen_kept {s₀ s : State} (h₀ : State.Kept s₀ s) (q : Nat) : State.Kept s₀ (State.discardOpen s q) := by
  unfold State.discardOpen
  repeat' first
    | with_reducible assumption
    | intro x; first | (refine (fun (hx : State.Kept s₀ x) => ?_) ?_); clear_value x; rotate_left; subst x | subst x
    | lift_lets -underBinder +implicits
    | with_reducible apply State.setPool_kept
    | with_reducible apply State.setQueue_kept
    | with_reducible refine .ite (fun _ => ?_) (fun _ => ?_)
    | split
    | with_reducible refine State.Kept.mk_iff.2 ?_

theorem State.granule_kept {s₀ s : State} (h₀ : State.Kept s₀ s) (q : Nat) (bytes : List Byte) (start end_ : Bool) (owner : Nat) : State.Kept s₀ (s.granule q bytes start end_ owner) := by
  unfold State.granule
  exact State.setPool_kept (State.setQueue_kept (State.cellsWritten_kept (State.takeCells_kept h₀ _) ..) ..) ..

theorem State.queueWrite_kept {s₀ s : State} (h₀ : State.Kept s₀ s) (q writer epoch : Nat) (bytes : List Byte) (start end_ : Bool) : State.Kept s₀ (State.queueWrite s q writer epoch bytes start end_) := by
  unfold State.queueWrite
  repeat' first
    | with_reducible assumption
    | intro x; first | (refine (fun (hx : State.Kept s₀ x) => ?_) ?_); clear_value x; rotate_left; subst x | subst x
    | lift_lets -underBinder +implicits
    | with_reducible apply State.discardOpen_kept
    | with_reducible apply State.granule_kept
    | with_reducible apply State.inc_kept
    | with_reducible apply State.setQueue_kept
    | with_reducible apply State.violation_kept
    | with_reducible refine .ite (fun _ => ?_) (fun _ => ?_)
    | split

theorem State.writeItem_kept {s₀ s : State} (h₀ : State.Kept s₀ s) (q : Nat) (bytes : List Byte) (owner : Nat) : State.Kept s₀ (State.writeItem s q bytes owner) := by
  unfold State.writeItem
  repeat' first
    | with_reducible assumption
    | with_reducible apply State.granule_kept
    | with_reducible refine .ite (fun _ => ?_) (fun _ => ?_)
    | split

theorem State.putLine_kept {s₀ s : State} (h₀ : State.Kept s₀ s) (q : Nat) (line : List Byte) (tag : Nat) (cursor : Nat) : State.Kept s₀ (State.putLine s q line tag cursor) := by
  unfold State.putLine
  repeat' first
    | with_reducible assumption
    | intro x; first | (refine (fun (hx : State.Kept s₀ x) => ?_) ?_); clear_value x; rotate_left; subst x | subst x
    | lift_lets -underBinder +implicits
    | with_reducible apply State.setQueue_kept
    | with_reducible refine .ite (fun _ => ?_) (fun _ => ?_)
    | split
    | with_reducible refine State.Kept.mk_iff.2 ?_

theorem State.queueCorrected_kept {s₀ s : State} (h₀ : State.Kept s₀ s) (q n : Nat) : State.Kept s₀ (s.queueCorrected q n) := by
  induction n generalizing s with
  | zero => exact h₀
  | succ n ih => exact ih (State.corrected_kept (State.inc_kept h₀ _) _)

theorem State.queuePoison_kept {s₀ s : State} (h₀ : State.Kept s₀ s) (q word_ : Nat) : State.Kept s₀ (State.queuePoison s q word_).1 := by
  unfold State.queuePoison
  repeat' first
    | with_reducible assumption
    | intro x; first | (refine (fun (hx : State.Kept s₀ x) => ?_) ?_); clear_value x; rotate_left; subst x | (refine (fun (hx : State.Kept s₀ x.1) => ?_) ?_); clear_value x; rotate_left; subst x | subst x
    | lift_lets -underBinder +implicits
    | split
    | with_reducible apply State.inc_kept
    | with_reducible apply State.pageRecord_kept
    | with_reducible apply State.setQueue_kept
    | with_reducible apply State.uncorrected_kept
    | with_reducible refine .ite (fun _ => ?_) (fun _ => ?_)
    | with_reducible refine .iteFst (fun _ => ?_) (fun _ => ?_)
    | with_reducible refine .ofFst (by assumption) ?_
    | split
    | with_reducible refine State.Kept.mk_iff.2 ?_

theorem State.queuePoisons_kept {s₀ s : State} (h₀ : State.Kept s₀ s) (q k : Nat) (ws : List Nat) : State.Kept s₀ (s.queuePoisons q k ws).1 := by
  induction ws generalizing s with
  | nil => exact h₀
  | cons w ws ih => exact ih (State.queuePoison_kept h₀ _ _)

theorem State.readLine_kept {s₀ s : State} (h₀ : State.Kept s₀ s) (q corr : Nat) (bad : List Nat) : State.Kept s₀ (State.readLine s q corr bad).1 := by
  unfold State.readLine
  repeat' first
    | with_reducible assumption
    | intro x; first | (refine (fun (hx : State.Kept s₀ x) => ?_) ?_); clear_value x; rotate_left; subst x | (refine (fun (hx : State.Kept s₀ x.1) => ?_) ?_); clear_value x; rotate_left; subst x | subst x
    | lift_lets -underBinder +implicits
    | split
    | with_reducible apply State.putLine_kept
    | with_reducible apply State.queueCorrected_kept
    | with_reducible apply State.queuePoisons_kept
    | with_reducible refine .ite (fun _ => ?_) (fun _ => ?_)
    | with_reducible refine .iteFst (fun _ => ?_) (fun _ => ?_)
    | with_reducible refine .ofFst (by assumption) ?_
    | split
    | with_reducible refine State.Kept.mk_iff.2 ?_

theorem State.rewind_kept {s₀ s : State} (h₀ : State.Kept s₀ s) (q : Nat) : State.Kept s₀ (State.rewind s q) := by
  unfold State.rewind
  repeat' first
    | with_reducible assumption
    | intro x; first | (refine (fun (hx : State.Kept s₀ x) => ?_) ?_); clear_value x; rotate_left; subst x | subst x
    | lift_lets -underBinder +implicits
    | with_reducible apply State.setQueue_kept
    | with_reducible refine .ite (fun _ => ?_) (fun _ => ?_)
    | split
    | with_reducible refine State.Kept.mk_iff.2 ?_

theorem State.release_kept {s₀ s : State} (h₀ : State.Kept s₀ s) (q : Nat) : State.Kept s₀ (State.release s q) := by
  unfold State.release
  repeat' first
    | with_reducible assumption
    | intro x; first | (refine (fun (hx : State.Kept s₀ x) => ?_) ?_); clear_value x; rotate_left; subst x | subst x
    | lift_lets -underBinder +implicits
    | with_reducible apply State.cellsFreed_kept
    | with_reducible apply State.setPool_kept
    | with_reducible apply State.setQueue_kept
    | with_reducible refine .ite (fun _ => ?_) (fun _ => ?_)
    | split
    | with_reducible refine State.Kept.mk_iff.2 ?_

theorem State.flushQueue_kept {s₀ s : State} (h₀ : State.Kept s₀ s) (q : Nat) : State.Kept s₀ (State.flushQueue s q) := by
  unfold State.flushQueue
  repeat' first
    | with_reducible assumption
    | intro x; first | (refine (fun (hx : State.Kept s₀ x) => ?_) ?_); clear_value x; rotate_left; subst x | subst x
    | lift_lets -underBinder +implicits
    | with_reducible apply State.setPool_kept
    | with_reducible apply State.setQueue_kept
    | with_reducible refine .ite (fun _ => ?_) (fun _ => ?_)
    | split
    | with_reducible refine State.Kept.mk_iff.2 ?_

theorem State.cellReturnDone_kept {s₀ s : State} (h₀ : State.Kept s₀ s) (q : Nat) : State.Kept s₀ (State.cellReturnDone s q) := by
  unfold State.cellReturnDone
  repeat' first
    | with_reducible assumption
    | intro x; first | (refine (fun (hx : State.Kept s₀ x) => ?_) ?_); clear_value x; rotate_left; subst x | subst x
    | lift_lets -underBinder +implicits
    | with_reducible apply State.cellsFreed_kept
    | with_reducible apply State.setPool_kept
    | with_reducible apply State.setQueue_kept
    | with_reducible refine .ite (fun _ => ?_) (fun _ => ?_)
    | split
    | with_reducible refine State.Kept.mk_iff.2 ?_

theorem State.qDone_kept {s₀ s : State} (h₀ : State.Kept s₀ s) (st : Status) : State.Kept s₀ (State.qDone s st) := by
  unfold State.qDone
  repeat' first
    | with_reducible assumption
    | intro x; first | (refine (fun (hx : State.Kept s₀ x) => ?_) ?_); clear_value x; rotate_left; subst x | subst x
    | lift_lets -underBinder +implicits
    | with_reducible apply State.wr_kept
    | with_reducible refine .ite (fun _ => ?_) (fun _ => ?_)
    | split

theorem State.qRead_kept {s₀ s : State} (h₀ : State.Kept s₀ s)  : State.Kept s₀ (State.qRead s) := by
  unfold State.qRead
  repeat' first
    | with_reducible assumption
    | intro x; first | (refine (fun (hx : State.Kept s₀ x) => ?_) ?_); clear_value x; rotate_left; subst x | subst x
    | lift_lets -underBinder +implicits
    | with_reducible apply State.drawn_kept
    | with_reducible apply State.qDone_kept
    | with_reducible apply State.wr_kept
    | with_reducible refine .ite (fun _ => ?_) (fun _ => ?_)
    | with_reducible refine .foldl (fun _ _ _ => ?_) ?_
    | split

theorem State.qSetLimit_kept {s₀ s : State} (h₀ : State.Kept s₀ s)  : State.Kept s₀ (State.qSetLimit s) := by
  unfold State.qSetLimit
  repeat' first
    | with_reducible assumption
    | intro x; first | (refine (fun (hx : State.Kept s₀ x) => ?_) ?_); clear_value x; rotate_left; subst x | subst x
    | lift_lets -underBinder +implicits
    | with_reducible apply State.qDone_kept
    | with_reducible apply State.setQueue_kept
    | with_reducible refine .ite (fun _ => ?_) (fun _ => ?_)
    | split
    | with_reducible refine State.Kept.mk_iff.2 ?_

theorem State.qClearErr_kept {s₀ s : State} (h₀ : State.Kept s₀ s)  : State.Kept s₀ (State.qClearErr s) := by
  unfold State.qClearErr
  repeat' first
    | with_reducible assumption
    | intro x; first | (refine (fun (hx : State.Kept s₀ x) => ?_) ?_); clear_value x; rotate_left; subst x | subst x
    | lift_lets -underBinder +implicits
    | with_reducible apply State.qDone_kept
    | with_reducible apply State.setQueue_kept
    | with_reducible refine .ite (fun _ => ?_) (fun _ => ?_)
    | split
    | with_reducible refine State.Kept.mk_iff.2 ?_

end Sys2Proof.Machine
end

