-- ==== Sys2Proof/Laws/KeptFixtures.lean ====
section
/-! SUPPORT. The operations of Machine/Fixtures.lean keep what Laws/Kept.lean says. -/

-- One declaration after another: the package is compiled as one text, and its memory stays within bounds.
set_option Elab.async false

namespace Sys2Proof.Machine

theorem State.setFix_kept {s₀ s : State} (h₀ : State.Kept s₀ s) (i : Nat) (f : Fixture) : State.Kept s₀ (State.setFix s i f) := by
  unfold State.setFix
  repeat' first
    | with_reducible assumption
    | intro x; first | (refine (fun (hx : State.Kept s₀ x) => ?_) ?_); clear_value x; rotate_left; subst x | subst x
    | lift_lets -underBinder +implicits
    | with_reducible refine .ite (fun _ => ?_) (fun _ => ?_)
    | split
    | with_reducible refine State.Kept.mk_iff.2 ?_

theorem State.enterFix_kept {s₀ s : State} (h₀ : State.Kept s₀ s) (f : Fixture) : State.Kept s₀ (State.enterFix s f) := by
  unfold State.enterFix
  repeat' first
    | with_reducible assumption
    | intro x; first | (refine (fun (hx : State.Kept s₀ x) => ?_) ?_); clear_value x; rotate_left; subst x | subst x
    | lift_lets -underBinder +implicits
    | with_reducible apply State.setFix_kept
    | with_reducible refine .ite (fun _ => ?_) (fun _ => ?_)
    | split

theorem State.pllStart_kept {s₀ s : State} (h₀ : State.Kept s₀ s)  : State.Kept s₀ (State.pllStart s) := by
  unfold State.pllStart
  repeat' first
    | with_reducible assumption
    | intro x; first | (refine (fun (hx : State.Kept s₀ x) => ?_) ?_); clear_value x; rotate_left; subst x | subst x
    | lift_lets -underBinder +implicits
    | with_reducible apply State.incF_kept
    | with_reducible apply State.wb_kept
    | with_reducible refine .ite (fun _ => ?_) (fun _ => ?_)
    | split

theorem State.pllOff_kept {s₀ s : State} (h₀ : State.Kept s₀ s)  : State.Kept s₀ (State.pllOff s) := by
  unfold State.pllOff
  repeat' first
    | with_reducible assumption
    | with_reducible apply State.wb_kept
    | with_reducible refine .ite (fun _ => ?_) (fun _ => ?_)
    | split

theorem State.pllKept_kept {s₀ s : State} (h₀ : State.Kept s₀ s)  : State.Kept s₀ (State.pllKept s) := by
  unfold State.pllKept
  repeat' first
    | with_reducible assumption
    | with_reducible apply State.pllStart_kept
    | with_reducible refine .ite (fun _ => ?_) (fun _ => ?_)
    | split

theorem State.applyWrite_kept {s₀ s : State} (h₀ : State.Kept s₀ s) (host : Bool) (i : Nat) (bytes : List Byte) : State.Kept s₀ (State.applyWrite s host i bytes).1 := by
  unfold State.applyWrite
  repeat' first
    | with_reducible assumption
    | intro x; first | (refine (fun (hx : State.Kept s₀ x) => ?_) ?_); clear_value x; rotate_left; subst x | (refine (fun (hx : State.Kept s₀ x.1) => ?_) ?_); clear_value x; rotate_left; subst x | subst x
    | lift_lets -underBinder +implicits
    | with_reducible apply State.pllKept_kept
    | with_reducible apply State.setFix_kept
    | with_reducible refine .ite (fun _ => ?_) (fun _ => ?_)
    | with_reducible refine .iteFst (fun _ => ?_) (fun _ => ?_)
    | split
    | with_reducible refine State.Kept.mk_iff.2 ?_

theorem State.entDone_kept {s₀ s : State} (h₀ : State.Kept s₀ s) (st : Status) : State.Kept s₀ (State.entDone s st) := by
  unfold State.entDone
  repeat' first
    | with_reducible assumption
    | intro x; first | (refine (fun (hx : State.Kept s₀ x) => ?_) ?_); clear_value x; rotate_left; subst x | subst x
    | lift_lets -underBinder +implicits
    | with_reducible apply State.wr_kept
    | with_reducible refine .ite (fun _ => ?_) (fun _ => ?_)
    | split

theorem State.setEntData_kept {s₀ s : State} (h₀ : State.Kept s₀ s) (b : List Byte) : State.Kept s₀ (State.setEntData s b) := by
  unfold State.setEntData
  repeat' first
    | with_reducible assumption
    | with_reducible apply State.wr_kept
    | with_reducible refine .ite (fun _ => ?_) (fun _ => ?_)
    | with_reducible refine .foldl (fun _ _ _ => ?_) ?_
    | split

theorem State.entRead_kept {s₀ s : State} (h₀ : State.Kept s₀ s)  : State.Kept s₀ (State.entRead s) := by
  unfold State.entRead
  repeat' first
    | with_reducible assumption
    | with_reducible apply State.entDone_kept
    | with_reducible apply State.ignored_kept
    | with_reducible apply State.setEntData_kept
    | with_reducible refine .ite (fun _ => ?_) (fun _ => ?_)
    | split

theorem State.entWrite_kept {s₀ s : State} (h₀ : State.Kept s₀ s) (host : Bool) : State.Kept s₀ (State.entWrite s host) := by
  unfold State.entWrite
  repeat' first
    | with_reducible assumption
    | intro x; first | (refine (fun (hx : State.Kept s₀ x) => ?_) ?_); clear_value x; rotate_left; subst x | (refine (fun (hx : State.Kept s₀ x.1) => ?_) ?_); clear_value x; rotate_left; subst x | subst x
    | lift_lets -underBinder +implicits
    | split
    | with_reducible apply State.applyWrite_kept
    | with_reducible apply State.entDone_kept
    | with_reducible apply State.ignored_kept
    | with_reducible apply State.wb_kept
    | with_reducible refine .ite (fun _ => ?_) (fun _ => ?_)
    | with_reducible refine .ofFst (by assumption) ?_
    | split
    | with_reducible refine State.Kept.mk_iff.2 ?_

theorem State.reconvert_kept {s₀ s : State} (h₀ : State.Kept s₀ s)  : State.Kept s₀ (State.reconvert s) := by
  unfold State.reconvert
  repeat' first
    | with_reducible assumption
    | intro x; first | (refine (fun (hx : State.Kept s₀ x) => ?_) ?_); clear_value x; rotate_left; subst x | subst x
    | lift_lets -underBinder +implicits
    | with_reducible refine .ite (fun _ => ?_) (fun _ => ?_)
    | split
    | with_reducible refine State.Kept.mk_iff.2 ?_

theorem State.disarm_kept {s₀ s : State} (h₀ : State.Kept s₀ s) (host : Bool) (i : Nat) : State.Kept s₀ (State.disarm s host i).1 := by
  unfold State.disarm
  repeat' first
    | with_reducible assumption
    | intro x; first | (refine (fun (hx : State.Kept s₀ x) => ?_) ?_); clear_value x; rotate_left; subst x | (refine (fun (hx : State.Kept s₀ x.1) => ?_) ?_); clear_value x; rotate_left; subst x | subst x
    | lift_lets -underBinder +implicits
    | with_reducible apply State.setFix_kept
    | with_reducible refine .ite (fun _ => ?_) (fun _ => ?_)
    | with_reducible refine .iteFst (fun _ => ?_) (fun _ => ?_)
    | split
    | with_reducible refine State.Kept.mk_iff.2 ?_

theorem State.entDisarm_kept {s₀ s : State} (h₀ : State.Kept s₀ s) (host : Bool) : State.Kept s₀ (State.entDisarm s host) := by
  unfold State.entDisarm
  repeat' first
    | with_reducible assumption
    | intro x; first | (refine (fun (hx : State.Kept s₀ x) => ?_) ?_); clear_value x; rotate_left; subst x | (refine (fun (hx : State.Kept s₀ x.1) => ?_) ?_); clear_value x; rotate_left; subst x | subst x
    | lift_lets -underBinder +implicits
    | split
    | with_reducible apply State.disarm_kept
    | with_reducible apply State.entDone_kept
    | with_reducible apply State.ignored_kept
    | with_reducible refine .ite (fun _ => ?_) (fun _ => ?_)
    | with_reducible refine .ofFst (by assumption) ?_
    | split

theorem State.regate_kept {s₀ s : State} (h₀ : State.Kept s₀ s) (f : Fixture) : State.Kept s₀ (State.regate s f) := by
  unfold State.regate
  repeat' first
    | with_reducible assumption
    | intro x; first | (refine (fun (hx : State.Kept s₀ x) => ?_) ?_); clear_value x; rotate_left; subst x | subst x
    | lift_lets -underBinder +implicits
    | with_reducible refine .ite (fun _ => ?_) (fun _ => ?_)
    | split
    | with_reducible refine State.Kept.mk_iff.2 ?_

theorem State.fired_kept {s₀ s : State} (h₀ : State.Kept s₀ s) (i : Nat) : State.Kept s₀ (State.fired s i) := by
  unfold State.fired
  repeat' first
    | with_reducible assumption
    | intro x; first | (refine (fun (hx : State.Kept s₀ x) => ?_) ?_); clear_value x; rotate_left; subst x | subst x
    | lift_lets -underBinder +implicits
    | with_reducible apply State.cause_kept
    | with_reducible apply State.regate_kept
    | with_reducible apply State.setFix_kept
    | with_reducible refine .ite (fun _ => ?_) (fun _ => ?_)
    | split
    | with_reducible refine State.Kept.mk_iff.2 ?_

theorem State.skip_kept {s₀ s : State} (h₀ : State.Kept s₀ s) (i : Nat) (st : Status) : State.Kept s₀ (State.skip s i st) := by
  unfold State.skip
  repeat' first
    | with_reducible assumption
    | intro x; first | (refine (fun (hx : State.Kept s₀ x) => ?_) ?_); clear_value x; rotate_left; subst x | subst x
    | lift_lets -underBinder +implicits
    | with_reducible apply State.cause_kept
    | with_reducible apply State.inc_kept
    | with_reducible apply State.record_kept
    | with_reducible apply State.setFix_kept
    | with_reducible apply State.wr_kept
    | with_reducible apply State.wr64_kept
    | with_reducible refine .ite (fun _ => ?_) (fun _ => ?_)
    | split
    | with_reducible refine State.Kept.mk_iff.2 ?_

theorem State.skipInterval_kept {s₀ s : State} (h₀ : State.Kept s₀ s) (l0 l1 : Nat) : State.Kept s₀ (State.skipInterval s l0 l1) := by
  unfold State.skipInterval
  repeat' first
    | with_reducible assumption
    | with_reducible apply State.skip_kept
    | with_reducible refine .ite (fun _ => ?_) (fun _ => ?_)
    | with_reducible refine .foldl (fun _ _ _ => ?_) ?_
    | split

end Sys2Proof.Machine
end

