-- ==== Sys2Proof/Laws/KeptRings.lean ====
section
/-! SUPPORT. The operations of Machine/Rings.lean keep what Laws/Kept.lean says. -/

-- One declaration after another: the package is compiled as one text, and its memory stays within bounds.
set_option Elab.async false

namespace Sys2Proof.Machine

theorem State.setRing_kept {s₀ s : State} (h₀ : State.Kept s₀ s) (r : Nat) (v : RingSt) : State.Kept s₀ (State.setRing s r v) := by
  unfold State.setRing
  repeat' first
    | with_reducible assumption
    | intro x; first | (refine (fun (hx : State.Kept s₀ x) => ?_) ?_); clear_value x; rotate_left; subst x | subst x
    | lift_lets -underBinder +implicits
    | with_reducible refine .ite (fun _ => ?_) (fun _ => ?_)
    | split
    | with_reducible refine State.Kept.mk_iff.2 ?_

theorem State.dmaWrite_kept {s₀ s : State} (h₀ : State.Kept s₀ s) (addr : Nat) (b : List Byte) : State.Kept s₀ (s.dmaWrite addr b) := by
  unfold State.dmaWrite
  split
  · exact State.bulkSend_kept h₀ ..
  · exact h₀.storeHost addr b

theorem State.ringIrq_kept {s₀ s : State} (h₀ : State.Kept s₀ s) (r : Nat) : State.Kept s₀ (State.ringIrq s r) := by
  unfold State.ringIrq
  repeat' first
    | with_reducible assumption
    | intro x; first | (refine (fun (hx : State.Kept s₀ x) => ?_) ?_); clear_value x; rotate_left; subst x | subst x
    | lift_lets -underBinder +implicits
    | with_reducible apply State.raiseVec_kept
    | with_reducible apply State.setRing_kept
    | with_reducible refine .ite (fun _ => ?_) (fun _ => ?_)
    | split
    | with_reducible refine State.Kept.mk_iff.2 ?_

theorem State.writeCpl_kept {s₀ s : State} (h₀ : State.Kept s₀ s) (r : Nat) (c : Cpl) : State.Kept s₀ (State.writeCpl s r c) := by
  unfold State.writeCpl
  repeat' first
    | with_reducible assumption
    | intro x; first | (refine (fun (hx : State.Kept s₀ x) => ?_) ?_); clear_value x; rotate_left; subst x | subst x
    | lift_lets -underBinder +implicits
    | with_reducible apply State.bulkSend_kept
    | with_reducible apply State.dmaWrite_kept
    | with_reducible apply State.ringIrq_kept
    | with_reducible apply State.setRing_kept
    | with_reducible refine .ite (fun _ => ?_) (fun _ => ?_)
    | split
    | with_reducible refine State.Kept.mk_iff.2 ?_

theorem State.post_kept {s₀ s : State} (h₀ : State.Kept s₀ s) (r : Nat) (c : Cpl) : State.Kept s₀ (State.post s r c) := by
  unfold State.post
  repeat' first
    | with_reducible assumption
    | intro x; first | (refine (fun (hx : State.Kept s₀ x) => ?_) ?_); clear_value x; rotate_left; subst x | subst x
    | lift_lets -underBinder +implicits
    | with_reducible apply State.setRing_kept
    | with_reducible apply State.writeCpl_kept
    | with_reducible refine .ite (fun _ => ?_) (fun _ => ?_)
    | split
    | with_reducible refine State.Kept.mk_iff.2 ?_

theorem State.complete_kept {s₀ s : State} (h₀ : State.Kept s₀ s) (r : Nat) (c : Cpl) : State.Kept s₀ (State.complete s r c) := by
  unfold State.complete
  repeat' first
    | with_reducible assumption
    | intro x; first | (refine (fun (hx : State.Kept s₀ x) => ?_) ?_); clear_value x; rotate_left; subst x | subst x
    | lift_lets -underBinder +implicits
    | with_reducible apply State.post_kept
    | with_reducible apply State.setRing_kept
    | with_reducible refine .ite (fun _ => ?_) (fun _ => ?_)
    | split
    | with_reducible refine State.Kept.mk_iff.2 ?_

theorem State.writeHeld_kept {s₀ s : State} (h₀ : State.Kept s₀ s) (r : Nat) : State.Kept s₀ (State.writeHeld s r) := by
  unfold State.writeHeld
  repeat' first
    | with_reducible assumption
    | intro x; first | (refine (fun (hx : State.Kept s₀ x) => ?_) ?_); clear_value x; rotate_left; subst x | subst x
    | lift_lets -underBinder +implicits
    | with_reducible apply State.setRing_kept
    | with_reducible apply State.writeCpl_kept
    | with_reducible refine .ite (fun _ => ?_) (fun _ => ?_)
    | with_reducible refine .foldl (fun _ _ _ => ?_) ?_
    | split
    | with_reducible refine State.Kept.mk_iff.2 ?_

theorem State.writeAllHeld_kept {s₀ s : State} (h₀ : State.Kept s₀ s)  : State.Kept s₀ (State.writeAllHeld s) := by
  unfold State.writeAllHeld
  repeat' first
    | with_reducible assumption
    | with_reducible apply State.writeHeld_kept
    | with_reducible refine .ite (fun _ => ?_) (fun _ => ?_)
    | with_reducible refine .foldl (fun _ _ _ => ?_) ?_
    | split

theorem State.flushVecs_kept {s₀ s : State} (h₀ : State.Kept s₀ s)  : State.Kept s₀ (State.flushVecs s) := by
  unfold State.flushVecs
  repeat' first
    | with_reducible assumption
    | with_reducible apply State.raiseVec_kept
    | with_reducible apply State.setPba_kept
    | with_reducible refine .ite (fun _ => ?_) (fun _ => ?_)
    | with_reducible refine .foldl (fun _ _ _ => ?_) ?_
    | split

theorem State.deliverTo_kept {s₀ s : State} (h₀ : State.Kept s₀ s) (r : Nat) (b : RxBuf) (m : UpMsg) (st retOfs retLen : Nat) : State.Kept s₀ (State.deliverTo s r b m st retOfs retLen) := by
  unfold State.deliverTo
  repeat' first
    | with_reducible assumption
    | intro x; first | (refine (fun (hx : State.Kept s₀ x) => ?_) ?_); clear_value x; rotate_left; subst x | subst x
    | lift_lets -underBinder +implicits
    | with_reducible apply State.complete_kept
    | with_reducible apply State.dmaWrite_kept
    | with_reducible apply State.setRing_kept
    | with_reducible refine .ite (fun _ => ?_) (fun _ => ?_)
    | split
    | with_reducible refine State.Kept.mk_iff.2 ?_

theorem State.deliverUplink_kept {s₀ s : State} (h₀ : State.Kept s₀ s)  : State.Kept s₀ (State.deliverUplink s) := by
  unfold State.deliverUplink
  repeat' first
    | with_reducible assumption
    | intro x; first | (refine (fun (hx : State.Kept s₀ x) => ?_) ?_); clear_value x; rotate_left; subst x | subst x
    | lift_lets -underBinder +implicits
    | with_reducible apply State.deliverTo_kept
    | with_reducible refine .ite (fun _ => ?_) (fun _ => ?_)
    | with_reducible refine .foldl (fun _ _ _ => ?_) ?_
    | split
    | with_reducible refine State.Kept.mk_iff.2 ?_

theorem State.returnBufs_kept {s₀ s : State} (h₀ : State.Kept s₀ s) (r : Nat) : State.Kept s₀ (State.returnBufs s r) := by
  unfold State.returnBufs
  repeat' first
    | with_reducible assumption
    | intro x; first | (refine (fun (hx : State.Kept s₀ x) => ?_) ?_); clear_value x; rotate_left; subst x | subst x
    | lift_lets -underBinder +implicits
    | with_reducible apply State.complete_kept
    | with_reducible apply State.setRing_kept
    | with_reducible refine .ite (fun _ => ?_) (fun _ => ?_)
    | with_reducible refine .foldl (fun _ _ _ => ?_) ?_
    | split
    | with_reducible refine State.Kept.mk_iff.2 ?_

theorem State.fetch_kept {s₀ s : State} (h₀ : State.Kept s₀ s) (r : Nat) (e : List Byte) : State.Kept s₀ (State.fetch s r e).1 := by
  unfold State.fetch
  repeat' first
    | with_reducible assumption
    | intro x; first | (refine (fun (hx : State.Kept s₀ x) => ?_) ?_); clear_value x; rotate_left; subst x | (refine (fun (hx : State.Kept s₀ x.1) => ?_) ?_); clear_value x; rotate_left; subst x | subst x
    | lift_lets -underBinder +implicits
    | with_reducible apply State.setRing_kept
    | with_reducible refine .ite (fun _ => ?_) (fun _ => ?_)
    | with_reducible refine .iteFst (fun _ => ?_) (fun _ => ?_)
    | split
    | with_reducible refine State.Kept.mk_iff.2 ?_

theorem State.finish_kept {s₀ s : State} (h₀ : State.Kept s₀ s) (c : Sub) (st : Status) (result : List Byte) : State.Kept s₀ (State.finish s c st result) := by
  unfold State.finish
  repeat' first
    | with_reducible assumption
    | with_reducible apply State.complete_kept
    | with_reducible refine .ite (fun _ => ?_) (fun _ => ?_)
    | split

theorem State.finishTag_kept {s₀ s : State} (h₀ : State.Kept s₀ s) (c : Sub) (st : Status) : State.Kept s₀ (State.finishTag s c st) := by
  unfold State.finishTag
  repeat' first
    | with_reducible assumption
    | with_reducible apply State.finish_kept
    | with_reducible refine .ite (fun _ => ?_) (fun _ => ?_)
    | split

theorem State.submit_kept {s₀ s : State} (h₀ : State.Kept s₀ s) (r : Nat) (e : List Byte) (mine : Nat → Bool) (body : State → Sub → State) (h_body : ∀ (x0 : State) (x1 : Sub), State.Kept s₀ x0 → State.Kept s₀ (body x0 x1)) : State.Kept s₀ (State.submit s r e mine body) := by
  unfold State.submit
  repeat' first
    | with_reducible assumption
    | intro x; first | (refine (fun (hx : State.Kept s₀ x) => ?_) ?_); clear_value x; rotate_left; subst x | (refine (fun (hx : State.Kept s₀ x.1) => ?_) ?_); clear_value x; rotate_left; subst x | subst x
    | lift_lets -underBinder +implicits
    | with_reducible apply h_body
    | with_reducible apply State.fetch_kept
    | with_reducible apply State.finish_kept
    | with_reducible apply State.finishTag_kept
    | with_reducible refine .ite (fun _ => ?_) (fun _ => ?_)
    | with_reducible refine .ofFst (by assumption) ?_
    | split

theorem State.ringEnable_kept {s₀ s : State} (h₀ : State.Kept s₀ s) (r : Nat) : State.Kept s₀ (State.ringEnable s r) := by
  unfold State.ringEnable
  repeat' first
    | with_reducible assumption
    | intro x; first | (refine (fun (hx : State.Kept s₀ x) => ?_) ?_); clear_value x; rotate_left; subst x | subst x
    | lift_lets -underBinder +implicits
    | with_reducible apply State.deliverUplink_kept
    | with_reducible apply State.setRing_kept
    | with_reducible apply State.wb_kept
    | with_reducible apply State.writeHeld_kept
    | with_reducible refine .ite (fun _ => ?_) (fun _ => ?_)
    | split
    | with_reducible refine State.Kept.mk_iff.2 ?_

theorem State.ringDisable_kept {s₀ s : State} (h₀ : State.Kept s₀ s) (r : Nat) : State.Kept s₀ (State.ringDisable s r) := by
  unfold State.ringDisable
  repeat' first
    | with_reducible assumption
    | intro x; first | (refine (fun (hx : State.Kept s₀ x) => ?_) ?_); clear_value x; rotate_left; subst x | subst x
    | lift_lets -underBinder +implicits
    | with_reducible apply State.returnBufs_kept
    | with_reducible apply State.setRing_kept
    | with_reducible apply State.wb_kept
    | with_reducible refine .ite (fun _ => ?_) (fun _ => ?_)
    | split
    | with_reducible refine State.Kept.mk_iff.2 ?_

theorem State.ringDrainDone_kept {s₀ s : State} (h₀ : State.Kept s₀ s) (r : Nat) : State.Kept s₀ (State.ringDrainDone s r) := by
  unfold State.ringDrainDone
  repeat' first
    | with_reducible assumption
    | intro x; first | (refine (fun (hx : State.Kept s₀ x) => ?_) ?_); clear_value x; rotate_left; subst x | subst x
    | lift_lets -underBinder +implicits
    | with_reducible apply State.setRing_kept
    | with_reducible refine .ite (fun _ => ?_) (fun _ => ?_)
    | split
    | with_reducible refine State.Kept.mk_iff.2 ?_

theorem State.hostErase_kept {s₀ s : State} (h₀ : State.Kept s₀ s) (addr : Nat) : State.Kept s₀ (s.hostErase addr) :=
  h₀.storeHost addr _

theorem State.cqUnwrite_kept {s₀ s : State} (h₀ : State.Kept s₀ s) (r n : Nat) : State.Kept s₀ (State.cqUnwrite s r n) := by
  unfold State.cqUnwrite
  repeat' first
    | with_reducible assumption
    | intro x; first | (refine (fun (hx : State.Kept s₀ x) => ?_) ?_); clear_value x; rotate_left; subst x | subst x
    | lift_lets -underBinder +implicits
    | with_reducible apply State.hostErase_kept
    | with_reducible apply State.setRing_kept
    | with_reducible refine .ite (fun _ => ?_) (fun _ => ?_)
    | with_reducible refine .foldl (fun _ _ _ => ?_) ?_
    | split
    | with_reducible refine State.Kept.mk_iff.2 ?_

theorem State.ringError_kept {s₀ s : State} (h₀ : State.Kept s₀ s) (r failed : Nat) : State.Kept s₀ (State.ringError s r failed) := by
  unfold State.ringError
  repeat' first
    | with_reducible assumption
    | intro x; first | (refine (fun (hx : State.Kept s₀ x) => ?_) ?_); clear_value x; rotate_left; subst x | subst x
    | lift_lets -underBinder +implicits
    | with_reducible apply State.cause_kept
    | with_reducible apply State.cqUnwrite_kept
    | with_reducible apply State.setRing_kept
    | with_reducible refine .ite (fun _ => ?_) (fun _ => ?_)
    | split
    | with_reducible refine State.Kept.mk_iff.2 ?_

theorem State.ringsReset_kept {s₀ s : State} (h₀ : State.Kept s₀ s)  : State.Kept s₀ (State.ringsReset s) := by
  unfold State.ringsReset
  repeat' first
    | with_reducible assumption
    | intro x; first | (refine (fun (hx : State.Kept s₀ x) => ?_) ?_); clear_value x; rotate_left; subst x | subst x
    | lift_lets -underBinder +implicits
    | with_reducible apply State.returnBufs_kept
    | with_reducible apply State.setRing_kept
    | with_reducible apply State.wb_kept
    | with_reducible refine .ite (fun _ => ?_) (fun _ => ?_)
    | with_reducible refine .foldl (fun _ _ _ => ?_) ?_
    | split
    | with_reducible refine State.Kept.mk_iff.2 ?_

theorem State.dbReject_kept {s₀ s : State} (h₀ : State.Kept s₀ s) (r : Nat) : State.Kept s₀ (State.dbReject s r) := by
  unfold State.dbReject
  repeat' first
    | with_reducible assumption
    | intro x; first | (refine (fun (hx : State.Kept s₀ x) => ?_) ?_); clear_value x; rotate_left; subst x | subst x
    | lift_lets -underBinder +implicits
    | with_reducible apply State.cause_kept
    | with_reducible apply State.inc_kept
    | with_reducible apply State.setRing_kept
    | with_reducible refine .ite (fun _ => ?_) (fun _ => ?_)
    | split
    | with_reducible refine State.Kept.mk_iff.2 ?_

theorem State.sqDoorbell_kept {s₀ s : State} (h₀ : State.Kept s₀ s) (r t : Nat) : State.Kept s₀ (State.sqDoorbell s r t) := by
  unfold State.sqDoorbell
  repeat' first
    | with_reducible assumption
    | intro x; first | (refine (fun (hx : State.Kept s₀ x) => ?_) ?_); clear_value x; rotate_left; subst x | subst x
    | lift_lets -underBinder +implicits
    | with_reducible apply State.dbReject_kept
    | with_reducible apply State.setRing_kept
    | with_reducible refine .ite (fun _ => ?_) (fun _ => ?_)
    | split
    | with_reducible refine State.Kept.mk_iff.2 ?_

theorem State.cqDoorbell_kept {s₀ s : State} (h₀ : State.Kept s₀ s) (r t : Nat) : State.Kept s₀ (State.cqDoorbell s r t) := by
  unfold State.cqDoorbell
  repeat' first
    | with_reducible assumption
    | intro x; first | (refine (fun (hx : State.Kept s₀ x) => ?_) ?_); clear_value x; rotate_left; subst x | subst x
    | lift_lets -underBinder +implicits
    | with_reducible apply State.dbReject_kept
    | with_reducible apply State.setRing_kept
    | with_reducible apply State.writeHeld_kept
    | with_reducible refine .ite (fun _ => ?_) (fun _ => ?_)
    | split
    | with_reducible refine State.Kept.mk_iff.2 ?_

theorem State.irqGapEnd_kept {s₀ s : State} (h₀ : State.Kept s₀ s) (r : Nat) : State.Kept s₀ (State.irqGapEnd s r) := by
  unfold State.irqGapEnd
  repeat' first
    | with_reducible assumption
    | intro x; first | (refine (fun (hx : State.Kept s₀ x) => ?_) ?_); clear_value x; rotate_left; subst x | subst x
    | lift_lets -underBinder +implicits
    | with_reducible apply State.raiseVec_kept
    | with_reducible apply State.setRing_kept
    | with_reducible refine .ite (fun _ => ?_) (fun _ => ?_)
    | split
    | with_reducible refine State.Kept.mk_iff.2 ?_

theorem State.msixUnmask_kept {s₀ s : State} (h₀ : State.Kept s₀ s) (v : Nat) : State.Kept s₀ (State.msixUnmask s v) := by
  unfold State.msixUnmask
  repeat' first
    | with_reducible assumption
    | intro x; first | (refine (fun (hx : State.Kept s₀ x) => ?_) ?_); clear_value x; rotate_left; subst x | subst x
    | lift_lets -underBinder +implicits
    | with_reducible apply State.raiseVec_kept
    | with_reducible apply State.setPba_kept
    | with_reducible apply State.wb_kept
    | with_reducible refine .ite (fun _ => ?_) (fun _ => ?_)
    | split

theorem State.fixWrite_kept {s₀ s : State} (h₀ : State.Kept s₀ s) (c : Sub) : State.Kept s₀ (State.fixWrite s c) := by
  unfold State.fixWrite
  repeat' first
    | with_reducible assumption
    | intro x; first | (refine (fun (hx : State.Kept s₀ x) => ?_) ?_); clear_value x; rotate_left; subst x | (refine (fun (hx : State.Kept s₀ x.1) => ?_) ?_); clear_value x; rotate_left; subst x | subst x
    | lift_lets -underBinder +implicits
    | split
    | with_reducible apply State.applyWrite_kept
    | with_reducible apply State.finish_kept
    | with_reducible apply State.wb_kept
    | with_reducible refine .ite (fun _ => ?_) (fun _ => ?_)
    | with_reducible refine .ofFst (by assumption) ?_
    | split
    | with_reducible refine State.Kept.mk_iff.2 ?_

theorem State.fixDisarm_kept {s₀ s : State} (h₀ : State.Kept s₀ s) (c : Sub) : State.Kept s₀ (State.fixDisarm s c) := by
  unfold State.fixDisarm
  repeat' first
    | with_reducible assumption
    | intro x; first | (refine (fun (hx : State.Kept s₀ x) => ?_) ?_); clear_value x; rotate_left; subst x | (refine (fun (hx : State.Kept s₀ x.1) => ?_) ?_); clear_value x; rotate_left; subst x | subst x
    | lift_lets -underBinder +implicits
    | split
    | with_reducible apply State.disarm_kept
    | with_reducible apply State.finish_kept
    | with_reducible refine .ite (fun _ => ?_) (fun _ => ?_)
    | with_reducible refine .ofFst (by assumption) ?_
    | split

theorem State.fixRead_kept {s₀ s : State} (h₀ : State.Kept s₀ s) (c : Sub) : State.Kept s₀ (State.fixRead s c) := by
  unfold State.fixRead
  repeat' first
    | with_reducible assumption
    | with_reducible apply State.finish_kept
    | with_reducible refine .ite (fun _ => ?_) (fun _ => ?_)
    | split

theorem State.applyHeld_kept {s₀ s : State} (h₀ : State.Kept s₀ s)  : State.Kept s₀ (State.applyHeld s) := by
  unfold State.applyHeld
  repeat' first
    | with_reducible assumption
    | intro x; first | (refine (fun (hx : State.Kept s₀ x) => ?_) ?_); clear_value x; rotate_left; subst x | (refine (fun (hx : State.Kept s₀ x.1) => ?_) ?_); clear_value x; rotate_left; subst x | subst x
    | lift_lets -underBinder +implicits
    | split
    | with_reducible apply State.applyWrite_kept
    | with_reducible apply State.complete_kept
    | with_reducible apply State.entDone_kept
    | with_reducible apply State.wb_kept
    | with_reducible apply State.wr_kept
    | with_reducible refine .ite (fun _ => ?_) (fun _ => ?_)
    | with_reducible refine .ofFst (by assumption) ?_
    | split
    | with_reducible refine State.Kept.mk_iff.2 ?_

theorem State.dropHeld_kept {s₀ s : State} (h₀ : State.Kept s₀ s)  : State.Kept s₀ (State.dropHeld s) := by
  unfold State.dropHeld
  repeat' first
    | with_reducible assumption
    | intro x; first | (refine (fun (hx : State.Kept s₀ x) => ?_) ?_); clear_value x; rotate_left; subst x | subst x
    | lift_lets -underBinder +implicits
    | with_reducible apply State.complete_kept
    | with_reducible refine .ite (fun _ => ?_) (fun _ => ?_)
    | with_reducible refine .foldl (fun _ _ _ => ?_) ?_
    | split
    | with_reducible refine State.Kept.mk_iff.2 ?_

theorem State.rxbufPost_kept {s₀ s : State} (h₀ : State.Kept s₀ s) (c : Sub) : State.Kept s₀ (State.rxbufPost s c) := by
  unfold State.rxbufPost
  repeat' first
    | with_reducible assumption
    | intro x; first | (refine (fun (hx : State.Kept s₀ x) => ?_) ?_); clear_value x; rotate_left; subst x | subst x
    | lift_lets -underBinder +implicits
    | with_reducible apply State.deliverUplink_kept
    | with_reducible apply State.finish_kept
    | with_reducible apply State.setRing_kept
    | with_reducible refine .ite (fun _ => ?_) (fun _ => ?_)
    | split
    | with_reducible refine State.Kept.mk_iff.2 ?_

end Sys2Proof.Machine
end

