-- ==== Sys2Proof/Laws/KeptBanks.lean ====
section
/-! SUPPORT. The operations of Machine/Banks.lean keep what Laws/Kept.lean says. -/

-- One declaration after another: the package is compiled as one text, and its memory stays within bounds.
set_option Elab.async false

namespace Sys2Proof.Machine

theorem State.markBad_kept {s₀ s : State} (h₀ : State.Kept s₀ s) (p i code : Nat) : State.Kept s₀ (State.markBad s p i code) := by
  unfold State.markBad
  repeat' first
    | with_reducible assumption
    | with_reducible apply State.cause_kept
    | with_reducible apply State.wr_kept
    | with_reducible refine .ite (fun _ => ?_) (fun _ => ?_)
    | split

theorem State.swapChecks_kept {s₀ s : State} (h₀ : State.Kept s₀ s) (sw : List Nat) : State.Kept s₀ (State.swapChecks s sw).1 := by
  unfold State.swapChecks
  repeat' first
    | with_reducible assumption
    | intro x; first | (refine (fun (hx : State.Kept s₀ x) => ?_) ?_); clear_value x; rotate_left; subst x | (refine (fun (hx : State.Kept s₀ x.1) => ?_) ?_); clear_value x; rotate_left; subst x | subst x
    | lift_lets -underBinder +implicits
    | with_reducible apply State.markBad_kept
    | with_reducible refine .ite (fun _ => ?_) (fun _ => ?_)
    | with_reducible refine .iteFst (fun _ => ?_) (fun _ => ?_)
    | with_reducible refine .foldl (fun _ _ _ => ?_) ?_
    | with_reducible refine .foldlFst (fun _ _ _ => ?_) ?_
    | split

theorem State.schedRefresh_kept {s₀ s : State} (h₀ : State.Kept s₀ s) (p : Nat) : State.Kept s₀ (State.schedRefresh s p) := by
  unfold State.schedRefresh
  repeat' first
    | with_reducible assumption
    | with_reducible apply State.wr_kept
    | with_reducible refine .ite (fun _ => ?_) (fun _ => ?_)
    | split

theorem State.bcnRefresh_kept {s₀ s : State} (h₀ : State.Kept s₀ s) (p : Nat) : State.Kept s₀ (State.bcnRefresh s p) := by
  unfold State.bcnRefresh
  repeat' first
    | with_reducible assumption
    | intro x; first | (refine (fun (hx : State.Kept s₀ x) => ?_) ?_); clear_value x; rotate_left; subst x | subst x
    | lift_lets -underBinder +implicits
    | with_reducible apply State.wr_kept
    | with_reducible refine .ite (fun _ => ?_) (fun _ => ?_)
    | with_reducible refine .foldl (fun _ _ _ => ?_) ?_
    | split

theorem State.detReset_kept {s₀ s : State} (h₀ : State.Kept s₀ s)  : State.Kept s₀ (State.detReset s) := by
  unfold State.detReset
  repeat' first
    | with_reducible assumption
    | intro x; first | (refine (fun (hx : State.Kept s₀ x) => ?_) ?_); clear_value x; rotate_left; subst x | subst x
    | lift_lets -underBinder +implicits
    | with_reducible refine .ite (fun _ => ?_) (fun _ => ?_)
    | split
    | with_reducible refine State.Kept.mk_iff.2 ?_

theorem State.exchange_kept {s₀ s : State} (h₀ : State.Kept s₀ s) (p : Nat) : State.Kept s₀ (State.exchange s p) := by
  unfold State.exchange
  repeat' first
    | with_reducible assumption
    | intro x; first | (refine (fun (hx : State.Kept s₀ x) => ?_) ?_); clear_value x; rotate_left; subst x | subst x
    | lift_lets -underBinder +implicits
    | with_reducible apply State.bcnRefresh_kept
    | with_reducible apply State.cause_kept
    | with_reducible apply State.detReset_kept
    | with_reducible apply State.schedRefresh_kept
    | with_reducible apply State.setPage_kept
    | with_reducible refine .ite (fun _ => ?_) (fun _ => ?_)
    | split
    | with_reducible refine State.Kept.mk_iff.2 ?_

theorem State.swapFailed_kept {s₀ s : State} (h₀ : State.Kept s₀ s) (p : Nat) : State.Kept s₀ (State.swapFailed s p) := by
  unfold State.swapFailed
  repeat' first
    | with_reducible assumption
    | intro x; first | (refine (fun (hx : State.Kept s₀ x) => ?_) ?_); clear_value x; rotate_left; subst x | subst x
    | lift_lets -underBinder +implicits
    | with_reducible apply State.cause_kept
    | with_reducible apply State.setPage_kept
    | with_reducible refine .ite (fun _ => ?_) (fun _ => ?_)
    | split
    | with_reducible refine State.Kept.mk_iff.2 ?_

theorem State.sWaits_kept {s₀ s : State} (h₀ : State.Kept s₀ s)  : State.Kept s₀ (State.sWaits s) := by
  unfold State.sWaits
  repeat' first
    | with_reducible assumption
    | with_reducible apply State.wb_kept
    | with_reducible refine .ite (fun _ => ?_) (fun _ => ?_)
    | with_reducible refine .foldl (fun _ _ _ => ?_) ?_
    | split

theorem State.sPend_kept {s₀ s : State} (h₀ : State.Kept s₀ s) (sw : List Nat) : State.Kept s₀ (State.sPend s sw) := by
  unfold State.sPend
  repeat' first
    | with_reducible assumption
    | with_reducible apply State.sWaits_kept
    | with_reducible refine .ite (fun _ => ?_) (fun _ => ?_)
    | split

theorem State.copyActive_kept {s₀ s : State} (h₀ : State.Kept s₀ s) (pg : Nat) : State.Kept s₀ (State.copyActive s pg) := by
  unfold State.copyActive
  repeat' first
    | with_reducible assumption
    | intro x; first | (refine (fun (hx : State.Kept s₀ x) => ?_) ?_); clear_value x; rotate_left; subst x | subst x
    | lift_lets -underBinder +implicits
    | with_reducible apply State.wr_kept
    | with_reducible refine .ite (fun _ => ?_) (fun _ => ?_)
    | with_reducible refine .foldl (fun _ _ _ => ?_) ?_
    | split

theorem State.bankCopy_kept {s₀ s : State} (h₀ : State.Kept s₀ s) (p : Nat) : State.Kept s₀ (State.bankCopy s p) := by
  unfold State.bankCopy
  repeat' first
    | with_reducible assumption
    | intro x; first | (refine (fun (hx : State.Kept s₀ x) => ?_) ?_); clear_value x; rotate_left; subst x | subst x
    | lift_lets -underBinder +implicits
    | with_reducible apply State.setPage_kept
    | with_reducible refine .ite (fun _ => ?_) (fun _ => ?_)
    | split
    | with_reducible refine State.Kept.mk_iff.2 ?_

theorem State.bankWrite_kept {s₀ s : State} (h₀ : State.Kept s₀ s) (p key : Nat) (v : Word) : State.Kept s₀ (State.bankWrite s p key v) := by
  unfold State.bankWrite
  repeat' first
    | with_reducible assumption
    | intro x; first | (refine (fun (hx : State.Kept s₀ x) => ?_) ?_); clear_value x; rotate_left; subst x | subst x
    | lift_lets -underBinder +implicits
    | with_reducible apply State.setPage_kept
    | with_reducible apply State.wr_kept
    | with_reducible refine .ite (fun _ => ?_) (fun _ => ?_)
    | split
    | with_reducible refine State.Kept.mk_iff.2 ?_

theorem State.bankCopyDone_kept {s₀ s : State} (h₀ : State.Kept s₀ s) (p : Nat) : State.Kept s₀ (State.bankCopyDone s p) := by
  unfold State.bankCopyDone
  repeat' first
    | with_reducible assumption
    | intro x; first | (refine (fun (hx : State.Kept s₀ x) => ?_) ?_); clear_value x; rotate_left; subst x | subst x
    | lift_lets -underBinder +implicits
    | with_reducible apply State.bankWrite_kept
    | with_reducible apply State.copyActive_kept
    | with_reducible apply State.setPage_kept
    | with_reducible refine .ite (fun _ => ?_) (fun _ => ?_)
    | with_reducible refine .foldl (fun _ _ _ => ?_) ?_
    | split
    | with_reducible refine State.Kept.mk_iff.2 ?_

theorem State.soloRequest_kept {s₀ s : State} (h₀ : State.Kept s₀ s) (p : Nat) : State.Kept s₀ (State.soloRequest s p) := by
  unfold State.soloRequest
  repeat' first
    | with_reducible assumption
    | intro x; first | (refine (fun (hx : State.Kept s₀ x) => ?_) ?_); clear_value x; rotate_left; subst x | subst x
    | lift_lets -underBinder +implicits
    | with_reducible apply State.ignored_kept
    | with_reducible apply State.setPage_kept
    | with_reducible refine .ite (fun _ => ?_) (fun _ => ?_)
    | split
    | with_reducible refine State.Kept.mk_iff.2 ?_

theorem State.soloCancel_kept {s₀ s : State} (h₀ : State.Kept s₀ s) (p : Nat) : State.Kept s₀ (State.soloCancel s p) := by
  unfold State.soloCancel
  repeat' first
    | with_reducible assumption
    | intro x; first | (refine (fun (hx : State.Kept s₀ x) => ?_) ?_); clear_value x; rotate_left; subst x | subst x
    | lift_lets -underBinder +implicits
    | with_reducible apply State.setPage_kept
    | with_reducible refine .ite (fun _ => ?_) (fun _ => ?_)
    | split
    | with_reducible refine State.Kept.mk_iff.2 ?_

theorem State.soloSwap_kept {s₀ s : State} (h₀ : State.Kept s₀ s) (p : Nat) : State.Kept s₀ (State.soloSwap s p) := by
  unfold State.soloSwap
  repeat' first
    | with_reducible assumption
    | intro x; first | (refine (fun (hx : State.Kept s₀ x) => ?_) ?_); clear_value x; rotate_left; subst x | (refine (fun (hx : State.Kept s₀ x.1) => ?_) ?_); clear_value x; rotate_left; subst x | subst x
    | lift_lets -underBinder +implicits
    | split
    | with_reducible apply State.exchange_kept
    | with_reducible apply State.sPend_kept
    | with_reducible apply State.swapChecks_kept
    | with_reducible apply State.swapFailed_kept
    | with_reducible refine .ite (fun _ => ?_) (fun _ => ?_)
    | with_reducible refine .ofFst (by assumption) ?_
    | split

theorem State.setGroup_kept {s₀ s : State} (h₀ : State.Kept s₀ s) (g : Nat) (v : GroupSt) : State.Kept s₀ (State.setGroup s g v) := by
  unfold State.setGroup
  repeat' first
    | with_reducible assumption
    | intro x; first | (refine (fun (hx : State.Kept s₀ x) => ?_) ?_); clear_value x; rotate_left; subst x | subst x
    | lift_lets -underBinder +implicits
    | with_reducible refine .ite (fun _ => ?_) (fun _ => ?_)
    | split
    | with_reducible refine State.Kept.mk_iff.2 ?_

theorem State.groupResult_kept {s₀ s : State} (h₀ : State.Kept s₀ s) (g : Nat) (st : Status) : State.Kept s₀ (State.groupResult s g st) := by
  unfold State.groupResult
  repeat' first
    | with_reducible assumption
    | with_reducible apply State.wr_kept
    | with_reducible refine .ite (fun _ => ?_) (fun _ => ?_)
    | split

theorem State.groupFail_kept {s₀ s : State} (h₀ : State.Kept s₀ s) (g : Nat) (st : Status) : State.Kept s₀ (State.groupFail s g st) := by
  unfold State.groupFail
  repeat' first
    | with_reducible assumption
    | intro x; first | (refine (fun (hx : State.Kept s₀ x) => ?_) ?_); clear_value x; rotate_left; subst x | subst x
    | lift_lets -underBinder +implicits
    | with_reducible apply State.groupResult_kept
    | with_reducible apply State.record_kept
    | with_reducible apply State.setGroup_kept
    | with_reducible apply State.swapFailed_kept
    | with_reducible refine .ite (fun _ => ?_) (fun _ => ?_)
    | with_reducible refine .foldl (fun _ _ _ => ?_) ?_
    | split

theorem State.groupRequest_kept {s₀ s : State} (h₀ : State.Kept s₀ s) (g : Nat) : State.Kept s₀ (State.groupRequest s g) := by
  unfold State.groupRequest
  repeat' first
    | with_reducible assumption
    | intro x; first | (refine (fun (hx : State.Kept s₀ x) => ?_) ?_); clear_value x; rotate_left; subst x | subst x
    | lift_lets -underBinder +implicits
    | with_reducible apply State.groupFail_kept
    | with_reducible apply State.groupResult_kept
    | with_reducible apply State.ignored_kept
    | with_reducible apply State.setFix_kept
    | with_reducible apply State.setGroup_kept
    | with_reducible apply State.setPage_kept
    | with_reducible apply State.wb_kept
    | with_reducible apply State.wr_kept
    | with_reducible refine .ite (fun _ => ?_) (fun _ => ?_)
    | with_reducible refine .foldl (fun _ _ _ => ?_) ?_
    | split
    | with_reducible refine State.Kept.mk_iff.2 ?_

theorem State.groupCancel_kept {s₀ s : State} (h₀ : State.Kept s₀ s) (g : Nat) : State.Kept s₀ (State.groupCancel s g) := by
  unfold State.groupCancel
  repeat' first
    | with_reducible assumption
    | intro x; first | (refine (fun (hx : State.Kept s₀ x) => ?_) ?_); clear_value x; rotate_left; subst x | subst x
    | lift_lets -underBinder +implicits
    | with_reducible apply State.setFix_kept
    | with_reducible apply State.setGroup_kept
    | with_reducible apply State.setPage_kept
    | with_reducible apply State.wr_kept
    | with_reducible refine .ite (fun _ => ?_) (fun _ => ?_)
    | with_reducible refine .foldl (fun _ _ _ => ?_) ?_
    | split
    | with_reducible refine State.Kept.mk_iff.2 ?_

theorem State.groupExchange_kept {s₀ s : State} (h₀ : State.Kept s₀ s) (g : Nat) : State.Kept s₀ (State.groupExchange s g) := by
  unfold State.groupExchange
  repeat' first
    | with_reducible assumption
    | intro x; first | (refine (fun (hx : State.Kept s₀ x) => ?_) ?_); clear_value x; rotate_left; subst x | (refine (fun (hx : State.Kept s₀ x.1) => ?_) ?_); clear_value x; rotate_left; subst x | subst x
    | lift_lets -underBinder +implicits
    | split
    | with_reducible apply State.exchange_kept
    | with_reducible apply State.groupFail_kept
    | with_reducible apply State.sPend_kept
    | with_reducible apply State.setGroup_kept
    | with_reducible apply State.swapChecks_kept
    | with_reducible apply State.wr_kept
    | with_reducible apply State.wr64_kept
    | with_reducible refine .ite (fun _ => ?_) (fun _ => ?_)
    | with_reducible refine .foldl (fun _ _ _ => ?_) ?_
    | with_reducible refine .foldlFst (fun _ _ _ => ?_) ?_
    | with_reducible refine .ofFst (by assumption) ?_
    | split

theorem State.groupSwap_kept {s₀ s : State} (h₀ : State.Kept s₀ s) (g : Nat) : State.Kept s₀ (State.groupSwap s g) := by
  unfold State.groupSwap
  repeat' first
    | with_reducible assumption
    | with_reducible apply State.groupExchange_kept
    | with_reducible refine .ite (fun _ => ?_) (fun _ => ?_)
    | split

theorem State.withdraw_kept {s₀ s : State} (h₀ : State.Kept s₀ s) (p : Nat) : State.Kept s₀ (State.withdraw s p) := by
  unfold State.withdraw
  repeat' first
    | with_reducible assumption
    | intro x; first | (refine (fun (hx : State.Kept s₀ x) => ?_) ?_); clear_value x; rotate_left; subst x | subst x
    | lift_lets -underBinder +implicits
    | with_reducible apply State.setGroup_kept
    | with_reducible refine .ite (fun _ => ?_) (fun _ => ?_)
    | split
    | with_reducible refine State.Kept.mk_iff.2 ?_

theorem State.recount_kept {s₀ s : State} (h₀ : State.Kept s₀ s) (p : Nat) : State.Kept s₀ (State.recount s p) := by
  unfold State.recount
  repeat' first
    | with_reducible assumption
    | with_reducible apply State.wf_kept
    | with_reducible refine .ite (fun _ => ?_) (fun _ => ?_)
    | with_reducible refine .foldl (fun _ _ _ => ?_) ?_
    | split

theorem State.recountAll_kept {s₀ s : State} (h₀ : State.Kept s₀ s) (cycle : Nat) (inc : List (Nat × Nat × Nat)) : State.Kept s₀ (State.recountAll s cycle inc) := by
  unfold State.recountAll
  repeat' first
    | with_reducible assumption
    | with_reducible apply State.inc_kept
    | with_reducible apply State.wf_kept
    | with_reducible refine .ite (fun _ => ?_) (fun _ => ?_)
    | with_reducible refine .foldl (fun _ _ _ => ?_) ?_
    | split

theorem State.resetRegs_kept {s₀ s : State} (h₀ : State.Kept s₀ s) (p : Nat) : State.Kept s₀ (s.resetRegs p) :=
  h₀.trans ⟨rfl, rfl, Nat.le_refl _, fun w => ⟨regsCanon_filter _ w.1, w.2⟩, id, Nat.le_refl _⟩

theorem State.resetGroups_kept {s₀ s : State} (h₀ : State.Kept s₀ s)  : State.Kept s₀ (State.resetGroups s) := by
  unfold State.resetGroups
  repeat' first
    | with_reducible assumption
    | intro x; first | (refine (fun (hx : State.Kept s₀ x) => ?_) ?_); clear_value x; rotate_left; subst x | subst x
    | lift_lets -underBinder +implicits
    | with_reducible apply State.setFix_kept
    | with_reducible apply State.setGroup_kept
    | with_reducible apply State.swapFailed_kept
    | with_reducible refine .ite (fun _ => ?_) (fun _ => ?_)
    | with_reducible refine .foldl (fun _ _ _ => ?_) ?_
    | split

theorem State.softReset_kept {s₀ s : State} (h₀ : State.Kept s₀ s) (p : Nat) : State.Kept s₀ (State.softReset s p) := by
  unfold State.softReset
  repeat' first
    | with_reducible assumption
    | intro x; first | (refine (fun (hx : State.Kept s₀ x) => ?_) ?_); clear_value x; rotate_left; subst x | subst x
    | lift_lets -underBinder +implicits
    | with_reducible apply State.recount_kept
    | with_reducible apply State.resetGroups_kept
    | with_reducible apply State.resetRegs_kept
    | with_reducible apply State.setPage_kept
    | with_reducible apply State.withdraw_kept
    | with_reducible refine .ite (fun _ => ?_) (fun _ => ?_)
    | split
    | with_reducible refine State.Kept.mk_iff.2 ?_

theorem State.softResetDone_kept {s₀ s : State} (h₀ : State.Kept s₀ s) (p : Nat) : State.Kept s₀ (State.softResetDone s p) := by
  unfold State.softResetDone
  repeat' first
    | with_reducible assumption
    | intro x; first | (refine (fun (hx : State.Kept s₀ x) => ?_) ?_); clear_value x; rotate_left; subst x | subst x
    | lift_lets -underBinder +implicits
    | with_reducible apply State.cause_kept
    | with_reducible apply State.setPage_kept
    | with_reducible refine .ite (fun _ => ?_) (fun _ => ?_)
    | split
    | with_reducible refine State.Kept.mk_iff.2 ?_

theorem State.lockWrite_kept {s₀ s : State} (h₀ : State.Kept s₀ s) (p : Nat) (v : Word) : State.Kept s₀ (State.lockWrite s p v) := by
  unfold State.lockWrite
  repeat' first
    | with_reducible assumption
    | intro x; first | (refine (fun (hx : State.Kept s₀ x) => ?_) ?_); clear_value x; rotate_left; subst x | subst x
    | lift_lets -underBinder +implicits
    | with_reducible apply State.pageRecord_kept
    | with_reducible apply State.setPage_kept
    | with_reducible refine .ite (fun _ => ?_) (fun _ => ?_)
    | split
    | with_reducible refine State.Kept.mk_iff.2 ?_

theorem State.policyLock_kept {s₀ s : State} (h₀ : State.Kept s₀ s) (p : Nat) (on : Bool) : State.Kept s₀ (State.policyLock s p on) := by
  unfold State.policyLock
  repeat' first
    | with_reducible assumption
    | intro x; first | (refine (fun (hx : State.Kept s₀ x) => ?_) ?_); clear_value x; rotate_left; subst x | subst x
    | lift_lets -underBinder +implicits
    | with_reducible apply State.setPage_kept
    | with_reducible refine .ite (fun _ => ?_) (fun _ => ?_)
    | split
    | with_reducible refine State.Kept.mk_iff.2 ?_

theorem State.causeClear_kept {s₀ s : State} (h₀ : State.Kept s₀ s) (p : Nat) (v : Word) : State.Kept s₀ (State.causeClear s p v) := by
  unfold State.causeClear
  repeat' first
    | with_reducible assumption
    | intro x; first | (refine (fun (hx : State.Kept s₀ x) => ?_) ?_); clear_value x; rotate_left; subst x | subst x
    | lift_lets -underBinder +implicits
    | with_reducible apply State.wr_kept
    | with_reducible refine .ite (fun _ => ?_) (fun _ => ?_)
    | split

theorem State.intSet_kept {s₀ s : State} (h₀ : State.Kept s₀ s) (p : Nat) (v : Word) : State.Kept s₀ (State.intSet s p v) := by
  unfold State.intSet
  repeat' first
    | with_reducible assumption
    | with_reducible apply State.setCause_kept
    | with_reducible refine .ite (fun _ => ?_) (fun _ => ?_)
    | split

theorem State.maskWrite_kept {s₀ s : State} (h₀ : State.Kept s₀ s) (p : Nat) (v : Word) : State.Kept s₀ (State.maskWrite s p v) := by
  unfold State.maskWrite
  repeat' first
    | with_reducible assumption
    | intro x; first | (refine (fun (hx : State.Kept s₀ x) => ?_) ?_); clear_value x; rotate_left; subst x | subst x
    | lift_lets -underBinder +implicits
    | with_reducible apply State.raisePage_kept
    | with_reducible apply State.wr_kept
    | with_reducible refine .ite (fun _ => ?_) (fun _ => ?_)
    | split

end Sys2Proof.Machine
end

