-- ==== Sys2Proof/Laws/KeptTracker.lean ====
section
/-! SUPPORT. The operations of Machine/Tracker.lean keep what Laws/Kept.lean says. -/

-- One declaration after another: the package is compiled as one text, and its memory stays within bounds.
set_option Elab.async false

namespace Sys2Proof.Machine

theorem State.setTrk_kept {s₀ s : State} (h₀ : State.Kept s₀ s) (k : Tracker) : State.Kept s₀ (State.setTrk s k) := by
  unfold State.setTrk
  repeat' first
    | with_reducible assumption
    | intro x; first | (refine (fun (hx : State.Kept s₀ x) => ?_) ?_); clear_value x; rotate_left; subst x | subst x
    | lift_lets -underBinder +implicits
    | with_reducible refine .ite (fun _ => ?_) (fun _ => ?_)
    | split
    | with_reducible refine State.Kept.mk_iff.2 ?_

theorem State.dropCyc_kept {s₀ s : State} (h₀ : State.Kept s₀ s)  : State.Kept s₀ (State.dropCyc s) := by
  unfold State.dropCyc
  repeat' first
    | with_reducible assumption
    | with_reducible apply State.ignored_kept
    | with_reducible apply State.wb_kept
    | with_reducible refine .ite (fun _ => ?_) (fun _ => ?_)
    | split

theorem State.trkChange_kept {s₀ s : State} (h₀ : State.Kept s₀ s) (st : Nat) : State.Kept s₀ (State.trkChange s st) := by
  unfold State.trkChange
  repeat' first
    | with_reducible assumption
    | with_reducible apply State.cause_kept
    | with_reducible apply State.pageRecord_kept
    | with_reducible apply State.wf_kept
    | with_reducible refine .ite (fun _ => ?_) (fun _ => ?_)
    | split

theorem State.holdRules_kept {s₀ s : State} (h₀ : State.Kept s₀ s)  : State.Kept s₀ (State.holdRules s) := by
  unfold State.holdRules
  repeat' first
    | with_reducible assumption
    | intro x; first | (refine (fun (hx : State.Kept s₀ x) => ?_) ?_); clear_value x; rotate_left; subst x | subst x
    | lift_lets -underBinder +implicits
    | with_reducible apply State.anchor_kept
    | with_reducible apply State.setTrk_kept
    | with_reducible apply State.wb_kept
    | with_reducible refine .ite (fun _ => ?_) (fun _ => ?_)
    | split
    | with_reducible refine State.Kept.mk_iff.2 ?_

theorem State.enterHoldover_kept {s₀ s : State} (h₀ : State.Kept s₀ s)  : State.Kept s₀ (State.enterHoldover s) := by
  unfold State.enterHoldover
  repeat' first
    | with_reducible assumption
    | intro x; first | (refine (fun (hx : State.Kept s₀ x) => ?_) ?_); clear_value x; rotate_left; subst x | (refine (fun (hx : State.Kept s₀ x.1) => ?_) ?_); clear_value x; rotate_left; subst x | subst x
    | lift_lets -underBinder +implicits
    | with_reducible apply State.dropCyc_kept
    | with_reducible apply State.faultEvent_kept
    | with_reducible apply State.holdRules_kept
    | with_reducible apply State.setTrk_kept
    | with_reducible apply State.trkChange_kept
    | with_reducible refine .ite (fun _ => ?_) (fun _ => ?_)
    | with_reducible refine .ofFst (by assumption) ?_
    | split
    | with_reducible refine State.Kept.mk_iff.2 ?_

theorem State.enterLocked_kept {s₀ s : State} (h₀ : State.Kept s₀ s)  : State.Kept s₀ (State.enterLocked s) := by
  unfold State.enterLocked
  repeat' first
    | with_reducible assumption
    | intro x; first | (refine (fun (hx : State.Kept s₀ x) => ?_) ?_); clear_value x; rotate_left; subst x | subst x
    | lift_lets -underBinder +implicits
    | with_reducible apply State.trkChange_kept
    | with_reducible apply State.wr_kept
    | with_reducible refine .ite (fun _ => ?_) (fun _ => ?_)
    | split

theorem State.setEpoch_kept {s₀ s : State} (h₀ : State.Kept s₀ s) (p0 : Nat) : State.Kept s₀ (State.setEpoch s p0) := by
  unfold State.setEpoch
  repeat' first
    | with_reducible assumption
    | intro x; first | (refine (fun (hx : State.Kept s₀ x) => ?_) ?_); clear_value x; rotate_left; subst x | subst x
    | lift_lets -underBinder +implicits
    | with_reducible apply State.setTrk_kept
    | with_reducible refine .ite (fun _ => ?_) (fun _ => ?_)
    | split
    | with_reducible refine State.Kept.mk_iff.2 ?_

theorem State.correctLock_kept {s₀ s : State} (h₀ : State.Kept s₀ s) (p0 : Nat) : State.Kept s₀ (State.correctLock s p0) := by
  unfold State.correctLock
  repeat' first
    | with_reducible assumption
    | intro x; first | (refine (fun (hx : State.Kept s₀ x) => ?_) ?_); clear_value x; rotate_left; subst x | subst x
    | lift_lets -underBinder +implicits
    | with_reducible apply State.anchor_kept
    | with_reducible apply State.cause_kept
    | with_reducible apply State.incF_kept
    | with_reducible apply State.pageRecord_kept
    | with_reducible apply State.reconvert_kept
    | with_reducible apply State.record_kept
    | with_reducible apply State.setTrk_kept
    | with_reducible apply State.skipInterval_kept
    | with_reducible apply State.wb_kept
    | with_reducible apply State.wr_kept
    | with_reducible refine .ite (fun _ => ?_) (fun _ => ?_)
    | split
    | with_reducible refine State.Kept.mk_iff.2 ?_

theorem State.adoptCyc_kept {s₀ s : State} (h₀ : State.Kept s₀ s)  : State.Kept s₀ (State.adoptCyc s) := by
  unfold State.adoptCyc
  repeat' first
    | with_reducible assumption
    | intro x; first | (refine (fun (hx : State.Kept s₀ x) => ?_) ?_); clear_value x; rotate_left; subst x | subst x
    | lift_lets -underBinder +implicits
    | with_reducible apply State.anchor_kept
    | with_reducible apply State.ignored_kept
    | with_reducible apply State.setTrk_kept
    | with_reducible apply State.wb_kept
    | with_reducible refine .ite (fun _ => ?_) (fun _ => ?_)
    | split
    | with_reducible refine State.Kept.mk_iff.2 ?_

theorem State.measured_kept {s₀ s : State} (h₀ : State.Kept s₀ s) (freq : Nat) (rocof : Int) : State.Kept s₀ (State.measured s freq rocof) := by
  unfold State.measured
  repeat' first
    | with_reducible assumption
    | intro x; first | (refine (fun (hx : State.Kept s₀ x) => ?_) ?_); clear_value x; rotate_left; subst x | subst x
    | lift_lets -underBinder +implicits
    | with_reducible apply State.wb_kept
    | with_reducible apply State.wr_kept
    | with_reducible refine .ite (fun _ => ?_) (fun _ => ?_)
    | split

theorem State.lockedEdge_kept {s₀ s : State} (h₀ : State.Kept s₀ s) (e p0 freq : Nat) (rocof : Int) (dis : Bool) : State.Kept s₀ (State.lockedEdge s e p0 freq rocof dis) := by
  unfold State.lockedEdge
  repeat' first
    | with_reducible assumption
    | intro x; first | (refine (fun (hx : State.Kept s₀ x) => ?_) ?_); clear_value x; rotate_left; subst x | subst x
    | lift_lets -underBinder +implicits
    | with_reducible apply State.adoptCyc_kept
    | with_reducible apply State.anchor_kept
    | with_reducible apply State.enterHoldover_kept
    | with_reducible apply State.measured_kept
    | with_reducible apply State.setTrk_kept
    | with_reducible apply State.wb_kept
    | with_reducible refine .ite (fun _ => ?_) (fun _ => ?_)
    | split
    | with_reducible refine State.Kept.mk_iff.2 ?_

theorem State.condLags_kept {s₀ s : State} (h₀ : State.Kept s₀ s) (lags : List (Fin 12 × Word)) : State.Kept s₀ (State.condLags s lags) := by
  unfold State.condLags
  repeat' first
    | with_reducible assumption
    | intro x; first | (refine (fun (hx : State.Kept s₀ x) => ?_) ?_); clear_value x; rotate_left; subst x | subst x
    | lift_lets -underBinder +implicits
    | with_reducible apply State.wr_kept
    | with_reducible refine .ite (fun _ => ?_) (fun _ => ?_)
    | with_reducible refine .foldl (fun _ _ _ => ?_) ?_
    | split

theorem State.edgeSeen_kept {s₀ s : State} (h₀ : State.Kept s₀ s) (freq : Nat) (rocof zcDelay diff : Int) : State.Kept s₀ (State.edgeSeen s freq rocof zcDelay diff) := by
  unfold State.edgeSeen
  repeat' first
    | with_reducible assumption
    | intro x; first | (refine (fun (hx : State.Kept s₀ x) => ?_) ?_); clear_value x; rotate_left; subst x | subst x
    | lift_lets -underBinder +implicits
    | with_reducible apply State.anchor_kept
    | with_reducible apply State.correctLock_kept
    | with_reducible apply State.enterHoldover_kept
    | with_reducible apply State.enterLocked_kept
    | with_reducible apply State.lockedEdge_kept
    | with_reducible apply State.measured_kept
    | with_reducible apply State.setEpoch_kept
    | with_reducible apply State.setTrk_kept
    | with_reducible apply State.wb_kept
    | with_reducible apply State.wr_kept
    | with_reducible refine .ite (fun _ => ?_) (fun _ => ?_)
    | split
    | with_reducible refine State.Kept.mk_iff.2 ?_

theorem State.zcEdge_kept {s₀ s : State} (h₀ : State.Kept s₀ s) (stayed falling : Bool) (freq : Nat) (rocof zcDelay diff : Int) (lags : List (Fin 12 × Word)) : State.Kept s₀ (State.zcEdge s stayed falling freq rocof zcDelay diff lags) := by
  unfold State.zcEdge
  repeat' first
    | with_reducible assumption
    | with_reducible apply State.condLags_kept
    | with_reducible apply State.edgeSeen_kept
    | with_reducible refine .ite (fun _ => ?_) (fun _ => ?_)
    | split

theorem State.slewComplete_kept {s₀ s : State} (h₀ : State.Kept s₀ s)  : State.Kept s₀ (State.slewComplete s) := by
  unfold State.slewComplete
  repeat' first
    | with_reducible assumption
    | intro x; first | (refine (fun (hx : State.Kept s₀ x) => ?_) ?_); clear_value x; rotate_left; subst x | subst x
    | lift_lets -underBinder +implicits
    | with_reducible apply State.anchor_kept
    | with_reducible apply State.setTrk_kept
    | with_reducible apply State.wb_kept
    | with_reducible refine .ite (fun _ => ?_) (fun _ => ?_)
    | split
    | with_reducible refine State.Kept.mk_iff.2 ?_

theorem State.holdoverTimeout_kept {s₀ s : State} (h₀ : State.Kept s₀ s)  : State.Kept s₀ (State.holdoverTimeout s) := by
  unfold State.holdoverTimeout
  repeat' first
    | with_reducible assumption
    | intro x; first | (refine (fun (hx : State.Kept s₀ x) => ?_) ?_); clear_value x; rotate_left; subst x | subst x
    | lift_lets -underBinder +implicits
    | with_reducible apply State.enterHoldover_kept
    | with_reducible apply State.wb_kept
    | with_reducible refine .ite (fun _ => ?_) (fun _ => ?_)
    | split

theorem State.holdTxReached_kept {s₀ s : State} (h₀ : State.Kept s₀ s)  : State.Kept s₀ (State.holdTxReached s) := by
  unfold State.holdTxReached
  repeat' first
    | with_reducible assumption
    | with_reducible apply State.wb_kept
    | with_reducible refine .ite (fun _ => ?_) (fun _ => ?_)
    | split

theorem State.holdLong_kept {s₀ s : State} (h₀ : State.Kept s₀ s)  : State.Kept s₀ (State.holdLong s) := by
  unfold State.holdLong
  repeat' first
    | with_reducible assumption
    | with_reducible apply State.cause_kept
    | with_reducible apply State.pageRecord_kept
    | with_reducible apply State.wb_kept
    | with_reducible refine .ite (fun _ => ?_) (fun _ => ?_)
    | split

theorem State.trkHold_kept {s₀ s : State} (h₀ : State.Kept s₀ s)  : State.Kept s₀ (State.trkHold s) := by
  unfold State.trkHold
  repeat' first
    | with_reducible assumption
    | intro x; first | (refine (fun (hx : State.Kept s₀ x) => ?_) ?_); clear_value x; rotate_left; subst x | subst x
    | lift_lets -underBinder +implicits
    | with_reducible apply State.enterHoldover_kept
    | with_reducible apply State.wb_kept
    | with_reducible refine .ite (fun _ => ?_) (fun _ => ?_)
    | split

theorem State.trkStart_kept {s₀ s : State} (h₀ : State.Kept s₀ s)  : State.Kept s₀ (State.trkStart s) := by
  unfold State.trkStart
  repeat' first
    | with_reducible assumption
    | intro x; first | (refine (fun (hx : State.Kept s₀ x) => ?_) ?_); clear_value x; rotate_left; subst x | subst x
    | lift_lets -underBinder +implicits
    | with_reducible apply State.holdRules_kept
    | with_reducible apply State.setTrk_kept
    | with_reducible refine .ite (fun _ => ?_) (fun _ => ?_)
    | split
    | with_reducible refine State.Kept.mk_iff.2 ?_

theorem State.trkRestart_kept {s₀ s : State} (h₀ : State.Kept s₀ s)  : State.Kept s₀ (State.trkRestart s) := by
  unfold State.trkRestart
  repeat' first
    | with_reducible assumption
    | intro x; first | (refine (fun (hx : State.Kept s₀ x) => ?_) ?_); clear_value x; rotate_left; subst x | subst x
    | lift_lets -underBinder +implicits
    | with_reducible apply State.dropCyc_kept
    | with_reducible apply State.trkChange_kept
    | with_reducible apply State.trkStart_kept
    | with_reducible apply State.wb_kept
    | with_reducible refine .ite (fun _ => ?_) (fun _ => ?_)
    | split

theorem State.trkEnable_kept {s₀ s : State} (h₀ : State.Kept s₀ s) (en : Bool) : State.Kept s₀ (State.trkEnable s en) := by
  unfold State.trkEnable
  repeat' first
    | with_reducible assumption
    | intro x; first | (refine (fun (hx : State.Kept s₀ x) => ?_) ?_); clear_value x; rotate_left; subst x | subst x
    | lift_lets -underBinder +implicits
    | with_reducible apply State.anchor_kept
    | with_reducible apply State.dropCyc_kept
    | with_reducible apply State.setTrk_kept
    | with_reducible apply State.trkStart_kept
    | with_reducible apply State.wb_kept
    | with_reducible apply State.wr_kept
    | with_reducible refine .ite (fun _ => ?_) (fun _ => ?_)
    | split
    | with_reducible refine State.Kept.mk_iff.2 ?_

theorem State.snap_kept {s₀ s : State} (h₀ : State.Kept s₀ s)  : State.Kept s₀ (State.snap s) := by
  unfold State.snap
  repeat' first
    | with_reducible assumption
    | with_reducible apply State.wr_kept
    | with_reducible apply State.wr64_kept
    | with_reducible refine .ite (fun _ => ?_) (fun _ => ?_)
    | split

theorem State.cycApply_kept {s₀ s : State} (h₀ : State.Kept s₀ s)  : State.Kept s₀ (State.cycApply s) := by
  unfold State.cycApply
  repeat' first
    | with_reducible assumption
    | with_reducible apply State.ignored_kept
    | with_reducible apply State.wb_kept
    | with_reducible refine .ite (fun _ => ?_) (fun _ => ?_)
    | split

theorem State.utcArm_kept {s₀ s : State} (h₀ : State.Kept s₀ s)  : State.Kept s₀ (State.utcArm s) := by
  unfold State.utcArm
  repeat' first
    | with_reducible assumption
    | intro x; first | (refine (fun (hx : State.Kept s₀ x) => ?_) ?_); clear_value x; rotate_left; subst x | subst x
    | lift_lets -underBinder +implicits
    | with_reducible apply State.setTrk_kept
    | with_reducible refine .ite (fun _ => ?_) (fun _ => ?_)
    | split
    | with_reducible refine State.Kept.mk_iff.2 ?_

theorem State.utcEdge_kept {s₀ s : State} (h₀ : State.Kept s₀ s)  : State.Kept s₀ (State.utcEdge s) := by
  unfold State.utcEdge
  repeat' first
    | with_reducible assumption
    | intro x; first | (refine (fun (hx : State.Kept s₀ x) => ?_) ?_); clear_value x; rotate_left; subst x | subst x
    | lift_lets -underBinder +implicits
    | with_reducible apply State.setTrk_kept
    | with_reducible apply State.wb_kept
    | with_reducible apply State.wr_kept
    | with_reducible refine .ite (fun _ => ?_) (fun _ => ?_)
    | split
    | with_reducible refine State.Kept.mkSec_iff.2 ?_
    | with_reducible refine State.Kept.mk_iff.2 ?_

theorem State.ppsTimeout_kept {s₀ s : State} (h₀ : State.Kept s₀ s)  : State.Kept s₀ (State.ppsTimeout s) := by
  unfold State.ppsTimeout
  repeat' first
    | with_reducible assumption
    | intro x; first | (refine (fun (hx : State.Kept s₀ x) => ?_) ?_); clear_value x; rotate_left; subst x | subst x
    | lift_lets -underBinder +implicits
    | with_reducible apply State.cause_kept
    | with_reducible apply State.ppsEdge_kept
    | with_reducible apply State.setTrk_kept
    | with_reducible apply State.wb_kept
    | with_reducible refine .ite (fun _ => ?_) (fun _ => ?_)
    | split
    | with_reducible refine State.Kept.mk_iff.2 ?_

theorem State.utcHoldExpiry_kept {s₀ s : State} (h₀ : State.Kept s₀ s)  : State.Kept s₀ (State.utcHoldExpiry s) := by
  unfold State.utcHoldExpiry
  repeat' first
    | with_reducible assumption
    | intro x; first | (refine (fun (hx : State.Kept s₀ x) => ?_) ?_); clear_value x; rotate_left; subst x | subst x
    | lift_lets -underBinder +implicits
    | with_reducible apply State.setTrk_kept
    | with_reducible apply State.wb_kept
    | with_reducible refine .ite (fun _ => ?_) (fun _ => ?_)
    | split
    | with_reducible refine State.Kept.mk_iff.2 ?_

theorem State.metOkChange_kept {s₀ s : State} (h₀ : State.Kept s₀ s) (ok : Bool) : State.Kept s₀ (State.metOkChange s ok) := by
  unfold State.metOkChange
  repeat' first
    | with_reducible assumption
    | with_reducible apply State.wb_kept
    | with_reducible refine .ite (fun _ => ?_) (fun _ => ?_)
    | split

end Sys2Proof.Machine
end

