-- ==== Sys2Proof/Laws/KeptLinePort.lean ====
section
/-! SUPPORT. The operations of Machine/LinePort.lean keep what Laws/Kept.lean says. -/

-- One declaration after another: the package is compiled as one text, and its memory stays within bounds.
set_option Elab.async false

namespace Sys2Proof.Machine

theorem State.setCond_kept {s₀ s : State} (h₀ : State.Kept s₀ s) (p c : Nat) (v : CondSt) : State.Kept s₀ (State.setCond s p c v) := by
  unfold State.setCond
  repeat' first
    | with_reducible assumption
    | intro x; first | (refine (fun (hx : State.Kept s₀ x) => ?_) ?_); clear_value x; rotate_left; subst x | subst x
    | lift_lets -underBinder +implicits
    | with_reducible refine .ite (fun _ => ?_) (fun _ => ?_)
    | split
    | with_reducible refine State.Kept.mk_iff.2 ?_

theorem State.setChan_kept {s₀ s : State} (h₀ : State.Kept s₀ s) (p ch : Nat) (v : ChanSt) : State.Kept s₀ (State.setChan s p ch v) := by
  unfold State.setChan
  repeat' first
    | with_reducible assumption
    | intro x; first | (refine (fun (hx : State.Kept s₀ x) => ?_) ?_); clear_value x; rotate_left; subst x | subst x
    | lift_lets -underBinder +implicits
    | with_reducible refine .ite (fun _ => ?_) (fun _ => ?_)
    | split
    | with_reducible refine State.Kept.mk_iff.2 ?_

theorem State.showCond_kept {s₀ s : State} (h₀ : State.Kept s₀ s) (p c : Nat) : State.Kept s₀ (State.showCond s p c) := by
  unfold State.showCond
  repeat' first
    | with_reducible assumption
    | intro x; first | (refine (fun (hx : State.Kept s₀ x) => ?_) ?_); clear_value x; rotate_left; subst x | subst x
    | lift_lets -underBinder +implicits
    | with_reducible apply State.wr_kept
    | with_reducible refine .ite (fun _ => ?_) (fun _ => ?_)
    | split

theorem State.putCond_kept {s₀ s : State} (h₀ : State.Kept s₀ s) (p c : Nat) (v : CondSt) : State.Kept s₀ (State.putCond s p c v) := by
  unfold State.putCond
  repeat' first
    | with_reducible assumption
    | with_reducible apply State.setCond_kept
    | with_reducible apply State.showCond_kept
    | with_reducible refine .ite (fun _ => ?_) (fun _ => ?_)
    | split

theorem State.descDone_kept {s₀ s : State} (h₀ : State.Kept s₀ s) (d : Nat) (st : Status) : State.Kept s₀ (State.descDone s d st) := by
  unfold State.descDone
  repeat' first
    | with_reducible assumption
    | intro x; first | (refine (fun (hx : State.Kept s₀ x) => ?_) ?_); clear_value x; rotate_left; subst x | subst x
    | lift_lets -underBinder +implicits
    | with_reducible refine .ite (fun _ => ?_) (fun _ => ?_)
    | split
    | with_reducible refine State.Kept.mk_iff.2 ?_

theorem State.pushOut_kept {s₀ s : State} (h₀ : State.Kept s₀ s) (o : OutFrame) : State.Kept s₀ (State.pushOut s o) := by
  unfold State.pushOut
  repeat' first
    | with_reducible assumption
    | intro x; first | (refine (fun (hx : State.Kept s₀ x) => ?_) ?_); clear_value x; rotate_left; subst x | subst x
    | lift_lets -underBinder +implicits
    | with_reducible refine .ite (fun _ => ?_) (fun _ => ?_)
    | split
    | with_reducible refine State.Kept.mk_iff.2 ?_

theorem State.sendUp_kept {s₀ s : State} (h₀ : State.Kept s₀ s) (p mtype : Nat) (body : List Byte) : State.Kept s₀ (State.sendUp s p mtype body) := by
  unfold State.sendUp
  repeat' first
    | with_reducible assumption
    | intro x; first | (refine (fun (hx : State.Kept s₀ x) => ?_) ?_); clear_value x; rotate_left; subst x | subst x
    | lift_lets -underBinder +implicits
    | with_reducible apply State.pushOut_kept
    | with_reducible refine .ite (fun _ => ?_) (fun _ => ?_)
    | split

theorem State.forwardFailed_kept {s₀ s : State} (h₀ : State.Kept s₀ s) (o : OutFrame) (st : Status) : State.Kept s₀ (State.forwardFailed s o st) := by
  unfold State.forwardFailed
  repeat' first
    | with_reducible assumption
    | intro x; first | (refine (fun (hx : State.Kept s₀ x) => ?_) ?_); clear_value x; rotate_left; subst x | subst x
    | lift_lets -underBinder +implicits
    | with_reducible apply State.incF_kept
    | with_reducible apply State.sendUp_kept
    | with_reducible refine .ite (fun _ => ?_) (fun _ => ?_)
    | split

theorem State.descStop_kept {s₀ s : State} (h₀ : State.Kept s₀ s) (d : Nat) (st : Status) : State.Kept s₀ (State.descStop s d st) := by
  unfold State.descStop
  repeat' first
    | with_reducible assumption
    | intro x; first | (refine (fun (hx : State.Kept s₀ x) => ?_) ?_); clear_value x; rotate_left; subst x | subst x
    | lift_lets -underBinder +implicits
    | with_reducible apply State.descDone_kept
    | with_reducible apply State.forwardFailed_kept
    | with_reducible refine .ite (fun _ => ?_) (fun _ => ?_)
    | split
    | with_reducible refine State.Kept.mk_iff.2 ?_

theorem State.restoreGain_kept {s₀ s : State} (h₀ : State.Kept s₀ s) (p c : Nat) : State.Kept s₀ (State.restoreGain s p c) := by
  unfold State.restoreGain
  repeat' first
    | with_reducible assumption
    | intro x; first | (refine (fun (hx : State.Kept s₀ x) => ?_) ?_); clear_value x; rotate_left; subst x | subst x
    | lift_lets -underBinder +implicits
    | with_reducible apply State.setChan_kept
    | with_reducible apply State.wr_kept
    | with_reducible refine .ite (fun _ => ?_) (fun _ => ?_)
    | split
    | with_reducible refine State.Kept.mk_iff.2 ?_

theorem State.openRxWin_kept {s₀ s : State} (h₀ : State.Kept s₀ s) (p ch e : Nat) : State.Kept s₀ (State.openRxWin s p ch e) := by
  unfold State.openRxWin
  repeat' first
    | with_reducible assumption
    | intro x; first | (refine (fun (hx : State.Kept s₀ x) => ?_) ?_); clear_value x; rotate_left; subst x | subst x
    | lift_lets -underBinder +implicits
    | with_reducible apply State.setChan_kept
    | with_reducible refine .ite (fun _ => ?_) (fun _ => ?_)
    | split
    | with_reducible refine State.Kept.mk_iff.2 ?_

theorem State.closeRxWin_kept {s₀ s : State} (h₀ : State.Kept s₀ s) (p ch : Nat) : State.Kept s₀ (State.closeRxWin s p ch) := by
  unfold State.closeRxWin
  repeat' first
    | with_reducible assumption
    | intro x; first | (refine (fun (hx : State.Kept s₀ x) => ?_) ?_); clear_value x; rotate_left; subst x | subst x
    | lift_lets -underBinder +implicits
    | with_reducible apply State.setChan_kept
    | with_reducible refine .ite (fun _ => ?_) (fun _ => ?_)
    | split
    | with_reducible refine State.Kept.mk_iff.2 ?_

theorem State.stopTx_kept {s₀ s0 : State} (h₀ : State.Kept s₀ s0) (p c : Nat) (st : Status) : State.Kept s₀ (State.stopTx s0 p c st) := by
  unfold State.stopTx
  repeat' first
    | with_reducible assumption
    | intro x; first | (refine (fun (hx : State.Kept s₀ x) => ?_) ?_); clear_value x; rotate_left; subst x | subst x
    | lift_lets -underBinder +implicits
    | with_reducible apply State.descStop_kept
    | with_reducible apply State.putCond_kept
    | with_reducible apply State.restoreGain_kept
    | with_reducible apply State.setCond_kept
    | with_reducible refine .ite (fun _ => ?_) (fun _ => ?_)
    | split

theorem State.stopPort_kept {s₀ s : State} (h₀ : State.Kept s₀ s) (p : Nat) (st : Status) : State.Kept s₀ (State.stopPort s p st) := by
  unfold State.stopPort
  repeat' first
    | with_reducible assumption
    | with_reducible apply State.stopTx_kept
    | with_reducible refine .ite (fun _ => ?_) (fun _ => ?_)
    | with_reducible refine .foldl (fun _ _ _ => ?_) ?_
    | split

theorem State.stopAll_kept {s₀ s : State} (h₀ : State.Kept s₀ s) (st : Status) : State.Kept s₀ (State.stopAll s st) := by
  unfold State.stopAll
  repeat' first
    | with_reducible assumption
    | with_reducible apply State.stopPort_kept
    | with_reducible refine .ite (fun _ => ?_) (fun _ => ?_)
    | with_reducible refine .foldl (fun _ _ _ => ?_) ?_
    | split

theorem State.faultStop_kept {s₀ s : State} (h₀ : State.Kept s₀ s) (p c : Nat) : State.Kept s₀ (State.faultStop s p c) := by
  unfold State.faultStop
  repeat' first
    | with_reducible assumption
    | with_reducible apply State.stopTx_kept
    | with_reducible refine .ite (fun _ => ?_) (fun _ => ?_)
    | split

theorem State.protEvent_kept {s₀ s : State} (h₀ : State.Kept s₀ s) (p bit_ sev c : Nat) : State.Kept s₀ (State.protEvent s p bit_ sev c) := by
  unfold State.protEvent
  repeat' first
    | with_reducible assumption
    | with_reducible apply State.cause_kept
    | with_reducible apply State.pageRecord_kept
    | with_reducible refine .ite (fun _ => ?_) (fun _ => ?_)
    | split

theorem State.currentLimit_kept {s₀ s : State} (h₀ : State.Kept s₀ s) (p c us : Nat) : State.Kept s₀ (State.currentLimit s p c us) := by
  unfold State.currentLimit
  repeat' first
    | with_reducible assumption
    | intro x; first | (refine (fun (hx : State.Kept s₀ x) => ?_) ?_); clear_value x; rotate_left; subst x | subst x
    | lift_lets -underBinder +implicits
    | with_reducible apply State.protEvent_kept
    | with_reducible apply State.putCond_kept
    | with_reducible refine .ite (fun _ => ?_) (fun _ => ?_)
    | split
    | with_reducible refine State.Kept.mk_iff.2 ?_

theorem State.foldback_kept {s₀ s : State} (h₀ : State.Kept s₀ s) (p c : Nat) : State.Kept s₀ (State.foldback s p c) := by
  unfold State.foldback
  repeat' first
    | with_reducible assumption
    | intro x; first | (refine (fun (hx : State.Kept s₀ x) => ?_) ?_); clear_value x; rotate_left; subst x | subst x
    | lift_lets -underBinder +implicits
    | with_reducible apply State.faultStop_kept
    | with_reducible apply State.protEvent_kept
    | with_reducible apply State.putCond_kept
    | with_reducible refine .ite (fun _ => ?_) (fun _ => ?_)
    | split
    | with_reducible refine State.Kept.mk_iff.2 ?_

theorem State.limitExpiry_kept {s₀ s : State} (h₀ : State.Kept s₀ s) (p c : Nat) : State.Kept s₀ (State.limitExpiry s p c) := by
  unfold State.limitExpiry
  repeat' first
    | with_reducible assumption
    | intro x; first | (refine (fun (hx : State.Kept s₀ x) => ?_) ?_); clear_value x; rotate_left; subst x | subst x
    | lift_lets -underBinder +implicits
    | with_reducible apply State.putCond_kept
    | with_reducible refine .ite (fun _ => ?_) (fun _ => ?_)
    | split
    | with_reducible refine State.Kept.mk_iff.2 ?_

theorem State.openFound_kept {s₀ s : State} (h₀ : State.Kept s₀ s) (p c : Nat) : State.Kept s₀ (State.openFound s p c) := by
  unfold State.openFound
  repeat' first
    | with_reducible assumption
    | intro x; first | (refine (fun (hx : State.Kept s₀ x) => ?_) ?_); clear_value x; rotate_left; subst x | subst x
    | lift_lets -underBinder +implicits
    | with_reducible apply State.faultStop_kept
    | with_reducible apply State.protEvent_kept
    | with_reducible apply State.putCond_kept
    | with_reducible refine .ite (fun _ => ?_) (fun _ => ?_)
    | split
    | with_reducible refine State.Kept.mk_iff.2 ?_

theorem State.showZ_kept {s₀ s : State} (h₀ : State.Kept s₀ s) (p c z : Nat) : State.Kept s₀ (State.showZ s p c z) := by
  unfold State.showZ
  repeat' first
    | with_reducible assumption
    | with_reducible apply State.wf_kept
    | with_reducible refine .ite (fun _ => ?_) (fun _ => ?_)
    | split

theorem State.legCheck_kept {s₀ s : State} (h₀ : State.Kept s₀ s) (p c : Nat) (bad : List Nat) : State.Kept s₀ (State.legCheck s p c bad) := by
  unfold State.legCheck
  repeat' first
    | with_reducible assumption
    | intro x; first | (refine (fun (hx : State.Kept s₀ x) => ?_) ?_); clear_value x; rotate_left; subst x | (refine (fun (hx : State.Kept s₀ x.1) => ?_) ?_); clear_value x; rotate_left; subst x | subst x
    | lift_lets -underBinder +implicits
    | split
    | with_reducible apply State.fault_kept
    | with_reducible apply State.setCond_kept
    | with_reducible refine .ite (fun _ => ?_) (fun _ => ?_)
    | with_reducible refine .foldl (fun _ _ _ => ?_) ?_
    | with_reducible refine .foldlFst (fun _ _ _ => ?_) ?_
    | with_reducible refine .ofFst (by assumption) ?_
    | split
    | with_reducible refine State.Kept.mk_iff.2 ?_

theorem State.legReplace_kept {s₀ s : State} (h₀ : State.Kept s₀ s) (p c l : Nat) : State.Kept s₀ (State.legReplace s p c l) := by
  unfold State.legReplace
  repeat' first
    | with_reducible assumption
    | intro x; first | (refine (fun (hx : State.Kept s₀ x) => ?_) ?_); clear_value x; rotate_left; subst x | subst x
    | lift_lets -underBinder +implicits
    | with_reducible apply State.benchEmpty_kept
    | with_reducible apply State.pageRecord_kept
    | with_reducible apply State.setCond_kept
    | with_reducible apply State.wb_kept
    | with_reducible apply State.wr_kept
    | with_reducible refine .ite (fun _ => ?_) (fun _ => ?_)
    | with_reducible refine .foldl (fun _ _ _ => ?_) ?_
    | split
    | with_reducible refine State.Kept.mk_iff.2 ?_

theorem State.legSubst_kept {s₀ s : State} (h₀ : State.Kept s₀ s) (p c : Nat) : State.Kept s₀ (State.legSubst s p c) := by
  unfold State.legSubst
  repeat' first
    | with_reducible assumption
    | intro x; first | (refine (fun (hx : State.Kept s₀ x) => ?_) ?_); clear_value x; rotate_left; subst x | subst x
    | lift_lets -underBinder +implicits
    | with_reducible apply State.legReplace_kept
    | with_reducible refine .ite (fun _ => ?_) (fun _ => ?_)
    | split

theorem State.legIfDue_kept {s₀ s : State} (h₀ : State.Kept s₀ s) (p c : Nat) : State.Kept s₀ (State.legIfDue s p c) := by
  unfold State.legIfDue
  repeat' first
    | with_reducible assumption
    | with_reducible apply State.legSubst_kept
    | with_reducible refine .ite (fun _ => ?_) (fun _ => ?_)
    | split

theorem State.loopShow_kept {s₀ s : State} (h₀ : State.Kept s₀ s) (p c : Nat) (m : LineEnd) : State.Kept s₀ (State.loopShow s p c m) := by
  unfold State.loopShow
  repeat' first
    | with_reducible assumption
    | intro x; first | (refine (fun (hx : State.Kept s₀ x) => ?_) ?_); clear_value x; rotate_left; subst x | subst x
    | lift_lets -underBinder +implicits
    | split
    | with_reducible apply State.wr_kept
    | with_reducible refine .ite (fun _ => ?_) (fun _ => ?_)
    | with_reducible refine .foldl (fun _ _ _ => ?_) ?_
    | split

theorem State.txEnd_kept {s₀ s : State} (h₀ : State.Kept s₀ s) (p c : Nat) (bb : Bool) (m : LineEnd) : State.Kept s₀ (State.txEnd s p c bb m) := by
  unfold State.txEnd
  repeat' first
    | with_reducible assumption
    | intro x; first | (refine (fun (hx : State.Kept s₀ x) => ?_) ?_); clear_value x; rotate_left; subst x | subst x
    | lift_lets -underBinder +implicits
    | with_reducible apply State.legCheck_kept
    | with_reducible apply State.legIfDue_kept
    | with_reducible apply State.loopShow_kept
    | with_reducible apply State.openFound_kept
    | with_reducible apply State.putCond_kept
    | with_reducible apply State.restoreGain_kept
    | with_reducible apply State.setCond_kept
    | with_reducible apply State.showZ_kept
    | with_reducible refine .ite (fun _ => ?_) (fun _ => ?_)
    | split
    | with_reducible refine State.Kept.mk_iff.2 ?_

theorem State.probeRequest_kept {s₀ s : State} (h₀ : State.Kept s₀ s) (p c : Nat) : State.Kept s₀ (State.probeRequest s p c) := by
  unfold State.probeRequest
  repeat' first
    | with_reducible assumption
    | intro x; first | (refine (fun (hx : State.Kept s₀ x) => ?_) ?_); clear_value x; rotate_left; subst x | subst x
    | lift_lets -underBinder +implicits
    | with_reducible apply State.setCond_kept
    | with_reducible refine .ite (fun _ => ?_) (fun _ => ?_)
    | split
    | with_reducible refine State.Kept.mk_iff.2 ?_

theorem State.probeStart_kept {s₀ s : State} (h₀ : State.Kept s₀ s) (p c : Nat) : State.Kept s₀ (State.probeStart s p c) := by
  unfold State.probeStart
  repeat' first
    | with_reducible assumption
    | intro x; first | (refine (fun (hx : State.Kept s₀ x) => ?_) ?_); clear_value x; rotate_left; subst x | subst x
    | lift_lets -underBinder +implicits
    | with_reducible apply State.setCond_kept
    | with_reducible refine .ite (fun _ => ?_) (fun _ => ?_)
    | split
    | with_reducible refine State.Kept.mk_iff.2 ?_

theorem State.probeDone_kept {s₀ s : State} (h₀ : State.Kept s₀ s) (p c z : Nat) : State.Kept s₀ (State.probeDone s p c z) := by
  unfold State.probeDone
  repeat' first
    | with_reducible assumption
    | intro x; first | (refine (fun (hx : State.Kept s₀ x) => ?_) ?_); clear_value x; rotate_left; subst x | subst x
    | lift_lets -underBinder +implicits
    | with_reducible apply State.openFound_kept
    | with_reducible apply State.protEvent_kept
    | with_reducible apply State.putCond_kept
    | with_reducible apply State.showZ_kept
    | with_reducible refine .ite (fun _ => ?_) (fun _ => ?_)
    | split
    | with_reducible refine State.Kept.mk_iff.2 ?_

theorem State.probeRetry_kept {s₀ s : State} (h₀ : State.Kept s₀ s) (p c : Nat) : State.Kept s₀ (State.probeRetry s p c) := by
  unfold State.probeRetry
  repeat' first
    | with_reducible assumption
    | intro x; first | (refine (fun (hx : State.Kept s₀ x) => ?_) ?_); clear_value x; rotate_left; subst x | subst x
    | lift_lets -underBinder +implicits
    | split
    | with_reducible apply State.setCond_kept
    | with_reducible refine .ite (fun _ => ?_) (fun _ => ?_)
    | split
    | with_reducible refine State.Kept.mk_iff.2 ?_

theorem State.polRefresh_kept {s₀ s : State} (h₀ : State.Kept s₀ s) (p c : Nat) : State.Kept s₀ (State.polRefresh s p c) := by
  unfold State.polRefresh
  repeat' first
    | with_reducible assumption
    | intro x; first | (refine (fun (hx : State.Kept s₀ x) => ?_) ?_); clear_value x; rotate_left; subst x | subst x
    | lift_lets -underBinder +implicits
    | with_reducible apply State.setCond_kept
    | with_reducible refine .ite (fun _ => ?_) (fun _ => ?_)
    | split
    | with_reducible refine State.Kept.mk_iff.2 ?_

theorem State.polarityChange_kept {s₀ s : State} (h₀ : State.Kept s₀ s) (p c : Nat) : State.Kept s₀ (State.polarityChange s p c) := by
  unfold State.polarityChange
  repeat' first
    | with_reducible assumption
    | intro x; first | (refine (fun (hx : State.Kept s₀ x) => ?_) ?_); clear_value x; rotate_left; subst x | subst x
    | lift_lets -underBinder +implicits
    | with_reducible apply State.setCond_kept
    | with_reducible apply State.wb_kept
    | with_reducible refine .ite (fun _ => ?_) (fun _ => ?_)
    | split
    | with_reducible refine State.Kept.mk_iff.2 ?_

theorem State.phaseObserved_kept {s₀ s : State} (h₀ : State.Kept s₀ s) (p c : Nat) (inverted : Bool) (src : Nat) : State.Kept s₀ (State.phaseObserved s p c inverted src) := by
  unfold State.phaseObserved
  repeat' first
    | with_reducible assumption
    | intro x; first | (refine (fun (hx : State.Kept s₀ x) => ?_) ?_); clear_value x; rotate_left; subst x | subst x
    | lift_lets -underBinder +implicits
    | with_reducible apply State.polRefresh_kept
    | with_reducible apply State.protEvent_kept
    | with_reducible apply State.setCond_kept
    | with_reducible apply State.wb_kept
    | with_reducible refine .ite (fun _ => ?_) (fun _ => ?_)
    | split
    | with_reducible refine State.Kept.mk_iff.2 ?_

theorem State.gridCycle_kept {s₀ s : State} (h₀ : State.Kept s₀ s) (ms : List (Fin 12)) : State.Kept s₀ (State.gridCycle s ms) := by
  unfold State.gridCycle
  repeat' first
    | with_reducible assumption
    | intro x; first | (refine (fun (hx : State.Kept s₀ x) => ?_) ?_); clear_value x; rotate_left; subst x | (refine (fun (hx : ∀ a, State.Kept s₀ a → State.Kept s₀ (x a)) => ?_) ?_); clear_value x; rotate_left; subst x; intro _ _ | (refine (fun (hx : ∀ a b, State.Kept s₀ a → State.Kept s₀ (x a b).1) => ?_) ?_); clear_value x; rotate_left; subst x; intro _ _ _ | (refine (fun (hx : ∀ a b, State.Kept s₀ a → State.Kept s₀ (x a b)) => ?_) ?_); clear_value x; rotate_left; subst x; intro _ _ _ | (refine (fun (hx : ∀ a, State.Kept s₀ (x a)) => ?_) ?_); clear_value x; rotate_left; subst x; intro _ | (refine (fun (hx : ∀ a b, State.Kept s₀ (x a b)) => ?_) ?_); clear_value x; rotate_left; subst x; intro _ _ | subst x
    | lift_lets -underBinder +implicits
    | with_reducible apply State.setCond_kept
    | with_reducible refine .ite (fun _ => ?_) (fun _ => ?_)
    | with_reducible refine .foldl (fun _ _ _ => ?_) ?_
    | with_reducible apply_assumption -exfalso
    | dsimp -zeta only
    | split
    | with_reducible refine State.Kept.mk_iff.2 ?_

theorem State.gridBit_kept {s₀ s : State} (h₀ : State.Kept s₀ s) (p bit_ ev c : Nat) (found gone : Bool) : State.Kept s₀ (State.gridBit s p bit_ ev c found gone) := by
  unfold State.gridBit
  repeat' first
    | with_reducible assumption
    | intro x; first | (refine (fun (hx : State.Kept s₀ x) => ?_) ?_); clear_value x; rotate_left; subst x | subst x
    | lift_lets -underBinder +implicits
    | with_reducible apply State.protEvent_kept
    | with_reducible apply State.wb_kept
    | with_reducible refine .ite (fun _ => ?_) (fun _ => ?_)
    | split

theorem State.lnSwap_kept {s₀ s : State} (h₀ : State.Kept s₀ s) (p c : Nat) : State.Kept s₀ (State.lnSwap s p c) := by
  unfold State.lnSwap
  repeat' first
    | with_reducible assumption
    | with_reducible apply State.gridBit_kept
    | with_reducible refine .ite (fun _ => ?_) (fun _ => ?_)
    | split

theorem State.seqRev_kept {s₀ s : State} (h₀ : State.Kept s₀ s) (p : Nat) : State.Kept s₀ (State.seqRev s p) := by
  unfold State.seqRev
  repeat' first
    | with_reducible assumption
    | with_reducible apply State.gridBit_kept
    | with_reducible refine .ite (fun _ => ?_) (fun _ => ?_)
    | split

theorem State.openNeutral_kept {s₀ s : State} (h₀ : State.Kept s₀ s) (p : Nat) (cycles : List (Nat × List Nat)) : State.Kept s₀ (State.openNeutral s p cycles) := by
  unfold State.openNeutral
  repeat' first
    | with_reducible assumption
    | intro x; first | (refine (fun (hx : State.Kept s₀ x) => ?_) ?_); clear_value x; rotate_left; subst x | (refine (fun (hx : ∀ a, State.Kept s₀ a → State.Kept s₀ (x a)) => ?_) ?_); clear_value x; rotate_left; subst x; intro _ _ | (refine (fun (hx : ∀ a b, State.Kept s₀ a → State.Kept s₀ (x a b).1) => ?_) ?_); clear_value x; rotate_left; subst x; intro _ _ _ | (refine (fun (hx : ∀ a b, State.Kept s₀ a → State.Kept s₀ (x a b)) => ?_) ?_); clear_value x; rotate_left; subst x; intro _ _ _ | (refine (fun (hx : ∀ a, State.Kept s₀ (x a)) => ?_) ?_); clear_value x; rotate_left; subst x; intro _ | (refine (fun (hx : ∀ a b, State.Kept s₀ (x a b)) => ?_) ?_); clear_value x; rotate_left; subst x; intro _ _ | subst x
    | lift_lets -underBinder +implicits
    | with_reducible apply State.gridBit_kept
    | with_reducible refine .ite (fun _ => ?_) (fun _ => ?_)
    | with_reducible apply_assumption -exfalso
    | dsimp -zeta only
    | split

theorem State.vdrvFault_kept {s₀ s : State} (h₀ : State.Kept s₀ s) (p : Nat) (mv : Int) : State.Kept s₀ (State.vdrvFault s p mv) := by
  unfold State.vdrvFault
  repeat' first
    | with_reducible assumption
    | intro x; first | (refine (fun (hx : State.Kept s₀ x) => ?_) ?_); clear_value x; rotate_left; subst x | subst x
    | lift_lets -underBinder +implicits
    | with_reducible apply State.faultStop_kept
    | with_reducible apply State.protEvent_kept
    | with_reducible apply State.putCond_kept
    | with_reducible apply State.setCond_kept
    | with_reducible apply State.wb_kept
    | with_reducible apply State.wf_kept
    | with_reducible refine .ite (fun _ => ?_) (fun _ => ?_)
    | with_reducible refine .foldl (fun _ _ _ => ?_) ?_
    | split
    | with_reducible refine State.Kept.mk_iff.2 ?_

theorem State.vdrvRecover_kept {s₀ s : State} (h₀ : State.Kept s₀ s) (p : Nat) (mv : Int) : State.Kept s₀ (State.vdrvRecover s p mv) := by
  unfold State.vdrvRecover
  repeat' first
    | with_reducible assumption
    | intro x; first | (refine (fun (hx : State.Kept s₀ x) => ?_) ?_); clear_value x; rotate_left; subst x | subst x
    | lift_lets -underBinder +implicits
    | with_reducible apply State.putCond_kept
    | with_reducible apply State.setCond_kept
    | with_reducible apply State.wf_kept
    | with_reducible apply State.wr_kept
    | with_reducible refine .ite (fun _ => ?_) (fun _ => ?_)
    | with_reducible refine .foldl (fun _ _ _ => ?_) ?_
    | split
    | with_reducible refine State.Kept.mk_iff.2 ?_

theorem State.drvTemp_kept {s₀ s : State} (h₀ : State.Kept s₀ s) (d : Nat) (t tmax : Int) : State.Kept s₀ (State.drvTemp s d t tmax) := by
  unfold State.drvTemp
  repeat' first
    | with_reducible assumption
    | intro x; first | (refine (fun (hx : State.Kept s₀ x) => ?_) ?_); clear_value x; rotate_left; subst x | subst x
    | lift_lets -underBinder +implicits
    | with_reducible apply State.faultStop_kept
    | with_reducible apply State.protEvent_kept
    | with_reducible apply State.putCond_kept
    | with_reducible apply State.wf_kept
    | with_reducible refine .ite (fun _ => ?_) (fun _ => ?_)
    | with_reducible refine .foldl (fun _ _ _ => ?_) ?_
    | split
    | with_reducible refine State.Kept.mk_iff.2 ?_

theorem State.setGain_kept {s₀ s : State} (h₀ : State.Kept s₀ s) (p ch g : Nat) : State.Kept s₀ (State.setGain s p ch g) := by
  unfold State.setGain
  repeat' first
    | with_reducible assumption
    | with_reducible apply State.setChan_kept
    | with_reducible apply State.wf_kept
    | with_reducible refine .ite (fun _ => ?_) (fun _ => ?_)
    | split

theorem State.agcOverload_kept {s₀ s : State} (h₀ : State.Kept s₀ s) (p ch : Nat) : State.Kept s₀ (State.agcOverload s p ch) := by
  unfold State.agcOverload
  repeat' first
    | with_reducible assumption
    | intro x; first | (refine (fun (hx : State.Kept s₀ x) => ?_) ?_); clear_value x; rotate_left; subst x | subst x
    | lift_lets -underBinder +implicits
    | with_reducible apply State.setGain_kept
    | with_reducible apply State.wr_kept
    | with_reducible refine .ite (fun _ => ?_) (fun _ => ?_)
    | split

theorem State.agcStepUp_kept {s₀ s : State} (h₀ : State.Kept s₀ s) (p ch : Nat) : State.Kept s₀ (State.agcStepUp s p ch) := by
  unfold State.agcStepUp
  repeat' first
    | with_reducible assumption
    | intro x; first | (refine (fun (hx : State.Kept s₀ x) => ?_) ?_); clear_value x; rotate_left; subst x | subst x
    | lift_lets -underBinder +implicits
    | with_reducible apply State.setChan_kept
    | with_reducible apply State.setGain_kept
    | with_reducible refine .ite (fun _ => ?_) (fun _ => ?_)
    | split
    | with_reducible refine State.Kept.mk_iff.2 ?_

theorem State.holdGain_kept {s₀ s : State} (h₀ : State.Kept s₀ s) (p c : Nat) : State.Kept s₀ (State.holdGain s p c) := by
  unfold State.holdGain
  repeat' first
    | with_reducible assumption
    | intro x; first | (refine (fun (hx : State.Kept s₀ x) => ?_) ?_); clear_value x; rotate_left; subst x | subst x
    | lift_lets -underBinder +implicits
    | with_reducible apply State.setChan_kept
    | with_reducible apply State.setGain_kept
    | with_reducible apply State.wb_kept
    | with_reducible refine .ite (fun _ => ?_) (fun _ => ?_)
    | split
    | with_reducible refine State.Kept.mk_iff.2 ?_

theorem State.gainRefresh_kept {s₀ s : State} (h₀ : State.Kept s₀ s) (p ch : Nat) : State.Kept s₀ (State.gainRefresh s p ch) := by
  unfold State.gainRefresh
  repeat' first
    | with_reducible assumption
    | with_reducible apply State.setGain_kept
    | with_reducible refine .ite (fun _ => ?_) (fun _ => ?_)
    | split

end Sys2Proof.Machine
end

