-- ==== Sys2Proof/Laws/KeptMaps.lean ====
section
/-! SUPPORT. The operations of Machine/Maps.lean keep what Laws/Kept.lean says. -/

-- One declaration after another: the package is compiled as one text, and its memory stays within bounds.
set_option Elab.async false

namespace Sys2Proof.Machine

theorem State.mapSets_kept {s₀ s : State} (h₀ : State.Kept s₀ s) (f : MapSet → MapSet) : State.Kept s₀ (State.mapSets s f) := by
  unfold State.mapSets
  repeat' first
    | with_reducible assumption
    | intro x; first | (refine (fun (hx : State.Kept s₀ x) => ?_) ?_); clear_value x; rotate_left; subst x | subst x
    | lift_lets -underBinder +implicits
    | with_reducible refine .ite (fun _ => ?_) (fun _ => ?_)
    | split
    | with_reducible refine State.Kept.mk_iff.2 ?_

theorem State.sendMap_kept {s₀ s : State} (h₀ : State.Kept s₀ s) (p : Nat) (bb : Bool) (c peer : Nat) (body : List Byte) : State.Kept s₀ (State.sendMap s p bb c peer body) := by
  unfold State.sendMap
  repeat' first
    | with_reducible assumption
    | with_reducible apply State.pushOut_kept
    | with_reducible refine .ite (fun _ => ?_) (fun _ => ?_)
    | split

theorem State.showMapPool_kept {s₀ s : State} (h₀ : State.Kept s₀ s)  : State.Kept s₀ (State.showMapPool s) := by
  unfold State.showMapPool
  repeat' first
    | with_reducible assumption
    | with_reducible apply State.wr_kept
    | with_reducible refine .ite (fun _ => ?_) (fun _ => ?_)
    | split

theorem State.storeSet_kept {s₀ s : State} (h₀ : State.Kept s₀ s) (m : MapSet) : State.Kept s₀ (State.storeSet s m).1 := by
  unfold State.storeSet
  repeat' first
    | with_reducible assumption
    | intro x; first | (refine (fun (hx : State.Kept s₀ x) => ?_) ?_); clear_value x; rotate_left; subst x | (refine (fun (hx : State.Kept s₀ x.1) => ?_) ?_); clear_value x; rotate_left; subst x | subst x
    | lift_lets -underBinder +implicits
    | with_reducible apply State.cause_kept
    | with_reducible apply State.inc_kept
    | with_reducible apply State.pageRecord_kept
    | with_reducible apply State.showMapPool_kept
    | with_reducible refine .ite (fun _ => ?_) (fun _ => ?_)
    | with_reducible refine .iteFst (fun _ => ?_) (fun _ => ?_)
    | split
    | with_reducible refine State.Kept.mk_iff.2 ?_

theorem State.dropSets_kept {s₀ s : State} (h₀ : State.Kept s₀ s) (f : MapSet → Bool) : State.Kept s₀ (State.dropSets s f) := by
  unfold State.dropSets
  repeat' first
    | with_reducible assumption
    | intro x; first | (refine (fun (hx : State.Kept s₀ x) => ?_) ?_); clear_value x; rotate_left; subst x | subst x
    | lift_lets -underBinder +implicits
    | with_reducible apply State.showMapPool_kept
    | with_reducible refine .ite (fun _ => ?_) (fun _ => ?_)
    | split
    | with_reducible refine State.Kept.mk_iff.2 ?_

theorem State.newMapId_kept {s₀ s : State} (h₀ : State.Kept s₀ s) (k : Nat) : State.Kept s₀ (State.newMapId s k).1 := by
  unfold State.newMapId
  repeat' first
    | with_reducible assumption
    | intro x; first | (refine (fun (hx : State.Kept s₀ x) => ?_) ?_); clear_value x; rotate_left; subst x | (refine (fun (hx : State.Kept s₀ x.1) => ?_) ?_); clear_value x; rotate_left; subst x | subst x
    | lift_lets -underBinder +implicits
    | with_reducible refine .ite (fun _ => ?_) (fun _ => ?_)
    | with_reducible refine .iteFst (fun _ => ?_) (fun _ => ?_)
    | split
    | with_reducible refine State.Kept.mk_iff.2 ?_

theorem State.propose_kept {s₀ s : State} (h₀ : State.Kept s₀ s) (m : MapSet) : State.Kept s₀ (State.propose s m).1 := by
  unfold State.propose
  repeat' first
    | with_reducible assumption
    | intro x; first | (refine (fun (hx : State.Kept s₀ x) => ?_) ?_); clear_value x; rotate_left; subst x | (refine (fun (hx : State.Kept s₀ x.1) => ?_) ?_); clear_value x; rotate_left; subst x | subst x
    | lift_lets -underBinder +implicits
    | split
    | with_reducible apply State.dropSets_kept
    | with_reducible apply State.newMapId_kept
    | with_reducible apply State.storeSet_kept
    | with_reducible refine .ite (fun _ => ?_) (fun _ => ?_)
    | with_reducible refine .iteFst (fun _ => ?_) (fun _ => ?_)
    | with_reducible refine .ofFst (by assumption) ?_
    | split
    | with_reducible refine State.Kept.mk_iff.2 ?_

theorem State.setSeries_kept {s₀ s : State} (h₀ : State.Kept s₀ s) (k g : Nat) (l : List Obs) : State.Kept s₀ (State.setSeries s k g l) := by
  unfold State.setSeries
  repeat' first
    | with_reducible assumption
    | intro x; first | (refine (fun (hx : State.Kept s₀ x) => ?_) ?_); clear_value x; rotate_left; subst x | subst x
    | lift_lets -underBinder +implicits
    | with_reducible apply State.mapSets_kept
    | with_reducible refine .ite (fun _ => ?_) (fun _ => ?_)
    | split
    | with_reducible refine State.Kept.mk_iff.2 ?_

theorem State.observe_kept {s₀ s : State} (h₀ : State.Kept s₀ s) (p : Nat) (bb : Bool) (c peer plan g : Nat) (snrs : List (List Int)) (pilot : Int) : State.Kept s₀ (State.observe s p bb c peer plan g snrs pilot).1 := by
  unfold State.observe
  repeat' first
    | with_reducible assumption
    | intro x; first | (refine (fun (hx : State.Kept s₀ x) => ?_) ?_); clear_value x; rotate_left; subst x | (refine (fun (hx : State.Kept s₀ x.1) => ?_) ?_); clear_value x; rotate_left; subst x | subst x
    | lift_lets -underBinder +implicits
    | with_reducible apply State.mapSets_kept
    | with_reducible apply State.propose_kept
    | with_reducible apply State.setSeries_kept
    | with_reducible refine .ite (fun _ => ?_) (fun _ => ?_)
    | with_reducible refine .iteFst (fun _ => ?_) (fun _ => ?_)
    | with_reducible refine .ofFst (by assumption) ?_
    | split
    | with_reducible refine State.Kept.mk_iff.2 ?_

theorem State.stepCount_kept {s₀ s : State} (h₀ : State.Kept s₀ s) (p : Nat) (bb : Bool) (c : Nat) : State.Kept s₀ (State.stepCount s p bb c) := by
  unfold State.stepCount
  repeat' first
    | with_reducible assumption
    | with_reducible apply State.cause_kept
    | with_reducible apply State.inc_kept
    | with_reducible refine .ite (fun _ => ?_) (fun _ => ?_)
    | split

theorem State.stepSuspect_kept {s₀ s : State} (h₀ : State.Kept s₀ s) (k id : Nat) (groups : List Nat) : State.Kept s₀ (State.stepSuspect s k id groups) := by
  unfold State.stepSuspect
  repeat' first
    | with_reducible assumption
    | intro x; first | (refine (fun (hx : State.Kept s₀ x) => ?_) ?_); clear_value x; rotate_left; subst x | subst x
    | lift_lets -underBinder +implicits
    | with_reducible apply State.mapSets_kept
    | with_reducible refine .ite (fun _ => ?_) (fun _ => ?_)
    | split
    | with_reducible refine State.Kept.mk_iff.2 ?_

theorem State.mapChange_kept {s₀ s : State} (h₀ : State.Kept s₀ s) (peer p : Nat) (b : List Byte) : State.Kept s₀ (State.mapChange s peer p b) := by
  unfold State.mapChange
  repeat' first
    | with_reducible assumption
    | intro x; first | (refine (fun (hx : State.Kept s₀ x) => ?_) ?_); clear_value x; rotate_left; subst x | (refine (fun (hx : State.Kept s₀ x.1) => ?_) ?_); clear_value x; rotate_left; subst x | subst x
    | lift_lets -underBinder +implicits
    | with_reducible apply State.cause_kept
    | with_reducible apply State.dropSets_kept
    | with_reducible apply State.incF_kept
    | with_reducible apply State.storeSet_kept
    | with_reducible refine .ite (fun _ => ?_) (fun _ => ?_)
    | with_reducible refine .ofFst (by assumption) ?_
    | split
    | with_reducible refine State.Kept.mk_iff.2 ?_

theorem State.mapApply_kept {s₀ s : State} (h₀ : State.Kept s₀ s) (k : Nat) : State.Kept s₀ (State.mapApply s k) := by
  unfold State.mapApply
  repeat' first
    | with_reducible assumption
    | intro x; first | (refine (fun (hx : State.Kept s₀ x) => ?_) ?_); clear_value x; rotate_left; subst x | (refine (fun (hx : ∀ a, State.Kept s₀ a → State.Kept s₀ (x a)) => ?_) ?_); clear_value x; rotate_left; subst x; intro _ _ | (refine (fun (hx : ∀ a b, State.Kept s₀ a → State.Kept s₀ (x a b).1) => ?_) ?_); clear_value x; rotate_left; subst x; intro _ _ _ | (refine (fun (hx : ∀ a b, State.Kept s₀ a → State.Kept s₀ (x a b)) => ?_) ?_); clear_value x; rotate_left; subst x; intro _ _ _ | (refine (fun (hx : ∀ a, State.Kept s₀ (x a)) => ?_) ?_); clear_value x; rotate_left; subst x; intro _ | (refine (fun (hx : ∀ a b, State.Kept s₀ (x a b)) => ?_) ?_); clear_value x; rotate_left; subst x; intro _ _ | subst x
    | lift_lets -underBinder +implicits
    | with_reducible apply State.cause_kept
    | with_reducible apply State.dropSets_kept
    | with_reducible apply State.incF_kept
    | with_reducible apply State.mapSets_kept
    | with_reducible refine .ite (fun _ => ?_) (fun _ => ?_)
    | with_reducible apply_assumption -exfalso
    | dsimp -zeta only
    | split
    | with_reducible refine State.Kept.mk_iff.2 ?_

theorem State.mapResend_kept {s₀ s : State} (h₀ : State.Kept s₀ s) (k : Nat) : State.Kept s₀ (State.mapResend s k).1 := by
  unfold State.mapResend
  repeat' first
    | with_reducible assumption
    | intro x; first | (refine (fun (hx : State.Kept s₀ x) => ?_) ?_); clear_value x; rotate_left; subst x | (refine (fun (hx : State.Kept s₀ x.1) => ?_) ?_); clear_value x; rotate_left; subst x | subst x
    | lift_lets -underBinder +implicits
    | with_reducible apply State.mapSets_kept
    | with_reducible refine .ite (fun _ => ?_) (fun _ => ?_)
    | with_reducible refine .iteFst (fun _ => ?_) (fun _ => ?_)
    | split
    | with_reducible refine State.Kept.mk_iff.2 ?_

theorem State.oldRelease_kept {s₀ s : State} (h₀ : State.Kept s₀ s) (k : Nat) : State.Kept s₀ (State.oldRelease s k) := by
  unfold State.oldRelease
  repeat' first
    | with_reducible assumption
    | intro x; first | (refine (fun (hx : State.Kept s₀ x) => ?_) ?_); clear_value x; rotate_left; subst x | subst x
    | lift_lets -underBinder +implicits
    | with_reducible apply State.dropSets_kept
    | with_reducible refine .ite (fun _ => ?_) (fun _ => ?_)
    | split

theorem State.sawSet_kept {s₀ s : State} (h₀ : State.Kept s₀ s) (k id : Nat) : State.Kept s₀ (State.sawSet s k id) := by
  unfold State.sawSet
  repeat' first
    | with_reducible assumption
    | intro x; first | (refine (fun (hx : State.Kept s₀ x) => ?_) ?_); clear_value x; rotate_left; subst x | subst x
    | lift_lets -underBinder +implicits
    | with_reducible apply State.cause_kept
    | with_reducible apply State.incF_kept
    | with_reducible apply State.mapSets_kept
    | with_reducible refine .ite (fun _ => ?_) (fun _ => ?_)
    | split
    | with_reducible refine State.Kept.mk_iff.2 ?_

theorem State.mcStamp_kept {s₀ s : State} (h₀ : State.Kept s₀ s) (o : OutFrame) : State.Kept s₀ (State.mcStamp s o).1 := by
  unfold State.mcStamp
  repeat' first
    | with_reducible assumption
    | intro x; first | (refine (fun (hx : State.Kept s₀ x) => ?_) ?_); clear_value x; rotate_left; subst x | (refine (fun (hx : State.Kept s₀ x.1) => ?_) ?_); clear_value x; rotate_left; subst x | (refine (fun (hx : ∀ a, State.Kept s₀ a → State.Kept s₀ (x a)) => ?_) ?_); clear_value x; rotate_left; subst x; intro _ _ | (refine (fun (hx : ∀ a b, State.Kept s₀ a → State.Kept s₀ (x a b).1) => ?_) ?_); clear_value x; rotate_left; subst x; intro _ _ _ | (refine (fun (hx : ∀ a b, State.Kept s₀ a → State.Kept s₀ (x a b)) => ?_) ?_); clear_value x; rotate_left; subst x; intro _ _ _ | (refine (fun (hx : ∀ a, State.Kept s₀ (x a)) => ?_) ?_); clear_value x; rotate_left; subst x; intro _ | (refine (fun (hx : ∀ a b, State.Kept s₀ (x a b)) => ?_) ?_); clear_value x; rotate_left; subst x; intro _ _ | subst x
    | lift_lets -underBinder +implicits
    | with_reducible apply State.mapSets_kept
    | with_reducible refine .ite (fun _ => ?_) (fun _ => ?_)
    | with_reducible refine .iteFst (fun _ => ?_) (fun _ => ?_)
    | with_reducible apply_assumption -exfalso
    | dsimp -zeta only
    | split
    | with_reducible refine State.Kept.mk_iff.2 ?_

theorem State.darkenDefaults_kept {s₀ s : State} (h₀ : State.Kept s₀ s)  : State.Kept s₀ (State.darkenDefaults s) := by
  unfold State.darkenDefaults
  repeat' first
    | with_reducible assumption
    | intro x; first | (refine (fun (hx : State.Kept s₀ x) => ?_) ?_); clear_value x; rotate_left; subst x | subst x
    | lift_lets -underBinder +implicits
    | with_reducible apply State.mapSets_kept
    | with_reducible refine .ite (fun _ => ?_) (fun _ => ?_)
    | split
    | with_reducible refine State.Kept.mk_iff.2 ?_

theorem State.showCache_kept {s₀ s : State} (h₀ : State.Kept s₀ s) (p : Nat) : State.Kept s₀ (State.showCache s p) := by
  unfold State.showCache
  repeat' first
    | with_reducible assumption
    | with_reducible apply State.wf_kept
    | with_reducible refine .ite (fun _ => ?_) (fun _ => ?_)
    | with_reducible refine .foldl (fun _ _ _ => ?_) ?_
    | split

theorem State.cacheFetch_kept {s₀ s : State} (h₀ : State.Kept s₀ s) (m : MapSet) : State.Kept s₀ (State.cacheFetch s m) := by
  unfold State.cacheFetch
  repeat' first
    | with_reducible assumption
    | intro x; first | (refine (fun (hx : State.Kept s₀ x) => ?_) ?_); clear_value x; rotate_left; subst x | subst x
    | lift_lets -underBinder +implicits
    | with_reducible apply State.showCache_kept
    | with_reducible refine .ite (fun _ => ?_) (fun _ => ?_)
    | with_reducible refine .foldl (fun _ _ _ => ?_) ?_
    | with_reducible refine .foldlFst (fun _ _ _ => ?_) ?_
    | split
    | with_reducible refine State.Kept.mk_iff.2 ?_

end Sys2Proof.Machine
end

