-- ==== Sys2Proof/Laws/KeptAir.lean ====
section
/-! SUPPORT. The operations of Machine/Air.lean keep what Laws/Kept.lean says. -/

-- One declaration after another: the package is compiled as one text, and its memory stays within bounds.
set_option Elab.async false

namespace Sys2Proof.Machine

theorem State.showEp_kept {s₀ s : State} (h₀ : State.Kept s₀ s)  : State.Kept s₀ (State.showEp s) := by
  unfold State.showEp
  repeat' first
    | with_reducible assumption
    | with_reducible apply State.wr_kept
    | with_reducible refine .ite (fun _ => ?_) (fun _ => ?_)
    | split

theorem State.setEp_kept {s₀ s : State} (h₀ : State.Kept s₀ s) (a : Nat) (v : EpRec) : State.Kept s₀ (State.setEp s a v) := by
  unfold State.setEp
  repeat' first
    | with_reducible assumption
    | intro x; first | (refine (fun (hx : State.Kept s₀ x) => ?_) ?_); clear_value x; rotate_left; subst x | subst x
    | lift_lets -underBinder +implicits
    | with_reducible apply State.showEp_kept
    | with_reducible refine .ite (fun _ => ?_) (fun _ => ?_)
    | split
    | with_reducible refine State.Kept.mk_iff.2 ?_

theorem State.setLastDn_kept {s₀ s : State} (h₀ : State.Kept s₀ s) (a id : Nat) : State.Kept s₀ (State.setLastDn s a id) := by
  unfold State.setLastDn
  repeat' first
    | with_reducible assumption
    | intro x; first | (refine (fun (hx : State.Kept s₀ x) => ?_) ?_); clear_value x; rotate_left; subst x | subst x
    | lift_lets -underBinder +implicits
    | with_reducible apply State.setEp_kept
    | with_reducible refine .ite (fun _ => ?_) (fun _ => ?_)
    | split
    | with_reducible refine State.Kept.mk_iff.2 ?_

theorem State.sendDown_kept {s₀ s : State} (h₀ : State.Kept s₀ s) (a mtype : Nat) (body : List Byte) : State.Kept s₀ (State.sendDown s a mtype body) := by
  unfold State.sendDown
  repeat' first
    | with_reducible assumption
    | intro x; first | (refine (fun (hx : State.Kept s₀ x) => ?_) ?_); clear_value x; rotate_left; subst x | subst x
    | lift_lets -underBinder +implicits
    | with_reducible apply State.pushOut_kept
    | with_reducible refine .ite (fun _ => ?_) (fun _ => ?_)
    | split

theorem State.sendMgmt_kept {s₀ s : State} (h₀ : State.Kept s₀ s) (p c peer mtype prio : Nat) (body : List Byte) : State.Kept s₀ (State.sendMgmt s p c peer mtype prio body) := by
  unfold State.sendMgmt
  repeat' first
    | with_reducible assumption
    | with_reducible apply State.pushOut_kept
    | with_reducible refine .ite (fun _ => ?_) (fun _ => ?_)
    | split

theorem State.showMsg_kept {s₀ s : State} (h₀ : State.Kept s₀ s)  : State.Kept s₀ (State.showMsg s) := by
  unfold State.showMsg
  repeat' first
    | with_reducible assumption
    | with_reducible apply State.wr_kept
    | with_reducible refine .ite (fun _ => ?_) (fun _ => ?_)
    | split

theorem State.setMsg_kept {s₀ s : State} (h₀ : State.Kept s₀ s) (m : Nat) (r : MsgRec) : State.Kept s₀ (State.setMsg s m r) := by
  unfold State.setMsg
  repeat' first
    | with_reducible assumption
    | intro x; first | (refine (fun (hx : State.Kept s₀ x) => ?_) ?_); clear_value x; rotate_left; subst x | subst x
    | lift_lets -underBinder +implicits
    | with_reducible refine .ite (fun _ => ?_) (fun _ => ?_)
    | split
    | with_reducible refine State.Kept.mk_iff.2 ?_

theorem State.dropItem_kept {s₀ s : State} (h₀ : State.Kept s₀ s) (q m : Nat) : State.Kept s₀ (s.dropItem q m) := by
  unfold State.dropItem
  exact .ite (fun _ => h₀) (fun _ => State.setPool_kept (State.setQueue_kept (State.cellsFreed_kept h₀ _) ..) ..)

theorem State.dropFrames_kept {s₀ s0 : State} (h₀ : State.Kept s₀ s0) (m : Nat) (st : Status) : State.Kept s₀ (State.dropFrames s0 m st) := by
  unfold State.dropFrames
  repeat' first
    | with_reducible assumption
    | intro x; first | (refine (fun (hx : State.Kept s₀ x) => ?_) ?_); clear_value x; rotate_left; subst x | subst x
    | lift_lets -underBinder +implicits
    | with_reducible apply State.descDone_kept
    | with_reducible refine .ite (fun _ => ?_) (fun _ => ?_)
    | with_reducible refine .foldl (fun _ _ _ => ?_) ?_
    | split
    | with_reducible refine State.Kept.mk_iff.2 ?_

theorem State.txnCheck_kept {s₀ s : State} (h₀ : State.Kept s₀ s) (t : Nat) : State.Kept s₀ (State.txnCheck s t) := by
  unfold State.txnCheck
  repeat' first
    | with_reducible assumption
    | intro x; first | (refine (fun (hx : State.Kept s₀ x) => ?_) ?_); clear_value x; rotate_left; subst x | subst x
    | lift_lets -underBinder +implicits
    | split
    | with_reducible apply State.cause_kept
    | with_reducible apply State.complete_kept
    | with_reducible apply State.dmaWrite_kept
    | with_reducible apply State.showMsg_kept
    | with_reducible refine .ite (fun _ => ?_) (fun _ => ?_)
    | split
    | with_reducible refine State.Kept.mk_iff.2 ?_

theorem State.memberDone_kept {s₀ s : State} (h₀ : State.Kept s₀ s) (t i : Nat) (v : Member) : State.Kept s₀ (State.memberDone s t i v) := by
  unfold State.memberDone
  repeat' first
    | with_reducible assumption
    | intro x; first | (refine (fun (hx : State.Kept s₀ x) => ?_) ?_); clear_value x; rotate_left; subst x | subst x
    | lift_lets -underBinder +implicits
    | with_reducible apply State.txnCheck_kept
    | with_reducible refine .ite (fun _ => ?_) (fun _ => ?_)
    | split
    | with_reducible refine State.Kept.mk_iff.2 ?_

theorem State.countMsg_kept {s₀ s : State} (h₀ : State.Kept s₀ s) (dst : Nat) (st : Status) : State.Kept s₀ (State.countMsg s dst st) := by
  unfold State.countMsg
  repeat' first
    | with_reducible assumption
    | intro x; first | (refine (fun (hx : State.Kept s₀ x) => ?_) ?_); clear_value x; rotate_left; subst x | subst x
    | lift_lets -underBinder +implicits
    | with_reducible apply State.cause_kept
    | with_reducible apply State.inc_kept
    | with_reducible apply State.setEp_kept
    | with_reducible refine .ite (fun _ => ?_) (fun _ => ?_)
    | split
    | with_reducible refine State.Kept.mk_iff.2 ?_

theorem State.msgResolve_kept {s₀ s : State} (h₀ : State.Kept s₀ s) (m : Nat) (st : Status) (rxCyc arrCyc : Nat) (receipt : List Byte) : State.Kept s₀ (State.msgResolve s m st rxCyc arrCyc receipt) := by
  unfold State.msgResolve
  repeat' first
    | with_reducible assumption
    | intro x; first | (refine (fun (hx : State.Kept s₀ x) => ?_) ?_); clear_value x; rotate_left; subst x | subst x
    | lift_lets -underBinder +implicits
    | split
    | with_reducible apply State.complete_kept
    | with_reducible apply State.countMsg_kept
    | with_reducible apply State.dmaWrite_kept
    | with_reducible apply State.dropFrames_kept
    | with_reducible apply State.dropItem_kept
    | with_reducible apply State.memberDone_kept
    | with_reducible apply State.showMsg_kept
    | with_reducible refine .ite (fun _ => ?_) (fun _ => ?_)
    | split
    | with_reducible refine State.Kept.mk_iff.2 ?_

theorem State.segAcked_kept {s₀ s : State} (h₀ : State.Kept s₀ s) (m k : Nat) : State.Kept s₀ (State.segAcked s m k) := by
  unfold State.segAcked
  repeat' first
    | with_reducible assumption
    | intro x; first | (refine (fun (hx : State.Kept s₀ x) => ?_) ?_); clear_value x; rotate_left; subst x | subst x
    | lift_lets -underBinder +implicits
    | with_reducible apply State.msgResolve_kept
    | with_reducible apply State.setMsg_kept
    | with_reducible refine .ite (fun _ => ?_) (fun _ => ?_)
    | split
    | with_reducible refine State.Kept.mk_iff.2 ?_

theorem State.msgDeadline_kept {s₀ s : State} (h₀ : State.Kept s₀ s) (m : Nat) : State.Kept s₀ (State.msgDeadline s m) := by
  unfold State.msgDeadline
  repeat' first
    | with_reducible assumption
    | intro x; first | (refine (fun (hx : State.Kept s₀ x) => ?_) ?_); clear_value x; rotate_left; subst x | subst x
    | lift_lets -underBinder +implicits
    | with_reducible apply State.msgResolve_kept
    | with_reducible refine .ite (fun _ => ?_) (fun _ => ?_)
    | split

theorem State.receiptTimeout_kept {s₀ s : State} (h₀ : State.Kept s₀ s) (m : Nat) : State.Kept s₀ (State.receiptTimeout s m) := by
  unfold State.receiptTimeout
  repeat' first
    | with_reducible assumption
    | intro x; first | (refine (fun (hx : State.Kept s₀ x) => ?_) ?_); clear_value x; rotate_left; subst x | subst x
    | lift_lets -underBinder +implicits
    | with_reducible apply State.msgResolve_kept
    | with_reducible apply State.reportRx_kept
    | with_reducible apply State.setMsg_kept
    | with_reducible refine .ite (fun _ => ?_) (fun _ => ?_)
    | split
    | with_reducible refine State.Kept.mk_iff.2 ?_

theorem State.reportEnds_kept {s₀ s : State} (h₀ : State.Kept s₀ s) (src msgId : Nat) (body : List Byte) : State.Kept s₀ (State.reportEnds s src msgId body) := by
  unfold State.reportEnds
  repeat' first
    | with_reducible assumption
    | intro x; first | (refine (fun (hx : State.Kept s₀ x) => ?_) ?_); clear_value x; rotate_left; subst x | subst x
    | lift_lets -underBinder +implicits
    | with_reducible apply State.msgResolve_kept
    | with_reducible refine .ite (fun _ => ?_) (fun _ => ?_)
    | split

theorem State.resolveWhere_kept {s₀ s : State} (h₀ : State.Kept s₀ s) (f : Nat × MsgRec → Bool) (st : Status) : State.Kept s₀ (State.resolveWhere s f st) := by
  unfold State.resolveWhere
  repeat' first
    | with_reducible assumption
    | with_reducible apply State.msgResolve_kept
    | with_reducible refine .ite (fun _ => ?_) (fun _ => ?_)
    | with_reducible refine .foldl (fun _ _ _ => ?_) ?_
    | split

theorem State.descsOf_kept {s₀ s : State} (h₀ : State.Kept s₀ s) (m : Nat) (st : Status) : State.Kept s₀ (State.descsOf s m st) := by
  unfold State.descsOf
  repeat' first
    | with_reducible assumption
    | intro x; first | (refine (fun (hx : State.Kept s₀ x) => ?_) ?_); clear_value x; rotate_left; subst x | (refine (fun (hx : ∀ a, State.Kept s₀ a → State.Kept s₀ (x a)) => ?_) ?_); clear_value x; rotate_left; subst x; intro _ _ | (refine (fun (hx : ∀ a b, State.Kept s₀ a → State.Kept s₀ (x a b).1) => ?_) ?_); clear_value x; rotate_left; subst x; intro _ _ _ | (refine (fun (hx : ∀ a b, State.Kept s₀ a → State.Kept s₀ (x a b)) => ?_) ?_); clear_value x; rotate_left; subst x; intro _ _ _ | (refine (fun (hx : ∀ a, State.Kept s₀ (x a)) => ?_) ?_); clear_value x; rotate_left; subst x; intro _ | (refine (fun (hx : ∀ a b, State.Kept s₀ (x a b)) => ?_) ?_); clear_value x; rotate_left; subst x; intro _ _ | subst x
    | lift_lets -underBinder +implicits
    | with_reducible apply State.descDone_kept
    | with_reducible refine .ite (fun _ => ?_) (fun _ => ?_)
    | with_reducible refine .foldl (fun _ _ _ => ?_) ?_
    | with_reducible refine .foldlFst (fun _ _ _ => ?_) ?_
    | with_reducible apply_assumption -exfalso
    | dsimp -zeta only
    | split
    | with_reducible refine State.Kept.mk_iff.2 ?_

theorem State.flushWork_kept {s₀ s : State} (h₀ : State.Kept s₀ s) (q : Nat) : State.Kept s₀ (State.flushWork s q) := by
  unfold State.flushWork
  repeat' first
    | with_reducible assumption
    | with_reducible apply State.descsOf_kept
    | with_reducible apply State.flushQueue_kept
    | with_reducible apply State.msgResolve_kept
    | with_reducible refine .ite (fun _ => ?_) (fun _ => ?_)
    | with_reducible refine .foldl (fun _ _ _ => ?_) ?_
    | split

theorem State.servedOut_kept {s₀ s : State} (h₀ : State.Kept s₀ s) (x : Bool × Nat × Nat) : State.Kept s₀ (State.servedOut s x) := by
  unfold State.servedOut
  repeat' first
    | with_reducible assumption
    | intro x; first | (refine (fun (hx : State.Kept s₀ x) => ?_) ?_); clear_value x; rotate_left; subst x | subst x
    | lift_lets -underBinder +implicits
    | with_reducible refine .ite (fun _ => ?_) (fun _ => ?_)
    | split
    | with_reducible refine State.Kept.mk_iff.2 ?_

theorem State.servedNow_kept {s₀ s : State} (h₀ : State.Kept s₀ s) (x : Bool × Nat × Nat) : State.Kept s₀ (State.servedNow s x) := by
  unfold State.servedNow
  repeat' first
    | with_reducible assumption
    | intro x; first | (refine (fun (hx : State.Kept s₀ x) => ?_) ?_); clear_value x; rotate_left; subst x | subst x
    | lift_lets -underBinder +implicits
    | with_reducible refine .ite (fun _ => ?_) (fun _ => ?_)
    | split
    | with_reducible refine State.Kept.mk_iff.2 ?_

theorem State.creditAfterFlush_kept {s₀ s : State} (h₀ : State.Kept s₀ s) (q n : Nat) : State.Kept s₀ (State.creditAfterFlush s q n) := by
  unfold State.creditAfterFlush
  repeat' first
    | with_reducible assumption
    | with_reducible apply State.creditRequest_kept
    | with_reducible apply State.flushWork_kept
    | with_reducible refine .ite (fun _ => ?_) (fun _ => ?_)
    | split

theorem State.creditTurn_kept {s₀ s : State} (h₀ : State.Kept s₀ s) (q n : Nat) : State.Kept s₀ (State.creditTurn s q n) := by
  unfold State.creditTurn
  repeat' first
    | with_reducible assumption
    | intro x; first | (refine (fun (hx : State.Kept s₀ x) => ?_) ?_); clear_value x; rotate_left; subst x | subst x
    | lift_lets -underBinder +implicits
    | with_reducible apply State.creditAfterFlush_kept
    | with_reducible apply State.creditReturn_kept
    | with_reducible apply State.servedNow_kept
    | with_reducible apply State.servedOut_kept
    | with_reducible refine .ite (fun _ => ?_) (fun _ => ?_)
    | with_reducible refine .foldl (fun _ _ _ => ?_) ?_
    | split

theorem State.creditBack_kept {s₀ s : State} (h₀ : State.Kept s₀ s) (q n : Nat) : State.Kept s₀ (State.creditBack s q n) := by
  unfold State.creditBack
  repeat' first
    | with_reducible assumption
    | with_reducible apply State.creditReturn_kept
    | with_reducible apply State.servedOut_kept
    | with_reducible refine .ite (fun _ => ?_) (fun _ => ?_)
    | split

theorem State.releaseWork_kept {s₀ s : State} (h₀ : State.Kept s₀ s) (q : Nat) : State.Kept s₀ (State.releaseWork s q) := by
  unfold State.releaseWork
  repeat' first
    | with_reducible assumption
    | intro x; first | (refine (fun (hx : State.Kept s₀ x) => ?_) ?_); clear_value x; rotate_left; subst x | subst x
    | lift_lets -underBinder +implicits
    | with_reducible apply State.descsOf_kept
    | with_reducible apply State.msgResolve_kept
    | with_reducible apply State.release_kept
    | with_reducible refine .ite (fun _ => ?_) (fun _ => ?_)
    | split

theorem State.routeWaitExpiry_kept {s₀ s : State} (h₀ : State.Kept s₀ s) (a : Nat) : State.Kept s₀ (State.routeWaitExpiry s a) := by
  unfold State.routeWaitExpiry
  repeat' first
    | with_reducible assumption
    | intro x; first | (refine (fun (hx : State.Kept s₀ x) => ?_) ?_); clear_value x; rotate_left; subst x | subst x
    | lift_lets -underBinder +implicits
    | with_reducible apply State.assocReq_kept
    | with_reducible apply State.nbrReport_kept
    | with_reducible apply State.resolveWhere_kept
    | with_reducible refine .ite (fun _ => ?_) (fun _ => ?_)
    | split

theorem State.floodEnter_kept {s₀ s : State} (h₀ : State.Kept s₀ s) (orig fseq : Nat) : State.Kept s₀ (State.floodEnter s orig fseq) := by
  unfold State.floodEnter
  repeat' first
    | with_reducible assumption
    | intro x; first | (refine (fun (hx : State.Kept s₀ x) => ?_) ?_); clear_value x; rotate_left; subst x | subst x
    | lift_lets -underBinder +implicits
    | with_reducible refine .ite (fun _ => ?_) (fun _ => ?_)
    | split
    | with_reducible refine State.Kept.mk_iff.2 ?_

theorem State.floodPush_kept {s₀ s : State} (h₀ : State.Kept s₀ s) (m : Nat) : State.Kept s₀ (State.floodPush s m) := by
  unfold State.floodPush
  repeat' first
    | with_reducible assumption
    | intro x; first | (refine (fun (hx : State.Kept s₀ x) => ?_) ?_); clear_value x; rotate_left; subst x | subst x
    | lift_lets -underBinder +implicits
    | with_reducible apply State.floodEnter_kept
    | with_reducible apply State.pushOut_kept
    | with_reducible refine .ite (fun _ => ?_) (fun _ => ?_)
    | with_reducible refine .foldl (fun _ _ _ => ?_) ?_
    | split
    | with_reducible refine State.Kept.mk_iff.2 ?_

theorem State.msgAccept_kept {s₀ s : State} (h₀ : State.Kept s₀ s) (r : MsgRec) : State.Kept s₀ (State.msgAccept s r) := by
  unfold State.msgAccept
  repeat' first
    | with_reducible assumption
    | intro x; first | (refine (fun (hx : State.Kept s₀ x) => ?_) ?_); clear_value x; rotate_left; subst x | subst x
    | lift_lets -underBinder +implicits
    | with_reducible apply State.creditRequest_kept
    | with_reducible apply State.floodPush_kept
    | with_reducible apply State.setLastDn_kept
    | with_reducible apply State.setMsg_kept
    | with_reducible apply State.showMsg_kept
    | with_reducible apply State.writeItem_kept
    | with_reducible refine .ite (fun _ => ?_) (fun _ => ?_)
    | split
    | with_reducible refine State.Kept.mk_iff.2 ?_

theorem State.msgSend_kept {s₀ s : State} (h₀ : State.Kept s₀ s) (c : Sub) (payload : List Byte) (free : Bool) : State.Kept s₀ (State.msgSend s c payload free) := by
  unfold State.msgSend
  repeat' first
    | with_reducible assumption
    | intro x; first | (refine (fun (hx : State.Kept s₀ x) => ?_) ?_); clear_value x; rotate_left; subst x | (refine (fun (hx : ∀ a, State.Kept s₀ a → State.Kept s₀ (x a)) => ?_) ?_); clear_value x; rotate_left; subst x; intro _ _ | (refine (fun (hx : ∀ a b, State.Kept s₀ a → State.Kept s₀ (x a b).1) => ?_) ?_); clear_value x; rotate_left; subst x; intro _ _ _ | (refine (fun (hx : ∀ a b, State.Kept s₀ a → State.Kept s₀ (x a b)) => ?_) ?_); clear_value x; rotate_left; subst x; intro _ _ _ | (refine (fun (hx : ∀ a, State.Kept s₀ (x a)) => ?_) ?_); clear_value x; rotate_left; subst x; intro _ | (refine (fun (hx : ∀ a b, State.Kept s₀ (x a b)) => ?_) ?_); clear_value x; rotate_left; subst x; intro _ _ | subst x
    | lift_lets -underBinder +implicits
    | with_reducible apply State.addF_kept
    | with_reducible apply State.answer_kept
    | with_reducible apply State.countMsg_kept
    | with_reducible apply State.finish_kept
    | with_reducible apply State.msgAccept_kept
    | with_reducible refine .ite (fun _ => ?_) (fun _ => ?_)
    | with_reducible apply_assumption -exfalso
    | dsimp -zeta only
    | split

theorem State.txnMember_kept {s₀ s : State} (h₀ : State.Kept s₀ s) (c : Sub) (t i : Nat) (e : List Byte) (payload : List Byte) (free : Bool) : State.Kept s₀ (State.txnMember s c t i e payload free) := by
  unfold State.txnMember
  repeat' first
    | with_reducible assumption
    | intro x; first | (refine (fun (hx : State.Kept s₀ x) => ?_) ?_); clear_value x; rotate_left; subst x | subst x
    | lift_lets -underBinder +implicits
    | with_reducible apply State.addF_kept
    | with_reducible apply State.countMsg_kept
    | with_reducible apply State.memberDone_kept
    | with_reducible apply State.msgAccept_kept
    | with_reducible refine .ite (fun _ => ?_) (fun _ => ?_)
    | split

theorem State.txnSend_kept {s₀ s : State} (h₀ : State.Kept s₀ s) (c : Sub) (list : List Byte) (payloads : List (List Byte)) (free : List Bool) : State.Kept s₀ (State.txnSend s c list payloads free) := by
  unfold State.txnSend
  repeat' first
    | with_reducible assumption
    | intro x; first | (refine (fun (hx : State.Kept s₀ x) => ?_) ?_); clear_value x; rotate_left; subst x | subst x
    | lift_lets -underBinder +implicits
    | with_reducible apply State.countMsg_kept
    | with_reducible apply State.finish_kept
    | with_reducible apply State.showMsg_kept
    | with_reducible apply State.txnMember_kept
    | with_reducible refine .ite (fun _ => ?_) (fun _ => ?_)
    | with_reducible refine .foldl (fun _ _ _ => ?_) ?_
    | split
    | with_reducible refine State.Kept.mk_iff.2 ?_

end Sys2Proof.Machine
end

