-- ==== Sys2Proof/Laws/KeptNet.lean ====
section
/-! SUPPORT. The operations of Machine/Net.lean keep what Laws/Kept.lean says. -/

-- One declaration after another: the package is compiled as one text, and its memory stays within bounds.
set_option Elab.async false

namespace Sys2Proof.Machine

theorem State.rebuildRoutes_kept {s₀ s : State} (h₀ : State.Kept s₀ s)  : State.Kept s₀ (State.rebuildRoutes s) := by
  unfold State.rebuildRoutes
  repeat' first
    | with_reducible assumption
    | intro x; first | (refine (fun (hx : State.Kept s₀ x) => ?_) ?_); clear_value x; rotate_left; subst x | (refine (fun (hx : ∀ a, State.Kept s₀ a → State.Kept s₀ (x a)) => ?_) ?_); clear_value x; rotate_left; subst x; intro _ _ | (refine (fun (hx : ∀ a b, State.Kept s₀ a → State.Kept s₀ (x a b).1) => ?_) ?_); clear_value x; rotate_left; subst x; intro _ _ _ | (refine (fun (hx : ∀ a b, State.Kept s₀ a → State.Kept s₀ (x a b)) => ?_) ?_); clear_value x; rotate_left; subst x; intro _ _ _ | (refine (fun (hx : ∀ a, State.Kept s₀ (x a)) => ?_) ?_); clear_value x; rotate_left; subst x; intro _ | (refine (fun (hx : ∀ a b, State.Kept s₀ (x a b)) => ?_) ?_); clear_value x; rotate_left; subst x; intro _ _ | subst x
    | lift_lets -underBinder +implicits
    | with_reducible refine .ite (fun _ => ?_) (fun _ => ?_)
    | with_reducible apply_assumption -exfalso
    | dsimp -zeta only
    | split
    | with_reducible refine State.Kept.mk_iff.2 ?_

theorem State.sendParent_kept {s₀ s : State} (h₀ : State.Kept s₀ s) (a n hops : Nat) : State.Kept s₀ (State.sendParent s a n hops) := by
  unfold State.sendParent
  repeat' first
    | with_reducible assumption
    | intro x; first | (refine (fun (hx : State.Kept s₀ x) => ?_) ?_); clear_value x; rotate_left; subst x | subst x
    | lift_lets -underBinder +implicits
    | with_reducible apply State.pushOut_kept
    | with_reducible refine .ite (fun _ => ?_) (fun _ => ?_)
    | split
    | with_reducible refine State.Kept.mk_iff.2 ?_

theorem State.choose_kept {s₀ s : State} (h₀ : State.Kept s₀ s) (a : Nat) : State.Kept s₀ (State.choose s a) := by
  unfold State.choose
  repeat' first
    | with_reducible assumption
    | intro x; first | (refine (fun (hx : State.Kept s₀ x) => ?_) ?_); clear_value x; rotate_left; subst x | subst x
    | lift_lets -underBinder +implicits
    | with_reducible apply State.sendParent_kept
    | with_reducible refine .ite (fun _ => ?_) (fun _ => ?_)
    | split

theorem State.chooseAll_kept {s₀ s : State} (h₀ : State.Kept s₀ s)  : State.Kept s₀ (State.chooseAll s) := by
  unfold State.chooseAll
  repeat' first
    | with_reducible assumption
    | with_reducible apply State.choose_kept
    | with_reducible refine .ite (fun _ => ?_) (fun _ => ?_)
    | with_reducible refine .foldl (fun _ _ _ => ?_) ?_
    | split

theorem State.parentStamp_kept {s₀ s : State} (h₀ : State.Kept s₀ s) (o : OutFrame) : State.Kept s₀ (State.parentStamp s o).1 := by
  unfold State.parentStamp
  repeat' first
    | with_reducible assumption
    | intro x; first | (refine (fun (hx : State.Kept s₀ x) => ?_) ?_); clear_value x; rotate_left; subst x | (refine (fun (hx : State.Kept s₀ x.1) => ?_) ?_); clear_value x; rotate_left; subst x | subst x
    | lift_lets -underBinder +implicits
    | with_reducible refine .ite (fun _ => ?_) (fun _ => ?_)
    | with_reducible refine .iteFst (fun _ => ?_) (fun _ => ?_)
    | split
    | with_reducible refine State.Kept.mk_iff.2 ?_

theorem State.hopLost_kept {s₀ s : State} (h₀ : State.Kept s₀ s) (h : Nat) : State.Kept s₀ (State.hopLost s h) := by
  unfold State.hopLost
  repeat' first
    | with_reducible assumption
    | intro x; first | (refine (fun (hx : State.Kept s₀ x) => ?_) ?_); clear_value x; rotate_left; subst x | subst x
    | lift_lets -underBinder +implicits
    | with_reducible apply State.cause_kept
    | with_reducible apply State.choose_kept
    | with_reducible apply State.setEp_kept
    | with_reducible refine .ite (fun _ => ?_) (fun _ => ?_)
    | with_reducible refine .foldl (fun _ _ _ => ?_) ?_
    | split
    | with_reducible refine State.Kept.mk_iff.2 ?_

theorem State.nbrLostRoute_kept {s₀ s : State} (h₀ : State.Kept s₀ s) (a : Nat) : State.Kept s₀ (State.nbrLostRoute s a) := by
  unfold State.nbrLostRoute
  repeat' first
    | with_reducible assumption
    | intro x; first | (refine (fun (hx : State.Kept s₀ x) => ?_) ?_); clear_value x; rotate_left; subst x | (refine (fun (hx : ∀ a, State.Kept s₀ a → State.Kept s₀ (x a)) => ?_) ?_); clear_value x; rotate_left; subst x; intro _ _ | (refine (fun (hx : ∀ a b, State.Kept s₀ a → State.Kept s₀ (x a b).1) => ?_) ?_); clear_value x; rotate_left; subst x; intro _ _ _ | (refine (fun (hx : ∀ a b, State.Kept s₀ a → State.Kept s₀ (x a b)) => ?_) ?_); clear_value x; rotate_left; subst x; intro _ _ _ | (refine (fun (hx : ∀ a, State.Kept s₀ (x a)) => ?_) ?_); clear_value x; rotate_left; subst x; intro _ | (refine (fun (hx : ∀ a b, State.Kept s₀ (x a b)) => ?_) ?_); clear_value x; rotate_left; subst x; intro _ _ | subst x
    | lift_lets -underBinder +implicits
    | with_reducible apply State.hopLost_kept
    | with_reducible apply State.resolveWhere_kept
    | with_reducible apply State.setEp_kept
    | with_reducible refine .ite (fun _ => ?_) (fun _ => ?_)
    | with_reducible apply_assumption -exfalso
    | dsimp -zeta only
    | split
    | with_reducible refine State.Kept.mk_iff.2 ?_

theorem State.routesApply_kept {s₀ s : State} (h₀ : State.Kept s₀ s)  : State.Kept s₀ (State.routesApply s) := by
  unfold State.routesApply
  repeat' first
    | with_reducible assumption
    | intro x; first | (refine (fun (hx : State.Kept s₀ x) => ?_) ?_); clear_value x; rotate_left; subst x | (refine (fun (hx : ∀ a, State.Kept s₀ a → State.Kept s₀ (x a)) => ?_) ?_); clear_value x; rotate_left; subst x; intro _ _ | (refine (fun (hx : ∀ a b, State.Kept s₀ a → State.Kept s₀ (x a b).1) => ?_) ?_); clear_value x; rotate_left; subst x; intro _ _ _ | (refine (fun (hx : ∀ a b, State.Kept s₀ a → State.Kept s₀ (x a b)) => ?_) ?_); clear_value x; rotate_left; subst x; intro _ _ _ | (refine (fun (hx : ∀ a, State.Kept s₀ (x a)) => ?_) ?_); clear_value x; rotate_left; subst x; intro _ | (refine (fun (hx : ∀ a b, State.Kept s₀ (x a b)) => ?_) ?_); clear_value x; rotate_left; subst x; intro _ _ | subst x
    | lift_lets -underBinder +implicits
    | with_reducible apply State.cause_kept
    | with_reducible apply State.incF_kept
    | with_reducible apply State.rebuildRoutes_kept
    | with_reducible apply State.setEp_kept
    | with_reducible refine .ite (fun _ => ?_) (fun _ => ?_)
    | with_reducible refine .foldl (fun _ _ _ => ?_) ?_
    | with_reducible refine .foldlFst (fun _ _ _ => ?_) ?_
    | with_reducible apply_assumption -exfalso
    | dsimp -zeta only
    | split
    | with_reducible refine State.Kept.mk_iff.2 ?_

theorem State.markUpstream_kept {s₀ s : State} (h₀ : State.Kept s₀ s) (p : Nat) : State.Kept s₀ (State.markUpstream s p) := by
  unfold State.markUpstream
  repeat' first
    | with_reducible assumption
    | intro x; first | (refine (fun (hx : State.Kept s₀ x) => ?_) ?_); clear_value x; rotate_left; subst x | subst x
    | lift_lets -underBinder +implicits
    | with_reducible refine .ite (fun _ => ?_) (fun _ => ?_)
    | split
    | with_reducible refine State.Kept.mk_iff.2 ?_

theorem State.parentApply_kept {s₀ s : State} (h₀ : State.Kept s₀ s)  : State.Kept s₀ (State.parentApply s) := by
  unfold State.parentApply
  repeat' first
    | with_reducible assumption
    | intro x; first | (refine (fun (hx : State.Kept s₀ x) => ?_) ?_); clear_value x; rotate_left; subst x | subst x
    | lift_lets -underBinder +implicits
    | with_reducible apply State.markUpstream_kept
    | with_reducible apply State.routesApply_kept
    | with_reducible refine .ite (fun _ => ?_) (fun _ => ?_)
    | split
    | with_reducible refine State.Kept.mk_iff.2 ?_

theorem State.sendNode_kept {s₀ s : State} (h₀ : State.Kept s₀ s) (a mtype : Nat) (body : List Byte) : State.Kept s₀ (State.sendNode s a mtype body) := by
  unfold State.sendNode
  repeat' first
    | with_reducible assumption
    | intro x; first | (refine (fun (hx : State.Kept s₀ x) => ?_) ?_); clear_value x; rotate_left; subst x | subst x
    | lift_lets -underBinder +implicits
    | with_reducible apply State.pushOut_kept
    | with_reducible refine .ite (fun _ => ?_) (fun _ => ?_)
    | split

theorem State.forward_kept {s₀ s : State} (h₀ : State.Kept s₀ s) (p : Nat) (d : Delivered) (pre b : List Byte) : State.Kept s₀ (State.forward s p d pre b) := by
  unfold State.forward
  repeat' first
    | with_reducible assumption
    | intro x; first | (refine (fun (hx : State.Kept s₀ x) => ?_) ?_); clear_value x; rotate_left; subst x | (refine (fun (hx : ∀ a, State.Kept s₀ a → State.Kept s₀ (x a)) => ?_) ?_); clear_value x; rotate_left; subst x; intro _ _ | (refine (fun (hx : ∀ a b, State.Kept s₀ a → State.Kept s₀ (x a b).1) => ?_) ?_); clear_value x; rotate_left; subst x; intro _ _ _ | (refine (fun (hx : ∀ a b, State.Kept s₀ a → State.Kept s₀ (x a b)) => ?_) ?_); clear_value x; rotate_left; subst x; intro _ _ _ | (refine (fun (hx : ∀ a, State.Kept s₀ (x a)) => ?_) ?_); clear_value x; rotate_left; subst x; intro _ | (refine (fun (hx : ∀ a b, State.Kept s₀ (x a b)) => ?_) ?_); clear_value x; rotate_left; subst x; intro _ _ | subst x
    | lift_lets -underBinder +implicits
    | with_reducible apply State.forwardFailed_kept
    | with_reducible apply State.incF_kept
    | with_reducible apply State.pushOut_kept
    | with_reducible refine .ite (fun _ => ?_) (fun _ => ?_)
    | with_reducible apply_assumption -exfalso
    | dsimp -zeta only
    | split

theorem State.cutOutbox_kept {s₀ s : State} (h₀ : State.Kept s₀ s) (f : OutFrame → Bool) : State.Kept s₀ (State.cutOutbox s f) := by
  unfold State.cutOutbox
  repeat' first
    | with_reducible assumption
    | intro x; first | (refine (fun (hx : State.Kept s₀ x) => ?_) ?_); clear_value x; rotate_left; subst x | subst x
    | lift_lets -underBinder +implicits
    | with_reducible refine .ite (fun _ => ?_) (fun _ => ?_)
    | split
    | with_reducible refine State.Kept.mk_iff.2 ?_

theorem State.forwardExpiry_kept {s₀ s : State} (h₀ : State.Kept s₀ s)  : State.Kept s₀ (State.forwardExpiry s) := by
  unfold State.forwardExpiry
  repeat' first
    | with_reducible assumption
    | intro x; first | (refine (fun (hx : State.Kept s₀ x) => ?_) ?_); clear_value x; rotate_left; subst x | (refine (fun (hx : ∀ a, State.Kept s₀ a → State.Kept s₀ (x a)) => ?_) ?_); clear_value x; rotate_left; subst x; intro _ _ | (refine (fun (hx : ∀ a b, State.Kept s₀ a → State.Kept s₀ (x a b).1) => ?_) ?_); clear_value x; rotate_left; subst x; intro _ _ _ | (refine (fun (hx : ∀ a b, State.Kept s₀ a → State.Kept s₀ (x a b)) => ?_) ?_); clear_value x; rotate_left; subst x; intro _ _ _ | (refine (fun (hx : ∀ a, State.Kept s₀ (x a)) => ?_) ?_); clear_value x; rotate_left; subst x; intro _ | (refine (fun (hx : ∀ a b, State.Kept s₀ (x a b)) => ?_) ?_); clear_value x; rotate_left; subst x; intro _ _ | subst x
    | lift_lets -underBinder +implicits
    | with_reducible apply State.addF_kept
    | with_reducible apply State.cutOutbox_kept
    | with_reducible apply State.descDone_kept
    | with_reducible refine .ite (fun _ => ?_) (fun _ => ?_)
    | with_reducible refine .foldl (fun _ _ _ => ?_) ?_
    | with_reducible apply_assumption -exfalso
    | dsimp -zeta only
    | split
    | with_reducible refine State.Kept.mk_iff.2 ?_

theorem State.floodKeep_kept {s₀ s : State} (h₀ : State.Kept s₀ s) (l : List FloodTx) : State.Kept s₀ (State.floodKeep s l) := by
  unfold State.floodKeep
  repeat' first
    | with_reducible assumption
    | intro x; first | (refine (fun (hx : State.Kept s₀ x) => ?_) ?_); clear_value x; rotate_left; subst x | subst x
    | lift_lets -underBinder +implicits
    | with_reducible refine .ite (fun _ => ?_) (fun _ => ?_)
    | split
    | with_reducible refine State.Kept.mk_iff.2 ?_

theorem State.floodRx_kept {s₀ s : State} (h₀ : State.Kept s₀ s) (p c prio : Nat) (b : List Byte) (relay : Bool) : State.Kept s₀ (State.floodRx s p c prio b relay).1 := by
  unfold State.floodRx
  repeat' first
    | with_reducible assumption
    | intro x; first | (refine (fun (hx : State.Kept s₀ x) => ?_) ?_); clear_value x; rotate_left; subst x | (refine (fun (hx : State.Kept s₀ x.1) => ?_) ?_); clear_value x; rotate_left; subst x | subst x
    | lift_lets -underBinder +implicits
    | with_reducible apply State.addF_kept
    | with_reducible apply State.cutOutbox_kept
    | with_reducible apply State.drawn_kept
    | with_reducible apply State.floodEnter_kept
    | with_reducible apply State.floodKeep_kept
    | with_reducible refine .ite (fun _ => ?_) (fun _ => ?_)
    | with_reducible refine .iteFst (fun _ => ?_) (fun _ => ?_)
    | split
    | with_reducible refine State.Kept.mk_iff.2 ?_

theorem State.floodSend_kept {s₀ s : State} (h₀ : State.Kept s₀ s) (orig fseq : Nat) : State.Kept s₀ (State.floodSend s orig fseq) := by
  unfold State.floodSend
  repeat' first
    | with_reducible assumption
    | intro x; first | (refine (fun (hx : State.Kept s₀ x) => ?_) ?_); clear_value x; rotate_left; subst x | subst x
    | lift_lets -underBinder +implicits
    | with_reducible apply State.floodKeep_kept
    | with_reducible apply State.pushOut_kept
    | with_reducible refine .ite (fun _ => ?_) (fun _ => ?_)
    | split
    | with_reducible refine State.Kept.mk_iff.2 ?_

theorem State.floodGone_kept {s₀ s : State} (h₀ : State.Kept s₀ s) (id : Nat) (sent : Bool) : State.Kept s₀ (State.floodGone s id sent) := by
  unfold State.floodGone
  repeat' first
    | with_reducible assumption
    | intro x; first | (refine (fun (hx : State.Kept s₀ x) => ?_) ?_); clear_value x; rotate_left; subst x | subst x
    | lift_lets -underBinder +implicits
    | with_reducible apply State.floodKeep_kept
    | with_reducible apply State.incF_kept
    | with_reducible refine .ite (fun _ => ?_) (fun _ => ?_)
    | split

theorem State.floodExpiry_kept {s₀ s : State} (h₀ : State.Kept s₀ s)  : State.Kept s₀ (State.floodExpiry s) := by
  unfold State.floodExpiry
  repeat' first
    | with_reducible assumption
    | intro x; first | (refine (fun (hx : State.Kept s₀ x) => ?_) ?_); clear_value x; rotate_left; subst x | subst x
    | lift_lets -underBinder +implicits
    | with_reducible refine .ite (fun _ => ?_) (fun _ => ?_)
    | split
    | with_reducible refine State.Kept.mk_iff.2 ?_

theorem State.takeInbox_kept {s₀ s t : State} (h₀ : State.Kept s₀ s) (f : Delivered → Bool) (d : Delivered) (h : s.takeInbox f = some (t, d)) : State.Kept s₀ t := by
  unfold State.takeInbox at h
  obtain ⟨d', _, h⟩ := Option.map_eq_some_iff.1 h
  obtain ⟨rfl, _⟩ := Prod.mk.inj h
  simpa -zeta only [↓State.Kept.mk_iff] using h₀

theorem State.nbrReport_kept {s₀ s : State} (h₀ : State.Kept s₀ s) (body : List Byte) : State.Kept s₀ (State.nbrReport s body) := by
  unfold State.nbrReport
  repeat' first
    | with_reducible assumption
    | intro x; first | (refine (fun (hx : State.Kept s₀ x) => ?_) ?_); clear_value x; rotate_left; subst x | subst x
    | lift_lets -underBinder +implicits
    | with_reducible apply State.chooseAll_kept
    | with_reducible apply State.rebuildRoutes_kept
    | with_reducible apply State.setEp_kept
    | with_reducible refine .ite (fun _ => ?_) (fun _ => ?_)
    | with_reducible refine .foldl (fun _ _ _ => ?_) ?_
    | split
    | with_reducible refine State.Kept.mk_iff.2 ?_

theorem State.routeErr_kept {s₀ s : State} (h₀ : State.Kept s₀ s) (body : List Byte) : State.Kept s₀ (State.routeErr s body) := by
  unfold State.routeErr
  repeat' first
    | with_reducible assumption
    | intro x; first | (refine (fun (hx : State.Kept s₀ x) => ?_) ?_); clear_value x; rotate_left; subst x | subst x
    | lift_lets -underBinder +implicits
    | with_reducible apply State.cause_kept
    | with_reducible apply State.hopLost_kept
    | with_reducible apply State.incF_kept
    | with_reducible refine .ite (fun _ => ?_) (fun _ => ?_)
    | split

theorem State.parentSet_kept {s₀ s : State} (h₀ : State.Kept s₀ s) (body : List Byte) : State.Kept s₀ (State.parentSet s body) := by
  unfold State.parentSet
  repeat' first
    | with_reducible assumption
    | intro x; first | (refine (fun (hx : State.Kept s₀ x) => ?_) ?_); clear_value x; rotate_left; subst x | subst x
    | lift_lets -underBinder +implicits
    | with_reducible refine .ite (fun _ => ?_) (fun _ => ?_)
    | split
    | with_reducible refine State.Kept.mk_iff.2 ?_

theorem State.groupSet_kept {s₀ s : State} (h₀ : State.Kept s₀ s) (body : List Byte) : State.Kept s₀ (State.groupSet s body) := by
  unfold State.groupSet
  repeat' first
    | with_reducible assumption
    | intro x; first | (refine (fun (hx : State.Kept s₀ x) => ?_) ?_); clear_value x; rotate_left; subst x | subst x
    | lift_lets -underBinder +implicits
    | with_reducible refine .ite (fun _ => ?_) (fun _ => ?_)
    | split
    | with_reducible refine State.Kept.mk_iff.2 ?_

theorem State.nbrReportSend_kept {s₀ s : State} (h₀ : State.Kept s₀ s) (p : Nat) (lqs : List (Nat × Nat × Nat)) : State.Kept s₀ (State.nbrReportSend s p lqs) := by
  unfold State.nbrReportSend
  repeat' first
    | with_reducible assumption
    | intro x; first | (refine (fun (hx : State.Kept s₀ x) => ?_) ?_); clear_value x; rotate_left; subst x | (refine (fun (hx : ∀ a, State.Kept s₀ a → State.Kept s₀ (x a)) => ?_) ?_); clear_value x; rotate_left; subst x; intro _ _ | (refine (fun (hx : ∀ a b, State.Kept s₀ a → State.Kept s₀ (x a b).1) => ?_) ?_); clear_value x; rotate_left; subst x; intro _ _ _ | (refine (fun (hx : ∀ a b, State.Kept s₀ a → State.Kept s₀ (x a b)) => ?_) ?_); clear_value x; rotate_left; subst x; intro _ _ _ | (refine (fun (hx : ∀ a, State.Kept s₀ (x a)) => ?_) ?_); clear_value x; rotate_left; subst x; intro _ | (refine (fun (hx : ∀ a b, State.Kept s₀ (x a b)) => ?_) ?_); clear_value x; rotate_left; subst x; intro _ _ | subst x
    | lift_lets -underBinder +implicits
    | with_reducible apply State.sendUp_kept
    | with_reducible refine .ite (fun _ => ?_) (fun _ => ?_)
    | with_reducible apply_assumption -exfalso
    | dsimp -zeta only
    | split
    | with_reducible refine State.Kept.mk_iff.2 ?_

theorem State.coopFailed_kept {s₀ s : State} (h₀ : State.Kept s₀ s) (w : CoopWait) : State.Kept s₀ (State.coopFailed s w) := by
  unfold State.coopFailed
  repeat' first
    | with_reducible assumption
    | intro x; first | (refine (fun (hx : State.Kept s₀ x) => ?_) ?_); clear_value x; rotate_left; subst x | subst x
    | lift_lets -underBinder +implicits
    | with_reducible apply State.cause_kept
    | with_reducible apply State.incF_kept
    | with_reducible refine .ite (fun _ => ?_) (fun _ => ?_)
    | split
    | with_reducible refine State.Kept.mk_iff.2 ?_

theorem State.coopResult_kept {s₀ s : State} (h₀ : State.Kept s₀ s) (body : List Byte) : State.Kept s₀ (State.coopResult s body) := by
  unfold State.coopResult
  repeat' first
    | with_reducible assumption
    | intro x; first | (refine (fun (hx : State.Kept s₀ x) => ?_) ?_); clear_value x; rotate_left; subst x | subst x
    | lift_lets -underBinder +implicits
    | with_reducible apply State.coopFailed_kept
    | with_reducible apply State.incF_kept
    | with_reducible apply State.segAcked_kept
    | with_reducible refine .ite (fun _ => ?_) (fun _ => ?_)
    | split
    | with_reducible refine State.Kept.mk_iff.2 ?_

theorem State.coopExpiry_kept {s₀ s : State} (h₀ : State.Kept s₀ s)  : State.Kept s₀ (State.coopExpiry s) := by
  unfold State.coopExpiry
  repeat' first
    | with_reducible assumption
    | intro x; first | (refine (fun (hx : State.Kept s₀ x) => ?_) ?_); clear_value x; rotate_left; subst x | subst x
    | lift_lets -underBinder +implicits
    | with_reducible apply State.coopFailed_kept
    | with_reducible apply State.coopResult_kept
    | with_reducible refine .ite (fun _ => ?_) (fun _ => ?_)
    | with_reducible refine .foldl (fun _ _ _ => ?_) ?_
    | split

theorem State.coopCarry_kept {s₀ s : State} (h₀ : State.Kept s₀ s) (p cond : Nat) (b : List Byte) : State.Kept s₀ (State.coopCarry s p cond b) := by
  unfold State.coopCarry
  repeat' first
    | with_reducible assumption
    | intro x; first | (refine (fun (hx : State.Kept s₀ x) => ?_) ?_); clear_value x; rotate_left; subst x | subst x
    | lift_lets -underBinder +implicits
    | with_reducible refine .ite (fun _ => ?_) (fun _ => ?_)
    | split
    | with_reducible refine State.Kept.mk_iff.2 ?_

end Sys2Proof.Machine
end

