-- ==== Sys2Proof/Laws/KeptLink.lean ====
section
/-! SUPPORT. The operations of Machine/Link.lean keep what Laws/Kept.lean says. -/

-- One declaration after another: the package is compiled as one text, and its memory stays within bounds.
set_option Elab.async false

namespace Sys2Proof.Machine

theorem State.showNbr_kept {s₀ s : State} (h₀ : State.Kept s₀ s) (p : Nat) : State.Kept s₀ (State.showNbr s p) := by
  unfold State.showNbr
  repeat' first
    | with_reducible assumption
    | with_reducible apply State.wf_kept
    | with_reducible refine .ite (fun _ => ?_) (fun _ => ?_)
    | split

theorem State.setNbr_kept {s₀ s : State} (h₀ : State.Kept s₀ s) (k : Nat) (v : NbrRec) : State.Kept s₀ (State.setNbr s k v) := by
  unfold State.setNbr
  repeat' first
    | with_reducible assumption
    | intro x; first | (refine (fun (hx : State.Kept s₀ x) => ?_) ?_); clear_value x; rotate_left; subst x | subst x
    | lift_lets -underBinder +implicits
    | with_reducible refine .ite (fun _ => ?_) (fun _ => ?_)
    | split
    | with_reducible refine State.Kept.mk_iff.2 ?_

theorem State.makeNbr_kept {s₀ s : State} (h₀ : State.Kept s₀ s) (p short : Nat) (long : Option Nat) : State.Kept s₀ (State.makeNbr s p short long).1 := by
  unfold State.makeNbr
  repeat' first
    | with_reducible assumption
    | intro x; first | (refine (fun (hx : State.Kept s₀ x) => ?_) ?_); clear_value x; rotate_left; subst x | (refine (fun (hx : State.Kept s₀ x.1) => ?_) ?_); clear_value x; rotate_left; subst x | subst x
    | lift_lets -underBinder +implicits
    | with_reducible apply State.cause_kept
    | with_reducible apply State.incF_kept
    | with_reducible apply State.setNbr_kept
    | with_reducible apply State.showNbr_kept
    | with_reducible refine .ite (fun _ => ?_) (fun _ => ?_)
    | with_reducible refine .iteFst (fun _ => ?_) (fun _ => ?_)
    | split

theorem State.nbrExpiry_kept {s₀ s : State} (h₀ : State.Kept s₀ s) (p : Nat) : State.Kept s₀ (State.nbrExpiry s p) := by
  unfold State.nbrExpiry
  repeat' first
    | with_reducible assumption
    | intro x; first | (refine (fun (hx : State.Kept s₀ x) => ?_) ?_); clear_value x; rotate_left; subst x | subst x
    | lift_lets -underBinder +implicits
    | with_reducible apply State.showNbr_kept
    | with_reducible refine .ite (fun _ => ?_) (fun _ => ?_)
    | split
    | with_reducible refine State.Kept.mk_iff.2 ?_

theorem State.llDrop_kept {s₀ s : State} (h₀ : State.Kept s₀ s) (p : Nat) : State.Kept s₀ (State.llDrop s p) := by
  unfold State.llDrop
  repeat' first
    | with_reducible assumption
    | with_reducible apply State.incF_kept
    | with_reducible refine .ite (fun _ => ?_) (fun _ => ?_)
    | split

theorem State.tagFail_kept {s₀ s : State} (h₀ : State.Kept s₀ s) (p obj : Nat) : State.Kept s₀ (State.tagFail s p obj) := by
  unfold State.tagFail
  repeat' first
    | with_reducible assumption
    | with_reducible apply State.cause_kept
    | with_reducible apply State.incF_kept
    | with_reducible apply State.pageRecord_kept
    | with_reducible refine .ite (fun _ => ?_) (fun _ => ?_)
    | split

theorem State.renew_kept {s₀ s : State} (h₀ : State.Kept s₀ s) (a m : Nat) : State.Kept s₀ (State.renew s a m) := by
  unfold State.renew
  repeat' first
    | with_reducible assumption
    | intro x; first | (refine (fun (hx : State.Kept s₀ x) => ?_) ?_); clear_value x; rotate_left; subst x | subst x
    | lift_lets -underBinder +implicits
    | with_reducible apply State.leaseEnd_kept
    | with_reducible apply State.setEp_kept
    | with_reducible refine .ite (fun _ => ?_) (fun _ => ?_)
    | split
    | with_reducible refine State.Kept.mk_iff.2 ?_

theorem State.showLease_kept {s₀ s : State} (h₀ : State.Kept s₀ s)  : State.Kept s₀ (State.showLease s) := by
  unfold State.showLease
  repeat' first
    | with_reducible assumption
    | intro x; first | (refine (fun (hx : State.Kept s₀ x) => ?_) ?_); clear_value x; rotate_left; subst x | subst x
    | lift_lets -underBinder +implicits
    | with_reducible apply State.wb_kept
    | with_reducible apply State.wf_kept
    | with_reducible refine .ite (fun _ => ?_) (fun _ => ?_)
    | split

theorem State.renewOwn_kept {s₀ s : State} (h₀ : State.Kept s₀ s) (m : Nat) : State.Kept s₀ (State.renewOwn s m) := by
  unfold State.renewOwn
  repeat' first
    | with_reducible assumption
    | intro x; first | (refine (fun (hx : State.Kept s₀ x) => ?_) ?_); clear_value x; rotate_left; subst x | subst x
    | lift_lets -underBinder +implicits
    | with_reducible apply State.showLease_kept
    | with_reducible refine .ite (fun _ => ?_) (fun _ => ?_)
    | split
    | with_reducible refine State.Kept.mk_iff.2 ?_

theorem State.reasmAdd_kept {s₀ s : State} (h₀ : State.Kept s₀ s) (src : Nat) (b : List Byte) : State.Kept s₀ (State.reasmAdd s src b) := by
  unfold State.reasmAdd
  repeat' first
    | with_reducible assumption
    | intro x; first | (refine (fun (hx : State.Kept s₀ x) => ?_) ?_); clear_value x; rotate_left; subst x | (refine (fun (hx : ∀ a, State.Kept s₀ a → State.Kept s₀ (x a)) => ?_) ?_); clear_value x; rotate_left; subst x; intro _ _ | (refine (fun (hx : ∀ a b, State.Kept s₀ a → State.Kept s₀ (x a b).1) => ?_) ?_); clear_value x; rotate_left; subst x; intro _ _ _ | (refine (fun (hx : ∀ a b, State.Kept s₀ a → State.Kept s₀ (x a b)) => ?_) ?_); clear_value x; rotate_left; subst x; intro _ _ _ | (refine (fun (hx : ∀ a, State.Kept s₀ (x a)) => ?_) ?_); clear_value x; rotate_left; subst x; intro _ | (refine (fun (hx : ∀ a b, State.Kept s₀ (x a b)) => ?_) ?_); clear_value x; rotate_left; subst x; intro _ _ | subst x
    | lift_lets -underBinder +implicits
    | with_reducible apply State.cause_kept
    | with_reducible apply State.inc_kept
    | with_reducible refine .ite (fun _ => ?_) (fun _ => ?_)
    | with_reducible apply_assumption -exfalso
    | dsimp -zeta only
    | split
    | with_reducible refine State.Kept.mk_iff.2 ?_

theorem State.toInbox_kept {s₀ s : State} (h₀ : State.Kept s₀ s) (d : Delivered) : State.Kept s₀ (State.toInbox s d) := by
  unfold State.toInbox
  repeat' first
    | with_reducible assumption
    | intro x; first | (refine (fun (hx : State.Kept s₀ x) => ?_) ?_); clear_value x; rotate_left; subst x | subst x
    | lift_lets -underBinder +implicits
    | with_reducible refine .ite (fun _ => ?_) (fun _ => ?_)
    | split
    | with_reducible refine State.Kept.mk_iff.2 ?_

theorem State.deliverMgmt_kept {s₀ s : State} (h₀ : State.Kept s₀ s) (p : Nat) (d : Delivered) : State.Kept s₀ (State.deliverMgmt s p d) := by
  unfold State.deliverMgmt
  repeat' first
    | with_reducible assumption
    | intro x; first | (refine (fun (hx : State.Kept s₀ x) => ?_) ?_); clear_value x; rotate_left; subst x | subst x
    | lift_lets -underBinder +implicits
    | with_reducible apply State.forward_kept
    | with_reducible apply State.llDrop_kept
    | with_reducible apply State.pushOut_kept
    | with_reducible apply State.sendUp_kept
    | with_reducible apply State.toInbox_kept
    | with_reducible refine .ite (fun _ => ?_) (fun _ => ?_)
    | split
    | with_reducible refine State.Kept.mkSec_iff.2 ?_
    | with_reducible refine State.Kept.mk_iff.2 ?_

theorem State.deliverData_kept {s₀ s : State} (h₀ : State.Kept s₀ s) (p : Nat) (d : Delivered) : State.Kept s₀ (State.deliverData s p d) := by
  unfold State.deliverData
  repeat' first
    | with_reducible assumption
    | intro x; first | (refine (fun (hx : State.Kept s₀ x) => ?_) ?_); clear_value x; rotate_left; subst x | (refine (fun (hx : State.Kept s₀ x.1) => ?_) ?_); clear_value x; rotate_left; subst x | subst x
    | lift_lets -underBinder +implicits
    | split
    | with_reducible apply State.floodRx_kept
    | with_reducible apply State.forward_kept
    | with_reducible apply State.reasmAdd_kept
    | with_reducible apply State.toInbox_kept
    | with_reducible refine .ite (fun _ => ?_) (fun _ => ?_)
    | with_reducible refine .ofFst (by assumption) ?_
    | split
    | with_reducible refine State.Kept.mk_iff.2 ?_

theorem State.llAccept_kept {s₀ s : State} (h₀ : State.Kept s₀ s) (p k : Nat) (sec : Bool) (d : Delivered) : State.Kept s₀ (State.llAccept s p k sec d) := by
  unfold State.llAccept
  repeat' first
    | with_reducible assumption
    | intro x; first | (refine (fun (hx : State.Kept s₀ x) => ?_) ?_); clear_value x; rotate_left; subst x | subst x
    | lift_lets -underBinder +implicits
    | with_reducible apply State.deliverData_kept
    | with_reducible apply State.deliverMgmt_kept
    | with_reducible apply State.inc_kept
    | with_reducible apply State.renew_kept
    | with_reducible apply State.renewOwn_kept
    | with_reducible apply State.setNbr_kept
    | with_reducible refine .ite (fun _ => ?_) (fun _ => ?_)
    | split
    | with_reducible refine State.Kept.mk_iff.2 ?_

theorem State.llReceive_kept {s₀ s : State} (h₀ : State.Kept s₀ s) (p : Nat) (bb : Bool) (c sf0 : Nat) (b : List Byte) : State.Kept s₀ (State.llReceive s p bb c sf0 b) := by
  unfold State.llReceive
  repeat' first
    | with_reducible assumption
    | intro x; first | (refine (fun (hx : State.Kept s₀ x) => ?_) ?_); clear_value x; rotate_left; subst x | (refine (fun (hx : State.Kept s₀ x.1) => ?_) ?_); clear_value x; rotate_left; subst x | subst x
    | lift_lets -underBinder +implicits
    | with_reducible apply State.inc_kept
    | with_reducible apply State.incF_kept
    | with_reducible apply State.llAccept_kept
    | with_reducible apply State.llDrop_kept
    | with_reducible apply State.makeNbr_kept
    | with_reducible apply State.pageRecord_kept
    | with_reducible apply State.setNbr_kept
    | with_reducible apply State.tagFail_kept
    | with_reducible refine .ite (fun _ => ?_) (fun _ => ?_)
    | with_reducible refine .ofFst (by assumption) ?_
    | split
    | with_reducible refine State.Kept.mk_iff.2 ?_

theorem State.buildFrame_kept {s₀ s : State} (h₀ : State.Kept s₀ s) (o : OutFrame) (ird : Option Nat) : State.Kept s₀ (State.buildFrame s o ird).1 := by
  unfold State.buildFrame
  repeat' first
    | with_reducible assumption
    | intro x; first | (refine (fun (hx : State.Kept s₀ x) => ?_) ?_); clear_value x; rotate_left; subst x | (refine (fun (hx : State.Kept s₀ x.1) => ?_) ?_); clear_value x; rotate_left; subst x | subst x
    | lift_lets -underBinder +implicits
    | with_reducible apply State.makeNbr_kept
    | with_reducible apply State.setNbr_kept
    | with_reducible refine .ite (fun _ => ?_) (fun _ => ?_)
    | with_reducible refine .iteFst (fun _ => ?_) (fun _ => ?_)
    | with_reducible refine .ofFst (by assumption) ?_
    | split
    | with_reducible refine State.Kept.mk_iff.2 ?_

theorem State.enterAck_kept {s₀ s : State} (h₀ : State.Kept s₀ s) (p : Nat) (bb : Bool) (c : Nat) (hdr : List Byte) (at_ : Nat) : State.Kept s₀ (State.enterAck s p bb c hdr at_) := by
  unfold State.enterAck
  repeat' first
    | with_reducible assumption
    | intro x; first | (refine (fun (hx : State.Kept s₀ x) => ?_) ?_); clear_value x; rotate_left; subst x | subst x
    | lift_lets -underBinder +implicits
    | with_reducible apply State.setFix_kept
    | with_reducible refine .ite (fun _ => ?_) (fun _ => ?_)
    | split
    | with_reducible refine State.Kept.mk_iff.2 ?_

theorem State.setSent_kept {s₀ s : State} (h₀ : State.Kept s₀ s) (d : Nat) (x : SentFrame) : State.Kept s₀ (State.setSent s d x) := by
  unfold State.setSent
  repeat' first
    | with_reducible assumption
    | intro x; first | (refine (fun (hx : State.Kept s₀ x) => ?_) ?_); clear_value x; rotate_left; subst x | subst x
    | lift_lets -underBinder +implicits
    | with_reducible refine .ite (fun _ => ?_) (fun _ => ?_)
    | split
    | with_reducible refine State.Kept.mk_iff.2 ?_

theorem State.dropSent_kept {s₀ s : State} (h₀ : State.Kept s₀ s) (d : Nat) : State.Kept s₀ (State.dropSent s d) := by
  unfold State.dropSent
  repeat' first
    | with_reducible assumption
    | intro x; first | (refine (fun (hx : State.Kept s₀ x) => ?_) ?_); clear_value x; rotate_left; subst x | subst x
    | lift_lets -underBinder +implicits
    | with_reducible refine .ite (fun _ => ?_) (fun _ => ?_)
    | split
    | with_reducible refine State.Kept.mk_iff.2 ?_

theorem State.nbrLost_kept {s₀ s : State} (h₀ : State.Kept s₀ s) (p k : Nat) : State.Kept s₀ (State.nbrLost s p k) := by
  unfold State.nbrLost
  repeat' first
    | with_reducible assumption
    | intro x; first | (refine (fun (hx : State.Kept s₀ x) => ?_) ?_); clear_value x; rotate_left; subst x | (refine (fun (hx : ∀ a, State.Kept s₀ a → State.Kept s₀ (x a)) => ?_) ?_); clear_value x; rotate_left; subst x; intro _ _ | (refine (fun (hx : ∀ a b, State.Kept s₀ a → State.Kept s₀ (x a b).1) => ?_) ?_); clear_value x; rotate_left; subst x; intro _ _ _ | (refine (fun (hx : ∀ a b, State.Kept s₀ a → State.Kept s₀ (x a b)) => ?_) ?_); clear_value x; rotate_left; subst x; intro _ _ _ | (refine (fun (hx : ∀ a, State.Kept s₀ (x a)) => ?_) ?_); clear_value x; rotate_left; subst x; intro _ | (refine (fun (hx : ∀ a b, State.Kept s₀ (x a b)) => ?_) ?_); clear_value x; rotate_left; subst x; intro _ _ | subst x
    | lift_lets -underBinder +implicits
    | with_reducible apply State.cause_kept
    | with_reducible apply State.cutOutbox_kept
    | with_reducible apply State.descDone_kept
    | with_reducible apply State.dropSent_kept
    | with_reducible apply State.forwardFailed_kept
    | with_reducible apply State.nbrLostRoute_kept
    | with_reducible apply State.pageRecord_kept
    | with_reducible apply State.setNbr_kept
    | with_reducible refine .ite (fun _ => ?_) (fun _ => ?_)
    | with_reducible refine .foldl (fun _ _ _ => ?_) ?_
    | with_reducible apply_assumption -exfalso
    | dsimp -zeta only
    | split
    | with_reducible refine State.Kept.mk_iff.2 ?_

theorem State.frameOk_kept {s₀ s : State} (h₀ : State.Kept s₀ s) (d : Nat) (x : SentFrame) (renews : Bool) : State.Kept s₀ (State.frameOk s d x renews) := by
  unfold State.frameOk
  repeat' first
    | with_reducible assumption
    | intro x; first | (refine (fun (hx : State.Kept s₀ x) => ?_) ?_); clear_value x; rotate_left; subst x | subst x
    | lift_lets -underBinder +implicits
    | with_reducible apply State.descDone_kept
    | with_reducible apply State.dropSent_kept
    | with_reducible apply State.renewOwn_kept
    | with_reducible apply State.segAcked_kept
    | with_reducible apply State.setNbr_kept
    | with_reducible refine .ite (fun _ => ?_) (fun _ => ?_)
    | split
    | with_reducible refine State.Kept.mk_iff.2 ?_

theorem State.frameTimeout_kept {s₀ s : State} (h₀ : State.Kept s₀ s) (d : Nat) (x : SentFrame) : State.Kept s₀ (State.frameTimeout s d x) := by
  unfold State.frameTimeout
  repeat' first
    | with_reducible assumption
    | intro x; first | (refine (fun (hx : State.Kept s₀ x) => ?_) ?_); clear_value x; rotate_left; subst x | subst x
    | lift_lets -underBinder +implicits
    | with_reducible apply State.descDone_kept
    | with_reducible apply State.dropSent_kept
    | with_reducible apply State.forwardFailed_kept
    | with_reducible apply State.incF_kept
    | with_reducible apply State.nbrLost_kept
    | with_reducible apply State.setNbr_kept
    | with_reducible refine .ite (fun _ => ?_) (fun _ => ?_)
    | split
    | with_reducible refine State.Kept.mk_iff.2 ?_

theorem State.attemptFailed_kept {s₀ s : State} (h₀ : State.Kept s₀ s) (d : Nat) (x : SentFrame) : State.Kept s₀ (State.attemptFailed s d x) := by
  unfold State.attemptFailed
  repeat' first
    | with_reducible assumption
    | intro x; first | (refine (fun (hx : State.Kept s₀ x) => ?_) ?_); clear_value x; rotate_left; subst x | subst x
    | lift_lets -underBinder +implicits
    | with_reducible apply State.descDone_kept
    | with_reducible apply State.dropSent_kept
    | with_reducible apply State.frameTimeout_kept
    | with_reducible apply State.setSent_kept
    | with_reducible refine .ite (fun _ => ?_) (fun _ => ?_)
    | split
    | with_reducible refine State.Kept.mk_iff.2 ?_

theorem State.repairOutcome_kept {s₀ s : State} (h₀ : State.Kept s₀ s) (d : Nat) (ok : Option Bool) : State.Kept s₀ (State.repairOutcome s d ok) := by
  unfold State.repairOutcome
  repeat' first
    | with_reducible assumption
    | intro x; first | (refine (fun (hx : State.Kept s₀ x) => ?_) ?_); clear_value x; rotate_left; subst x | (refine (fun (hx : ∀ a, State.Kept s₀ a → State.Kept s₀ (x a)) => ?_) ?_); clear_value x; rotate_left; subst x; intro _ _ | (refine (fun (hx : ∀ a b, State.Kept s₀ a → State.Kept s₀ (x a b).1) => ?_) ?_); clear_value x; rotate_left; subst x; intro _ _ _ | (refine (fun (hx : ∀ a b, State.Kept s₀ a → State.Kept s₀ (x a b)) => ?_) ?_); clear_value x; rotate_left; subst x; intro _ _ _ | (refine (fun (hx : ∀ a, State.Kept s₀ (x a)) => ?_) ?_); clear_value x; rotate_left; subst x; intro _ | (refine (fun (hx : ∀ a b, State.Kept s₀ (x a b)) => ?_) ?_); clear_value x; rotate_left; subst x; intro _ _ | subst x
    | lift_lets -underBinder +implicits
    | with_reducible apply State.addF_kept
    | with_reducible apply State.attemptFailed_kept
    | with_reducible apply State.frameOk_kept
    | with_reducible apply State.setSent_kept
    | with_reducible refine .ite (fun _ => ?_) (fun _ => ?_)
    | with_reducible apply_assumption -exfalso
    | dsimp -zeta only
    | split
    | with_reducible refine State.Kept.mk_iff.2 ?_

theorem State.ackMissing_kept {s₀ s : State} (h₀ : State.Kept s₀ s) (d : Nat) : State.Kept s₀ (State.ackMissing s d) := by
  unfold State.ackMissing
  repeat' first
    | with_reducible assumption
    | intro x; first | (refine (fun (hx : State.Kept s₀ x) => ?_) ?_); clear_value x; rotate_left; subst x | subst x
    | lift_lets -underBinder +implicits
    | with_reducible apply State.attemptFailed_kept
    | with_reducible apply State.descDone_kept
    | with_reducible apply State.dropSent_kept
    | with_reducible apply State.repairOutcome_kept
    | with_reducible apply State.sendUp_kept
    | with_reducible refine .ite (fun _ => ?_) (fun _ => ?_)
    | split

theorem State.ackTimeout_kept {s₀ s : State} (h₀ : State.Kept s₀ s) (d : Nat) : State.Kept s₀ (State.ackTimeout s d) := by
  unfold State.ackTimeout
  repeat' first
    | with_reducible assumption
    | intro x; first | (refine (fun (hx : State.Kept s₀ x) => ?_) ?_); clear_value x; rotate_left; subst x | subst x
    | lift_lets -underBinder +implicits
    | with_reducible apply State.ackMissing_kept
    | with_reducible refine .ite (fun _ => ?_) (fun _ => ?_)
    | split

theorem State.nbrBusy_kept {s₀ s : State} (h₀ : State.Kept s₀ s) (o : OutFrame) (b : Bool) : State.Kept s₀ (State.nbrBusy s o b) := by
  unfold State.nbrBusy
  repeat' first
    | with_reducible assumption
    | intro x; first | (refine (fun (hx : State.Kept s₀ x) => ?_) ?_); clear_value x; rotate_left; subst x | subst x
    | lift_lets -underBinder +implicits
    | with_reducible apply State.setNbr_kept
    | with_reducible refine .ite (fun _ => ?_) (fun _ => ?_)
    | split
    | with_reducible refine State.Kept.mk_iff.2 ?_

theorem State.ackOutcome_kept {s₀ s : State} (h₀ : State.Kept s₀ s) (d ares first map : Nat) (irOk : Bool) : State.Kept s₀ (State.ackOutcome s d ares first map irOk) := by
  unfold State.ackOutcome
  repeat' first
    | with_reducible assumption
    | intro x; first | (refine (fun (hx : State.Kept s₀ x) => ?_) ?_); clear_value x; rotate_left; subst x | subst x
    | lift_lets -underBinder +implicits
    | with_reducible apply State.attemptFailed_kept
    | with_reducible apply State.descDone_kept
    | with_reducible apply State.dropSent_kept
    | with_reducible apply State.forwardFailed_kept
    | with_reducible apply State.frameOk_kept
    | with_reducible apply State.nbrBusy_kept
    | with_reducible apply State.repairOutcome_kept
    | with_reducible apply State.sendUp_kept
    | with_reducible apply State.setSent_kept
    | with_reducible refine .ite (fun _ => ?_) (fun _ => ?_)
    | split
    | with_reducible refine State.Kept.mk_iff.2 ?_

theorem State.ackRx_kept {s₀ s : State} (h₀ : State.Kept s₀ s)  : State.Kept s₀ (State.ackRx s) := by
  unfold State.ackRx
  repeat' first
    | with_reducible assumption
    | intro x; first | (refine (fun (hx : State.Kept s₀ x) => ?_) ?_); clear_value x; rotate_left; subst x | (refine (fun (hx : ∀ a, State.Kept s₀ a → State.Kept s₀ (x a)) => ?_) ?_); clear_value x; rotate_left; subst x; intro _ _ | (refine (fun (hx : ∀ a b, State.Kept s₀ a → State.Kept s₀ (x a b).1) => ?_) ?_); clear_value x; rotate_left; subst x; intro _ _ _ | (refine (fun (hx : ∀ a b, State.Kept s₀ a → State.Kept s₀ (x a b)) => ?_) ?_); clear_value x; rotate_left; subst x; intro _ _ _ | (refine (fun (hx : ∀ a, State.Kept s₀ (x a)) => ?_) ?_); clear_value x; rotate_left; subst x; intro _ | (refine (fun (hx : ∀ a b, State.Kept s₀ (x a b)) => ?_) ?_); clear_value x; rotate_left; subst x; intro _ _ | subst x
    | lift_lets -underBinder +implicits
    | with_reducible refine State.takeInbox_kept ?_ _ _ (by assumption)
    | with_reducible apply State.ackMissing_kept
    | with_reducible apply State.ackOutcome_kept
    | with_reducible refine .ite (fun _ => ?_) (fun _ => ?_)
    | with_reducible refine .foldl (fun _ _ _ => ?_) ?_
    | with_reducible refine .foldlFst (fun _ _ _ => ?_) ?_
    | with_reducible apply_assumption -exfalso
    | dsimp -zeta only
    | split

theorem State.irExpiry_kept {s₀ s : State} (h₀ : State.Kept s₀ s)  : State.Kept s₀ (State.irExpiry s) := by
  unfold State.irExpiry
  repeat' first
    | with_reducible assumption
    | intro x; first | (refine (fun (hx : State.Kept s₀ x) => ?_) ?_); clear_value x; rotate_left; subst x | subst x
    | lift_lets -underBinder +implicits
    | with_reducible refine .ite (fun _ => ?_) (fun _ => ?_)
    | split
    | with_reducible refine State.Kept.mk_iff.2 ?_

theorem State.irRepair_kept {s₀ s : State} (h₀ : State.Kept s₀ s) (p : Nat) (bb : Bool) (c sf0 nrt ird src : Nat) (repaired : Option (List Byte)) : State.Kept s₀ (State.irRepair s p bb c sf0 nrt ird src repaired).1 := by
  unfold State.irRepair
  repeat' first
    | with_reducible assumption
    | intro x; first | (refine (fun (hx : State.Kept s₀ x) => ?_) ?_); clear_value x; rotate_left; subst x | (refine (fun (hx : State.Kept s₀ x.1) => ?_) ?_); clear_value x; rotate_left; subst x | subst x
    | lift_lets -underBinder +implicits
    | with_reducible apply State.addF_kept
    | with_reducible apply State.incF_kept
    | with_reducible apply State.llDrop_kept
    | with_reducible apply State.llReceive_kept
    | with_reducible refine .ite (fun _ => ?_) (fun _ => ?_)
    | with_reducible refine .iteFst (fun _ => ?_) (fun _ => ?_)
    | split
    | with_reducible refine State.Kept.mk_iff.2 ?_

end Sys2Proof.Machine
end

