-- ==== Sys2Proof/Laws/KeptTransmit.lean ====
section
/-! SUPPORT. The operations of Machine/Transmit.lean keep what Laws/Kept.lean says. -/

-- One declaration after another: the package is compiled as one text, and its memory stays within bounds.
set_option Elab.async false

namespace Sys2Proof.Machine

theorem State.noteBusy_kept {s₀ s : State} (h₀ : State.Kept s₀ s) (p c : Nat) (busy : Bool) : State.Kept s₀ (State.noteBusy s p c busy) := by
  unfold State.noteBusy
  repeat' first
    | with_reducible assumption
    | intro x; first | (refine (fun (hx : State.Kept s₀ x) => ?_) ?_); clear_value x; rotate_left; subst x | subst x
    | lift_lets -underBinder +implicits
    | with_reducible apply State.setCond_kept
    | with_reducible refine .ite (fun _ => ?_) (fun _ => ?_)
    | split
    | with_reducible refine State.Kept.mk_iff.2 ?_

theorem State.nextSeed_kept {s₀ s : State} (h₀ : State.Kept s₀ s)  : State.Kept s₀ (State.nextSeed s).1 := by
  unfold State.nextSeed
  repeat' first
    | with_reducible assumption
    | intro x; first | (refine (fun (hx : State.Kept s₀ x) => ?_) ?_); clear_value x; rotate_left; subst x | (refine (fun (hx : State.Kept s₀ x.1) => ?_) ?_); clear_value x; rotate_left; subst x | subst x
    | lift_lets -underBinder +implicits
    | with_reducible refine .ite (fun _ => ?_) (fun _ => ?_)
    | with_reducible refine .iteFst (fun _ => ?_) (fun _ => ?_)
    | split
    | with_reducible refine State.Kept.mk_iff.2 ?_

theorem State.newFrame_kept {s₀ s : State} (h₀ : State.Kept s₀ s) (o : OutFrame) (mu : Bool) : State.Kept s₀ (State.newFrame s o mu).1 := by
  unfold State.newFrame
  repeat' first
    | with_reducible assumption
    | intro x; first | (refine (fun (hx : State.Kept s₀ x) => ?_) ?_); clear_value x; rotate_left; subst x | (refine (fun (hx : State.Kept s₀ x.1) => ?_) ?_); clear_value x; rotate_left; subst x | subst x
    | lift_lets -underBinder +implicits
    | with_reducible apply State.buildFrame_kept
    | with_reducible refine .ite (fun _ => ?_) (fun _ => ?_)
    | with_reducible refine .iteFst (fun _ => ?_) (fun _ => ?_)
    | with_reducible refine .ofFst (by assumption) ?_
    | split

theorem State.msgBegun_kept {s₀ s : State} (h₀ : State.Kept s₀ s) (o : OutFrame) : State.Kept s₀ (State.msgBegun s o) := by
  unfold State.msgBegun
  repeat' first
    | with_reducible assumption
    | intro x; first | (refine (fun (hx : State.Kept s₀ x) => ?_) ?_); clear_value x; rotate_left; subst x | subst x
    | lift_lets -underBinder +implicits
    | with_reducible apply State.setMsg_kept
    | with_reducible refine .ite (fun _ => ?_) (fun _ => ?_)
    | split
    | with_reducible refine State.Kept.mk_iff.2 ?_

theorem State.coopFrame_kept {s₀ s : State} (h₀ : State.Kept s₀ s) (x : Nat) (r : MsgRec) (k : Nat) : State.Kept s₀ (State.coopFrame s x r k).1 := by
  unfold State.coopFrame
  repeat' first
    | with_reducible assumption
    | intro x; first | (refine (fun (hx : State.Kept s₀ x) => ?_) ?_); clear_value x; rotate_left; subst x | (refine (fun (hx : State.Kept s₀ x.1) => ?_) ?_); clear_value x; rotate_left; subst x | subst x
    | lift_lets -underBinder +implicits
    | split
    | with_reducible apply State.setEp_kept
    | with_reducible refine .ite (fun _ => ?_) (fun _ => ?_)
    | with_reducible refine .iteFst (fun _ => ?_) (fun _ => ?_)
    | split
    | with_reducible refine State.Kept.mk_iff.2 ?_

theorem State.carryFrame_kept {s₀ s : State} (h₀ : State.Kept s₀ s) (m k relay : Nat) (r : MsgRec) : State.Kept s₀ (State.carryFrame s m k relay r).1 := by
  unfold State.carryFrame
  repeat' first
    | with_reducible assumption
    | intro x; first | (refine (fun (hx : State.Kept s₀ x) => ?_) ?_); clear_value x; rotate_left; subst x | (refine (fun (hx : State.Kept s₀ x.1) => ?_) ?_); clear_value x; rotate_left; subst x | subst x
    | lift_lets -underBinder +implicits
    | split
    | with_reducible apply State.coopFrame_kept
    | with_reducible apply State.nextSeed_kept
    | with_reducible refine .ite (fun _ => ?_) (fun _ => ?_)
    | with_reducible refine .iteFst (fun _ => ?_) (fun _ => ?_)
    | with_reducible refine .ofFst (by assumption) ?_
    | split
    | with_reducible refine State.Kept.mk_iff.2 ?_

theorem State.txFrame_kept {s₀ s : State} (h₀ : State.Kept s₀ s) (p c d : Nat) (x : TxDesc) : State.Kept s₀ (State.txFrame s p c d x).1 := by
  unfold State.txFrame
  repeat' first
    | with_reducible assumption
    | intro x; first | (refine (fun (hx : State.Kept s₀ x) => ?_) ?_); clear_value x; rotate_left; subst x | (refine (fun (hx : State.Kept s₀ x.1) => ?_) ?_); clear_value x; rotate_left; subst x | (refine (fun (hx : ∀ a, State.Kept s₀ a → State.Kept s₀ (x a)) => ?_) ?_); clear_value x; rotate_left; subst x; intro _ _ | (refine (fun (hx : ∀ a b, State.Kept s₀ a → State.Kept s₀ (x a b).1) => ?_) ?_); clear_value x; rotate_left; subst x; intro _ _ _ | (refine (fun (hx : ∀ a b, State.Kept s₀ a → State.Kept s₀ (x a b)) => ?_) ?_); clear_value x; rotate_left; subst x; intro _ _ _ | (refine (fun (hx : ∀ a, State.Kept s₀ (x a)) => ?_) ?_); clear_value x; rotate_left; subst x; intro _ | (refine (fun (hx : ∀ a b, State.Kept s₀ (x a b)) => ?_) ?_); clear_value x; rotate_left; subst x; intro _ _ | subst x
    | lift_lets -underBinder +implicits
    | split
    | with_reducible apply State.carryFrame_kept
    | with_reducible apply State.cutOutbox_kept
    | with_reducible apply State.floodGone_kept
    | with_reducible apply State.incF_kept
    | with_reducible apply State.mcStamp_kept
    | with_reducible apply State.newFrame_kept
    | with_reducible apply State.parentStamp_kept
    | with_reducible refine .ite (fun _ => ?_) (fun _ => ?_)
    | with_reducible refine .iteFst (fun _ => ?_) (fun _ => ?_)
    | with_reducible refine .ofFst (by assumption) ?_
    | with_reducible apply_assumption -exfalso
    | dsimp -zeta only
    | split
    | with_reducible refine State.Kept.mkSec_iff.2 ?_
    | with_reducible refine State.Kept.mk_iff.2 ?_

theorem State.txRef_kept {s₀ s : State} (h₀ : State.Kept s₀ s) (p c : Nat) (bb skipped : Bool) : State.Kept s₀ (State.txRef s p c bb skipped) := by
  unfold State.txRef
  repeat' first
    | with_reducible assumption
    | intro x; first | (refine (fun (hx : State.Kept s₀ x) => ?_) ?_); clear_value x; rotate_left; subst x | subst x
    | lift_lets -underBinder +implicits
    | with_reducible apply State.incF_kept
    | with_reducible refine .ite (fun _ => ?_) (fun _ => ?_)
    | split

theorem State.txGo_kept {s₀ s : State} (h₀ : State.Kept s₀ s) (p : Nat) (cs : List Nat) (bb ack : Bool) (d edges : Nat) (frame : List Byte) (air : Air) : State.Kept s₀ (State.txGo s p cs bb ack d edges frame air) := by
  unfold State.txGo
  repeat' first
    | with_reducible assumption
    | intro x; first | (refine (fun (hx : State.Kept s₀ x) => ?_) ?_); clear_value x; rotate_left; subst x | subst x
    | lift_lets -underBinder +implicits
    | with_reducible apply State.holdGain_kept
    | with_reducible apply State.setCond_kept
    | with_reducible refine .ite (fun _ => ?_) (fun _ => ?_)
    | with_reducible refine .foldl (fun _ _ _ => ?_) ?_
    | split
    | with_reducible refine State.Kept.mk_iff.2 ?_

theorem State.bcnSkipped_kept {s₀ s : State} (h₀ : State.Kept s₀ s) (p c : Nat) : State.Kept s₀ (State.bcnSkipped s p c) := by
  unfold State.bcnSkipped
  repeat' first
    | with_reducible assumption
    | with_reducible apply State.cause_kept
    | with_reducible apply State.incF_kept
    | with_reducible refine .ite (fun _ => ?_) (fun _ => ?_)
    | split

theorem State.txSkip_kept {s₀ s : State} (h₀ : State.Kept s₀ s) (i p c : Nat) (x : TxDesc) (st : Status) : State.Kept s₀ (State.txSkip s i p c x st) := by
  unfold State.txSkip
  repeat' first
    | with_reducible assumption
    | intro x; first | (refine (fun (hx : State.Kept s₀ x) => ?_) ?_); clear_value x; rotate_left; subst x | subst x
    | lift_lets -underBinder +implicits
    | with_reducible apply State.bcnSkipped_kept
    | with_reducible apply State.msgResolve_kept
    | with_reducible apply State.skip_kept
    | with_reducible refine .ite (fun _ => ?_) (fun _ => ?_)
    | split
    | with_reducible refine State.Kept.mk_iff.2 ?_

theorem State.txDefer_kept {s₀ s : State} (h₀ : State.Kept s₀ s) (i p c d : Nat) (bb : Bool) : State.Kept s₀ (State.txDefer s i p c d bb) := by
  unfold State.txDefer
  repeat' first
    | with_reducible assumption
    | intro x; first | (refine (fun (hx : State.Kept s₀ x) => ?_) ?_); clear_value x; rotate_left; subst x | subst x
    | lift_lets -underBinder +implicits
    | with_reducible apply State.cause_kept
    | with_reducible apply State.descDone_kept
    | with_reducible apply State.fired_kept
    | with_reducible apply State.incF_kept
    | with_reducible refine .ite (fun _ => ?_) (fun _ => ?_)
    | split

theorem State.beaconStart_kept {s₀ s : State} (h₀ : State.Kept s₀ s) (i p c d : Nat) (x : TxDesc) : State.Kept s₀ (State.beaconStart s i p c d x) := by
  unfold State.beaconStart
  repeat' first
    | with_reducible assumption
    | intro x; first | (refine (fun (hx : State.Kept s₀ x) => ?_) ?_); clear_value x; rotate_left; subst x | (refine (fun (hx : State.Kept s₀ x.1) => ?_) ?_); clear_value x; rotate_left; subst x | subst x
    | lift_lets -underBinder +implicits
    | split
    | with_reducible apply State.bcnSkipped_kept
    | with_reducible apply State.fired_kept
    | with_reducible apply State.incF_kept
    | with_reducible apply State.nextSeed_kept
    | with_reducible apply State.noteBusy_kept
    | with_reducible apply State.setCond_kept
    | with_reducible apply State.txDefer_kept
    | with_reducible apply State.txGo_kept
    | with_reducible apply State.txRef_kept
    | with_reducible apply State.txSkip_kept
    | with_reducible refine .ite (fun _ => ?_) (fun _ => ?_)
    | with_reducible refine .ofFst (by assumption) ?_
    | split
    | with_reducible refine State.Kept.mk_iff.2 ?_

theorem State.frameStart_kept {s₀ s : State} (h₀ : State.Kept s₀ s) (i p c d : Nat) (x : TxDesc) : State.Kept s₀ (State.frameStart s i p c d x) := by
  unfold State.frameStart
  repeat' first
    | with_reducible assumption
    | intro x; first | (refine (fun (hx : State.Kept s₀ x) => ?_) ?_); clear_value x; rotate_left; subst x | (refine (fun (hx : State.Kept s₀ x.1) => ?_) ?_); clear_value x; rotate_left; subst x | subst x
    | lift_lets -underBinder +implicits
    | with_reducible apply State.descDone_kept
    | with_reducible apply State.fired_kept
    | with_reducible apply State.inc_kept
    | with_reducible apply State.incF_kept
    | with_reducible apply State.msgBegun_kept
    | with_reducible apply State.nextSeed_kept
    | with_reducible apply State.noteBusy_kept
    | with_reducible apply State.renew_kept
    | with_reducible apply State.setSent_kept
    | with_reducible apply State.txDefer_kept
    | with_reducible apply State.txFrame_kept
    | with_reducible apply State.txGo_kept
    | with_reducible apply State.txRef_kept
    | with_reducible apply State.txSkip_kept
    | with_reducible refine .ite (fun _ => ?_) (fun _ => ?_)
    | with_reducible refine .ofFst (by assumption) ?_
    | split
    | with_reducible refine State.Kept.mk_iff.2 ?_

theorem State.soundStart_kept {s₀ s : State} (h₀ : State.Kept s₀ s) (i p c d peer : Nat) (x : TxDesc) : State.Kept s₀ (State.soundStart s i p c d peer x) := by
  unfold State.soundStart
  repeat' first
    | with_reducible assumption
    | intro x; first | (refine (fun (hx : State.Kept s₀ x) => ?_) ?_); clear_value x; rotate_left; subst x | (refine (fun (hx : State.Kept s₀ x.1) => ?_) ?_); clear_value x; rotate_left; subst x | subst x
    | lift_lets -underBinder +implicits
    | split
    | with_reducible apply State.descDone_kept
    | with_reducible apply State.fired_kept
    | with_reducible apply State.nextSeed_kept
    | with_reducible apply State.txDefer_kept
    | with_reducible apply State.txGo_kept
    | with_reducible apply State.txRef_kept
    | with_reducible apply State.txSkip_kept
    | with_reducible refine .ite (fun _ => ?_) (fun _ => ?_)
    | with_reducible refine .ofFst (by assumption) ?_
    | split

theorem State.txStart_kept {s₀ s : State} (h₀ : State.Kept s₀ s) (i : Nat) (x : TxDesc) : State.Kept s₀ (State.txStart s i x) := by
  unfold State.txStart
  repeat' first
    | with_reducible assumption
    | intro x; first | (refine (fun (hx : State.Kept s₀ x) => ?_) ?_); clear_value x; rotate_left; subst x | subst x
    | lift_lets -underBinder +implicits
    | with_reducible apply State.beaconStart_kept
    | with_reducible apply State.frameStart_kept
    | with_reducible apply State.soundStart_kept
    | with_reducible apply State.txSkip_kept
    | with_reducible refine .ite (fun _ => ?_) (fun _ => ?_)
    | split

theorem State.ackTx_kept {s₀ s : State} (h₀ : State.Kept s₀ s) (i : Nat) (levels : List (Nat × Nat)) : State.Kept s₀ (State.ackTx s i levels) := by
  unfold State.ackTx
  repeat' first
    | with_reducible assumption
    | intro x; first | (refine (fun (hx : State.Kept s₀ x) => ?_) ?_); clear_value x; rotate_left; subst x | (refine (fun (hx : ∀ a, State.Kept s₀ a → State.Kept s₀ (x a)) => ?_) ?_); clear_value x; rotate_left; subst x; intro _ _ | (refine (fun (hx : ∀ a b, State.Kept s₀ a → State.Kept s₀ (x a b).1) => ?_) ?_); clear_value x; rotate_left; subst x; intro _ _ _ | (refine (fun (hx : ∀ a b, State.Kept s₀ a → State.Kept s₀ (x a b)) => ?_) ?_); clear_value x; rotate_left; subst x; intro _ _ _ | (refine (fun (hx : ∀ a, State.Kept s₀ (x a)) => ?_) ?_); clear_value x; rotate_left; subst x; intro _ | (refine (fun (hx : ∀ a b, State.Kept s₀ (x a b)) => ?_) ?_); clear_value x; rotate_left; subst x; intro _ _ | subst x
    | lift_lets -underBinder +implicits
    | with_reducible apply State.cause_kept
    | with_reducible apply State.fired_kept
    | with_reducible apply State.noteBusy_kept
    | with_reducible apply State.renew_kept
    | with_reducible apply State.skip_kept
    | with_reducible apply State.txDefer_kept
    | with_reducible apply State.txGo_kept
    | with_reducible apply State.txRef_kept
    | with_reducible apply State.wf_kept
    | with_reducible refine .ite (fun _ => ?_) (fun _ => ?_)
    | with_reducible apply_assumption -exfalso
    | dsimp -zeta only
    | split
    | with_reducible refine State.Kept.mk_iff.2 ?_

theorem State.frameEnded_kept {s₀ s : State} (h₀ : State.Kept s₀ s) (d : Nat) (ack : Bool) : State.Kept s₀ (State.frameEnded s d ack) := by
  unfold State.frameEnded
  repeat' first
    | with_reducible assumption
    | intro x; first | (refine (fun (hx : State.Kept s₀ x) => ?_) ?_); clear_value x; rotate_left; subst x | subst x
    | lift_lets -underBinder +implicits
    | with_reducible apply State.descDone_kept
    | with_reducible apply State.dropSent_kept
    | with_reducible apply State.segAcked_kept
    | with_reducible apply State.setSent_kept
    | with_reducible refine .ite (fun _ => ?_) (fun _ => ?_)
    | split
    | with_reducible refine State.Kept.mk_iff.2 ?_

theorem State.ackListen_kept {s₀ s : State} (h₀ : State.Kept s₀ s) (p c : Nat) (bb : Bool) (x : TxRec) : State.Kept s₀ (State.ackListen s p c bb x) := by
  unfold State.ackListen
  repeat' first
    | with_reducible assumption
    | intro x; first | (refine (fun (hx : State.Kept s₀ x) => ?_) ?_); clear_value x; rotate_left; subst x | subst x
    | lift_lets -underBinder +implicits
    | with_reducible apply State.enterFix_kept
    | with_reducible refine .ite (fun _ => ?_) (fun _ => ?_)
    | split

theorem State.slotNext_kept {s₀ s : State} (h₀ : State.Kept s₀ s) (p c : Nat) (bb : Bool) (x : TxRec) : State.Kept s₀ (State.slotNext s p c bb x) := by
  unfold State.slotNext
  repeat' first
    | with_reducible assumption
    | intro x; first | (refine (fun (hx : State.Kept s₀ x) => ?_) ?_); clear_value x; rotate_left; subst x | subst x
    | lift_lets -underBinder +implicits
    | split
    | with_reducible apply State.enterFix_kept
    | with_reducible refine .ite (fun _ => ?_) (fun _ => ?_)
    | split

theorem State.transmissionEnd_kept {s₀ s : State} (h₀ : State.Kept s₀ s) (p c : Nat) (bb : Bool) (a b d : LineEnd) : State.Kept s₀ (State.transmissionEnd s p c bb a b d) := by
  unfold State.transmissionEnd
  repeat' first
    | with_reducible assumption
    | intro x; first | (refine (fun (hx : State.Kept s₀ x) => ?_) ?_); clear_value x; rotate_left; subst x | (refine (fun (hx : ∀ a, State.Kept s₀ a → State.Kept s₀ (x a)) => ?_) ?_); clear_value x; rotate_left; subst x; intro _ _ | (refine (fun (hx : ∀ a b, State.Kept s₀ a → State.Kept s₀ (x a b).1) => ?_) ?_); clear_value x; rotate_left; subst x; intro _ _ _ | (refine (fun (hx : ∀ a b, State.Kept s₀ a → State.Kept s₀ (x a b)) => ?_) ?_); clear_value x; rotate_left; subst x; intro _ _ _ | (refine (fun (hx : ∀ a, State.Kept s₀ (x a)) => ?_) ?_); clear_value x; rotate_left; subst x; intro _ | (refine (fun (hx : ∀ a b, State.Kept s₀ (x a b)) => ?_) ?_); clear_value x; rotate_left; subst x; intro _ _ | subst x
    | lift_lets -underBinder +implicits
    | with_reducible apply State.ackListen_kept
    | with_reducible apply State.frameEnded_kept
    | with_reducible apply State.inc_kept
    | with_reducible apply State.setCond_kept
    | with_reducible apply State.slotNext_kept
    | with_reducible apply State.txEnd_kept
    | with_reducible refine .ite (fun _ => ?_) (fun _ => ?_)
    | with_reducible refine .foldl (fun _ _ _ => ?_) ?_
    | with_reducible apply_assumption -exfalso
    | dsimp -zeta only
    | split
    | with_reducible refine State.Kept.mk_iff.2 ?_

theorem State.stopPhy_kept {s₀ s : State} (h₀ : State.Kept s₀ s) (p c : Nat) (bb : Bool) (st : Status) : State.Kept s₀ (State.stopPhy s p c bb st) := by
  unfold State.stopPhy
  repeat' first
    | with_reducible assumption
    | intro x; first | (refine (fun (hx : State.Kept s₀ x) => ?_) ?_); clear_value x; rotate_left; subst x | subst x
    | lift_lets -underBinder +implicits
    | with_reducible apply State.descStop_kept
    | with_reducible apply State.putCond_kept
    | with_reducible apply State.restoreGain_kept
    | with_reducible apply State.stopTx_kept
    | with_reducible refine .ite (fun _ => ?_) (fun _ => ?_)
    | with_reducible refine .foldl (fun _ _ _ => ?_) ?_
    | split

theorem State.refilterOne_kept {s₀ s : State} (h₀ : State.Kept s₀ s) (p c : Nat) (bb : Bool) : State.Kept s₀ (State.refilterOne s p c bb) := by
  unfold State.refilterOne
  repeat' first
    | with_reducible assumption
    | intro x; first | (refine (fun (hx : State.Kept s₀ x) => ?_) ?_); clear_value x; rotate_left; subst x | subst x
    | lift_lets -underBinder +implicits
    | with_reducible apply State.setCond_kept
    | with_reducible apply State.stopPhy_kept
    | with_reducible apply State.txRef_kept
    | with_reducible refine .ite (fun _ => ?_) (fun _ => ?_)
    | split
    | with_reducible refine State.Kept.mk_iff.2 ?_

theorem State.refilter_kept {s₀ s : State} (h₀ : State.Kept s₀ s)  : State.Kept s₀ (State.refilter s s0) := by
  unfold State.refilter
  repeat' first
    | with_reducible assumption
    | with_reducible apply State.refilterOne_kept
    | with_reducible refine .ite (fun _ => ?_) (fun _ => ?_)
    | with_reducible refine .foldl (fun _ _ _ => ?_) ?_
    | split

theorem State.bandcMax_kept {s₀ s : State} (h₀ : State.Kept s₀ s) (p c : Nat) : State.Kept s₀ (State.bandcMax s p c) := by
  unfold State.bandcMax
  repeat' first
    | with_reducible assumption
    | intro x; first | (refine (fun (hx : State.Kept s₀ x) => ?_) ?_); clear_value x; rotate_left; subst x | subst x
    | lift_lets -underBinder +implicits
    | with_reducible apply State.stopPhy_kept
    | with_reducible refine .ite (fun _ => ?_) (fun _ => ?_)
    | split

theorem State.rxWindow_kept {s₀ s : State} (h₀ : State.Kept s₀ s) (i : Nat) : State.Kept s₀ (State.rxWindow s i) := by
  unfold State.rxWindow
  repeat' first
    | with_reducible assumption
    | intro x; first | (refine (fun (hx : State.Kept s₀ x) => ?_) ?_); clear_value x; rotate_left; subst x | subst x
    | lift_lets -underBinder +implicits
    | with_reducible apply State.fired_kept
    | with_reducible apply State.incF_kept
    | with_reducible apply State.openRxWin_kept
    | with_reducible apply State.skip_kept
    | with_reducible refine .ite (fun _ => ?_) (fun _ => ?_)
    | with_reducible refine .foldl (fun _ _ _ => ?_) ?_
    | split

theorem State.rxWindowClose_kept {s₀ s : State} (h₀ : State.Kept s₀ s) (p ch : Nat) : State.Kept s₀ (State.rxWindowClose s p ch) := by
  unfold State.rxWindowClose
  repeat' first
    | with_reducible assumption
    | intro x; first | (refine (fun (hx : State.Kept s₀ x) => ?_) ?_); clear_value x; rotate_left; subst x | subst x
    | lift_lets -underBinder +implicits
    | with_reducible apply State.closeRxWin_kept
    | with_reducible refine .ite (fun _ => ?_) (fun _ => ?_)
    | split

theorem State.rxAdapt_kept {s₀ s : State} (h₀ : State.Kept s₀ s) (p : Nat) (bb : Bool) (c : Nat) (sender : Option Nat) (mapId : Nat) (x : RxFrame) (centre : Nat → Nat) (n need : Nat) : State.Kept s₀ (State.rxAdapt s p bb c sender mapId x centre n need) := by
  unfold State.rxAdapt
  repeat' first
    | with_reducible assumption
    | intro x; first | (refine (fun (hx : State.Kept s₀ x) => ?_) ?_); clear_value x; rotate_left; subst x | (refine (fun (hx : State.Kept s₀ x.1) => ?_) ?_); clear_value x; rotate_left; subst x | subst x
    | lift_lets -underBinder +implicits
    | split
    | with_reducible apply State.observe_kept
    | with_reducible apply State.sawSet_kept
    | with_reducible apply State.sendMap_kept
    | with_reducible apply State.stepCount_kept
    | with_reducible apply State.stepSuspect_kept
    | with_reducible refine .ite (fun _ => ?_) (fun _ => ?_)
    | with_reducible refine .foldl (fun _ _ _ => ?_) ?_
    | with_reducible refine .foldlFst (fun _ _ _ => ?_) ?_
    | with_reducible refine .ofFst (by assumption) ?_
    | split

theorem State.muEnter_kept {s₀ s : State} (h₀ : State.Kept s₀ s) (p c j : Nat) (ok : Bool) (at_ : Nat) : State.Kept s₀ (State.muEnter s p c j ok at_) := by
  unfold State.muEnter
  repeat' first
    | with_reducible assumption
    | intro x; first | (refine (fun (hx : State.Kept s₀ x) => ?_) ?_); clear_value x; rotate_left; subst x | subst x
    | lift_lets -underBinder +implicits
    | with_reducible apply State.enterAck_kept
    | with_reducible refine .ite (fun _ => ?_) (fun _ => ?_)
    | split
    | with_reducible refine State.Kept.mk_iff.2 ?_

theorem State.rxData_kept {s₀ s : State} (h₀ : State.Kept s₀ s) (p : Nat) (bb : Bool) (c cset seed nrt edges : Nat) (x : RxFrame) : State.Kept s₀ (State.rxData s p bb c cset seed nrt edges x) := by
  unfold State.rxData
  repeat' first
    | with_reducible assumption
    | intro x; first | (refine (fun (hx : State.Kept s₀ x) => ?_) ?_); clear_value x; rotate_left; subst x | (refine (fun (hx : State.Kept s₀ x.1) => ?_) ?_); clear_value x; rotate_left; subst x | clear_value x
    | lift_lets -underBinder +implicits
    | split
    | with_reducible apply State.addF_kept
    | with_reducible apply State.enterAck_kept
    | with_reducible apply State.granted_kept
    | with_reducible apply State.incF_kept
    | with_reducible apply State.irRepair_kept
    | with_reducible apply State.llReceive_kept
    | with_reducible apply State.muEnter_kept
    | with_reducible apply State.setCond_kept
    | with_reducible refine .ite (fun _ => ?_) (fun _ => ?_)
    | with_reducible refine .ofFst (by assumption) ?_
    | split
    | with_reducible refine State.Kept.mk_iff.2 ?_

theorem State.ackHeaderBad_kept {s₀ s : State} (h₀ : State.Kept s₀ s) (p : Nat) (bb : Bool) (c start : Nat) : State.Kept s₀ (State.ackHeaderBad s p bb c start) := by
  unfold State.ackHeaderBad
  repeat' first
    | with_reducible assumption
    | intro x; first | (refine (fun (hx : State.Kept s₀ x) => ?_) ?_); clear_value x; rotate_left; subst x | (refine (fun (hx : ∀ a, State.Kept s₀ a → State.Kept s₀ (x a)) => ?_) ?_); clear_value x; rotate_left; subst x; intro _ _ | (refine (fun (hx : ∀ a b, State.Kept s₀ a → State.Kept s₀ (x a b).1) => ?_) ?_); clear_value x; rotate_left; subst x; intro _ _ _ | (refine (fun (hx : ∀ a b, State.Kept s₀ a → State.Kept s₀ (x a b)) => ?_) ?_); clear_value x; rotate_left; subst x; intro _ _ _ | (refine (fun (hx : ∀ a, State.Kept s₀ (x a)) => ?_) ?_); clear_value x; rotate_left; subst x; intro _ | (refine (fun (hx : ∀ a b, State.Kept s₀ (x a b)) => ?_) ?_); clear_value x; rotate_left; subst x; intro _ _ | subst x
    | lift_lets -underBinder +implicits
    | with_reducible apply State.ackMissing_kept
    | with_reducible refine .ite (fun _ => ?_) (fun _ => ?_)
    | with_reducible refine .foldl (fun _ _ _ => ?_) ?_
    | with_reducible refine .foldlFst (fun _ _ _ => ?_) ?_
    | with_reducible apply_assumption -exfalso
    | dsimp -zeta only
    | split

theorem State.nbFrameRx_kept {s₀ s : State} (h₀ : State.Kept s₀ s) (p c : Nat) (x : RxFrame) : State.Kept s₀ (State.nbFrameRx s p c x) := by
  unfold State.nbFrameRx
  repeat' first
    | with_reducible assumption
    | intro x; first | (refine (fun (hx : State.Kept s₀ x) => ?_) ?_); clear_value x; rotate_left; subst x | subst x
    | lift_lets -underBinder +implicits
    | with_reducible apply State.ackHeaderBad_kept
    | with_reducible apply State.cause_kept
    | with_reducible apply State.inc_kept
    | with_reducible apply State.incF_kept
    | with_reducible apply State.phaseObserved_kept
    | with_reducible apply State.rxAdapt_kept
    | with_reducible apply State.rxData_kept
    | with_reducible apply State.setCond_kept
    | with_reducible apply State.toInbox_kept
    | with_reducible apply State.wr_kept
    | with_reducible refine .ite (fun _ => ?_) (fun _ => ?_)
    | split
    | with_reducible refine State.Kept.mk_iff.2 ?_

theorem State.bbFrameRx_kept {s₀ s : State} (h₀ : State.Kept s₀ s) (p c : Nat) (x : RxFrame) : State.Kept s₀ (State.bbFrameRx s p c x) := by
  unfold State.bbFrameRx
  repeat' first
    | with_reducible assumption
    | intro x; first | (refine (fun (hx : State.Kept s₀ x) => ?_) ?_); clear_value x; rotate_left; subst x | subst x
    | lift_lets -underBinder +implicits
    | with_reducible apply State.ackHeaderBad_kept
    | with_reducible apply State.cause_kept
    | with_reducible apply State.inc_kept
    | with_reducible apply State.rxAdapt_kept
    | with_reducible apply State.rxData_kept
    | with_reducible apply State.setCond_kept
    | with_reducible apply State.toInbox_kept
    | with_reducible apply State.wr_kept
    | with_reducible refine .ite (fun _ => ?_) (fun _ => ?_)
    | split
    | with_reducible refine State.Kept.mk_iff.2 ?_

end Sys2Proof.Machine
end

