-- ==== Sys2Proof/Laws/KeptStore.lean ====
section
/-! SUPPORT. The operations of Machine/Store.lean keep what Laws/Kept.lean says. -/

-- One declaration after another: the package is compiled as one text, and its memory stays within bounds.
set_option Elab.async false

namespace Sys2Proof.Machine

theorem State.showStore_kept {s₀ s : State} (h₀ : State.Kept s₀ s)  : State.Kept s₀ (State.showStore s) := by
  unfold State.showStore
  repeat' first
    | with_reducible assumption
    | intro x; first | (refine (fun (hx : State.Kept s₀ x) => ?_) ?_); clear_value x; rotate_left; subst x | subst x
    | lift_lets -underBinder +implicits
    | with_reducible apply State.wr_kept
    | with_reducible refine .ite (fun _ => ?_) (fun _ => ?_)
    | split

theorem State.adoptDrive_kept {s₀ s : State} (h₀ : State.Kept s₀ s) (n cap : Nat) : State.Kept s₀ (State.adoptDrive s n cap) := by
  unfold State.adoptDrive
  repeat' first
    | with_reducible assumption
    | intro x; first | (refine (fun (hx : State.Kept s₀ x) => ?_) ?_); clear_value x; rotate_left; subst x | subst x
    | lift_lets -underBinder +implicits
    | with_reducible apply State.cause_kept
    | with_reducible apply State.record_kept
    | with_reducible apply State.showStore_kept
    | with_reducible apply State.wf_kept
    | with_reducible refine .ite (fun _ => ?_) (fun _ => ?_)
    | split
    | with_reducible refine State.Kept.mk_iff.2 ?_

theorem State.driveAttach_kept {s₀ s : State} (h₀ : State.Kept s₀ s) (n : Nat) (identify : Bool) (label : Option (Bool × Nat × Nat)) (extents speed width : Nat) : State.Kept s₀ (State.driveAttach s n identify label extents speed width) := by
  unfold State.driveAttach
  repeat' first
    | with_reducible assumption
    | intro x; first | (refine (fun (hx : State.Kept s₀ x) => ?_) ?_); clear_value x; rotate_left; subst x | subst x
    | lift_lets -underBinder +implicits
    | with_reducible apply State.adoptDrive_kept
    | with_reducible apply State.cause_kept
    | with_reducible apply State.pageRecord_kept
    | with_reducible apply State.record_kept
    | with_reducible apply State.showStore_kept
    | with_reducible apply State.wf_kept
    | with_reducible apply State.wr_kept
    | with_reducible refine .ite (fun _ => ?_) (fun _ => ?_)
    | split

theorem State.driveAccept_kept {s₀ s : State} (h₀ : State.Kept s₀ s) (n : Nat) : State.Kept s₀ (State.driveAccept s n) := by
  unfold State.driveAccept
  repeat' first
    | with_reducible assumption
    | with_reducible apply State.adoptDrive_kept
    | with_reducible refine .ite (fun _ => ?_) (fun _ => ?_)
    | split

theorem State.driveLoss_kept {s₀ s : State} (h₀ : State.Kept s₀ s) (n cause : Nat) : State.Kept s₀ (State.driveLoss s n cause) := by
  unfold State.driveLoss
  repeat' first
    | with_reducible assumption
    | intro x; first | (refine (fun (hx : State.Kept s₀ x) => ?_) ?_); clear_value x; rotate_left; subst x | (refine (fun (hx : ∀ a, State.Kept s₀ a → State.Kept s₀ (x a)) => ?_) ?_); clear_value x; rotate_left; subst x; intro _ _ | (refine (fun (hx : ∀ a b, State.Kept s₀ a → State.Kept s₀ (x a b).1) => ?_) ?_); clear_value x; rotate_left; subst x; intro _ _ _ | (refine (fun (hx : ∀ a b, State.Kept s₀ a → State.Kept s₀ (x a b)) => ?_) ?_); clear_value x; rotate_left; subst x; intro _ _ _ | (refine (fun (hx : ∀ a, State.Kept s₀ (x a)) => ?_) ?_); clear_value x; rotate_left; subst x; intro _ | (refine (fun (hx : ∀ a b, State.Kept s₀ (x a b)) => ?_) ?_); clear_value x; rotate_left; subst x; intro _ _ | subst x
    | lift_lets -underBinder +implicits
    | with_reducible apply State.cause_kept
    | with_reducible apply State.record_kept
    | with_reducible apply State.showStore_kept
    | with_reducible apply State.wf_kept
    | with_reducible apply State.wr_kept
    | with_reducible refine .ite (fun _ => ?_) (fun _ => ?_)
    | with_reducible apply_assumption -exfalso
    | dsimp -zeta only
    | split
    | with_reducible refine State.Kept.mk_iff.2 ?_

theorem State.resyncDone_kept {s₀ s : State} (h₀ : State.Kept s₀ s)  : State.Kept s₀ (State.resyncDone s) := by
  unfold State.resyncDone
  repeat' first
    | with_reducible assumption
    | intro x; first | (refine (fun (hx : State.Kept s₀ x) => ?_) ?_); clear_value x; rotate_left; subst x | subst x
    | lift_lets -underBinder +implicits
    | with_reducible apply State.cause_kept
    | with_reducible apply State.record_kept
    | with_reducible apply State.showStore_kept
    | with_reducible apply State.wf_kept
    | with_reducible refine .ite (fun _ => ?_) (fun _ => ?_)
    | split
    | with_reducible refine State.Kept.mk_iff.2 ?_

theorem State.extentRetire_kept {s₀ s : State} (h₀ : State.Kept s₀ s)  : State.Kept s₀ (State.extentRetire s) := by
  unfold State.extentRetire
  repeat' first
    | with_reducible assumption
    | intro x; first | (refine (fun (hx : State.Kept s₀ x) => ?_) ?_); clear_value x; rotate_left; subst x | subst x
    | lift_lets -underBinder +implicits
    | with_reducible apply State.benchEmpty_kept
    | with_reducible apply State.cause_kept
    | with_reducible apply State.record_kept
    | with_reducible apply State.wf_kept
    | with_reducible refine .ite (fun _ => ?_) (fun _ => ?_)
    | split
    | with_reducible refine State.Kept.mk_iff.2 ?_

theorem State.mediaError_kept {s₀ s : State} (h₀ : State.Kept s₀ s) (n lba : Nat) : State.Kept s₀ (State.mediaError s n lba) := by
  unfold State.mediaError
  repeat' first
    | with_reducible assumption
    | intro x; first | (refine (fun (hx : State.Kept s₀ x) => ?_) ?_); clear_value x; rotate_left; subst x | subst x
    | lift_lets -underBinder +implicits
    | with_reducible apply State.extentRetire_kept
    | with_reducible refine .ite (fun _ => ?_) (fun _ => ?_)
    | split
    | with_reducible refine State.Kept.mk_iff.2 ?_

theorem State.wroteBlocks_kept {s₀ s : State} (h₀ : State.Kept s₀ s) (n : Nat) : State.Kept s₀ (State.wroteBlocks s n) := by
  unfold State.wroteBlocks
  repeat' first
    | with_reducible assumption
    | intro x; first | (refine (fun (hx : State.Kept s₀ x) => ?_) ?_); clear_value x; rotate_left; subst x | subst x
    | lift_lets -underBinder +implicits
    | with_reducible refine .ite (fun _ => ?_) (fun _ => ?_)
    | split
    | with_reducible refine State.Kept.mk_iff.2 ?_

theorem State.blockRepair_kept {s₀ s : State} (h₀ : State.Kept s₀ s) (n region lba : Nat) (gone : List Nat) : State.Kept s₀ (State.blockRepair s n region lba gone) := by
  unfold State.blockRepair
  repeat' first
    | with_reducible assumption
    | intro x; first | (refine (fun (hx : State.Kept s₀ x) => ?_) ?_); clear_value x; rotate_left; subst x | (refine (fun (hx : ∀ a, State.Kept s₀ a → State.Kept s₀ (x a)) => ?_) ?_); clear_value x; rotate_left; subst x; intro _ _ | (refine (fun (hx : ∀ a b, State.Kept s₀ a → State.Kept s₀ (x a b).1) => ?_) ?_); clear_value x; rotate_left; subst x; intro _ _ _ | (refine (fun (hx : ∀ a b, State.Kept s₀ a → State.Kept s₀ (x a b)) => ?_) ?_); clear_value x; rotate_left; subst x; intro _ _ _ | (refine (fun (hx : ∀ a, State.Kept s₀ (x a)) => ?_) ?_); clear_value x; rotate_left; subst x; intro _ | (refine (fun (hx : ∀ a b, State.Kept s₀ (x a b)) => ?_) ?_); clear_value x; rotate_left; subst x; intro _ _ | subst x
    | lift_lets -underBinder +implicits
    | with_reducible apply State.cause_kept
    | with_reducible apply State.incF_kept
    | with_reducible apply State.mediaError_kept
    | with_reducible apply State.record_kept
    | with_reducible apply State.wroteBlocks_kept
    | with_reducible refine .ite (fun _ => ?_) (fun _ => ?_)
    | with_reducible apply_assumption -exfalso
    | dsimp -zeta only
    | split
    | with_reducible refine State.Kept.mk_iff.2 ?_

theorem State.smartPoll_kept {s₀ s : State} (h₀ : State.Kept s₀ s) (n used spare thr retired : Nat) (temp : Int) : State.Kept s₀ (State.smartPoll s n used spare thr retired temp) := by
  unfold State.smartPoll
  repeat' first
    | with_reducible assumption
    | intro x; first | (refine (fun (hx : State.Kept s₀ x) => ?_) ?_); clear_value x; rotate_left; subst x | (refine (fun (hx : ∀ a, State.Kept s₀ a → State.Kept s₀ (x a)) => ?_) ?_); clear_value x; rotate_left; subst x; intro _ _ | (refine (fun (hx : ∀ a b, State.Kept s₀ a → State.Kept s₀ (x a b).1) => ?_) ?_); clear_value x; rotate_left; subst x; intro _ _ _ | (refine (fun (hx : ∀ a b, State.Kept s₀ a → State.Kept s₀ (x a b)) => ?_) ?_); clear_value x; rotate_left; subst x; intro _ _ _ | (refine (fun (hx : ∀ a, State.Kept s₀ (x a)) => ?_) ?_); clear_value x; rotate_left; subst x; intro _ | (refine (fun (hx : ∀ a b, State.Kept s₀ (x a b)) => ?_) ?_); clear_value x; rotate_left; subst x; intro _ _ | subst x
    | lift_lets -underBinder +implicits
    | with_reducible apply State.cause_kept
    | with_reducible apply State.extentRetire_kept
    | with_reducible apply State.record_kept
    | with_reducible apply State.wf_kept
    | with_reducible apply State.wr_kept
    | with_reducible refine .ite (fun _ => ?_) (fun _ => ?_)
    | with_reducible refine .foldl (fun _ _ _ => ?_) ?_
    | with_reducible apply_assumption -exfalso
    | dsimp -zeta only
    | split
    | with_reducible refine State.Kept.mk_iff.2 ?_

theorem State.commitReq_kept {s₀ s : State} (h₀ : State.Kept s₀ s) (d : Nat) (x : Datum) (who : Waiter) : State.Kept s₀ (State.commitReq s d x who) := by
  unfold State.commitReq
  repeat' first
    | with_reducible assumption
    | intro x; first | (refine (fun (hx : State.Kept s₀ x) => ?_) ?_); clear_value x; rotate_left; subst x | subst x
    | lift_lets -underBinder +implicits
    | with_reducible refine .ite (fun _ => ?_) (fun _ => ?_)
    | split
    | with_reducible refine State.Kept.mk_iff.2 ?_

theorem State.setVault_kept {s₀ s : State} (h₀ : State.Kept s₀ s) (v : VaultSt) : State.Kept s₀ (State.setVault s v) := by
  unfold State.setVault
  repeat' first
    | with_reducible assumption
    | intro x; first | (refine (fun (hx : State.Kept s₀ x) => ?_) ?_); clear_value x; rotate_left; subst x | subst x
    | lift_lets -underBinder +implicits
    | with_reducible refine .ite (fun _ => ?_) (fun _ => ?_)
    | split
    | with_reducible refine State.Kept.mk_iff.2 ?_

theorem State.answer_kept {s₀ s : State} (h₀ : State.Kept s₀ s) (w : Waiter) (st : Status) : State.Kept s₀ (State.answer s w st) := by
  unfold State.answer
  repeat' first
    | with_reducible assumption
    | intro x; first | (refine (fun (hx : State.Kept s₀ x) => ?_) ?_); clear_value x; rotate_left; subst x | subst x
    | lift_lets -underBinder +implicits
    | with_reducible apply State.complete_kept
    | with_reducible refine .ite (fun _ => ?_) (fun _ => ?_)
    | split

theorem State.showOtp_kept {s₀ s : State} (h₀ : State.Kept s₀ s)  : State.Kept s₀ (State.showOtp s) := by
  unfold State.showOtp
  repeat' first
    | with_reducible assumption
    | with_reducible apply State.wf_kept
    | with_reducible refine .ite (fun _ => ?_) (fun _ => ?_)
    | split

theorem State.vaultCommit_kept {s₀ s : State} (h₀ : State.Kept s₀ s) (d : Nat) (oks : List Bool) : State.Kept s₀ (State.vaultCommit s d oks).1 := by
  unfold State.vaultCommit
  repeat' first
    | with_reducible assumption
    | intro x; first | (refine (fun (hx : State.Kept s₀ x) => ?_) ?_); clear_value x; rotate_left; subst x | (refine (fun (hx : State.Kept s₀ x.1) => ?_) ?_); clear_value x; rotate_left; subst x | subst x
    | lift_lets -underBinder +implicits
    | with_reducible apply State.answer_kept
    | with_reducible apply State.benchEmpty_kept
    | with_reducible apply State.record_kept
    | with_reducible apply State.setVault_kept
    | with_reducible apply State.showOtp_kept
    | with_reducible refine .ite (fun _ => ?_) (fun _ => ?_)
    | with_reducible refine .iteFst (fun _ => ?_) (fun _ => ?_)
    | split
    | with_reducible refine State.Kept.mk_iff.2 ?_

theorem State.vaultRead_kept {s₀ s0 : State} (h₀ : State.Kept s₀ s0) (d : Nat) : State.Kept s₀ (State.vaultRead s0 d).1 := by
  unfold State.vaultRead
  repeat' first
    | with_reducible assumption
    | intro x; first | (refine (fun (hx : State.Kept s₀ x) => ?_) ?_); clear_value x; rotate_left; subst x | (refine (fun (hx : State.Kept s₀ x.1) => ?_) ?_); clear_value x; rotate_left; subst x | (refine (fun (hx : ∀ a, State.Kept s₀ a → State.Kept s₀ (x a)) => ?_) ?_); clear_value x; rotate_left; subst x; intro _ _ | (refine (fun (hx : ∀ a b, State.Kept s₀ a → State.Kept s₀ (x a b).1) => ?_) ?_); clear_value x; rotate_left; subst x; intro _ _ _ | (refine (fun (hx : ∀ a b, State.Kept s₀ a → State.Kept s₀ (x a b)) => ?_) ?_); clear_value x; rotate_left; subst x; intro _ _ _ | (refine (fun (hx : ∀ a, State.Kept s₀ (x a)) => ?_) ?_); clear_value x; rotate_left; subst x; intro _ | (refine (fun (hx : ∀ a b, State.Kept s₀ (x a b)) => ?_) ?_); clear_value x; rotate_left; subst x; intro _ _ | subst x
    | lift_lets -underBinder +implicits
    | with_reducible apply State.addF_kept
    | with_reducible apply State.cause_kept
    | with_reducible apply State.incF_kept
    | with_reducible apply State.record_kept
    | with_reducible apply State.setVault_kept
    | with_reducible refine .ite (fun _ => ?_) (fun _ => ?_)
    | with_reducible refine .iteFst (fun _ => ?_) (fun _ => ?_)
    | with_reducible refine .foldl (fun _ _ _ => ?_) ?_
    | with_reducible refine .foldlFst (fun _ _ _ => ?_) ?_
    | with_reducible apply_assumption -exfalso
    | dsimp -zeta only
    | split
    | with_reducible refine State.Kept.mk_iff.2 ?_

theorem State.commitBoot_kept {s₀ s : State} (h₀ : State.Kept s₀ s)  : State.Kept s₀ (State.commitBoot s) := by
  unfold State.commitBoot
  repeat' first
    | with_reducible assumption
    | intro x; first | (refine (fun (hx : State.Kept s₀ x) => ?_) ?_); clear_value x; rotate_left; subst x | (refine (fun (hx : ∀ a, State.Kept s₀ a → State.Kept s₀ (x a)) => ?_) ?_); clear_value x; rotate_left; subst x; intro _ _ | (refine (fun (hx : ∀ a b, State.Kept s₀ a → State.Kept s₀ (x a b).1) => ?_) ?_); clear_value x; rotate_left; subst x; intro _ _ _ | (refine (fun (hx : ∀ a b, State.Kept s₀ a → State.Kept s₀ (x a b)) => ?_) ?_); clear_value x; rotate_left; subst x; intro _ _ _ | (refine (fun (hx : ∀ a, State.Kept s₀ (x a)) => ?_) ?_); clear_value x; rotate_left; subst x; intro _ | (refine (fun (hx : ∀ a b, State.Kept s₀ (x a b)) => ?_) ?_); clear_value x; rotate_left; subst x; intro _ _ | subst x
    | lift_lets -underBinder +implicits
    | with_reducible apply State.setVault_kept
    | with_reducible apply State.showOtp_kept
    | with_reducible refine .ite (fun _ => ?_) (fun _ => ?_)
    | with_reducible apply_assumption -exfalso
    | dsimp -zeta only
    | split
    | with_reducible refine State.Kept.mk_iff.2 ?_

theorem State.showScb_kept {s₀ s : State} (h₀ : State.Kept s₀ s)  : State.Kept s₀ (State.showScb s) := by
  unfold State.showScb
  repeat' first
    | with_reducible assumption
    | intro x; first | (refine (fun (hx : State.Kept s₀ x) => ?_) ?_); clear_value x; rotate_left; subst x | subst x
    | lift_lets -underBinder +implicits
    | with_reducible apply State.wf_kept
    | with_reducible apply State.wr_kept
    | with_reducible apply State.wr64_kept
    | with_reducible refine .ite (fun _ => ?_) (fun _ => ?_)
    | split

theorem State.storeRecord_kept {s₀ s : State} (h₀ : State.Kept s₀ s) (r : ScbRec) : State.Kept s₀ (State.storeRecord s r) := by
  unfold State.storeRecord
  repeat' first
    | with_reducible assumption
    | intro x; first | (refine (fun (hx : State.Kept s₀ x) => ?_) ?_); clear_value x; rotate_left; subst x | subst x
    | lift_lets -underBinder +implicits
    | with_reducible refine .ite (fun _ => ?_) (fun _ => ?_)
    | split
    | with_reducible refine State.Kept.mkScb_iff.2 ?_
    | with_reducible refine State.Kept.mk_iff.2 ?_

theorem State.scorebookStore_kept {s₀ s : State} (h₀ : State.Kept s₀ s) : State.Kept s₀ s.scorebookStore := by
  have h1 : ∀ l : List Staged, State.Kept s₀ (l.foldl (fun s x => s.storeRecord x.body) { s with scb := { s.scb with stage := [] } }) := fun l =>
    .foldl (fun _ _ h => State.storeRecord_kept h ..) (h₀.stageTo (fun _ => Nat.zero_le _))
  unfold State.scorebookStore
  exact .ite (fun _ => h₀) (fun _ => State.showScb_kept (.ite (fun _ => h1 _) (fun _ => State.wroteBlocks_kept (h1 _) _)))

theorem State.scbRead_kept {s₀ s : State} (h₀ : State.Kept s₀ s) (c : Sub) : State.Kept s₀ (State.scbRead s c) := by
  unfold State.scbRead
  repeat' first
    | with_reducible assumption
    | intro x; first | (refine (fun (hx : State.Kept s₀ x) => ?_) ?_); clear_value x; rotate_left; subst x | subst x
    | lift_lets -underBinder +implicits
    | split
    | with_reducible apply State.dmaWrite_kept
    | with_reducible apply State.finish_kept
    | with_reducible apply State.finishTag_kept
    | with_reducible apply State.skip_kept
    | with_reducible refine .ite (fun _ => ?_) (fun _ => ?_)
    | split

theorem State.showOp_kept {s₀ s : State} (h₀ : State.Kept s₀ s)  : State.Kept s₀ (State.showOp s) := by
  unfold State.showOp
  repeat' first
    | with_reducible assumption
    | intro x; first | (refine (fun (hx : State.Kept s₀ x) => ?_) ?_); clear_value x; rotate_left; subst x | subst x
    | lift_lets -underBinder +implicits
    | with_reducible apply State.wf_kept
    | with_reducible refine .ite (fun _ => ?_) (fun _ => ?_)
    | split
    | with_reducible refine State.Kept.mk_iff.2 ?_

theorem State.archSurv_kept {s₀ s : State} (h₀ : State.Kept s₀ s) (r : ArchRec) : State.Kept s₀ (State.archSurv s r) := by
  unfold State.archSurv
  repeat' first
    | with_reducible assumption
    | intro x; first | (refine (fun (hx : State.Kept s₀ x) => ?_) ?_); clear_value x; rotate_left; subst x | subst x
    | lift_lets -underBinder +implicits
    | with_reducible refine .ite (fun _ => ?_) (fun _ => ?_)
    | split
    | with_reducible refine State.Kept.mk_iff.2 ?_

theorem State.archMet_kept {s₀ s : State} (h₀ : State.Kept s₀ s) (r : ArchRec) : State.Kept s₀ (State.archMet s r) := by
  unfold State.archMet
  repeat' first
    | with_reducible assumption
    | intro x; first | (refine (fun (hx : State.Kept s₀ x) => ?_) ?_); clear_value x; rotate_left; subst x | subst x
    | lift_lets -underBinder +implicits
    | with_reducible refine .ite (fun _ => ?_) (fun _ => ?_)
    | split
    | with_reducible refine State.Kept.mk_iff.2 ?_

theorem State.archRead_kept {s₀ s : State} (h₀ : State.Kept s₀ s) (c : Sub) : State.Kept s₀ (State.archRead s c) := by
  unfold State.archRead
  repeat' first
    | with_reducible assumption
    | intro x; first | (refine (fun (hx : State.Kept s₀ x) => ?_) ?_); clear_value x; rotate_left; subst x | subst x
    | lift_lets -underBinder +implicits
    | with_reducible apply State.dmaWrite_kept
    | with_reducible apply State.finish_kept
    | with_reducible apply State.finishTag_kept
    | with_reducible apply State.skip_kept
    | with_reducible refine .ite (fun _ => ?_) (fun _ => ?_)
    | split

theorem State.spoolCheck_kept {s₀ s : State} (h₀ : State.Kept s₀ s)  : State.Kept s₀ (State.spoolCheck s) := by
  unfold State.spoolCheck
  repeat' first
    | with_reducible assumption
    | intro x; first | (refine (fun (hx : State.Kept s₀ x) => ?_) ?_); clear_value x; rotate_left; subst x | subst x
    | lift_lets -underBinder +implicits
    | with_reducible apply State.cause_kept
    | with_reducible apply State.record_kept
    | with_reducible refine .ite (fun _ => ?_) (fun _ => ?_)
    | split
    | with_reducible refine State.Kept.mk_iff.2 ?_

end Sys2Proof.Machine
end

