-- ==== Sys2Proof/Laws/KeptMac.lean ====
section
/-! SUPPORT. The operations of Machine/Mac.lean keep what Laws/Kept.lean says. -/

-- One declaration after another: the package is compiled as one text, and its memory stays within bounds.
set_option Elab.async false

namespace Sys2Proof.Machine

theorem State.sChange_kept {s₀ s : State} (h₀ : State.Kept s₀ s)  : State.Kept s₀ (State.sChange s) := by
  unfold State.sChange
  repeat' first
    | with_reducible assumption
    | intro x; first | (refine (fun (hx : State.Kept s₀ x) => ?_) ?_); clear_value x; rotate_left; subst x | subst x
    | lift_lets -underBinder +implicits
    | with_reducible apply State.wb_kept
    | with_reducible apply State.wf_kept
    | with_reducible refine .ite (fun _ => ?_) (fun _ => ?_)
    | with_reducible refine .foldl (fun _ _ _ => ?_) ?_
    | split

theorem State.planSf_kept {s₀ s : State} (h₀ : State.Kept s₀ s) (p m : Nat) : State.Kept s₀ (State.planSf s p m) := by
  unfold State.planSf
  repeat' first
    | with_reducible assumption
    | with_reducible apply State.enterFix_kept
    | with_reducible refine .ite (fun _ => ?_) (fun _ => ?_)
    | with_reducible refine .foldl (fun _ _ _ => ?_) ?_
    | split

theorem State.planStart_kept {s₀ s : State} (h₀ : State.Kept s₀ s)  : State.Kept s₀ (State.planStart s) := by
  unfold State.planStart
  repeat' first
    | with_reducible assumption
    | intro x; first | (refine (fun (hx : State.Kept s₀ x) => ?_) ?_); clear_value x; rotate_left; subst x | subst x
    | lift_lets -underBinder +implicits
    | with_reducible apply State.enterFix_kept
    | with_reducible refine .ite (fun _ => ?_) (fun _ => ?_)
    | with_reducible refine .foldl (fun _ _ _ => ?_) ?_
    | split

theorem State.carriesPast_kept {s₀ s : State} (h₀ : State.Kept s₀ s) (p : Nat) : State.Kept s₀ (State.carriesPast s p) := by
  unfold State.carriesPast
  repeat' first
    | with_reducible assumption
    | intro x; first | (refine (fun (hx : State.Kept s₀ x) => ?_) ?_); clear_value x; rotate_left; subst x | subst x
    | lift_lets -underBinder +implicits
    | with_reducible refine .ite (fun _ => ?_) (fun _ => ?_)
    | split
    | with_reducible refine State.Kept.mk_iff.2 ?_

theorem State.sfBoundary_kept {s₀ s : State} (h₀ : State.Kept s₀ s) (i : Nat) : State.Kept s₀ (State.sfBoundary s i) := by
  unfold State.sfBoundary
  repeat' first
    | with_reducible assumption
    | intro x; first | (refine (fun (hx : State.Kept s₀ x) => ?_) ?_); clear_value x; rotate_left; subst x | subst x
    | lift_lets -underBinder +implicits
    | with_reducible apply State.carriesPast_kept
    | with_reducible apply State.fired_kept
    | with_reducible apply State.planSf_kept
    | with_reducible apply State.skip_kept
    | with_reducible refine .ite (fun _ => ?_) (fun _ => ?_)
    | split

theorem State.quietStart_kept {s₀ s : State} (h₀ : State.Kept s₀ s) (p : Nat) : State.Kept s₀ (State.quietStart s p) := by
  unfold State.quietStart
  repeat' first
    | with_reducible assumption
    | intro x; first | (refine (fun (hx : State.Kept s₀ x) => ?_) ?_); clear_value x; rotate_left; subst x | subst x
    | lift_lets -underBinder +implicits
    | with_reducible apply State.cause_kept
    | with_reducible apply State.stopPort_kept
    | with_reducible refine .ite (fun _ => ?_) (fun _ => ?_)
    | with_reducible refine .foldl (fun _ _ _ => ?_) ?_
    | split
    | with_reducible refine State.Kept.mk_iff.2 ?_

theorem State.quietFix_kept {s₀ s : State} (h₀ : State.Kept s₀ s) (i : Nat) : State.Kept s₀ (State.quietFix s i) := by
  unfold State.quietFix
  repeat' first
    | with_reducible assumption
    | intro x; first | (refine (fun (hx : State.Kept s₀ x) => ?_) ?_); clear_value x; rotate_left; subst x | subst x
    | lift_lets -underBinder +implicits
    | with_reducible apply State.fired_kept
    | with_reducible apply State.inc_kept
    | with_reducible apply State.quietStart_kept
    | with_reducible apply State.skip_kept
    | with_reducible refine .ite (fun _ => ?_) (fun _ => ?_)
    | split
    | with_reducible refine State.Kept.mk_iff.2 ?_

theorem State.contStart_kept {s₀ s : State} (h₀ : State.Kept s₀ s) (id : Nat) (o : OutFrame) : State.Kept s₀ (State.contStart s id o) := by
  unfold State.contStart
  repeat' first
    | with_reducible assumption
    | intro x; first | (refine (fun (hx : State.Kept s₀ x) => ?_) ?_); clear_value x; rotate_left; subst x | subst x
    | lift_lets -underBinder +implicits
    | with_reducible apply State.incF_kept
    | with_reducible apply State.setFix_kept
    | with_reducible refine .ite (fun _ => ?_) (fun _ => ?_)
    | split
    | with_reducible refine State.Kept.mk_iff.2 ?_

theorem State.contGiveUp_kept {s₀ s : State} (h₀ : State.Kept s₀ s) (id : Nat) (o : OutFrame) : State.Kept s₀ (State.contGiveUp s id o) := by
  unfold State.contGiveUp
  repeat' first
    | with_reducible assumption
    | intro x; first | (refine (fun (hx : State.Kept s₀ x) => ?_) ?_); clear_value x; rotate_left; subst x | subst x
    | lift_lets -underBinder +implicits
    | with_reducible apply State.cutOutbox_kept
    | with_reducible apply State.descDone_kept
    | with_reducible apply State.dropSent_kept
    | with_reducible apply State.floodGone_kept
    | with_reducible apply State.forwardFailed_kept
    | with_reducible apply State.incF_kept
    | with_reducible refine .ite (fun _ => ?_) (fun _ => ?_)
    | split
    | with_reducible refine State.Kept.mk_iff.2 ?_

theorem State.contPut_kept {s₀ s : State} (h₀ : State.Kept s₀ s) (id : Nat) (k : Contend) : State.Kept s₀ (State.contPut s id k) := by
  unfold State.contPut
  repeat' first
    | with_reducible assumption
    | intro x; first | (refine (fun (hx : State.Kept s₀ x) => ?_) ?_); clear_value x; rotate_left; subst x | subst x
    | lift_lets -underBinder +implicits
    | with_reducible refine .ite (fun _ => ?_) (fun _ => ?_)
    | split
    | with_reducible refine State.Kept.mk_iff.2 ?_

theorem State.contServe_kept {s₀ s : State} (h₀ : State.Kept s₀ s) (id : Nat) (o : OutFrame) (k : Contend) (r : SfRegions) (m u q : Nat) (idle : Bool) : State.Kept s₀ (State.contServe s id o k r m u q idle) := by
  unfold State.contServe
  repeat' first
    | with_reducible assumption
    | intro x; first | (refine (fun (hx : State.Kept s₀ x) => ?_) ?_); clear_value x; rotate_left; subst x | subst x
    | lift_lets -underBinder +implicits
    | with_reducible apply State.contPut_kept
    | with_reducible apply State.contStart_kept
    | with_reducible apply State.drawn_kept
    | with_reducible refine .ite (fun _ => ?_) (fun _ => ?_)
    | split
    | with_reducible refine State.Kept.mk_iff.2 ?_

theorem State.contCsma_kept {s₀ s : State} (h₀ : State.Kept s₀ s) (id : Nat) (o : OutFrame) (tries : Nat) (k : Contend) (idle : Bool) : State.Kept s₀ (State.contCsma s id o tries k idle) := by
  unfold State.contCsma
  repeat' first
    | with_reducible assumption
    | intro x; first | (refine (fun (hx : State.Kept s₀ x) => ?_) ?_); clear_value x; rotate_left; subst x | subst x
    | lift_lets -underBinder +implicits
    | with_reducible apply State.contPut_kept
    | with_reducible apply State.contStart_kept
    | with_reducible apply State.drawn_kept
    | with_reducible refine .ite (fun _ => ?_) (fun _ => ?_)
    | split
    | with_reducible refine State.Kept.mk_iff.2 ?_

theorem State.contAct_kept {s₀ s : State} (h₀ : State.Kept s₀ s) (id : Nat) (o : OutFrame) (tries : Nat) (k0 : Contend) (r : SfRegions) (x : Nat × Nat) (idle : Bool) : State.Kept s₀ (State.contAct s id o tries k0 r x idle) := by
  unfold State.contAct
  repeat' first
    | with_reducible assumption
    | intro x; first | (refine (fun (hx : State.Kept s₀ x) => ?_) ?_); clear_value x; rotate_left; subst x | subst x
    | lift_lets -underBinder +implicits
    | with_reducible apply State.contCsma_kept
    | with_reducible apply State.contGiveUp_kept
    | with_reducible apply State.contPut_kept
    | with_reducible apply State.contServe_kept
    | with_reducible refine .ite (fun _ => ?_) (fun _ => ?_)
    | split

theorem State.contention_kept {s₀ s : State} (h₀ : State.Kept s₀ s) (id level : Nat) (preamble : Bool) : State.Kept s₀ (State.contention s id level preamble) := by
  unfold State.contention
  repeat' first
    | with_reducible assumption
    | intro x; first | (refine (fun (hx : State.Kept s₀ x) => ?_) ?_); clear_value x; rotate_left; subst x | subst x
    | lift_lets -underBinder +implicits
    | with_reducible apply State.contAct_kept
    | with_reducible refine .ite (fun _ => ?_) (fun _ => ?_)
    | split
    | with_reducible refine State.Kept.mk_iff.2 ?_

theorem State.grantsSend_kept {s₀ s : State} (h₀ : State.Kept s₀ s) (p cyc : Nat) : State.Kept s₀ (State.grantsSend s p cyc) := by
  unfold State.grantsSend
  repeat' first
    | with_reducible assumption
    | intro x; first | (refine (fun (hx : State.Kept s₀ x) => ?_) ?_); clear_value x; rotate_left; subst x | (refine (fun (hx : ∀ a, State.Kept s₀ a → State.Kept s₀ (x a)) => ?_) ?_); clear_value x; rotate_left; subst x; intro _ _ | (refine (fun (hx : ∀ a b, State.Kept s₀ a → State.Kept s₀ (x a b).1) => ?_) ?_); clear_value x; rotate_left; subst x; intro _ _ _ | (refine (fun (hx : ∀ a b, State.Kept s₀ a → State.Kept s₀ (x a b)) => ?_) ?_); clear_value x; rotate_left; subst x; intro _ _ _ | (refine (fun (hx : ∀ a, State.Kept s₀ (x a)) => ?_) ?_); clear_value x; rotate_left; subst x; intro _ | (refine (fun (hx : ∀ a b, State.Kept s₀ (x a b)) => ?_) ?_); clear_value x; rotate_left; subst x; intro _ _ | subst x
    | lift_lets -underBinder +implicits
    | with_reducible apply State.sendMgmt_kept
    | with_reducible refine .ite (fun _ => ?_) (fun _ => ?_)
    | with_reducible refine .foldl (fun _ _ _ => ?_) ?_
    | with_reducible refine .foldlFst (fun _ _ _ => ?_) ?_
    | with_reducible apply_assumption -exfalso
    | dsimp -zeta only
    | split
    | with_reducible refine State.Kept.mk_iff.2 ?_

theorem State.schedAnnounce_kept {s₀ s : State} (h₀ : State.Kept s₀ s) (pg cyc : Nat) : State.Kept s₀ (State.schedAnnounce s pg cyc) := by
  unfold State.schedAnnounce
  repeat' first
    | with_reducible assumption
    | with_reducible apply State.grantsSend_kept
    | with_reducible refine .ite (fun _ => ?_) (fun _ => ?_)
    | split

theorem State.soloReq_kept {s₀ s : State} (h₀ : State.Kept s₀ s) (pg : Nat) : State.Kept s₀ (State.soloReq s pg) := by
  unfold State.soloReq
  repeat' first
    | with_reducible assumption
    | intro x; first | (refine (fun (hx : State.Kept s₀ x) => ?_) ?_); clear_value x; rotate_left; subst x | subst x
    | lift_lets -underBinder +implicits
    | with_reducible apply State.schedAnnounce_kept
    | with_reducible apply State.soloRequest_kept
    | with_reducible refine .ite (fun _ => ?_) (fun _ => ?_)
    | split

theorem State.groupReq_kept {s₀ s : State} (h₀ : State.Kept s₀ s) (g : Nat) : State.Kept s₀ (State.groupReq s g) := by
  unfold State.groupReq
  repeat' first
    | with_reducible assumption
    | intro x; first | (refine (fun (hx : State.Kept s₀ x) => ?_) ?_); clear_value x; rotate_left; subst x | subst x
    | lift_lets -underBinder +implicits
    | with_reducible apply State.groupRequest_kept
    | with_reducible apply State.schedAnnounce_kept
    | with_reducible refine .ite (fun _ => ?_) (fun _ => ?_)
    | with_reducible refine .foldl (fun _ _ _ => ?_) ?_
    | split

theorem State.grantResend_kept {s₀ s : State} (h₀ : State.Kept s₀ s)  : State.Kept s₀ (State.grantResend s) := by
  unfold State.grantResend
  repeat' first
    | with_reducible assumption
    | intro x; first | (refine (fun (hx : State.Kept s₀ x) => ?_) ?_); clear_value x; rotate_left; subst x | subst x
    | lift_lets -underBinder +implicits
    | with_reducible apply State.sendMgmt_kept
    | with_reducible refine .ite (fun _ => ?_) (fun _ => ?_)
    | with_reducible refine .foldl (fun _ _ _ => ?_) ?_
    | split
    | with_reducible refine State.Kept.mk_iff.2 ?_

theorem State.writeGrants_kept {s₀ s : State} (h₀ : State.Kept s₀ s) (p : Nat) (gs : List Grant) : State.Kept s₀ (State.writeGrants s p gs) := by
  unfold State.writeGrants
  repeat' first
    | with_reducible assumption
    | intro x; first | (refine (fun (hx : State.Kept s₀ x) => ?_) ?_); clear_value x; rotate_left; subst x | (refine (fun (hx : State.Kept s₀ x.1) => ?_) ?_); clear_value x; rotate_left; subst x | subst x
    | lift_lets -underBinder +implicits
    | split
    | with_reducible apply State.exchange_kept
    | with_reducible apply State.swapChecks_kept
    | with_reducible apply State.swapFailed_kept
    | with_reducible apply State.wr_kept
    | with_reducible refine .ite (fun _ => ?_) (fun _ => ?_)
    | with_reducible refine .foldl (fun _ _ _ => ?_) ?_
    | with_reducible refine .foldlFst (fun _ _ _ => ?_) ?_
    | with_reducible refine .ofFst (by assumption) ?_
    | split

theorem State.grantsApply_kept {s₀ s : State} (h₀ : State.Kept s₀ s) (p : Nat) : State.Kept s₀ (State.grantsApply s p) := by
  unfold State.grantsApply
  repeat' first
    | with_reducible assumption
    | intro x; first | (refine (fun (hx : State.Kept s₀ x) => ?_) ?_); clear_value x; rotate_left; subst x | subst x
    | lift_lets -underBinder +implicits
    | with_reducible apply State.writeGrants_kept
    | with_reducible refine .ite (fun _ => ?_) (fun _ => ?_)
    | split
    | with_reducible refine State.Kept.mk_iff.2 ?_

theorem State.slotGrant_kept {s₀ s : State} (h₀ : State.Kept s₀ s)  : State.Kept s₀ (State.slotGrant s) := by
  unfold State.slotGrant
  repeat' first
    | with_reducible assumption
    | intro x; first | (refine (fun (hx : State.Kept s₀ x) => ?_) ?_); clear_value x; rotate_left; subst x | subst x
    | lift_lets -underBinder +implicits
    | with_reducible refine State.takeInbox_kept ?_ _ _ (by assumption)
    | with_reducible apply State.grantsApply_kept
    | with_reducible refine .ite (fun _ => ?_) (fun _ => ?_)
    | split
    | with_reducible refine State.Kept.mk_iff.2 ?_

theorem State.soloSwapAny_kept {s₀ s : State} (h₀ : State.Kept s₀ s) (pg : Nat) : State.Kept s₀ (State.soloSwapAny s pg) := by
  unfold State.soloSwapAny
  repeat' first
    | with_reducible assumption
    | intro x; first | (refine (fun (hx : State.Kept s₀ x) => ?_) ?_); clear_value x; rotate_left; subst x | subst x
    | lift_lets -underBinder +implicits
    | with_reducible apply State.grantsApply_kept
    | with_reducible apply State.soloSwap_kept
    | with_reducible refine .ite (fun _ => ?_) (fun _ => ?_)
    | split

theorem State.setOwn_kept {s₀ s : State} (h₀ : State.Kept s₀ s) (p a : Nat) : State.Kept s₀ (State.setOwn s p a) := by
  unfold State.setOwn
  repeat' first
    | with_reducible assumption
    | with_reducible apply State.wf_kept
    | with_reducible refine .ite (fun _ => ?_) (fun _ => ?_)
    | split

theorem State.disarmWhere_kept {s₀ s : State} (h₀ : State.Kept s₀ s) (f : Fixture → Bool) : State.Kept s₀ (State.disarmWhere s f) := by
  unfold State.disarmWhere
  repeat' first
    | with_reducible assumption
    | with_reducible apply State.disarm_kept
    | with_reducible refine .ite (fun _ => ?_) (fun _ => ?_)
    | with_reducible refine .foldl (fun _ _ _ => ?_) ?_
    | with_reducible refine .foldlFst (fun _ _ _ => ?_) ?_
    | with_reducible refine .ofFst (by assumption) ?_
    | split

theorem State.upLost_kept {s₀ s : State} (h₀ : State.Kept s₀ s) (p : Nat) : State.Kept s₀ (State.upLost s p) := by
  unfold State.upLost
  repeat' first
    | with_reducible assumption
    | intro x; first | (refine (fun (hx : State.Kept s₀ x) => ?_) ?_); clear_value x; rotate_left; subst x | subst x
    | lift_lets -underBinder +implicits
    | with_reducible apply State.cutOutbox_kept
    | with_reducible apply State.descDone_kept
    | with_reducible apply State.dropSent_kept
    | with_reducible apply State.setOwn_kept
    | with_reducible apply State.showLease_kept
    | with_reducible refine .ite (fun _ => ?_) (fun _ => ?_)
    | with_reducible refine .foldl (fun _ _ _ => ?_) ?_
    | split
    | with_reducible refine State.Kept.mk_iff.2 ?_

theorem State.assocReq_kept {s₀ s : State} (h₀ : State.Kept s₀ s) (p lq : Nat) : State.Kept s₀ (State.assocReq s p lq) := by
  unfold State.assocReq
  repeat' first
    | with_reducible assumption
    | intro x; first | (refine (fun (hx : State.Kept s₀ x) => ?_) ?_); clear_value x; rotate_left; subst x | subst x
    | lift_lets -underBinder +implicits
    | split
    | with_reducible apply State.pushOut_kept
    | with_reducible refine .ite (fun _ => ?_) (fun _ => ?_)
    | split
    | with_reducible refine State.Kept.mkSec_iff.2 ?_
    | with_reducible refine State.Kept.mk_iff.2 ?_

theorem State.setUpState_kept {s₀ s : State} (h₀ : State.Kept s₀ s) (p st miss : Nat) : State.Kept s₀ (State.setUpState s p st miss) := by
  unfold State.setUpState
  repeat' first
    | with_reducible assumption
    | with_reducible apply State.wf_kept
    | with_reducible refine .ite (fun _ => ?_) (fun _ => ?_)
    | split

theorem State.beaconTake_kept {s₀ s : State} (h₀ : State.Kept s₀ s) (p t lq mode : Nat) (body : List Byte) (slOfs : Nat) (err : Int) (net : Nat) : State.Kept s₀ (State.beaconTake s p t lq mode body slOfs err net) := by
  unfold State.beaconTake
  repeat' first
    | with_reducible assumption
    | intro x; first | (refine (fun (hx : State.Kept s₀ x) => ?_) ?_); clear_value x; rotate_left; subst x | subst x
    | lift_lets -underBinder +implicits
    | with_reducible apply State.assocReq_kept
    | with_reducible apply State.cause_kept
    | with_reducible apply State.closeRxWin_kept
    | with_reducible apply State.enterFix_kept
    | with_reducible apply State.incF_kept
    | with_reducible apply State.wb_kept
    | with_reducible apply State.wf_kept
    | with_reducible apply State.wr_kept
    | with_reducible apply State.wr64_kept
    | with_reducible refine .ite (fun _ => ?_) (fun _ => ?_)
    | with_reducible refine .foldl (fun _ _ _ => ?_) ?_
    | split
    | with_reducible refine State.Kept.mk_iff.2 ?_

theorem State.beaconRx_kept {s₀ s : State} (h₀ : State.Kept s₀ s) (lq : Nat) : State.Kept s₀ (State.beaconRx s lq) := by
  unfold State.beaconRx
  repeat' first
    | with_reducible assumption
    | intro x; first | (refine (fun (hx : State.Kept s₀ x) => ?_) ?_); clear_value x; rotate_left; subst x | clear_value x
    | lift_lets -underBinder +implicits
    | split
    | with_reducible refine State.takeInbox_kept ?_ _ _ (by assumption)
    | with_reducible apply State.beaconTake_kept
    | with_reducible apply State.cause_kept
    | with_reducible apply State.cycApply_kept
    | with_reducible apply State.disarmWhere_kept
    | with_reducible apply State.setUpState_kept
    | with_reducible apply State.wb_kept
    | with_reducible apply State.wr_kept
    | with_reducible refine .ite (fun _ => ?_) (fun _ => ?_)
    | split

theorem State.beaconMiss_kept {s₀ s : State} (h₀ : State.Kept s₀ s)  : State.Kept s₀ (State.beaconMiss s) := by
  unfold State.beaconMiss
  repeat' first
    | with_reducible assumption
    | intro x; first | (refine (fun (hx : State.Kept s₀ x) => ?_) ?_); clear_value x; rotate_left; subst x | subst x
    | lift_lets -underBinder +implicits
    | split
    | with_reducible apply State.beaconRx_kept
    | with_reducible apply State.cause_kept
    | with_reducible apply State.disarmWhere_kept
    | with_reducible apply State.incF_kept
    | with_reducible apply State.openRxWin_kept
    | with_reducible apply State.pageRecord_kept
    | with_reducible apply State.setUpState_kept
    | with_reducible refine .ite (fun _ => ?_) (fun _ => ?_)
    | split
    | with_reducible refine State.Kept.mk_iff.2 ?_

theorem State.restartNbr_kept {s₀ s : State} (h₀ : State.Kept s₀ s) (p a : Nat) : State.Kept s₀ (State.restartNbr s p a) := by
  unfold State.restartNbr
  repeat' first
    | with_reducible assumption
    | intro x; first | (refine (fun (hx : State.Kept s₀ x) => ?_) ?_); clear_value x; rotate_left; subst x | subst x
    | lift_lets -underBinder +implicits
    | with_reducible apply State.setNbr_kept
    | with_reducible refine .ite (fun _ => ?_) (fun _ => ?_)
    | split
    | with_reducible refine State.Kept.mk_iff.2 ?_

theorem State.assocRequest_kept {s₀ s : State} (h₀ : State.Kept s₀ s)  : State.Kept s₀ (State.assocRequest s) := by
  unfold State.assocRequest
  repeat' first
    | with_reducible assumption
    | intro x; first | (refine (fun (hx : State.Kept s₀ x) => ?_) ?_); clear_value x; rotate_left; subst x | subst x
    | lift_lets -underBinder +implicits
    | split
    | with_reducible refine State.takeInbox_kept ?_ _ _ (by assumption)
    | with_reducible apply State.leaseEnd_kept
    | with_reducible apply State.pushOut_kept
    | with_reducible apply State.rebuildRoutes_kept
    | with_reducible apply State.restartNbr_kept
    | with_reducible apply State.sendDown_kept
    | with_reducible apply State.setEp_kept
    | with_reducible apply State.tagFail_kept
    | with_reducible refine .ite (fun _ => ?_) (fun _ => ?_)
    | split
    | with_reducible refine State.Kept.mkSec_iff.2 ?_
    | with_reducible refine State.Kept.mk_iff.2 ?_

theorem State.quarantine_kept {s₀ s : State} (h₀ : State.Kept s₀ s) (a : Nat) : State.Kept s₀ (State.quarantine s a) := by
  unfold State.quarantine
  repeat' first
    | with_reducible assumption
    | intro x; first | (refine (fun (hx : State.Kept s₀ x) => ?_) ?_); clear_value x; rotate_left; subst x | subst x
    | lift_lets -underBinder +implicits
    | with_reducible apply State.cutOutbox_kept
    | with_reducible apply State.rebuildRoutes_kept
    | with_reducible apply State.resolveWhere_kept
    | with_reducible apply State.setEp_kept
    | with_reducible refine .ite (fun _ => ?_) (fun _ => ?_)
    | split
    | with_reducible refine State.Kept.mk_iff.2 ?_

theorem State.disassoc_kept {s₀ s : State} (h₀ : State.Kept s₀ s)  : State.Kept s₀ (State.disassoc s) := by
  unfold State.disassoc
  repeat' first
    | with_reducible assumption
    | intro x; first | (refine (fun (hx : State.Kept s₀ x) => ?_) ?_); clear_value x; rotate_left; subst x | subst x
    | lift_lets -underBinder +implicits
    | with_reducible refine State.takeInbox_kept ?_ _ _ (by assumption)
    | with_reducible apply State.quarantine_kept
    | with_reducible apply State.upLost_kept
    | with_reducible refine .ite (fun _ => ?_) (fun _ => ?_)
    | split
    | with_reducible refine State.Kept.mk_iff.2 ?_

theorem State.leaseRenew_kept {s₀ s : State} (h₀ : State.Kept s₀ s)  : State.Kept s₀ (State.leaseRenew s) := by
  unfold State.leaseRenew
  repeat' first
    | with_reducible assumption
    | intro x; first | (refine (fun (hx : State.Kept s₀ x) => ?_) ?_); clear_value x; rotate_left; subst x | subst x
    | lift_lets -underBinder +implicits
    | with_reducible refine State.takeInbox_kept ?_ _ _ (by assumption)
    | with_reducible apply State.renew_kept
    | with_reducible apply State.sendMgmt_kept
    | with_reducible apply State.sendNode_kept
    | with_reducible refine .ite (fun _ => ?_) (fun _ => ?_)
    | split

theorem State.leaseEnd_kept {s₀ s : State} (h₀ : State.Kept s₀ s)  : State.Kept s₀ (State.leaseEnd s) := by
  unfold State.leaseEnd
  repeat' first
    | with_reducible assumption
    | intro x; first | (refine (fun (hx : State.Kept s₀ x) => ?_) ?_); clear_value x; rotate_left; subst x | subst x
    | lift_lets -underBinder +implicits
    | with_reducible apply State.cause_kept
    | with_reducible apply State.quarantine_kept
    | with_reducible apply State.setUpState_kept
    | with_reducible apply State.upLost_kept
    | with_reducible refine .ite (fun _ => ?_) (fun _ => ?_)
    | with_reducible refine .foldl (fun _ _ _ => ?_) ?_
    | split
    | with_reducible refine State.Kept.mk_iff.2 ?_

theorem State.quarantineEnd_kept {s₀ s : State} (h₀ : State.Kept s₀ s)  : State.Kept s₀ (State.quarantineEnd s) := by
  unfold State.quarantineEnd
  repeat' first
    | with_reducible assumption
    | intro x; first | (refine (fun (hx : State.Kept s₀ x) => ?_) ?_); clear_value x; rotate_left; subst x | subst x
    | lift_lets -underBinder +implicits
    | with_reducible apply State.setEp_kept
    | with_reducible refine .ite (fun _ => ?_) (fun _ => ?_)
    | with_reducible refine .foldl (fun _ _ _ => ?_) ?_
    | split
    | with_reducible refine State.Kept.mk_iff.2 ?_

theorem State.graceEnd_kept {s₀ s : State} (h₀ : State.Kept s₀ s)  : State.Kept s₀ (State.graceEnd s) := by
  unfold State.graceEnd
  repeat' first
    | with_reducible assumption
    | intro x; first | (refine (fun (hx : State.Kept s₀ x) => ?_) ?_); clear_value x; rotate_left; subst x | (refine (fun (hx : ∀ a, State.Kept s₀ a → State.Kept s₀ (x a)) => ?_) ?_); clear_value x; rotate_left; subst x; intro _ _ | (refine (fun (hx : ∀ a b, State.Kept s₀ a → State.Kept s₀ (x a b).1) => ?_) ?_); clear_value x; rotate_left; subst x; intro _ _ _ | (refine (fun (hx : ∀ a b, State.Kept s₀ a → State.Kept s₀ (x a b)) => ?_) ?_); clear_value x; rotate_left; subst x; intro _ _ _ | (refine (fun (hx : ∀ a, State.Kept s₀ (x a)) => ?_) ?_); clear_value x; rotate_left; subst x; intro _ | (refine (fun (hx : ∀ a b, State.Kept s₀ (x a b)) => ?_) ?_); clear_value x; rotate_left; subst x; intro _ _ | subst x
    | lift_lets -underBinder +implicits
    | with_reducible apply State.setEp_kept
    | with_reducible refine .ite (fun _ => ?_) (fun _ => ?_)
    | with_reducible refine .foldl (fun _ _ _ => ?_) ?_
    | with_reducible apply_assumption -exfalso
    | dsimp -zeta only
    | split
    | with_reducible refine State.Kept.mk_iff.2 ?_

theorem State.assocResponse_kept {s₀ s : State} (h₀ : State.Kept s₀ s)  : State.Kept s₀ (State.assocResponse s) := by
  unfold State.assocResponse
  repeat' first
    | with_reducible assumption
    | intro x; first | (refine (fun (hx : State.Kept s₀ x) => ?_) ?_); clear_value x; rotate_left; subst x | subst x
    | lift_lets -underBinder +implicits
    | with_reducible refine State.takeInbox_kept ?_ _ _ (by assumption)
    | with_reducible apply State.cause_kept
    | with_reducible apply State.markUpstream_kept
    | with_reducible apply State.renewOwn_kept
    | with_reducible apply State.restartNbr_kept
    | with_reducible apply State.setOwn_kept
    | with_reducible refine .ite (fun _ => ?_) (fun _ => ?_)
    | split
    | with_reducible refine State.Kept.mk_iff.2 ?_

theorem State.leaseAck_kept {s₀ s : State} (h₀ : State.Kept s₀ s)  : State.Kept s₀ (State.leaseAck s) := by
  unfold State.leaseAck
  repeat' first
    | with_reducible assumption
    | intro x; first | (refine (fun (hx : State.Kept s₀ x) => ?_) ?_); clear_value x; rotate_left; subst x | subst x
    | lift_lets -underBinder +implicits
    | with_reducible refine State.takeInbox_kept ?_ _ _ (by assumption)
    | with_reducible apply State.renewOwn_kept
    | with_reducible apply State.upLost_kept
    | with_reducible refine .ite (fun _ => ?_) (fun _ => ?_)
    | split

theorem State.leaseRenewSend_kept {s₀ s : State} (h₀ : State.Kept s₀ s)  : State.Kept s₀ (State.leaseRenewSend s) := by
  unfold State.leaseRenewSend
  repeat' first
    | with_reducible assumption
    | intro x; first | (refine (fun (hx : State.Kept s₀ x) => ?_) ?_); clear_value x; rotate_left; subst x | subst x
    | lift_lets -underBinder +implicits
    | with_reducible apply State.sendUp_kept
    | with_reducible apply State.showLease_kept
    | with_reducible refine .ite (fun _ => ?_) (fun _ => ?_)
    | split
    | with_reducible refine State.Kept.mk_iff.2 ?_

theorem State.nullRx_kept {s₀ s : State} (h₀ : State.Kept s₀ s)  : State.Kept s₀ (State.nullRx s) := by
  unfold State.nullRx
  repeat' first
    | with_reducible assumption
    | intro x; first | (refine (fun (hx : State.Kept s₀ x) => ?_) ?_); clear_value x; rotate_left; subst x | subst x
    | lift_lets -underBinder +implicits
    | with_reducible refine State.takeInbox_kept ?_ _ _ (by assumption)
    | with_reducible refine .ite (fun _ => ?_) (fun _ => ?_)
    | split

theorem State.showAdm_kept {s₀ s : State} (h₀ : State.Kept s₀ s)  : State.Kept s₀ (State.showAdm s) := by
  unfold State.showAdm
  repeat' first
    | with_reducible assumption
    | with_reducible apply State.wr_kept
    | with_reducible refine .ite (fun _ => ?_) (fun _ => ?_)
    | split

theorem State.admission_kept {s₀ s : State} (h₀ : State.Kept s₀ s) (c : Sub) : State.Kept s₀ (State.admission s c) := by
  unfold State.admission
  repeat' first
    | with_reducible assumption
    | intro x; first | (refine (fun (hx : State.Kept s₀ x) => ?_) ?_); clear_value x; rotate_left; subst x | subst x
    | lift_lets -underBinder +implicits
    | with_reducible apply State.finishTag_kept
    | with_reducible apply State.showAdm_kept
    | with_reducible refine .ite (fun _ => ?_) (fun _ => ?_)
    | split
    | with_reducible refine State.Kept.mk_iff.2 ?_

theorem State.revoke_kept {s₀ s : State} (h₀ : State.Kept s₀ s) (c : Sub) : State.Kept s₀ (State.revoke s c) := by
  unfold State.revoke
  repeat' first
    | with_reducible assumption
    | intro x; first | (refine (fun (hx : State.Kept s₀ x) => ?_) ?_); clear_value x; rotate_left; subst x | subst x
    | lift_lets -underBinder +implicits
    | with_reducible apply State.finishTag_kept
    | with_reducible apply State.quarantine_kept
    | with_reducible apply State.sendNode_kept
    | with_reducible apply State.showAdm_kept
    | with_reducible refine .ite (fun _ => ?_) (fun _ => ?_)
    | split
    | with_reducible refine State.Kept.mk_iff.2 ?_

theorem State.epWinWrite_kept {s₀ s : State} (h₀ : State.Kept s₀ s) (i : Nat) (v : Word) : State.Kept s₀ (State.epWinWrite s i v) := by
  unfold State.epWinWrite
  repeat' first
    | with_reducible assumption
    | intro x; first | (refine (fun (hx : State.Kept s₀ x) => ?_) ?_); clear_value x; rotate_left; subst x | subst x
    | lift_lets -underBinder +implicits
    | with_reducible apply State.sendDown_kept
    | with_reducible apply State.setEp_kept
    | with_reducible refine .ite (fun _ => ?_) (fun _ => ?_)
    | split
    | with_reducible refine State.Kept.mk_iff.2 ?_

theorem State.epStore_kept {s₀ s : State} (h₀ : State.Kept s₀ s) : State.Kept s₀ s.epStore := by
  unfold State.epStore
  exact .ite (fun _ => h₀) (fun _ => State.Kept.mk_iff.2 (State.wroteBlocks_kept h₀ _))

end Sys2Proof.Machine
end

