-- ==== Sys2Proof/Laws/KeptSecCore.lean ====
section
/-! SUPPORT. The operations of Machine/SecCore.lean keep what Laws/Kept.lean says. -/

-- One declaration after another: the package is compiled as one text, and its memory stays within bounds.
set_option Elab.async false

namespace Sys2Proof.Machine

theorem State.showSec_kept {s₀ s : State} (h₀ : State.Kept s₀ s)  : State.Kept s₀ (State.showSec s) := by
  unfold State.showSec
  repeat' first
    | with_reducible assumption
    | with_reducible apply State.wr_kept
    | with_reducible refine .ite (fun _ => ?_) (fun _ => ?_)
    | split

theorem State.showSlot_kept {s₀ s : State} (h₀ : State.Kept s₀ s) (n : Nat) : State.Kept s₀ (State.showSlot s n) := by
  unfold State.showSlot
  repeat' first
    | with_reducible assumption
    | intro x; first | (refine (fun (hx : State.Kept s₀ x) => ?_) ?_); clear_value x; rotate_left; subst x | subst x
    | lift_lets -underBinder +implicits
    | with_reducible apply State.wr_kept
    | with_reducible refine .ite (fun _ => ?_) (fun _ => ?_)
    | split

theorem State.setSlot_kept {s₀ s : State} (h₀ : State.Kept s₀ s) (n : Nat) (k : KeySlot) : State.Kept s₀ (State.setSlot s n k) := by
  unfold State.setSlot
  repeat' first
    | with_reducible assumption
    | intro x; first | (refine (fun (hx : State.Kept s₀ x) => ?_) ?_); clear_value x; rotate_left; subst x | subst x
    | lift_lets -underBinder +implicits
    | with_reducible apply State.showSlot_kept
    | with_reducible refine .ite (fun _ => ?_) (fun _ => ?_)
    | split
    | with_reducible refine State.Kept.mkSec_iff.2 ?_
    | with_reducible refine State.Kept.mk_iff.2 ?_

theorem State.secRequest_kept {s₀ s : State} (h₀ : State.Kept s₀ s)  : State.Kept s₀ (State.secRequest s) := by
  unfold State.secRequest
  repeat' first
    | with_reducible assumption
    | intro x; first | (refine (fun (hx : State.Kept s₀ x) => ?_) ?_); clear_value x; rotate_left; subst x | subst x
    | lift_lets -underBinder +implicits
    | with_reducible apply State.pllStart_kept
    | with_reducible refine .ite (fun _ => ?_) (fun _ => ?_)
    | split
    | with_reducible refine State.Kept.mkSec_iff.2 ?_
    | with_reducible refine State.Kept.mk_iff.2 ?_

theorem State.cc91Gate_kept {s₀ s : State} (h₀ : State.Kept s₀ s)  : State.Kept s₀ (State.cc91Gate s) := by
  unfold State.cc91Gate
  repeat' first
    | with_reducible assumption
    | intro x; first | (refine (fun (hx : State.Kept s₀ x) => ?_) ?_); clear_value x; rotate_left; subst x | subst x
    | lift_lets -underBinder +implicits
    | with_reducible refine .ite (fun _ => ?_) (fun _ => ?_)
    | split
    | with_reducible refine State.Kept.mkSec_iff.2 ?_
    | with_reducible refine State.Kept.mk_iff.2 ?_

theorem State.slotDone_kept {s₀ s : State} (h₀ : State.Kept s₀ s) (st : Status) : State.Kept s₀ (State.slotDone s st) := by
  unfold State.slotDone
  repeat' first
    | with_reducible assumption
    | with_reducible apply State.wr_kept
    | with_reducible refine .ite (fun _ => ?_) (fun _ => ?_)
    | split

theorem State.pinRuns_kept {s₀ s : State} (h₀ : State.Kept s₀ s) (n : Nat) : State.Kept s₀ (State.pinRuns s n) := by
  unfold State.pinRuns
  repeat' first
    | with_reducible assumption
    | intro x; first | (refine (fun (hx : State.Kept s₀ x) => ?_) ?_); clear_value x; rotate_left; subst x | subst x
    | lift_lets -underBinder +implicits
    | with_reducible refine .ite (fun _ => ?_) (fun _ => ?_)
    | split
    | with_reducible refine State.Kept.mkSec_iff.2 ?_
    | with_reducible refine State.Kept.mk_iff.2 ?_

theorem State.slotLoad_kept {s₀ s : State} (h₀ : State.Kept s₀ s) (d n : Nat) (key label : List Byte) : State.Kept s₀ (State.slotLoad s d n key label) := by
  unfold State.slotLoad
  repeat' first
    | with_reducible assumption
    | intro x; first | (refine (fun (hx : State.Kept s₀ x) => ?_) ?_); clear_value x; rotate_left; subst x | subst x
    | lift_lets -underBinder +implicits
    | with_reducible apply State.pinRuns_kept
    | with_reducible apply State.setSlot_kept
    | with_reducible refine .ite (fun _ => ?_) (fun _ => ?_)
    | split
    | with_reducible refine State.Kept.mk_iff.2 ?_

theorem State.slotCommand_kept {s₀ s : State} (h₀ : State.Kept s₀ s) (body : State → State) (h_body : ∀ (x0 : State), State.Kept s₀ x0 → State.Kept s₀ (body x0)) : State.Kept s₀ (State.slotCommand s body) := by
  unfold State.slotCommand
  repeat' first
    | with_reducible assumption
    | with_reducible apply h_body
    | with_reducible apply State.ignored_kept
    | with_reducible apply State.secRequest_kept
    | with_reducible apply State.slotDone_kept
    | with_reducible refine .ite (fun _ => ?_) (fun _ => ?_)
    | with_reducible refine .ofFst (by assumption) ?_
    | split

theorem State.slotBy_kept {s₀ s : State} (h₀ : State.Kept s₀ s) (m n : Nat) : State.Kept s₀ (State.slotBy s m n) := by
  unfold State.slotBy
  repeat' first
    | with_reducible assumption
    | intro x; first | (refine (fun (hx : State.Kept s₀ x) => ?_) ?_); clear_value x; rotate_left; subst x | subst x
    | lift_lets -underBinder +implicits
    | with_reducible apply State.setSlot_kept
    | with_reducible refine .ite (fun _ => ?_) (fun _ => ?_)
    | split
    | with_reducible refine State.Kept.mk_iff.2 ?_

theorem State.slotDerive_kept {s₀ s : State} (h₀ : State.Kept s₀ s) (m d n src srcSlot : Nat) : State.Kept s₀ (State.slotDerive s m d n src srcSlot) := by
  unfold State.slotDerive
  repeat' first
    | with_reducible assumption
    | intro x; first | (refine (fun (hx : State.Kept s₀ x) => ?_) ?_); clear_value x; rotate_left; subst x | subst x
    | lift_lets -underBinder +implicits
    | with_reducible apply State.slotBy_kept
    | with_reducible apply State.slotCommand_kept
    | with_reducible apply State.slotDone_kept
    | with_reducible apply State.slotLoad_kept
    | with_reducible refine .ite (fun _ => ?_) (fun _ => ?_)
    | intro _
    | split

theorem State.slotWipe_kept {s₀ s : State} (h₀ : State.Kept s₀ s) (n : Nat) : State.Kept s₀ (State.slotWipe s n) := by
  unfold State.slotWipe
  repeat' first
    | with_reducible assumption
    | intro x; first | (refine (fun (hx : State.Kept s₀ x) => ?_) ?_); clear_value x; rotate_left; subst x | subst x
    | lift_lets -underBinder +implicits
    | with_reducible apply State.setSlot_kept
    | with_reducible refine .ite (fun _ => ?_) (fun _ => ?_)
    | split
    | with_reducible refine State.Kept.mkSec_iff.2 ?_
    | with_reducible refine State.Kept.mk_iff.2 ?_

theorem State.slotErase_kept {s₀ s : State} (h₀ : State.Kept s₀ s) (m n : Nat) : State.Kept s₀ (State.slotErase s m n) := by
  unfold State.slotErase
  repeat' first
    | with_reducible assumption
    | with_reducible apply State.slotBy_kept
    | with_reducible apply State.slotCommand_kept
    | with_reducible apply State.slotDone_kept
    | with_reducible apply State.slotWipe_kept
    | with_reducible refine .ite (fun _ => ?_) (fun _ => ?_)
    | intro _
    | split

theorem State.wipeSlots_kept {s₀ s : State} (h₀ : State.Kept s₀ s)  : State.Kept s₀ (State.wipeSlots s) := by
  unfold State.wipeSlots
  repeat' first
    | with_reducible assumption
    | with_reducible apply State.slotWipe_kept
    | with_reducible refine .ite (fun _ => ?_) (fun _ => ?_)
    | with_reducible refine .foldl (fun _ _ _ => ?_) ?_
    | split

theorem State.aesOut_kept {s₀ s : State} (h₀ : State.Kept s₀ s) (core : Nat) (st : Status) (out : List Byte) : State.Kept s₀ (State.aesOut s core st out) := by
  unfold State.aesOut
  repeat' first
    | with_reducible assumption
    | intro x; first | (refine (fun (hx : State.Kept s₀ x) => ?_) ?_); clear_value x; rotate_left; subst x | subst x
    | lift_lets -underBinder +implicits
    | with_reducible refine .ite (fun _ => ?_) (fun _ => ?_)
    | split
    | with_reducible refine State.Kept.mkSec_iff.2 ?_
    | with_reducible refine State.Kept.mk_iff.2 ?_

theorem State.aesRevoked_kept {s₀ s : State} (h₀ : State.Kept s₀ s) (core : Nat) (job : AesJob) : State.Kept s₀ (State.aesRevoked s core job) := by
  unfold State.aesRevoked
  repeat' first
    | with_reducible assumption
    | intro x; first | (refine (fun (hx : State.Kept s₀ x) => ?_) ?_); clear_value x; rotate_left; subst x | subst x
    | lift_lets -underBinder +implicits
    | with_reducible apply State.aesOut_kept
    | with_reducible apply State.cause_kept
    | with_reducible apply State.inc_kept
    | with_reducible apply State.msgResolve_kept
    | with_reducible refine .ite (fun _ => ?_) (fun _ => ?_)
    | split

theorem State.aesBegin_kept {s₀ s : State} (h₀ : State.Kept s₀ s) (core n eng : Nat) (job : AesJob) : State.Kept s₀ (State.aesBegin s core n eng job) := by
  unfold State.aesBegin
  repeat' first
    | with_reducible assumption
    | intro x; first | (refine (fun (hx : State.Kept s₀ x) => ?_) ?_); clear_value x; rotate_left; subst x | subst x
    | lift_lets -underBinder +implicits
    | with_reducible apply State.aesOut_kept
    | with_reducible apply State.aesRevoked_kept
    | with_reducible apply State.secRequest_kept
    | with_reducible apply State.showSlot_kept
    | with_reducible refine .ite (fun _ => ?_) (fun _ => ?_)
    | split
    | with_reducible refine State.Kept.mkSec_iff.2 ?_
    | with_reducible refine State.Kept.mk_iff.2 ?_

theorem State.aesStart_kept {s₀ s : State} (h₀ : State.Kept s₀ s) (n : Nat) (job : AesJob) (who : AccReq) : State.Kept s₀ (State.aesStart s n job who) := by
  unfold State.aesStart
  repeat' first
    | with_reducible assumption
    | intro x; first | (refine (fun (hx : State.Kept s₀ x) => ?_) ?_); clear_value x; rotate_left; subst x | subst x
    | lift_lets -underBinder +implicits
    | with_reducible apply State.aesBegin_kept
    | with_reducible refine .ite (fun _ => ?_) (fun _ => ?_)
    | split
    | with_reducible refine State.Kept.mkSec_iff.2 ?_
    | with_reducible refine State.Kept.mk_iff.2 ?_

theorem State.aesNext_kept {s₀ s : State} (h₀ : State.Kept s₀ s)  : State.Kept s₀ (State.aesNext s) := by
  unfold State.aesNext
  repeat' first
    | with_reducible assumption
    | intro x; first | (refine (fun (hx : State.Kept s₀ x) => ?_) ?_); clear_value x; rotate_left; subst x | subst x
    | lift_lets -underBinder +implicits
    | with_reducible apply State.aesBegin_kept
    | with_reducible refine .ite (fun _ => ?_) (fun _ => ?_)
    | split
    | with_reducible refine State.Kept.mkSec_iff.2 ?_
    | with_reducible refine State.Kept.mk_iff.2 ?_

theorem State.authFailed_kept {s₀ s : State} (h₀ : State.Kept s₀ s)  : State.Kept s₀ (State.authFailed s) := by
  unfold State.authFailed
  repeat' first
    | with_reducible assumption
    | with_reducible apply State.cause_kept
    | with_reducible apply State.inc_kept
    | with_reducible refine .ite (fun _ => ?_) (fun _ => ?_)
    | split

theorem State.unsealFailed_kept {s₀ s : State} (h₀ : State.Kept s₀ s) (r : Reasm) (key : List Byte) (chunks : Nat) : State.Kept s₀ (State.unsealFailed s r key chunks) := by
  unfold State.unsealFailed
  repeat' first
    | with_reducible assumption
    | intro x; first | (refine (fun (hx : State.Kept s₀ x) => ?_) ?_); clear_value x; rotate_left; subst x | subst x
    | lift_lets -underBinder +implicits
    | with_reducible apply State.authFailed_kept
    | with_reducible apply State.cause_kept
    | with_reducible apply State.complete_kept
    | with_reducible apply State.dmaWrite_kept
    | with_reducible apply State.inc_kept
    | with_reducible apply State.pageRecord_kept
    | with_reducible apply State.record_kept
    | with_reducible apply State.setRing_kept
    | with_reducible refine .ite (fun _ => ?_) (fun _ => ?_)
    | split
    | with_reducible refine State.Kept.mk_iff.2 ?_

theorem State.aesRelease_kept {s₀ s : State} (h₀ : State.Kept s₀ s) (run : AesRun) (chunks : Nat) : State.Kept s₀ (State.aesRelease s run chunks) := by
  unfold State.aesRelease
  repeat' first
    | with_reducible assumption
    | intro x; first | (refine (fun (hx : State.Kept s₀ x) => ?_) ?_); clear_value x; rotate_left; subst x | subst x
    | lift_lets -underBinder +implicits
    | split
    | with_reducible apply State.aesOut_kept
    | with_reducible apply State.authFailed_kept
    | with_reducible apply State.floodPush_kept
    | with_reducible apply State.setMsg_kept
    | with_reducible apply State.unsealFailed_kept
    | with_reducible apply State.writeItem_kept
    | with_reducible refine .ite (fun _ => ?_) (fun _ => ?_)
    | split
    | with_reducible refine State.Kept.mk_iff.2 ?_

theorem State.slotEmptied_kept {s₀ s : State} (h₀ : State.Kept s₀ s) (n : Nat) : State.Kept s₀ (State.slotEmptied s n) := by
  unfold State.slotEmptied
  repeat' first
    | with_reducible assumption
    | intro x; first | (refine (fun (hx : State.Kept s₀ x) => ?_) ?_); clear_value x; rotate_left; subst x | subst x
    | lift_lets -underBinder +implicits
    | with_reducible apply State.setSlot_kept
    | with_reducible apply State.showSlot_kept
    | with_reducible refine .ite (fun _ => ?_) (fun _ => ?_)
    | split
    | with_reducible refine State.Kept.mk_iff.2 ?_

theorem State.aesFinish_kept {s₀ s : State} (h₀ : State.Kept s₀ s) (core chunks : Nat) : State.Kept s₀ (State.aesFinish s core chunks) := by
  unfold State.aesFinish
  repeat' first
    | with_reducible assumption
    | intro x; first | (refine (fun (hx : State.Kept s₀ x) => ?_) ?_); clear_value x; rotate_left; subst x | subst x
    | lift_lets -underBinder +implicits
    | with_reducible apply State.aesNext_kept
    | with_reducible apply State.aesRelease_kept
    | with_reducible apply State.aesRevoked_kept
    | with_reducible apply State.slotEmptied_kept
    | with_reducible refine .ite (fun _ => ?_) (fun _ => ?_)
    | split
    | with_reducible refine State.Kept.mkSec_iff.2 ?_
    | with_reducible refine State.Kept.mk_iff.2 ?_

theorem State.aesAbort_kept {s₀ s : State} (h₀ : State.Kept s₀ s) (m : Nat) : State.Kept s₀ (State.aesAbort s m) := by
  unfold State.aesAbort
  repeat' first
    | with_reducible assumption
    | intro x; first | (refine (fun (hx : State.Kept s₀ x) => ?_) ?_); clear_value x; rotate_left; subst x | subst x
    | lift_lets -underBinder +implicits
    | with_reducible apply State.aesNext_kept
    | with_reducible apply State.aesOut_kept
    | with_reducible apply State.slotEmptied_kept
    | with_reducible refine .ite (fun _ => ?_) (fun _ => ?_)
    | with_reducible refine .foldl (fun _ _ _ => ?_) ?_
    | split
    | with_reducible refine State.Kept.mkSec_iff.2 ?_
    | with_reducible refine State.Kept.mk_iff.2 ?_

theorem State.reseed_kept {s₀ s : State} (h₀ : State.Kept s₀ s)  : State.Kept s₀ (State.reseed s) := by
  unfold State.reseed
  repeat' first
    | with_reducible assumption
    | intro x; first | (refine (fun (hx : State.Kept s₀ x) => ?_) ?_); clear_value x; rotate_left; subst x | subst x
    | lift_lets -underBinder +implicits
    | with_reducible apply State.inc_kept
    | with_reducible refine .ite (fun _ => ?_) (fun _ => ?_)
    | split
    | with_reducible refine State.Kept.mkSec_iff.2 ?_
    | with_reducible refine State.Kept.mk_iff.2 ?_

theorem State.drbgReseed_kept {s₀ s : State} (h₀ : State.Kept s₀ s)  : State.Kept s₀ (State.drbgReseed s) := by
  unfold State.drbgReseed
  repeat' first
    | with_reducible assumption
    | with_reducible apply State.reseed_kept
    | with_reducible refine .ite (fun _ => ?_) (fun _ => ?_)
    | split

theorem State.drbgDraw_kept {s₀ s : State} (h₀ : State.Kept s₀ s) (n : Nat) : State.Kept s₀ (State.drbgDraw s n).1 := by
  unfold State.drbgDraw
  repeat' first
    | with_reducible assumption
    | intro x; first | (refine (fun (hx : State.Kept s₀ x) => ?_) ?_); clear_value x; rotate_left; subst x | (refine (fun (hx : State.Kept s₀ x.1) => ?_) ?_); clear_value x; rotate_left; subst x | subst x
    | lift_lets -underBinder +implicits
    | with_reducible refine .ite (fun _ => ?_) (fun _ => ?_)
    | with_reducible refine .iteFst (fun _ => ?_) (fun _ => ?_)
    | split
    | with_reducible refine State.Kept.mkSec_iff.2 ?_
    | with_reducible refine State.Kept.mk_iff.2 ?_

theorem State.drbgGenerate_kept {s₀ s : State} (h₀ : State.Kept s₀ s) (n : Nat) : State.Kept s₀ (State.drbgGenerate s n) := by
  unfold State.drbgGenerate
  repeat' first
    | with_reducible assumption
    | intro x; first | (refine (fun (hx : State.Kept s₀ x) => ?_) ?_); clear_value x; rotate_left; subst x | (refine (fun (hx : State.Kept s₀ x.1) => ?_) ?_); clear_value x; rotate_left; subst x | subst x
    | lift_lets -underBinder +implicits
    | split
    | with_reducible apply State.drbgDraw_kept
    | with_reducible refine .ite (fun _ => ?_) (fun _ => ?_)
    | with_reducible refine .ofFst (by assumption) ?_
    | split
    | with_reducible refine State.Kept.mkSec_iff.2 ?_
    | with_reducible refine State.Kept.mk_iff.2 ?_

theorem State.trngFail_kept {s₀ s : State} (h₀ : State.Kept s₀ s) (n : Nat) : State.Kept s₀ (State.trngFail s n) := by
  unfold State.trngFail
  repeat' first
    | with_reducible assumption
    | intro x; first | (refine (fun (hx : State.Kept s₀ x) => ?_) ?_); clear_value x; rotate_left; subst x | subst x
    | lift_lets -underBinder +implicits
    | with_reducible apply State.benchEmpty_kept
    | with_reducible apply State.cause_kept
    | with_reducible apply State.pageRecord_kept
    | with_reducible apply State.record_kept
    | with_reducible apply State.showSec_kept
    | with_reducible apply State.wb_kept
    | with_reducible refine .ite (fun _ => ?_) (fun _ => ?_)
    | split
    | with_reducible refine State.Kept.mkSec_iff.2 ?_
    | with_reducible refine State.Kept.mk_iff.2 ?_

theorem State.entropyTimeout_kept {s₀ s : State} (h₀ : State.Kept s₀ s)  : State.Kept s₀ (State.entropyTimeout s) := by
  unfold State.entropyTimeout
  repeat' first
    | with_reducible assumption
    | intro x; first | (refine (fun (hx : State.Kept s₀ x) => ?_) ?_); clear_value x; rotate_left; subst x | subst x
    | lift_lets -underBinder +implicits
    | with_reducible apply State.drbgReseed_kept
    | with_reducible apply State.showSec_kept
    | with_reducible refine .ite (fun _ => ?_) (fun _ => ?_)
    | split
    | with_reducible refine State.Kept.mkSec_iff.2 ?_
    | with_reducible refine State.Kept.mk_iff.2 ?_

theorem State.setSession_kept {s₀ s : State} (h₀ : State.Kept s₀ s) (i : Nat) (v : Session) : State.Kept s₀ (State.setSession s i v) := by
  unfold State.setSession
  repeat' first
    | with_reducible assumption
    | intro x; first | (refine (fun (hx : State.Kept s₀ x) => ?_) ?_); clear_value x; rotate_left; subst x | subst x
    | lift_lets -underBinder +implicits
    | with_reducible apply State.wr_kept
    | with_reducible refine .ite (fun _ => ?_) (fun _ => ?_)
    | split
    | with_reducible refine State.Kept.mkSec_iff.2 ?_
    | with_reducible refine State.Kept.mk_iff.2 ?_

theorem State.closeSessions_kept {s₀ s : State} (h₀ : State.Kept s₀ s)  : State.Kept s₀ (State.closeSessions s) := by
  unfold State.closeSessions
  repeat' first
    | with_reducible assumption
    | with_reducible apply State.setSession_kept
    | with_reducible refine .ite (fun _ => ?_) (fun _ => ?_)
    | with_reducible refine .foldl (fun _ _ _ => ?_) ?_
    | split

theorem State.cutDecrypts_kept {s₀ s : State} (h₀ : State.Kept s₀ s)  : State.Kept s₀ (State.cutDecrypts s) := by
  unfold State.cutDecrypts
  repeat' first
    | with_reducible assumption
    | intro x; first | (refine (fun (hx : State.Kept s₀ x) => ?_) ?_); clear_value x; rotate_left; subst x | subst x
    | lift_lets -underBinder +implicits
    | with_reducible refine .ite (fun _ => ?_) (fun _ => ?_)
    | split
    | with_reducible refine State.Kept.mkSec_iff.2 ?_
    | with_reducible refine State.Kept.mk_iff.2 ?_

theorem State.reinstantiate_kept {s₀ s : State} (h₀ : State.Kept s₀ s)  : State.Kept s₀ (State.reinstantiate s) := by
  unfold State.reinstantiate
  repeat' first
    | with_reducible assumption
    | with_reducible apply State.reseed_kept
    | with_reducible refine .ite (fun _ => ?_) (fun _ => ?_)
    | split

theorem State.granted_kept {s₀ s : State} (h₀ : State.Kept s₀ s) (up : Bool) : State.Kept s₀ (State.granted s up) := by
  unfold State.granted
  repeat' first
    | with_reducible assumption
    | with_reducible apply State.cause_kept
    | with_reducible refine .ite (fun _ => ?_) (fun _ => ?_)
    | split

theorem State.tapLevel_kept {s₀ s : State} (h₀ : State.Kept s₀ s) (l : Nat) : State.Kept s₀ (State.tapLevel s l) := by
  unfold State.tapLevel
  repeat' first
    | with_reducible assumption
    | intro x; first | (refine (fun (hx : State.Kept s₀ x) => ?_) ?_); clear_value x; rotate_left; subst x | subst x
    | lift_lets -underBinder +implicits
    | with_reducible refine .ite (fun _ => ?_) (fun _ => ?_)
    | split
    | with_reducible refine State.Kept.mk_iff.2 ?_

/-- What a change of debug level zeroises, before the level changes. -/
theorem State.setDebug_steps {s₀ s : State} (h₀ : State.Kept s₀ s) (l : Nat) :
    State.Kept s₀ (let old := s.sec.dbg
      let s1 := s.closeSessions
      let s2 := if l = 2 then s1.cutDecrypts else s1
      let s3 := if l = 3 || old = 3 then s2.wipeSlots else s2
      let s4 := if l = 3 then s3.reinstantiate else s3
      (if l < 2 || old = 3 then { s4.wr Reg.SEC_HALTED 0 with dap := { s4.dap with halted := [] } } else s4).tapLevel l) := by
  have h1 := State.closeSessions_kept h₀
  have h2 := State.Kept.ite (c := l = 2) (fun _ => State.cutDecrypts_kept h1) (fun _ => h1)
  have h3 := State.Kept.ite (c := (decide (l = 3) || decide (s.sec.dbg = 3)) = true) (fun _ => State.wipeSlots_kept h2) (fun _ => h2)
  have h4 := State.Kept.ite (c := l = 3) (fun _ => State.reinstantiate_kept h3) (fun _ => h3)
  exact State.tapLevel_kept (.ite (fun _ => State.Kept.mk_iff.2 (State.wr_kept h4 Reg.SEC_HALTED 0)) (fun _ => h4)) l

/-- A change of debug level, upward or down, keeps all but the level. -/
theorem State.setDebug_base {s₀ s : State} (h₀ : State.Base s₀ s) (l : Nat) : State.Base s₀ (s.setDebug l) := by
  refine h₀.trans ?_
  have h := State.setDebug_steps (State.Kept.rfl' (s := s)) l
  unfold State.setDebug
  dsimp only
  split
  · exact State.Kept.rfl'.base
  · refine State.Base.trans ?_ (State.record_kept (State.granted_kept (State.wf_kept (State.showSec_kept .rfl') ..) ..) ..).base
    exact ⟨h.now, h.pending, h.lc, h.wf, h.stage⟩

/-- A change of debug level that does not raise it. -/
theorem State.setDebug_kept {s₀ s : State} (h₀ : State.Kept s₀ s) (l : Nat) (hl : l ≤ s.sec.dbg) : State.Kept s₀ (s.setDebug l) := by
  have h := State.setDebug_steps h₀ l
  unfold State.setDebug
  dsimp only
  split
  · exact h₀
  · refine State.record_kept (State.granted_kept (State.wf_kept (State.showSec_kept ?_) ..) ..) ..
    exact ⟨h.now, h.pending, h.lc, h.wf, h.stage, Nat.le_trans hl h₀.dbg⟩

end Sys2Proof.Machine
end

