-- ==== Sys2Proof/Laws/KeptHostLink.lean ====
section
/-! SUPPORT. The operations of Machine/HostLink.lean keep what Laws/Kept.lean says. -/

-- One declaration after another: the package is compiled as one text, and its memory stays within bounds.
set_option Elab.async false

namespace Sys2Proof.Machine

theorem State.hostTouch_kept {s₀ s : State} (h₀ : State.Kept s₀ s)  : State.Kept s₀ (State.hostTouch s) := by
  unfold State.hostTouch
  repeat' first
    | with_reducible assumption
    | intro x; first | (refine (fun (hx : State.Kept s₀ x) => ?_) ?_); clear_value x; rotate_left; subst x | subst x
    | lift_lets -underBinder +implicits
    | with_reducible apply State.pllStart_kept
    | with_reducible refine .ite (fun _ => ?_) (fun _ => ?_)
    | split
    | with_reducible refine State.Kept.mk_iff.2 ?_

theorem State.hostRead_kept {s₀ s : State} (h₀ : State.Kept s₀ s) (addr n : Nat) : State.Kept s₀ (State.hostRead s addr n) := by
  unfold State.hostRead
  repeat' first
    | with_reducible assumption
    | intro x; first | (refine (fun (hx : State.Kept s₀ x) => ?_) ?_); clear_value x; rotate_left; subst x | subst x
    | lift_lets -underBinder +implicits
    | with_reducible refine .ite (fun _ => ?_) (fun _ => ?_)
    | split
    | with_reducible refine State.Kept.mk_iff.2 ?_

theorem State.bulkData_kept {s₀ s : State} (h₀ : State.Kept s₀ s) (addr : Nat) (d : List Byte) : State.Kept s₀ (State.bulkData s addr d) := by
  unfold State.bulkData
  repeat' first
    | with_reducible assumption
    | intro x; first | (refine (fun (hx : State.Kept s₀ x) => ?_) ?_); clear_value x; rotate_left; subst x | (refine (fun (hx : ∀ a, State.Kept s₀ a → State.Kept s₀ (x a)) => ?_) ?_); clear_value x; rotate_left; subst x; intro _ _ | (refine (fun (hx : ∀ a b, State.Kept s₀ a → State.Kept s₀ (x a b).1) => ?_) ?_); clear_value x; rotate_left; subst x; intro _ _ _ | (refine (fun (hx : ∀ a b, State.Kept s₀ a → State.Kept s₀ (x a b)) => ?_) ?_); clear_value x; rotate_left; subst x; intro _ _ _ | (refine (fun (hx : ∀ a, State.Kept s₀ (x a)) => ?_) ?_); clear_value x; rotate_left; subst x; intro _ | (refine (fun (hx : ∀ a b, State.Kept s₀ (x a b)) => ?_) ?_); clear_value x; rotate_left; subst x; intro _ _ | subst x
    | lift_lets -underBinder +implicits
    | with_reducible apply State.hostTouch_kept
    | with_reducible refine .ite (fun _ => ?_) (fun _ => ?_)
    | with_reducible apply_assumption -exfalso
    | dsimp -zeta only
    | split
    | with_reducible refine State.Kept.mk_iff.2 ?_

theorem State.hostBack_kept {s₀ s : State} (h₀ : State.Kept s₀ s)  : State.Kept s₀ (State.hostBack s) := by
  unfold State.hostBack
  repeat' first
    | with_reducible assumption
    | with_reducible apply State.cause_kept
    | with_reducible apply State.deliverUplink_kept
    | with_reducible apply State.flushVecs_kept
    | with_reducible apply State.spoolCheck_kept
    | with_reducible apply State.wf_kept
    | with_reducible apply State.writeAllHeld_kept
    | with_reducible refine .ite (fun _ => ?_) (fun _ => ?_)
    | split

theorem State.hostAbsent_kept {s₀ s : State} (h₀ : State.Kept s₀ s)  : State.Kept s₀ (State.hostAbsent s) := by
  unfold State.hostAbsent
  repeat' first
    | with_reducible assumption
    | with_reducible apply State.cause_kept
    | with_reducible apply State.pageRecord_kept
    | with_reducible apply State.spoolCheck_kept
    | with_reducible apply State.wf_kept
    | with_reducible refine .ite (fun _ => ?_) (fun _ => ?_)
    | split

theorem State.makeActive_kept {s₀ s : State} (h₀ : State.Kept s₀ s) (n : Nat) : State.Kept s₀ (State.makeActive s n) := by
  unfold State.makeActive
  repeat' first
    | with_reducible assumption
    | intro x; first | (refine (fun (hx : State.Kept s₀ x) => ?_) ?_); clear_value x; rotate_left; subst x | subst x
    | lift_lets -underBinder +implicits
    | with_reducible apply State.hostBack_kept
    | with_reducible apply State.wb_kept
    | with_reducible apply State.wf_kept
    | with_reducible refine .ite (fun _ => ?_) (fun _ => ?_)
    | split

theorem State.linkUp_kept {s₀ s : State} (h₀ : State.Kept s₀ s) (n mode : Nat) : State.Kept s₀ (State.linkUp s n mode) := by
  unfold State.linkUp
  repeat' first
    | with_reducible assumption
    | intro x; first | (refine (fun (hx : State.Kept s₀ x) => ?_) ?_); clear_value x; rotate_left; subst x | (refine (fun (hx : ∀ a, State.Kept s₀ a → State.Kept s₀ (x a)) => ?_) ?_); clear_value x; rotate_left; subst x; intro _ _ | (refine (fun (hx : ∀ a b, State.Kept s₀ a → State.Kept s₀ (x a b).1) => ?_) ?_); clear_value x; rotate_left; subst x; intro _ _ _ | (refine (fun (hx : ∀ a b, State.Kept s₀ a → State.Kept s₀ (x a b)) => ?_) ?_); clear_value x; rotate_left; subst x; intro _ _ _ | (refine (fun (hx : ∀ a, State.Kept s₀ (x a)) => ?_) ?_); clear_value x; rotate_left; subst x; intro _ | (refine (fun (hx : ∀ a b, State.Kept s₀ (x a b)) => ?_) ?_); clear_value x; rotate_left; subst x; intro _ _ | subst x
    | lift_lets -underBinder +implicits
    | with_reducible apply State.makeActive_kept
    | with_reducible apply State.wb_kept
    | with_reducible apply State.wf_kept
    | with_reducible refine .ite (fun _ => ?_) (fun _ => ?_)
    | with_reducible apply_assumption -exfalso
    | dsimp -zeta only
    | split
    | with_reducible refine State.Kept.mk_iff.2 ?_

theorem State.linkLoss_kept {s₀ s : State} (h₀ : State.Kept s₀ s) (n : Nat) : State.Kept s₀ (State.linkLoss s n) := by
  unfold State.linkLoss
  repeat' first
    | with_reducible assumption
    | intro x; first | (refine (fun (hx : State.Kept s₀ x) => ?_) ?_); clear_value x; rotate_left; subst x | subst x
    | lift_lets -underBinder +implicits
    | with_reducible apply State.hostAbsent_kept
    | with_reducible apply State.incF_kept
    | with_reducible apply State.pageRecord_kept
    | with_reducible apply State.wf_kept
    | with_reducible apply State.wr_kept
    | with_reducible apply State.wr64_kept
    | with_reducible refine .ite (fun _ => ?_) (fun _ => ?_)
    | split
    | with_reducible refine State.Kept.mk_iff.2 ?_

theorem State.rewriteCq_kept {s₀ s : State} (h₀ : State.Kept s₀ s) (r : Nat) : State.Kept s₀ (State.rewriteCq s r) := by
  unfold State.rewriteCq
  repeat' first
    | with_reducible assumption
    | intro x; first | (refine (fun (hx : State.Kept s₀ x) => ?_) ?_); clear_value x; rotate_left; subst x | subst x
    | lift_lets -underBinder +implicits
    | with_reducible apply State.bulkSend_kept
    | with_reducible apply State.dmaWrite_kept
    | with_reducible refine .ite (fun _ => ?_) (fun _ => ?_)
    | with_reducible refine .foldl (fun _ _ _ => ?_) ?_
    | split

theorem State.resumeHost_kept {s₀ s : State} (h₀ : State.Kept s₀ s) (ms : Nat) : State.Kept s₀ (State.resumeHost s ms) := by
  unfold State.resumeHost
  repeat' first
    | with_reducible assumption
    | intro x; first | (refine (fun (hx : State.Kept s₀ x) => ?_) ?_); clear_value x; rotate_left; subst x | subst x
    | lift_lets -underBinder +implicits
    | with_reducible apply State.cause_kept
    | with_reducible apply State.deliverUplink_kept
    | with_reducible apply State.flushVecs_kept
    | with_reducible apply State.hostAbsent_kept
    | with_reducible apply State.raisePage_kept
    | with_reducible apply State.rewriteCq_kept
    | with_reducible apply State.wf_kept
    | with_reducible apply State.writeAllHeld_kept
    | with_reducible refine .ite (fun _ => ?_) (fun _ => ?_)
    | with_reducible refine .foldl (fun _ _ _ => ?_) ?_
    | split

theorem State.failoverDone_kept {s₀ s : State} (h₀ : State.Kept s₀ s)  : State.Kept s₀ (State.failoverDone s) := by
  unfold State.failoverDone
  repeat' first
    | with_reducible assumption
    | intro x; first | (refine (fun (hx : State.Kept s₀ x) => ?_) ?_); clear_value x; rotate_left; subst x | subst x
    | lift_lets -underBinder +implicits
    | with_reducible apply State.hostAbsent_kept
    | with_reducible apply State.incF_kept
    | with_reducible apply State.resumeHost_kept
    | with_reducible apply State.wb_kept
    | with_reducible apply State.wf_kept
    | with_reducible refine .ite (fun _ => ?_) (fun _ => ?_)
    | split

theorem State.hostSwitch_kept {s₀ s : State} (h₀ : State.Kept s₀ s)  : State.Kept s₀ (State.hostSwitch s) := by
  unfold State.hostSwitch
  repeat' first
    | with_reducible assumption
    | intro x; first | (refine (fun (hx : State.Kept s₀ x) => ?_) ?_); clear_value x; rotate_left; subst x | subst x
    | lift_lets -underBinder +implicits
    | with_reducible apply State.drawn_kept
    | with_reducible apply State.ignored_kept
    | with_reducible apply State.incF_kept
    | with_reducible apply State.resumeHost_kept
    | with_reducible apply State.wb_kept
    | with_reducible apply State.wf_kept
    | with_reducible refine .ite (fun _ => ?_) (fun _ => ?_)
    | split

theorem State.heartbeat_kept {s₀ s : State} (h₀ : State.Kept s₀ s)  : State.Kept s₀ (State.heartbeat s) := by
  unfold State.heartbeat
  repeat' first
    | with_reducible assumption
    | intro x; first | (refine (fun (hx : State.Kept s₀ x) => ?_) ?_); clear_value x; rotate_left; subst x | subst x
    | lift_lets -underBinder +implicits
    | with_reducible apply State.hostBack_kept
    | with_reducible refine .ite (fun _ => ?_) (fun _ => ?_)
    | split
    | with_reducible refine State.Kept.mk_iff.2 ?_

theorem State.hostWatchdog_kept {s₀ s : State} (h₀ : State.Kept s₀ s)  : State.Kept s₀ (State.hostWatchdog s) := by
  unfold State.hostWatchdog
  repeat' first
    | with_reducible assumption
    | intro x; first | (refine (fun (hx : State.Kept s₀ x) => ?_) ?_); clear_value x; rotate_left; subst x | subst x
    | lift_lets -underBinder +implicits
    | with_reducible apply State.heartbeat_kept
    | with_reducible apply State.hostAbsent_kept
    | with_reducible refine .ite (fun _ => ?_) (fun _ => ?_)
    | split
    | with_reducible refine State.Kept.mk_iff.2 ?_

theorem State.ringAbort_kept {s₀ s : State} (h₀ : State.Kept s₀ s) (r : Nat) : State.Kept s₀ (State.ringAbort s r) := by
  unfold State.ringAbort
  repeat' first
    | with_reducible assumption
    | with_reducible apply State.flushWork_kept
    | with_reducible refine .ite (fun _ => ?_) (fun _ => ?_)
    | split

theorem State.bulkSubmit_kept {s₀ s : State} (h₀ : State.Kept s₀ s) (r idx : Nat) (entries : List (List Byte)) : State.Kept s₀ (State.bulkSubmit s r idx entries) := by
  unfold State.bulkSubmit
  repeat' first
    | with_reducible assumption
    | intro x; first | (refine (fun (hx : State.Kept s₀ x) => ?_) ?_); clear_value x; rotate_left; subst x | subst x
    | lift_lets -underBinder +implicits
    | with_reducible apply State.hostTouch_kept
    | with_reducible apply State.setRing_kept
    | with_reducible apply State.sqDoorbell_kept
    | with_reducible refine .ite (fun _ => ?_) (fun _ => ?_)
    | split
    | with_reducible refine State.Kept.mk_iff.2 ?_

theorem State.bulkAck_kept {s₀ s : State} (h₀ : State.Kept s₀ s) (r t : Nat) : State.Kept s₀ (State.bulkAck s r t) := by
  unfold State.bulkAck
  repeat' first
    | with_reducible assumption
    | with_reducible apply State.cqDoorbell_kept
    | with_reducible apply State.hostTouch_kept
    | with_reducible refine .ite (fun _ => ?_) (fun _ => ?_)
    | split

end Sys2Proof.Machine
end

