-- ==== Sys2Proof/Laws/KeptLegacy.lean ====
section
/-! SUPPORT. The operations of Machine/Legacy.lean keep what Laws/Kept.lean says. -/

-- One declaration after another: the package is compiled as one text, and its memory stays within bounds.
set_option Elab.async false

namespace Sys2Proof.Machine

theorem State.setLslot_kept {s₀ s : State} (h₀ : State.Kept s₀ s) (k : Nat) (v : LgcSlot) : State.Kept s₀ (State.setLslot s k v) := by
  unfold State.setLslot
  repeat' first
    | with_reducible assumption
    | intro x; first | (refine (fun (hx : State.Kept s₀ x) => ?_) ?_); clear_value x; rotate_left; subst x | subst x
    | lift_lets -underBinder +implicits
    | with_reducible refine .ite (fun _ => ?_) (fun _ => ?_)
    | split
    | with_reducible refine State.Kept.mk_iff.2 ?_

theorem State.setCtxState_kept {s₀ s : State} (h₀ : State.Kept s₀ s) (k c v : Nat) : State.Kept s₀ (State.setCtxState s k c v) := by
  unfold State.setCtxState
  repeat' first
    | with_reducible assumption
    | with_reducible apply State.wf_kept
    | with_reducible refine .ite (fun _ => ?_) (fun _ => ?_)
    | split

theorem State.setMst_kept {s₀ s : State} (h₀ : State.Kept s₀ s) (m : Nat) (v : MasterSt) : State.Kept s₀ (State.setMst s m v) := by
  unfold State.setMst
  repeat' first
    | with_reducible assumption
    | intro x; first | (refine (fun (hx : State.Kept s₀ x) => ?_) ?_); clear_value x; rotate_left; subst x | subst x
    | lift_lets -underBinder +implicits
    | with_reducible refine .ite (fun _ => ?_) (fun _ => ?_)
    | split
    | with_reducible refine State.Kept.mk_iff.2 ?_

theorem State.slotOwn_kept {s₀ s : State} (h₀ : State.Kept s₀ s) (k : Nat) : State.Kept s₀ (State.slotOwn s k) := by
  unfold State.slotOwn
  repeat' first
    | with_reducible assumption
    | intro x; first | (refine (fun (hx : State.Kept s₀ x) => ?_) ?_); clear_value x; rotate_left; subst x | subst x
    | lift_lets -underBinder +implicits
    | with_reducible apply State.setMst_kept
    | with_reducible refine .ite (fun _ => ?_) (fun _ => ?_)
    | with_reducible refine .foldl (fun _ _ _ => ?_) ?_
    | split
    | with_reducible refine State.Kept.mk_iff.2 ?_

theorem State.slotCtl_kept {s₀ s : State} (h₀ : State.Kept s₀ s) (k : Nat) (v : Word) : State.Kept s₀ (State.slotCtl s k v) := by
  unfold State.slotCtl
  repeat' first
    | with_reducible assumption
    | intro x; first | (refine (fun (hx : State.Kept s₀ x) => ?_) ?_); clear_value x; rotate_left; subst x | subst x
    | lift_lets -underBinder +implicits
    | with_reducible apply State.ignored_kept
    | with_reducible apply State.slotOwn_kept
    | with_reducible apply State.wb_kept
    | with_reducible apply State.wf_kept
    | with_reducible apply State.wr_kept
    | with_reducible refine .ite (fun _ => ?_) (fun _ => ?_)
    | split

theorem State.ctxSave_kept {s₀ s : State} (h₀ : State.Kept s₀ s) (k c : Nat) (at_ : Option (Nat × Nat)) : State.Kept s₀ (State.ctxSave s k c at_) := by
  unfold State.ctxSave
  repeat' first
    | with_reducible assumption
    | intro x; first | (refine (fun (hx : State.Kept s₀ x) => ?_) ?_); clear_value x; rotate_left; subst x | subst x
    | lift_lets -underBinder +implicits
    | with_reducible apply State.drawn_kept
    | with_reducible apply State.wr_kept
    | with_reducible refine .ite (fun _ => ?_) (fun _ => ?_)
    | with_reducible refine .foldl (fun _ _ _ => ?_) ?_
    | split

theorem State.leftNow_kept {s₀ s : State} (h₀ : State.Kept s₀ s) (k c : Nat) (next : Option Nat) : State.Kept s₀ (State.leftNow s k c next) := by
  unfold State.leftNow
  repeat' first
    | with_reducible assumption
    | intro x; first | (refine (fun (hx : State.Kept s₀ x) => ?_) ?_); clear_value x; rotate_left; subst x | subst x
    | lift_lets -underBinder +implicits
    | with_reducible apply State.setLslot_kept
    | with_reducible refine .ite (fun _ => ?_) (fun _ => ?_)
    | split
    | with_reducible refine State.Kept.mk_iff.2 ?_

theorem State.dispatch_kept {s₀ s : State} (h₀ : State.Kept s₀ s) (k c : Nat) : State.Kept s₀ (State.dispatch s k c) := by
  unfold State.dispatch
  repeat' first
    | with_reducible assumption
    | intro x; first | (refine (fun (hx : State.Kept s₀ x) => ?_) ?_); clear_value x; rotate_left; subst x | subst x
    | lift_lets -underBinder +implicits
    | with_reducible apply State.incF_kept
    | with_reducible apply State.setCtxState_kept
    | with_reducible apply State.setLslot_kept
    | with_reducible apply State.wf_kept
    | with_reducible refine .ite (fun _ => ?_) (fun _ => ?_)
    | split
    | with_reducible refine State.Kept.mk_iff.2 ?_

theorem State.ctxStart_kept {s₀ s : State} (h₀ : State.Kept s₀ s) (k c : Nat) : State.Kept s₀ (State.ctxStart s k c) := by
  unfold State.ctxStart
  repeat' first
    | with_reducible assumption
    | with_reducible apply State.dispatch_kept
    | with_reducible apply State.setCtxState_kept
    | with_reducible refine .ite (fun _ => ?_) (fun _ => ?_)
    | split

theorem State.ctxStop_kept {s₀ s : State} (h₀ : State.Kept s₀ s) (k c : Nat) : State.Kept s₀ (State.ctxStop s k c) := by
  unfold State.ctxStop
  repeat' first
    | with_reducible assumption
    | intro x; first | (refine (fun (hx : State.Kept s₀ x) => ?_) ?_); clear_value x; rotate_left; subst x | subst x
    | lift_lets -underBinder +implicits
    | with_reducible apply State.ctxSave_kept
    | with_reducible apply State.dispatch_kept
    | with_reducible apply State.leftNow_kept
    | with_reducible apply State.setCtxState_kept
    | with_reducible refine .ite (fun _ => ?_) (fun _ => ?_)
    | split

theorem State.quantumEnd_kept {s₀ s : State} (h₀ : State.Kept s₀ s) (k : Nat) : State.Kept s₀ (State.quantumEnd s k) := by
  unfold State.quantumEnd
  repeat' first
    | with_reducible assumption
    | intro x; first | (refine (fun (hx : State.Kept s₀ x) => ?_) ?_); clear_value x; rotate_left; subst x | subst x
    | lift_lets -underBinder +implicits
    | with_reducible apply State.ctxSave_kept
    | with_reducible apply State.dispatch_kept
    | with_reducible apply State.leftNow_kept
    | with_reducible apply State.setCtxState_kept
    | with_reducible apply State.setLslot_kept
    | with_reducible refine .ite (fun _ => ?_) (fun _ => ?_)
    | split
    | with_reducible refine State.Kept.mk_iff.2 ?_

theorem State.lgcMode_kept {s₀ s : State} (h₀ : State.Kept s₀ s)  : State.Kept s₀ (State.lgcMode s) := by
  unfold State.lgcMode
  repeat' first
    | with_reducible assumption
    | intro x; first | (refine (fun (hx : State.Kept s₀ x) => ?_) ?_); clear_value x; rotate_left; subst x | subst x
    | lift_lets -underBinder +implicits
    | with_reducible apply State.ctxSave_kept
    | with_reducible apply State.dispatch_kept
    | with_reducible apply State.setCtxState_kept
    | with_reducible refine .ite (fun _ => ?_) (fun _ => ?_)
    | with_reducible refine .foldl (fun _ _ _ => ?_) ?_
    | split

theorem State.lgcPowerOff_kept {s₀ s : State} (h₀ : State.Kept s₀ s)  : State.Kept s₀ (State.lgcPowerOff s) := by
  unfold State.lgcPowerOff
  repeat' first
    | with_reducible assumption
    | with_reducible apply State.setLslot_kept
    | with_reducible apply State.wf_kept
    | with_reducible refine .ite (fun _ => ?_) (fun _ => ?_)
    | with_reducible refine .foldl (fun _ _ _ => ?_) ?_
    | split

theorem State.translate_kept {s₀ s : State} (h₀ : State.Kept s₀ s) (k c acc va : Nat) : State.Kept s₀ (State.translate s k c acc va).1 := by
  unfold State.translate
  repeat' first
    | with_reducible assumption
    | intro x; first | (refine (fun (hx : State.Kept s₀ x) => ?_) ?_); clear_value x; rotate_left; subst x | (refine (fun (hx : State.Kept s₀ x.1) => ?_) ?_); clear_value x; rotate_left; subst x | subst x
    | lift_lets -underBinder +implicits
    | with_reducible apply State.setLslot_kept
    | with_reducible refine .ite (fun _ => ?_) (fun _ => ?_)
    | with_reducible refine .iteFst (fun _ => ?_) (fun _ => ?_)
    | split
    | with_reducible refine State.Kept.mk_iff.2 ?_

theorem State.tlbInvAll_kept {s₀ s : State} (h₀ : State.Kept s₀ s) (k : Nat) : State.Kept s₀ (State.tlbInvAll s k) := by
  unfold State.tlbInvAll
  repeat' first
    | with_reducible assumption
    | intro x; first | (refine (fun (hx : State.Kept s₀ x) => ?_) ?_); clear_value x; rotate_left; subst x | subst x
    | lift_lets -underBinder +implicits
    | with_reducible apply State.setLslot_kept
    | with_reducible refine .ite (fun _ => ?_) (fun _ => ?_)
    | split
    | with_reducible refine State.Kept.mk_iff.2 ?_

theorem State.tlbInvPage_kept {s₀ s : State} (h₀ : State.Kept s₀ s) (k asid vpn : Nat) : State.Kept s₀ (State.tlbInvPage s k asid vpn) := by
  unfold State.tlbInvPage
  repeat' first
    | with_reducible assumption
    | intro x; first | (refine (fun (hx : State.Kept s₀ x) => ?_) ?_); clear_value x; rotate_left; subst x | subst x
    | lift_lets -underBinder +implicits
    | with_reducible apply State.setLslot_kept
    | with_reducible refine .ite (fun _ => ?_) (fun _ => ?_)
    | split
    | with_reducible refine State.Kept.mk_iff.2 ?_

theorem State.tlbInvVa_kept {s₀ s : State} (h₀ : State.Kept s₀ s) (k asid : Nat) : State.Kept s₀ (State.tlbInvVa s k asid) := by
  unfold State.tlbInvVa
  repeat' first
    | with_reducible assumption
    | with_reducible apply State.tlbInvPage_kept
    | with_reducible refine .ite (fun _ => ?_) (fun _ => ?_)
    | split

theorem State.fltRecord_kept {s₀ s : State} (h₀ : State.Kept s₀ s) (k r kind acc asid va w2 w3 : Nat) : State.Kept s₀ (State.fltRecord s k r kind acc asid va w2 w3) := by
  unfold State.fltRecord
  repeat' first
    | with_reducible assumption
    | intro x; first | (refine (fun (hx : State.Kept s₀ x) => ?_) ?_); clear_value x; rotate_left; subst x | subst x
    | lift_lets -underBinder +implicits
    | with_reducible apply State.cause_kept
    | with_reducible apply State.wr_kept
    | with_reducible apply State.wr64_kept
    | with_reducible refine .ite (fun _ => ?_) (fun _ => ?_)
    | split

theorem State.ctxFault_kept {s₀ s : State} (h₀ : State.Kept s₀ s) (k c kind acc va pc step : Nat) : State.Kept s₀ (State.ctxFault s k c kind acc va pc step) := by
  unfold State.ctxFault
  repeat' first
    | with_reducible assumption
    | intro x; first | (refine (fun (hx : State.Kept s₀ x) => ?_) ?_); clear_value x; rotate_left; subst x | subst x
    | lift_lets -underBinder +implicits
    | with_reducible apply State.ctxSave_kept
    | with_reducible apply State.dispatch_kept
    | with_reducible apply State.fltRecord_kept
    | with_reducible apply State.setCtxState_kept
    | with_reducible refine .ite (fun _ => ?_) (fun _ => ?_)
    | split

theorem State.chanFault_kept {s₀ s : State} (h₀ : State.Kept s₀ s) (k j kind acc va done left : Nat) : State.Kept s₀ (State.chanFault s k j kind acc va done left) := by
  unfold State.chanFault
  repeat' first
    | with_reducible assumption
    | with_reducible apply State.fltRecord_kept
    | with_reducible refine .ite (fun _ => ?_) (fun _ => ?_)
    | split

theorem State.fltResume_kept {s₀ s : State} (h₀ : State.Kept s₀ s) (k r : Nat) : State.Kept s₀ (State.fltResume s k r) := by
  unfold State.fltResume
  repeat' first
    | with_reducible assumption
    | intro x; first | (refine (fun (hx : State.Kept s₀ x) => ?_) ?_); clear_value x; rotate_left; subst x | subst x
    | lift_lets -underBinder +implicits
    | with_reducible apply State.dispatch_kept
    | with_reducible apply State.setCtxState_kept
    | with_reducible apply State.setLslot_kept
    | with_reducible apply State.tlbInvPage_kept
    | with_reducible apply State.wb_kept
    | with_reducible refine .ite (fun _ => ?_) (fun _ => ?_)
    | split
    | with_reducible refine State.Kept.mk_iff.2 ?_

theorem State.fltAbort_kept {s₀ s : State} (h₀ : State.Kept s₀ s) (k r : Nat) : State.Kept s₀ (State.fltAbort s k r) := by
  unfold State.fltAbort
  repeat' first
    | with_reducible assumption
    | intro x; first | (refine (fun (hx : State.Kept s₀ x) => ?_) ?_); clear_value x; rotate_left; subst x | subst x
    | lift_lets -underBinder +implicits
    | with_reducible apply State.setCtxState_kept
    | with_reducible apply State.setMst_kept
    | with_reducible apply State.wb_kept
    | with_reducible refine .ite (fun _ => ?_) (fun _ => ?_)
    | split
    | with_reducible refine State.Kept.mk_iff.2 ?_

theorem State.cardClr_kept {s₀ s : State} (h₀ : State.Kept s₀ s) (k : Nat) : State.Kept s₀ (State.cardClr s k) := by
  unfold State.cardClr
  repeat' first
    | with_reducible assumption
    | intro x; first | (refine (fun (hx : State.Kept s₀ x) => ?_) ?_); clear_value x; rotate_left; subst x | subst x
    | lift_lets -underBinder +implicits
    | with_reducible apply State.setLslot_kept
    | with_reducible apply State.setMst_kept
    | with_reducible apply State.wf_kept
    | with_reducible apply State.wr_kept
    | with_reducible refine .ite (fun _ => ?_) (fun _ => ?_)
    | with_reducible refine .foldl (fun _ _ _ => ?_) ?_
    | split
    | with_reducible refine State.Kept.mk_iff.2 ?_

theorem State.lgcRead_kept {s₀ s : State} (h₀ : State.Kept s₀ s) (c : Sub) : State.Kept s₀ (State.lgcRead s c) := by
  unfold State.lgcRead
  repeat' first
    | with_reducible assumption
    | intro x; first | (refine (fun (hx : State.Kept s₀ x) => ?_) ?_); clear_value x; rotate_left; subst x | subst x
    | lift_lets -underBinder +implicits
    | with_reducible apply State.dmaWrite_kept
    | with_reducible apply State.finish_kept
    | with_reducible refine .ite (fun _ => ?_) (fun _ => ?_)
    | split

theorem State.lgcWrite_kept {s₀ s : State} (h₀ : State.Kept s₀ s) (c : Sub) (data : List Byte) : State.Kept s₀ (s.lgcWrite c data) := by
  unfold State.lgcWrite
  split
  · exact State.finish_kept h₀ ..
  · exact State.finish_kept (State.Kept.storeLgc (State.hostRead_kept h₀ ..) ..) ..

end Sys2Proof.Machine
end

