-- ==== Sys2Proof/Laws/KeptSurveil.lean ====
section
/-! SUPPORT. The operations of Machine/Surveil.lean keep what Laws/Kept.lean says. -/

-- One declaration after another: the package is compiled as one text, and its memory stays within bounds.
set_option Elab.async false

namespace Sys2Proof.Machine

theorem State.keepRun_kept {s₀ s : State} (h₀ : State.Kept s₀ s) (r : SrvRun) : State.Kept s₀ (State.keepRun s r) := by
  unfold State.keepRun
  repeat' first
    | with_reducible assumption
    | intro x; first | (refine (fun (hx : State.Kept s₀ x) => ?_) ?_); clear_value x; rotate_left; subst x | subst x
    | lift_lets -underBinder +implicits
    | with_reducible apply State.post_kept
    | with_reducible refine .ite (fun _ => ?_) (fun _ => ?_)
    | split
    | with_reducible refine State.Kept.mk_iff.2 ?_

theorem State.muteCommit_kept {s₀ s : State} (h₀ : State.Kept s₀ s)  : State.Kept s₀ (State.muteCommit s) := by
  unfold State.muteCommit
  repeat' first
    | with_reducible assumption
    | with_reducible apply State.commitReq_kept
    | with_reducible refine .ite (fun _ => ?_) (fun _ => ?_)
    | split

theorem State.mutePort_kept {s₀ s : State} (h₀ : State.Kept s₀ s) (p by_ : Nat) : State.Kept s₀ (State.mutePort s p by_) := by
  unfold State.mutePort
  repeat' first
    | with_reducible assumption
    | intro x; first | (refine (fun (hx : State.Kept s₀ x) => ?_) ?_); clear_value x; rotate_left; subst x | subst x
    | lift_lets -underBinder +implicits
    | with_reducible apply State.cause_kept
    | with_reducible apply State.muteCommit_kept
    | with_reducible apply State.pageRecord_kept
    | with_reducible apply State.stopPort_kept
    | with_reducible apply State.wb_kept
    | with_reducible refine .ite (fun _ => ?_) (fun _ => ?_)
    | split
    | with_reducible refine State.Kept.mk_iff.2 ?_

theorem State.muteClear_kept {s₀ s : State} (h₀ : State.Kept s₀ s) (mask : Nat) : State.Kept s₀ (State.muteClear s mask) := by
  unfold State.muteClear
  repeat' first
    | with_reducible assumption
    | intro x; first | (refine (fun (hx : State.Kept s₀ x) => ?_) ?_); clear_value x; rotate_left; subst x | subst x
    | lift_lets -underBinder +implicits
    | with_reducible apply State.muteCommit_kept
    | with_reducible apply State.wb_kept
    | with_reducible refine .ite (fun _ => ?_) (fun _ => ?_)
    | with_reducible refine .foldl (fun _ _ _ => ?_) ?_
    | split

theorem State.loopback_kept {s₀ s : State} (h₀ : State.Kept s₀ s) (p c : Nat) (tone : Int) (bands : List (Nat × Int)) : State.Kept s₀ (State.loopback s p c tone bands) := by
  unfold State.loopback
  repeat' first
    | with_reducible assumption
    | intro x; first | (refine (fun (hx : State.Kept s₀ x) => ?_) ?_); clear_value x; rotate_left; subst x | subst x
    | lift_lets -underBinder +implicits
    | with_reducible apply State.mutePort_kept
    | with_reducible refine .ite (fun _ => ?_) (fun _ => ?_)
    | split
    | with_reducible refine State.Kept.mk_iff.2 ?_

theorem State.lineCheck_kept {s₀ s : State} (h₀ : State.Kept s₀ s) (r : SrvRun) (duty tx : Nat) : State.Kept s₀ (State.lineCheck s r duty tx) := by
  unfold State.lineCheck
  repeat' first
    | with_reducible assumption
    | intro x; first | (refine (fun (hx : State.Kept s₀ x) => ?_) ?_); clear_value x; rotate_left; subst x | subst x
    | lift_lets -underBinder +implicits
    | with_reducible apply State.mutePort_kept
    | with_reducible refine .ite (fun _ => ?_) (fun _ => ?_)
    | with_reducible refine .foldl (fun _ _ _ => ?_) ?_
    | split
    | with_reducible refine State.Kept.mk_iff.2 ?_

theorem State.srvEmit_kept {s₀ s : State} (h₀ : State.Kept s₀ s) (credit : Bool) (mk : Nat → List Byte) : State.Kept s₀ (State.srvEmit s credit mk) := by
  unfold State.srvEmit
  repeat' first
    | with_reducible assumption
    | intro x; first | (refine (fun (hx : State.Kept s₀ x) => ?_) ?_); clear_value x; rotate_left; subst x | subst x
    | lift_lets -underBinder +implicits
    | with_reducible apply State.archSurv_kept
    | with_reducible apply State.cause_kept
    | with_reducible apply State.inc_kept
    | with_reducible apply State.wr_kept
    | with_reducible refine .ite (fun _ => ?_) (fun _ => ?_)
    | with_reducible refine .foldl (fun _ _ _ => ?_) ?_
    | split
    | with_reducible refine State.Kept.mk_iff.2 ?_

theorem State.srvNext_kept {s₀ s : State} (h₀ : State.Kept s₀ s)  : State.Kept s₀ (State.srvNext s) := by
  unfold State.srvNext
  repeat' first
    | with_reducible assumption
    | intro x; first | (refine (fun (hx : State.Kept s₀ x) => ?_) ?_); clear_value x; rotate_left; subst x | subst x
    | lift_lets -underBinder +implicits
    | with_reducible refine .ite (fun _ => ?_) (fun _ => ?_)
    | split
    | with_reducible refine State.Kept.mk_iff.2 ?_

theorem State.secondRecord_kept {s₀ s : State} (h₀ : State.Kept s₀ s) (xs : List SrvSample) (credit : Bool) : State.Kept s₀ (State.secondRecord s xs credit) := by
  unfold State.secondRecord
  repeat' first
    | with_reducible assumption
    | intro x; first | (refine (fun (hx : State.Kept s₀ x) => ?_) ?_); clear_value x; rotate_left; subst x | (refine (fun (hx : State.Kept s₀ x.1) => ?_) ?_); clear_value x; rotate_left; subst x | subst x
    | lift_lets -underBinder +implicits
    | with_reducible apply State.addF_kept
    | with_reducible apply State.cause_kept
    | with_reducible apply State.faultEvent_kept
    | with_reducible apply State.keepRun_kept
    | with_reducible apply State.lineCheck_kept
    | with_reducible apply State.srvEmit_kept
    | with_reducible apply State.srvNext_kept
    | with_reducible apply State.wf_kept
    | with_reducible refine .ite (fun _ => ?_) (fun _ => ?_)
    | with_reducible refine .foldl (fun _ _ _ => ?_) ?_
    | with_reducible refine .foldlFst (fun _ _ _ => ?_) ?_
    | with_reducible refine .ofFst (by assumption) ?_
    | split

theorem State.referenceRecord_kept {s₀ s : State} (h₀ : State.Kept s₀ s) (xs : List SrvSample) (credit : Bool) : State.Kept s₀ (State.referenceRecord s xs credit) := by
  unfold State.referenceRecord
  repeat' first
    | with_reducible assumption
    | intro x; first | (refine (fun (hx : State.Kept s₀ x) => ?_) ?_); clear_value x; rotate_left; subst x | (refine (fun (hx : ∀ a, State.Kept s₀ a → State.Kept s₀ (x a)) => ?_) ?_); clear_value x; rotate_left; subst x; intro _ _ | (refine (fun (hx : ∀ a b, State.Kept s₀ a → State.Kept s₀ (x a b).1) => ?_) ?_); clear_value x; rotate_left; subst x; intro _ _ _ | (refine (fun (hx : ∀ a b, State.Kept s₀ a → State.Kept s₀ (x a b)) => ?_) ?_); clear_value x; rotate_left; subst x; intro _ _ _ | (refine (fun (hx : ∀ a, State.Kept s₀ (x a)) => ?_) ?_); clear_value x; rotate_left; subst x; intro _ | (refine (fun (hx : ∀ a b, State.Kept s₀ (x a b)) => ?_) ?_); clear_value x; rotate_left; subst x; intro _ _ | subst x
    | lift_lets -underBinder +implicits
    | with_reducible apply State.srvEmit_kept
    | with_reducible refine .ite (fun _ => ?_) (fun _ => ?_)
    | with_reducible apply_assumption -exfalso
    | dsimp -zeta only
    | split
    | with_reducible refine State.Kept.mk_iff.2 ?_

theorem State.ilConverged_kept {s₀ s : State} (h₀ : State.Kept s₀ s) (image : Nat) : State.Kept s₀ (State.ilConverged s image) := by
  unfold State.ilConverged
  repeat' first
    | with_reducible assumption
    | with_reducible apply State.wb_kept
    | with_reducible apply State.wf_kept
    | with_reducible refine .ite (fun _ => ?_) (fun _ => ?_)
    | split

theorem State.ilFallback_kept {s₀ s : State} (h₀ : State.Kept s₀ s)  : State.Kept s₀ (State.ilFallback s) := by
  unfold State.ilFallback
  repeat' first
    | with_reducible assumption
    | with_reducible apply State.cause_kept
    | with_reducible apply State.detReset_kept
    | with_reducible apply State.pageRecord_kept
    | with_reducible apply State.wb_kept
    | with_reducible refine .ite (fun _ => ?_) (fun _ => ?_)
    | split

theorem State.capSource_kept {s₀ s : State} (h₀ : State.Kept s₀ s) (src : Nat) : State.Kept s₀ (State.capSource s src) := by
  unfold State.capSource
  repeat' first
    | with_reducible assumption
    | intro x; first | (refine (fun (hx : State.Kept s₀ x) => ?_) ?_); clear_value x; rotate_left; subst x | subst x
    | lift_lets -underBinder +implicits
    | with_reducible apply State.wb_kept
    | with_reducible refine .ite (fun _ => ?_) (fun _ => ?_)
    | split
    | with_reducible refine State.Kept.mk_iff.2 ?_

theorem State.capTrigger_kept {s₀ s : State} (h₀ : State.Kept s₀ s) (src : Nat) : State.Kept s₀ (State.capTrigger s src) := by
  unfold State.capTrigger
  repeat' first
    | with_reducible assumption
    | intro x; first | (refine (fun (hx : State.Kept s₀ x) => ?_) ?_); clear_value x; rotate_left; subst x | subst x
    | lift_lets -underBinder +implicits
    | with_reducible apply State.capSource_kept
    | with_reducible apply State.cause_kept
    | with_reducible apply State.incF_kept
    | with_reducible apply State.wf_kept
    | with_reducible apply State.wr64_kept
    | with_reducible refine .ite (fun _ => ?_) (fun _ => ?_)
    | split
    | with_reducible refine State.Kept.mk_iff.2 ?_

theorem State.limitTrigger_kept {s₀ s : State} (h₀ : State.Kept s₀ s) (n f : Nat) (level : Int) : State.Kept s₀ (State.limitTrigger s n f level) := by
  unfold State.limitTrigger
  repeat' first
    | with_reducible assumption
    | intro x; first | (refine (fun (hx : State.Kept s₀ x) => ?_) ?_); clear_value x; rotate_left; subst x | subst x
    | lift_lets -underBinder +implicits
    | with_reducible apply State.capTrigger_kept
    | with_reducible refine .ite (fun _ => ?_) (fun _ => ?_)
    | split

theorem State.capArm_kept {s₀ s : State} (h₀ : State.Kept s₀ s)  : State.Kept s₀ (State.capArm s) := by
  unfold State.capArm
  repeat' first
    | with_reducible assumption
    | intro x; first | (refine (fun (hx : State.Kept s₀ x) => ?_) ?_); clear_value x; rotate_left; subst x | subst x
    | lift_lets -underBinder +implicits
    | with_reducible apply State.wb_kept
    | with_reducible apply State.wf_kept
    | with_reducible refine .ite (fun _ => ?_) (fun _ => ?_)
    | split
    | with_reducible refine State.Kept.mk_iff.2 ?_

theorem State.capHeld_kept {s₀ s : State} (h₀ : State.Kept s₀ s) (xs : List SrvSample) (credit : Bool) : State.Kept s₀ (State.capHeld s xs credit) := by
  unfold State.capHeld
  repeat' first
    | with_reducible assumption
    | intro x; first | (refine (fun (hx : State.Kept s₀ x) => ?_) ?_); clear_value x; rotate_left; subst x | subst x
    | lift_lets -underBinder +implicits
    | with_reducible apply State.capArm_kept
    | with_reducible apply State.srvEmit_kept
    | with_reducible apply State.wf_kept
    | with_reducible refine .ite (fun _ => ?_) (fun _ => ?_)
    | split
    | with_reducible refine State.Kept.mk_iff.2 ?_

theorem State.capRead_kept {s₀ s : State} (h₀ : State.Kept s₀ s) (c : Sub) : State.Kept s₀ (State.capRead s c) := by
  unfold State.capRead
  repeat' first
    | with_reducible assumption
    | intro x; first | (refine (fun (hx : State.Kept s₀ x) => ?_) ?_); clear_value x; rotate_left; subst x | subst x
    | lift_lets -underBinder +implicits
    | with_reducible apply State.dmaWrite_kept
    | with_reducible apply State.finish_kept
    | with_reducible apply State.finishTag_kept
    | with_reducible refine .ite (fun _ => ?_) (fun _ => ?_)
    | split

theorem State.verified_kept {s₀ s : State} (h₀ : State.Kept s₀ s) (ok : Bool) : State.Kept s₀ (State.verified s ok) := by
  unfold State.verified
  repeat' first
    | with_reducible assumption
    | intro x; first | (refine (fun (hx : State.Kept s₀ x) => ?_) ?_); clear_value x; rotate_left; subst x | subst x
    | lift_lets -underBinder +implicits
    | with_reducible apply State.inc_kept
    | with_reducible apply State.incF_kept
    | with_reducible refine .ite (fun _ => ?_) (fun _ => ?_)
    | split

theorem State.xlRefuse_kept {s₀ s : State} (h₀ : State.Kept s₀ s) (c : Sub) (st : Status) : State.Kept s₀ (State.xlRefuse s c st) := by
  unfold State.xlRefuse
  repeat' first
    | with_reducible assumption
    | with_reducible apply State.finishTag_kept
    | with_reducible apply State.incF_kept
    | with_reducible apply State.record_kept
    | with_reducible refine .ite (fun _ => ?_) (fun _ => ?_)
    | split

theorem State.xlInstall_kept {s₀ s : State} (h₀ : State.Kept s₀ s) (c : Sub) (list : List Byte) : State.Kept s₀ (State.xlInstall s c list) := by
  unfold State.xlInstall
  repeat' first
    | with_reducible assumption
    | intro x; first | (refine (fun (hx : State.Kept s₀ x) => ?_) ?_); clear_value x; rotate_left; subst x | subst x
    | lift_lets -underBinder +implicits
    | with_reducible apply State.commitReq_kept
    | with_reducible apply State.hostRead_kept
    | with_reducible apply State.verified_kept
    | with_reducible apply State.xlRefuse_kept
    | with_reducible refine .ite (fun _ => ?_) (fun _ => ?_)
    | split
    | with_reducible refine State.Kept.mk_iff.2 ?_

theorem State.xlAnswer_kept {s₀ s : State} (h₀ : State.Kept s₀ s) (st : Status) (result : List Byte) : State.Kept s₀ (State.xlAnswer s st result) := by
  unfold State.xlAnswer
  repeat' first
    | with_reducible assumption
    | intro x; first | (refine (fun (hx : State.Kept s₀ x) => ?_) ?_); clear_value x; rotate_left; subst x | subst x
    | lift_lets -underBinder +implicits
    | with_reducible apply State.complete_kept
    | with_reducible refine .ite (fun _ => ?_) (fun _ => ?_)
    | split
    | with_reducible refine State.Kept.mk_iff.2 ?_

theorem State.xlCommitted_kept {s₀ s : State} (h₀ : State.Kept s₀ s) (list : List Byte) (ok : Bool) : State.Kept s₀ (State.xlCommitted s list ok) := by
  unfold State.xlCommitted
  repeat' first
    | with_reducible assumption
    | intro x; first | (refine (fun (hx : State.Kept s₀ x) => ?_) ?_); clear_value x; rotate_left; subst x | subst x
    | lift_lets -underBinder +implicits
    | with_reducible apply State.incF_kept
    | with_reducible apply State.record_kept
    | with_reducible apply State.xlAnswer_kept
    | with_reducible refine .ite (fun _ => ?_) (fun _ => ?_)
    | split
    | with_reducible refine State.Kept.mk_iff.2 ?_

theorem State.writeExcl_kept {s₀ s : State} (h₀ : State.Kept s₀ s) (list : List Byte) : State.Kept s₀ (State.writeExcl s list) := by
  unfold State.writeExcl
  repeat' first
    | with_reducible assumption
    | intro x; first | (refine (fun (hx : State.Kept s₀ x) => ?_) ?_); clear_value x; rotate_left; subst x | subst x
    | lift_lets -underBinder +implicits
    | with_reducible apply State.wr_kept
    | with_reducible refine .ite (fun _ => ?_) (fun _ => ?_)
    | with_reducible refine .foldl (fun _ _ _ => ?_) ?_
    | split

theorem State.showXl_kept {s₀ s : State} (h₀ : State.Kept s₀ s) (list : List Byte) : State.Kept s₀ (State.showXl s list) := by
  unfold State.showXl
  repeat' first
    | with_reducible assumption
    | with_reducible apply State.wr_kept
    | with_reducible apply State.wr64_kept
    | with_reducible refine .ite (fun _ => ?_) (fun _ => ?_)
    | split

theorem State.lostCleared_kept {s₀ s : State} (h₀ : State.Kept s₀ s)  : State.Kept s₀ (State.lostCleared s) := by
  unfold State.lostCleared
  repeat' first
    | with_reducible assumption
    | intro x; first | (refine (fun (hx : State.Kept s₀ x) => ?_) ?_); clear_value x; rotate_left; subst x | subst x
    | lift_lets -underBinder +implicits
    | with_reducible apply State.wb_kept
    | with_reducible refine .ite (fun _ => ?_) (fun _ => ?_)
    | with_reducible refine .foldl (fun _ _ _ => ?_) ?_
    | split

theorem State.exclusionApply_kept {s₀ s : State} (h₀ : State.Kept s₀ s)  : State.Kept s₀ (State.exclusionApply s) := by
  unfold State.exclusionApply
  repeat' first
    | with_reducible assumption
    | intro x; first | (refine (fun (hx : State.Kept s₀ x) => ?_) ?_); clear_value x; rotate_left; subst x | subst x
    | lift_lets -underBinder +implicits
    | with_reducible apply State.cause_kept
    | with_reducible apply State.darkenDefaults_kept
    | with_reducible apply State.lostCleared_kept
    | with_reducible apply State.muteCommit_kept
    | with_reducible apply State.record_kept
    | with_reducible apply State.showXl_kept
    | with_reducible apply State.wb_kept
    | with_reducible apply State.writeExcl_kept
    | with_reducible apply State.xlAnswer_kept
    | with_reducible refine .ite (fun _ => ?_) (fun _ => ?_)
    | split
    | with_reducible refine State.Kept.mk_iff.2 ?_

theorem State.bootExcl_kept {s₀ s : State} (h₀ : State.Kept s₀ s) (d : Option Datum) (ptr : Nat) : State.Kept s₀ (State.bootExcl s d ptr) := by
  unfold State.bootExcl
  repeat' first
    | with_reducible assumption
    | intro x; first | (refine (fun (hx : State.Kept s₀ x) => ?_) ?_); clear_value x; rotate_left; subst x | subst x
    | lift_lets -underBinder +implicits
    | with_reducible apply State.mutePort_kept
    | with_reducible apply State.showXl_kept
    | with_reducible apply State.wb_kept
    | with_reducible apply State.wr_kept
    | with_reducible apply State.writeExcl_kept
    | with_reducible refine .ite (fun _ => ?_) (fun _ => ?_)
    | with_reducible refine .foldl (fun _ _ _ => ?_) ?_
    | split
    | with_reducible refine State.Kept.mk_iff.2 ?_

end Sys2Proof.Machine
end

