-- ==== Sys2Proof/Laws/KeptCtl.lean ====
section
/-! SUPPORT. The operations of Machine/Ctl.lean keep what Laws/Kept.lean says. -/

-- One declaration after another: the package is compiled as one text, and its memory stays within bounds.
set_option Elab.async false

namespace Sys2Proof.Machine

theorem State.setOut_kept {s₀ s : State} (h₀ : State.Kept s₀ s) (n : Nat) (v : CtlOut) : State.Kept s₀ (State.setOut s n v) := by
  unfold State.setOut
  repeat' first
    | with_reducible assumption
    | intro x; first | (refine (fun (hx : State.Kept s₀ x) => ?_) ?_); clear_value x; rotate_left; subst x | subst x
    | lift_lets -underBinder +implicits
    | with_reducible refine .ite (fun _ => ?_) (fun _ => ?_)
    | split
    | with_reducible refine State.Kept.mk_iff.2 ?_

theorem State.setOutState_kept {s₀ s : State} (h₀ : State.Kept s₀ s) (n v : Nat) : State.Kept s₀ (State.setOutState s n v) := by
  unfold State.setOutState
  repeat' first
    | with_reducible assumption
    | with_reducible apply State.wf_kept
    | with_reducible refine .ite (fun _ => ?_) (fun _ => ?_)
    | split

theorem State.showIlk_kept {s₀ s : State} (h₀ : State.Kept s₀ s)  : State.Kept s₀ (State.showIlk s) := by
  unfold State.showIlk
  repeat' first
    | with_reducible assumption
    | with_reducible apply State.wr_kept
    | with_reducible refine .ite (fun _ => ?_) (fun _ => ?_)
    | split

theorem State.armAnswer_kept {s₀ s : State} (h₀ : State.Kept s₀ s) (n : Nat) (sub : Option (Nat × Nat × Nat × Nat)) (st : Status) : State.Kept s₀ (State.armAnswer s n sub st) := by
  unfold State.armAnswer
  repeat' first
    | with_reducible assumption
    | intro x; first | (refine (fun (hx : State.Kept s₀ x) => ?_) ?_); clear_value x; rotate_left; subst x | subst x
    | lift_lets -underBinder +implicits
    | with_reducible apply State.complete_kept
    | with_reducible apply State.wr_kept
    | with_reducible refine .ite (fun _ => ?_) (fun _ => ?_)
    | split

theorem State.outResolve_kept {s₀ s : State} (h₀ : State.Kept s₀ s) (n : Nat) (st : Status) : State.Kept s₀ (State.outResolve s n st) := by
  unfold State.outResolve
  repeat' first
    | with_reducible assumption
    | intro x; first | (refine (fun (hx : State.Kept s₀ x) => ?_) ?_); clear_value x; rotate_left; subst x | subst x
    | lift_lets -underBinder +implicits
    | with_reducible apply State.armAnswer_kept
    | with_reducible apply State.cause_kept
    | with_reducible apply State.pulseEnd_kept
    | with_reducible apply State.record_kept
    | with_reducible apply State.setFix_kept
    | with_reducible apply State.setOut_kept
    | with_reducible apply State.setOutState_kept
    | with_reducible apply State.wf_kept
    | with_reducible refine .ite (fun _ => ?_) (fun _ => ?_)
    | split
    | with_reducible refine State.Kept.mk_iff.2 ?_

theorem State.outArm_kept {s₀ s : State} (h₀ : State.Kept s₀ s) (n cyc ph : Nat) (sub : Option (Nat × Nat × Nat × Nat)) : State.Kept s₀ (State.outArm s n cyc ph sub) := by
  unfold State.outArm
  repeat' first
    | with_reducible assumption
    | intro x; first | (refine (fun (hx : State.Kept s₀ x) => ?_) ?_); clear_value x; rotate_left; subst x | subst x
    | lift_lets -underBinder +implicits
    | with_reducible apply State.armAnswer_kept
    | with_reducible apply State.complete_kept
    | with_reducible apply State.pulseEnd_kept
    | with_reducible apply State.setFix_kept
    | with_reducible apply State.setOut_kept
    | with_reducible apply State.setOutState_kept
    | with_reducible apply State.wr64_kept
    | with_reducible refine .ite (fun _ => ?_) (fun _ => ?_)
    | split

theorem State.ctlArm_kept {s₀ s : State} (h₀ : State.Kept s₀ s) (c : Sub) : State.Kept s₀ (State.ctlArm s c) := by
  unfold State.ctlArm
  repeat' first
    | with_reducible assumption
    | intro x; first | (refine (fun (hx : State.Kept s₀ x) => ?_) ?_); clear_value x; rotate_left; subst x | subst x
    | lift_lets -underBinder +implicits
    | with_reducible apply State.finishTag_kept
    | with_reducible apply State.outArm_kept
    | with_reducible refine .ite (fun _ => ?_) (fun _ => ?_)
    | split

theorem State.outDisarm_kept {s₀ s : State} (h₀ : State.Kept s₀ s) (n : Nat) : State.Kept s₀ (State.outDisarm s n) := by
  unfold State.outDisarm
  repeat' first
    | with_reducible assumption
    | intro x; first | (refine (fun (hx : State.Kept s₀ x) => ?_) ?_); clear_value x; rotate_left; subst x | subst x
    | lift_lets -underBinder +implicits
    | with_reducible apply State.outResolve_kept
    | with_reducible apply State.setOut_kept
    | with_reducible refine .ite (fun _ => ?_) (fun _ => ?_)
    | split
    | with_reducible refine State.Kept.mk_iff.2 ?_

theorem State.ctlDisarmOut_kept {s₀ s : State} (h₀ : State.Kept s₀ s) (n : Nat) : State.Kept s₀ (State.ctlDisarmOut s n) := by
  unfold State.ctlDisarmOut
  repeat' first
    | with_reducible assumption
    | with_reducible apply State.outDisarm_kept
    | with_reducible refine .ite (fun _ => ?_) (fun _ => ?_)
    | split

theorem State.ctlDisarm_kept {s₀ s : State} (h₀ : State.Kept s₀ s) (c : Sub) : State.Kept s₀ (State.ctlDisarm s c) := by
  unfold State.ctlDisarm
  repeat' first
    | with_reducible assumption
    | intro x; first | (refine (fun (hx : State.Kept s₀ x) => ?_) ?_); clear_value x; rotate_left; subst x | subst x
    | lift_lets -underBinder +implicits
    | with_reducible apply State.ctlDisarmOut_kept
    | with_reducible apply State.finish_kept
    | with_reducible refine .ite (fun _ => ?_) (fun _ => ?_)
    | split

theorem State.clrLock_kept {s₀ s : State} (h₀ : State.Kept s₀ s) (n : Nat) : State.Kept s₀ (State.clrLock s n) := by
  unfold State.clrLock
  repeat' first
    | with_reducible assumption
    | intro x; first | (refine (fun (hx : State.Kept s₀ x) => ?_) ?_); clear_value x; rotate_left; subst x | subst x
    | lift_lets -underBinder +implicits
    | with_reducible apply State.setOut_kept
    | with_reducible apply State.setOutState_kept
    | with_reducible refine .ite (fun _ => ?_) (fun _ => ?_)
    | split
    | with_reducible refine State.Kept.mk_iff.2 ?_

theorem State.outStop_kept {s₀ s : State} (h₀ : State.Kept s₀ s) (n : Nat) : State.Kept s₀ (State.outStop s n) := by
  unfold State.outStop
  repeat' first
    | with_reducible assumption
    | intro x; first | (refine (fun (hx : State.Kept s₀ x) => ?_) ?_); clear_value x; rotate_left; subst x | subst x
    | lift_lets -underBinder +implicits
    | with_reducible apply State.outResolve_kept
    | with_reducible apply State.setOut_kept
    | with_reducible refine .ite (fun _ => ?_) (fun _ => ?_)
    | split
    | with_reducible refine State.Kept.mk_iff.2 ?_

theorem State.interlockChange_kept {s₀ s : State} (h₀ : State.Kept s₀ s) (i : Nat) (level : Bool) : State.Kept s₀ (State.interlockChange s i level) := by
  unfold State.interlockChange
  repeat' first
    | with_reducible assumption
    | intro x; first | (refine (fun (hx : State.Kept s₀ x) => ?_) ?_); clear_value x; rotate_left; subst x | subst x
    | lift_lets -underBinder +implicits
    | with_reducible apply State.cause_kept
    | with_reducible apply State.outResolve_kept
    | with_reducible apply State.outStop_kept
    | with_reducible apply State.setOut_kept
    | with_reducible apply State.showIlk_kept
    | with_reducible apply State.skip_kept
    | with_reducible refine .ite (fun _ => ?_) (fun _ => ?_)
    | with_reducible refine .foldl (fun _ _ _ => ?_) ?_
    | split
    | with_reducible refine State.Kept.mk_iff.2 ?_

theorem State.outFire_kept {s₀ s : State} (h₀ : State.Kept s₀ s) (n i : Nat) : State.Kept s₀ (State.outFire s n i) := by
  unfold State.outFire
  repeat' first
    | with_reducible assumption
    | intro x; first | (refine (fun (hx : State.Kept s₀ x) => ?_) ?_); clear_value x; rotate_left; subst x | subst x
    | lift_lets -underBinder +implicits
    | with_reducible apply State.fired_kept
    | with_reducible apply State.incF_kept
    | with_reducible apply State.outResolve_kept
    | with_reducible apply State.setFix_kept
    | with_reducible apply State.setOut_kept
    | with_reducible apply State.setOutState_kept
    | with_reducible apply State.skip_kept
    | with_reducible apply State.wr_kept
    | with_reducible refine .ite (fun _ => ?_) (fun _ => ?_)
    | split
    | with_reducible refine State.Kept.mk_iff.2 ?_

theorem State.ctlFire_kept {s₀ s : State} (h₀ : State.Kept s₀ s) (i : Nat) : State.Kept s₀ (State.ctlFire s i) := by
  unfold State.ctlFire
  repeat' first
    | with_reducible assumption
    | intro x; first | (refine (fun (hx : State.Kept s₀ x) => ?_) ?_); clear_value x; rotate_left; subst x | subst x
    | lift_lets -underBinder +implicits
    | with_reducible apply State.outFire_kept
    | with_reducible apply State.skip_kept
    | with_reducible refine .ite (fun _ => ?_) (fun _ => ?_)
    | split

theorem State.fbFail_kept {s₀ s : State} (h₀ : State.Kept s₀ s) (n : Nat) (st : Status) : State.Kept s₀ (State.fbFail s n st) := by
  unfold State.fbFail
  repeat' first
    | with_reducible assumption
    | intro x; first | (refine (fun (hx : State.Kept s₀ x) => ?_) ?_); clear_value x; rotate_left; subst x | (refine (fun (hx : State.Kept s₀ x.1) => ?_) ?_); clear_value x; rotate_left; subst x | subst x
    | lift_lets -underBinder +implicits
    | with_reducible apply State.cause_kept
    | with_reducible apply State.faultEvent_kept
    | with_reducible apply State.incF_kept
    | with_reducible apply State.outResolve_kept
    | with_reducible apply State.record_kept
    | with_reducible apply State.setOut_kept
    | with_reducible refine .ite (fun _ => ?_) (fun _ => ?_)
    | with_reducible refine .ofFst (by assumption) ?_
    | split
    | with_reducible refine State.Kept.mk_iff.2 ?_

theorem State.feedbackEdge_kept {s₀ s : State} (h₀ : State.Kept s₀ s) (n : Nat) (level : Bool) : State.Kept s₀ (State.feedbackEdge s n level) := by
  unfold State.feedbackEdge
  repeat' first
    | with_reducible assumption
    | intro x; first | (refine (fun (hx : State.Kept s₀ x) => ?_) ?_); clear_value x; rotate_left; subst x | subst x
    | lift_lets -underBinder +implicits
    | with_reducible apply State.cause_kept
    | with_reducible apply State.fbFail_kept
    | with_reducible apply State.outResolve_kept
    | with_reducible apply State.pulseEnd_kept
    | with_reducible apply State.record_kept
    | with_reducible apply State.setOut_kept
    | with_reducible apply State.setOutState_kept
    | with_reducible apply State.wf_kept
    | with_reducible refine .ite (fun _ => ?_) (fun _ => ?_)
    | split
    | with_reducible refine State.Kept.mk_iff.2 ?_

theorem State.feedbackTimeout_kept {s₀ s : State} (h₀ : State.Kept s₀ s) (n : Nat) : State.Kept s₀ (State.feedbackTimeout s n) := by
  unfold State.feedbackTimeout
  repeat' first
    | with_reducible assumption
    | intro x; first | (refine (fun (hx : State.Kept s₀ x) => ?_) ?_); clear_value x; rotate_left; subst x | subst x
    | lift_lets -underBinder +implicits
    | with_reducible apply State.fbFail_kept
    | with_reducible refine .ite (fun _ => ?_) (fun _ => ?_)
    | split

theorem State.pulseEnd_kept {s₀ s : State} (h₀ : State.Kept s₀ s) (n : Nat) : State.Kept s₀ (State.pulseEnd s n) := by
  unfold State.pulseEnd
  repeat' first
    | with_reducible assumption
    | intro x; first | (refine (fun (hx : State.Kept s₀ x) => ?_) ?_); clear_value x; rotate_left; subst x | subst x
    | lift_lets -underBinder +implicits
    | with_reducible apply State.outResolve_kept
    | with_reducible apply State.setOut_kept
    | with_reducible refine .ite (fun _ => ?_) (fun _ => ?_)
    | split
    | with_reducible refine State.Kept.mk_iff.2 ?_

theorem State.ctlModeLeft_kept {s₀ s : State} (h₀ : State.Kept s₀ s)  : State.Kept s₀ (State.ctlModeLeft s) := by
  unfold State.ctlModeLeft
  repeat' first
    | with_reducible assumption
    | intro x; first | (refine (fun (hx : State.Kept s₀ x) => ?_) ?_); clear_value x; rotate_left; subst x | subst x
    | lift_lets -underBinder +implicits
    | with_reducible apply State.outDisarm_kept
    | with_reducible apply State.setOut_kept
    | with_reducible refine .ite (fun _ => ?_) (fun _ => ?_)
    | with_reducible refine .foldl (fun _ _ _ => ?_) ?_
    | split
    | with_reducible refine State.Kept.mk_iff.2 ?_

end Sys2Proof.Machine
end

