-- ==== Sys2Proof/Laws/KeptModes.lean ====
section
/-! SUPPORT. The operations of Machine/Modes.lean keep what Laws/Kept.lean says. -/

-- One declaration after another: the package is compiled as one text, and its memory stays within bounds.
set_option Elab.async false

namespace Sys2Proof.Machine

/-- The level a mode leaves is no higher than the present one. -/
theorem State.levelIn_le (s : State) (m : Nat) : s.levelIn m ≤ s.sec.dbg := by
  unfold State.levelIn
  split
  · rename_i h
    exact of_decide_eq_true (Bool.and_eq_true_iff.1 h).2
  · exact Nat.zero_le _

theorem State.testEnd_kept {s₀ s : State} (h₀ : State.Kept s₀ s) (st : Status) (v : Nat) : State.Kept s₀ (State.testEnd s st v) := by
  unfold State.testEnd
  repeat' first
    | with_reducible assumption
    | intro x; first | (refine (fun (hx : State.Kept s₀ x) => ?_) ?_); clear_value x; rotate_left; subst x | (refine (fun (hx : State.Kept s₀ x.1) => ?_) ?_); clear_value x; rotate_left; subst x | subst x
    | lift_lets -underBinder +implicits
    | with_reducible apply State.cause_kept
    | with_reducible apply State.faultEvent_kept
    | with_reducible apply State.record_kept
    | with_reducible apply State.wr_kept
    | with_reducible refine .ite (fun _ => ?_) (fun _ => ?_)
    | with_reducible refine .ofFst (by assumption) ?_
    | split
    | with_reducible refine State.Kept.mk_iff.2 ?_

theorem State.loopStop_kept {s₀ s : State} (h₀ : State.Kept s₀ s)  : State.Kept s₀ (State.loopStop s) := by
  unfold State.loopStop
  repeat' first
    | with_reducible assumption
    | intro x; first | (refine (fun (hx : State.Kept s₀ x) => ?_) ?_); clear_value x; rotate_left; subst x | subst x
    | lift_lets -underBinder +implicits
    | with_reducible apply State.testEnd_kept
    | with_reducible refine .ite (fun _ => ?_) (fun _ => ?_)
    | split

theorem State.modeClocks_kept {s₀ s : State} (h₀ : State.Kept s₀ s) (m : Nat) : State.Kept s₀ (State.modeClocks s m) := by
  unfold State.modeClocks
  repeat' first
    | with_reducible assumption
    | intro x; first | (refine (fun (hx : State.Kept s₀ x) => ?_) ?_); clear_value x; rotate_left; subst x | subst x
    | lift_lets -underBinder +implicits
    | with_reducible apply State.pllOff_kept
    | with_reducible apply State.pllStart_kept
    | with_reducible apply State.wb_kept
    | with_reducible refine .ite (fun _ => ?_) (fun _ => ?_)
    | split

theorem State.linksOff_kept {s₀ s : State} (h₀ : State.Kept s₀ s)  : State.Kept s₀ (State.linksOff s) := by
  unfold State.linksOff
  repeat' first
    | with_reducible assumption
    | intro x; first | (refine (fun (hx : State.Kept s₀ x) => ?_) ?_); clear_value x; rotate_left; subst x | subst x
    | lift_lets -underBinder +implicits
    | with_reducible apply State.hostAbsent_kept
    | with_reducible apply State.wr_kept
    | with_reducible refine .ite (fun _ => ?_) (fun _ => ?_)
    | split

theorem State.leaseCommit_kept {s₀ s : State} (h₀ : State.Kept s₀ s)  : State.Kept s₀ (State.leaseCommit s) := by
  unfold State.leaseCommit
  repeat' first
    | with_reducible assumption
    | intro x; first | (refine (fun (hx : State.Kept s₀ x) => ?_) ?_); clear_value x; rotate_left; subst x | subst x
    | lift_lets -underBinder +implicits
    | with_reducible apply State.commitReq_kept
    | with_reducible refine .ite (fun _ => ?_) (fun _ => ?_)
    | split
    | with_reducible refine State.Kept.mk_iff.2 ?_

theorem State.leaseCommitDue_kept {s₀ s : State} (h₀ : State.Kept s₀ s)  : State.Kept s₀ (State.leaseCommitDue s) := by
  unfold State.leaseCommitDue
  repeat' first
    | with_reducible assumption
    | with_reducible apply State.leaseCommit_kept
    | with_reducible refine .ite (fun _ => ?_) (fun _ => ?_)
    | split

theorem State.dormantEntry_kept {s₀ s : State} (h₀ : State.Kept s₀ s)  : State.Kept s₀ (State.dormantEntry s) := by
  unfold State.dormantEntry
  repeat' first
    | with_reducible assumption
    | intro x; first | (refine (fun (hx : State.Kept s₀ x) => ?_) ?_); clear_value x; rotate_left; subst x | subst x
    | lift_lets -underBinder +implicits
    | with_reducible apply State.cellReturnDone_kept
    | with_reducible apply State.epStore_kept
    | with_reducible apply State.flushWork_kept
    | with_reducible apply State.leaseCommit_kept
    | with_reducible apply State.resolveWhere_kept
    | with_reducible apply State.scorebookStore_kept
    | with_reducible apply State.spoolCheck_kept
    | with_reducible refine .ite (fun _ => ?_) (fun _ => ?_)
    | with_reducible refine .foldl (fun _ _ _ => ?_) ?_
    | split
    | with_reducible refine State.Kept.mk_iff.2 ?_

theorem State.powerOff_kept {s₀ s : State} (h₀ : State.Kept s₀ s) : State.Kept s₀ s.powerOff := by
  have h1 : State.Kept s₀ s.wipeSlots.closeSessions := State.closeSessions_kept (State.wipeSlots_kept h₀)
  have h2 : ∀ r (l : List Nat), State.Kept s₀ (l.foldl (fun (s : State) c => s.aesFinish c 0)
      { s.wipeSlots.closeSessions with sec := { s.wipeSlots.closeSessions.sec with runs := r } }) := fun r l =>
    .foldl (fun _ _ h => State.aesFinish_kept h ..) (State.Kept.mkSec_iff.2 h1)
  exact State.linksOff_kept (State.lgcPowerOff_kept ((h2 _ _).trans ⟨rfl, rfl, Nat.le_refl _, fun w => ⟨w.1, rfl, rfl, w.2.2.2⟩, id, Nat.le_refl _⟩))

theorem State.modeResult_kept {s₀ s : State} (h₀ : State.Kept s₀ s) (st : Status) : State.Kept s₀ (State.modeResult s st) := by
  unfold State.modeResult
  repeat' first
    | with_reducible assumption
    | with_reducible apply State.wf_kept
    | with_reducible refine .ite (fun _ => ?_) (fun _ => ?_)
    | split

theorem State.showTarget_kept {s₀ s : State} (h₀ : State.Kept s₀ s)  : State.Kept s₀ (State.showTarget s) := by
  unfold State.showTarget
  repeat' first
    | with_reducible assumption
    | intro x; first | (refine (fun (hx : State.Kept s₀ x) => ?_) ?_); clear_value x; rotate_left; subst x | subst x
    | lift_lets -underBinder +implicits
    | with_reducible apply State.wf_kept
    | with_reducible refine .ite (fun _ => ?_) (fun _ => ?_)
    | split

theorem State.memLeft_kept {s₀ s : State} (h₀ : State.Kept s₀ s) : State.Kept s₀ s.memLeft := h₀.filterMem _

theorem State.enterMode_kept {s₀ s : State} (h₀ : State.Kept s₀ s) (q : ModeReq) : State.Kept s₀ (State.enterMode s q) := by
  unfold State.enterMode
  repeat' first
    | with_reducible assumption
    | intro x; first | (refine (fun (hx : State.Kept s₀ x) => ?_) ?_); clear_value x; rotate_left; subst x | subst x
    | lift_lets -underBinder +implicits
    | with_reducible apply State.closeSessions_kept
    | with_reducible apply State.ctlModeLeft_kept
    | with_reducible apply State.dormantEntry_kept
    | with_reducible apply State.lgcMode_kept
    | with_reducible apply State.linksOff_kept
    | with_reducible apply State.loopStop_kept
    | with_reducible apply State.memLeft_kept
    | with_reducible apply State.modeClocks_kept
    | with_reducible apply State.sWaits_kept
    | with_reducible apply State.setDebug_kept
    | with_reducible apply State.srvNext_kept
    | with_reducible apply State.stopPort_kept
    | with_reducible apply State.wb_kept
    | with_reducible apply State.wf_kept
    | with_reducible apply State.wipeSlots_kept
    | with_reducible apply State.wr64_kept
    | with_reducible refine .ite (fun _ => ?_) (fun _ => ?_)
    | with_reducible refine .foldl (fun _ _ _ => ?_) ?_
    | exact Nat.zero_le _
    | exact State.levelIn_le ..
    | split
    | with_reducible refine State.Kept.filterMem ?_ _
    | with_reducible refine State.Kept.mkSec_iff.2 ?_
    | with_reducible refine State.Kept.mk_iff.2 ?_

theorem State.modeDone_kept {s₀ s : State} (h₀ : State.Kept s₀ s)  : State.Kept s₀ (State.modeDone s) := by
  unfold State.modeDone
  repeat' first
    | with_reducible assumption
    | intro x; first | (refine (fun (hx : State.Kept s₀ x) => ?_) ?_); clear_value x; rotate_left; subst x | subst x
    | lift_lets -underBinder +implicits
    | with_reducible apply State.cause_kept
    | with_reducible apply State.incF_kept
    | with_reducible apply State.modeResult_kept
    | with_reducible apply State.powerOff_kept
    | with_reducible apply State.showTarget_kept
    | with_reducible apply State.wb_kept
    | with_reducible apply State.wf_kept
    | with_reducible apply State.wr_kept
    | with_reducible refine .ite (fun _ => ?_) (fun _ => ?_)
    | split
    | with_reducible refine State.Kept.mk_iff.2 ?_

theorem State.modeRefuse_kept {s₀ s : State} (h₀ : State.Kept s₀ s)  : State.Kept s₀ (State.modeRefuse s) := by
  unfold State.modeRefuse
  repeat' first
    | with_reducible assumption
    | with_reducible apply State.cause_kept
    | with_reducible apply State.incF_kept
    | with_reducible apply State.modeResult_kept
    | with_reducible refine .ite (fun _ => ?_) (fun _ => ?_)
    | split

theorem State.dropWait_kept {s₀ s : State} (h₀ : State.Kept s₀ s)  : State.Kept s₀ (State.dropWait s) := by
  unfold State.dropWait
  repeat' first
    | with_reducible assumption
    | intro x; first | (refine (fun (hx : State.Kept s₀ x) => ?_) ?_); clear_value x; rotate_left; subst x | subst x
    | lift_lets -underBinder +implicits
    | with_reducible apply State.modeResult_kept
    | with_reducible apply State.showTarget_kept
    | with_reducible apply State.wb_kept
    | with_reducible refine .ite (fun _ => ?_) (fun _ => ?_)
    | split
    | with_reducible refine State.Kept.mk_iff.2 ?_

theorem State.dropChange_kept {s₀ s : State} (h₀ : State.Kept s₀ s)  : State.Kept s₀ (State.dropChange s) := by
  unfold State.dropChange
  repeat' first
    | with_reducible assumption
    | intro x; first | (refine (fun (hx : State.Kept s₀ x) => ?_) ?_); clear_value x; rotate_left; subst x | subst x
    | lift_lets -underBinder +implicits
    | with_reducible apply State.modeResult_kept
    | with_reducible refine .ite (fun _ => ?_) (fun _ => ?_)
    | split
    | with_reducible refine State.Kept.mk_iff.2 ?_

theorem State.modeReq_kept {s₀ s : State} (h₀ : State.Kept s₀ s) (m src : Nat) : State.Kept s₀ (State.modeReq s m src) := by
  unfold State.modeReq
  repeat' first
    | with_reducible assumption
    | intro x; first | (refine (fun (hx : State.Kept s₀ x) => ?_) ?_); clear_value x; rotate_left; subst x | subst x
    | lift_lets -underBinder +implicits
    | with_reducible apply State.dropChange_kept
    | with_reducible apply State.dropWait_kept
    | with_reducible apply State.enterMode_kept
    | with_reducible apply State.modeRefuse_kept
    | with_reducible apply State.modeResult_kept
    | with_reducible apply State.showTarget_kept
    | with_reducible apply State.wb_kept
    | with_reducible refine .ite (fun _ => ?_) (fun _ => ?_)
    | split
    | with_reducible refine State.Kept.mk_iff.2 ?_

theorem State.modeSwitch_kept {s₀ s : State} (h₀ : State.Kept s₀ s)  : State.Kept s₀ (State.modeSwitch s) := by
  unfold State.modeSwitch
  repeat' first
    | with_reducible assumption
    | intro x; first | (refine (fun (hx : State.Kept s₀ x) => ?_) ?_); clear_value x; rotate_left; subst x | subst x
    | lift_lets -underBinder +implicits
    | with_reducible apply State.enterMode_kept
    | with_reducible apply State.modeRefuse_kept
    | with_reducible apply State.showTarget_kept
    | with_reducible apply State.wb_kept
    | with_reducible refine .ite (fun _ => ?_) (fun _ => ?_)
    | split
    | with_reducible refine State.Kept.mk_iff.2 ?_

theorem State.modeSettle_kept {s₀ s : State} (h₀ : State.Kept s₀ s)  : State.Kept s₀ (State.modeSettle s) := by
  unfold State.modeSettle
  repeat' first
    | with_reducible assumption
    | intro x; first | (refine (fun (hx : State.Kept s₀ x) => ?_) ?_); clear_value x; rotate_left; subst x | subst x
    | lift_lets -underBinder +implicits
    | with_reducible apply State.modeDone_kept
    | with_reducible apply State.modeSwitch_kept
    | with_reducible refine .ite (fun _ => ?_) (fun _ => ?_)
    | split

theorem State.woken_kept {s₀ s : State} (h₀ : State.Kept s₀ s) (src : Nat) : State.Kept s₀ (State.woken s src) := by
  unfold State.woken
  repeat' first
    | with_reducible assumption
    | with_reducible apply State.cause_kept
    | with_reducible apply State.incF_kept
    | with_reducible apply State.wf_kept
    | with_reducible refine .ite (fun _ => ?_) (fun _ => ?_)
    | split

theorem State.wake_kept {s₀ s : State} (h₀ : State.Kept s₀ s) (src m : Nat) : State.Kept s₀ (State.wake s src m) := by
  unfold State.wake
  repeat' first
    | with_reducible assumption
    | with_reducible apply State.modeReq_kept
    | with_reducible apply State.woken_kept
    | with_reducible refine .ite (fun _ => ?_) (fun _ => ?_)
    | split

theorem State.forceSafe_kept {s₀ s : State} (h₀ : State.Kept s₀ s) (src : Nat) : State.Kept s₀ (State.forceSafe s src) := by
  unfold State.forceSafe
  repeat' first
    | with_reducible assumption
    | intro x; first | (refine (fun (hx : State.Kept s₀ x) => ?_) ?_); clear_value x; rotate_left; subst x | subst x
    | lift_lets -underBinder +implicits
    | with_reducible apply State.dropChange_kept
    | with_reducible apply State.dropWait_kept
    | with_reducible apply State.enterMode_kept
    | with_reducible apply State.modeResult_kept
    | with_reducible refine .ite (fun _ => ?_) (fun _ => ?_)
    | split
    | with_reducible refine State.Kept.mk_iff.2 ?_

theorem State.safeAssert_kept {s₀ s : State} (h₀ : State.Kept s₀ s)  : State.Kept s₀ (State.safeAssert s) := by
  unfold State.safeAssert
  repeat' first
    | with_reducible assumption
    | intro x; first | (refine (fun (hx : State.Kept s₀ x) => ?_) ?_); clear_value x; rotate_left; subst x | subst x
    | lift_lets -underBinder +implicits
    | with_reducible apply State.cause_kept
    | with_reducible apply State.forceSafe_kept
    | with_reducible apply State.loopStop_kept
    | with_reducible apply State.modeResult_kept
    | with_reducible apply State.pageRecord_kept
    | with_reducible apply State.wb_kept
    | with_reducible apply State.woken_kept
    | with_reducible refine .ite (fun _ => ?_) (fun _ => ?_)
    | split
    | with_reducible refine State.Kept.mk_iff.2 ?_

theorem State.safeRelease_kept {s₀ s : State} (h₀ : State.Kept s₀ s)  : State.Kept s₀ (State.safeRelease s) := by
  unfold State.safeRelease
  repeat' first
    | with_reducible assumption
    | intro x; first | (refine (fun (hx : State.Kept s₀ x) => ?_) ?_); clear_value x; rotate_left; subst x | subst x
    | lift_lets -underBinder +implicits
    | with_reducible refine .ite (fun _ => ?_) (fun _ => ?_)
    | split
    | with_reducible refine State.Kept.mk_iff.2 ?_

theorem State.hostAttach_kept {s₀ s : State} (h₀ : State.Kept s₀ s)  : State.Kept s₀ (State.hostAttach s) := by
  unfold State.hostAttach
  repeat' first
    | with_reducible assumption
    | with_reducible apply State.wake_kept
    | with_reducible refine .ite (fun _ => ?_) (fun _ => ?_)
    | split

theorem State.xtalFailed_kept {s₀ s : State} (h₀ : State.Kept s₀ s) (n : Nat) : State.Kept s₀ (State.xtalFailed s n) := by
  unfold State.xtalFailed
  repeat' first
    | with_reducible assumption
    | with_reducible apply State.cause_kept
    | with_reducible apply State.incF_kept
    | with_reducible apply State.pageRecord_kept
    | with_reducible apply State.wb_kept
    | with_reducible refine .ite (fun _ => ?_) (fun _ => ?_)
    | split

theorem State.xtal32Fail_kept {s₀ s : State} (h₀ : State.Kept s₀ s)  : State.Kept s₀ (State.xtal32Fail s) := by
  unfold State.xtal32Fail
  repeat' first
    | with_reducible assumption
    | intro x; first | (refine (fun (hx : State.Kept s₀ x) => ?_) ?_); clear_value x; rotate_left; subst x | subst x
    | lift_lets -underBinder +implicits
    | with_reducible apply State.forceSafe_kept
    | with_reducible apply State.wb_kept
    | with_reducible apply State.xtalFailed_kept
    | with_reducible refine .ite (fun _ => ?_) (fun _ => ?_)
    | split
    | with_reducible refine State.Kept.mk_iff.2 ?_

theorem State.noClock_kept {s₀ s : State} (h₀ : State.Kept s₀ s)  : State.Kept s₀ (State.noClock s) := by
  unfold State.noClock
  repeat' first
    | with_reducible assumption
    | with_reducible apply State.dropChange_kept
    | with_reducible apply State.dropWait_kept
    | with_reducible apply State.enterMode_kept
    | with_reducible apply State.pllOff_kept
    | with_reducible refine .ite (fun _ => ?_) (fun _ => ?_)
    | split

theorem State.xtal25Fail_kept {s₀ s : State} (h₀ : State.Kept s₀ s)  : State.Kept s₀ (State.xtal25Fail s) := by
  unfold State.xtal25Fail
  repeat' first
    | with_reducible assumption
    | intro x; first | (refine (fun (hx : State.Kept s₀ x) => ?_) ?_); clear_value x; rotate_left; subst x | subst x
    | lift_lets -underBinder +implicits
    | with_reducible apply State.noClock_kept
    | with_reducible apply State.xtalFailed_kept
    | with_reducible refine .ite (fun _ => ?_) (fun _ => ?_)
    | split
    | with_reducible refine State.Kept.mk_iff.2 ?_

theorem State.refLost_kept {s₀ s : State} (h₀ : State.Kept s₀ s)  : State.Kept s₀ (State.refLost s) := by
  unfold State.refLost
  repeat' first
    | with_reducible assumption
    | intro x; first | (refine (fun (hx : State.Kept s₀ x) => ?_) ?_); clear_value x; rotate_left; subst x | subst x
    | lift_lets -underBinder +implicits
    | with_reducible apply State.cause_kept
    | with_reducible apply State.incF_kept
    | with_reducible apply State.noClock_kept
    | with_reducible apply State.pageRecord_kept
    | with_reducible apply State.wb_kept
    | with_reducible refine .ite (fun _ => ?_) (fun _ => ?_)
    | split

theorem State.refRestore_kept {s₀ s : State} (h₀ : State.Kept s₀ s)  : State.Kept s₀ (State.refRestore s) := by
  unfold State.refRestore
  repeat' first
    | with_reducible assumption
    | with_reducible apply State.wb_kept
    | with_reducible refine .ite (fun _ => ?_) (fun _ => ?_)
    | split

theorem State.pllStop_kept {s₀ s : State} (h₀ : State.Kept s₀ s)  : State.Kept s₀ (State.pllStop s) := by
  unfold State.pllStop
  repeat' first
    | with_reducible assumption
    | intro x; first | (refine (fun (hx : State.Kept s₀ x) => ?_) ?_); clear_value x; rotate_left; subst x | subst x
    | lift_lets -underBinder +implicits
    | with_reducible apply State.pllOff_kept
    | with_reducible refine .ite (fun _ => ?_) (fun _ => ?_)
    | split
    | with_reducible refine State.Kept.mk_iff.2 ?_

end Sys2Proof.Machine
end

