-- ==== Sys2Proof/Laws/KeptBench.lean ====
section
/-! SUPPORT. The operations of Machine/Bench.lean keep what Laws/Kept.lean says. -/

-- One declaration after another: the package is compiled as one text, and its memory stays within bounds.
set_option Elab.async false

namespace Sys2Proof.Machine

theorem State.setEng_kept {s₀ s : State} (h₀ : State.Kept s₀ s) (e st l : Nat) : State.Kept s₀ (State.setEng s e st l) := by
  unfold State.setEng
  repeat' first
    | with_reducible assumption
    | with_reducible apply State.wf_kept
    | with_reducible refine .ite (fun _ => ?_) (fun _ => ?_)
    | split

theorem State.useSpare_kept {s₀ s : State} (h₀ : State.Kept s₀ s) (k : Nat) : State.Kept s₀ (State.useSpare s k) := by
  unfold State.useSpare
  repeat' first
    | with_reducible assumption
    | intro x; first | (refine (fun (hx : State.Kept s₀ x) => ?_) ?_); clear_value x; rotate_left; subst x | subst x
    | lift_lets -underBinder +implicits
    | with_reducible apply State.benchEmpty_kept
    | with_reducible refine .ite (fun _ => ?_) (fun _ => ?_)
    | split
    | with_reducible refine State.Kept.mk_iff.2 ?_

theorem State.assignDue_kept {s₀ s : State} (h₀ : State.Kept s₀ s)  : State.Kept s₀ (State.assignDue s) := by
  unfold State.assignDue
  repeat' first
    | with_reducible assumption
    | intro x; first | (refine (fun (hx : State.Kept s₀ x) => ?_) ?_); clear_value x; rotate_left; subst x | subst x
    | lift_lets -underBinder +implicits
    | with_reducible refine .ite (fun _ => ?_) (fun _ => ?_)
    | with_reducible refine .foldl (fun _ _ _ => ?_) ?_
    | split
    | with_reducible refine State.Kept.mk_iff.2 ?_

theorem State.becomeDue_kept {s₀ s : State} (h₀ : State.Kept s₀ s) (l : Nat) (card cmd : Bool) : State.Kept s₀ (State.becomeDue s l card cmd) := by
  unfold State.becomeDue
  repeat' first
    | with_reducible assumption
    | intro x; first | (refine (fun (hx : State.Kept s₀ x) => ?_) ?_); clear_value x; rotate_left; subst x | (refine (fun (hx : ∀ a, State.Kept s₀ a → State.Kept s₀ (x a)) => ?_) ?_); clear_value x; rotate_left; subst x; intro _ _ | (refine (fun (hx : ∀ a b, State.Kept s₀ a → State.Kept s₀ (x a b).1) => ?_) ?_); clear_value x; rotate_left; subst x; intro _ _ _ | (refine (fun (hx : ∀ a b, State.Kept s₀ a → State.Kept s₀ (x a b)) => ?_) ?_); clear_value x; rotate_left; subst x; intro _ _ _ | (refine (fun (hx : ∀ a, State.Kept s₀ (x a)) => ?_) ?_); clear_value x; rotate_left; subst x; intro _ | (refine (fun (hx : ∀ a b, State.Kept s₀ (x a b)) => ?_) ?_); clear_value x; rotate_left; subst x; intro _ _ | subst x
    | lift_lets -underBinder +implicits
    | with_reducible apply State.assignDue_kept
    | with_reducible apply State.pageRecord_kept
    | with_reducible refine .ite (fun _ => ?_) (fun _ => ?_)
    | with_reducible refine .foldl (fun _ _ _ => ?_) ?_
    | with_reducible refine .foldlFst (fun _ _ _ => ?_) ?_
    | with_reducible apply_assumption -exfalso
    | dsimp -zeta only
    | split
    | with_reducible refine State.Kept.mk_iff.2 ?_

theorem State.workLost_kept {s₀ s : State} (h₀ : State.Kept s₀ s) (work : Option Nat) : State.Kept s₀ (State.workLost s work) := by
  unfold State.workLost
  repeat' first
    | with_reducible assumption
    | intro x; first | (refine (fun (hx : State.Kept s₀ x) => ?_) ?_); clear_value x; rotate_left; subst x | subst x
    | lift_lets -underBinder +implicits
    | with_reducible apply State.descDone_kept
    | with_reducible refine .ite (fun _ => ?_) (fun _ => ?_)
    | split

theorem State.engFault_kept {s₀ s : State} (h₀ : State.Kept s₀ s) (l : Nat) (work : Option Nat) (late again : Bool) (ev : State → State × Bool) (h_ev : ∀ (x0 : State), State.Kept s₀ x0 → State.Kept s₀ (ev x0).1) : State.Kept s₀ (State.engFault s l work late again ev) := by
  unfold State.engFault
  repeat' first
    | with_reducible assumption
    | intro x; first | (refine (fun (hx : State.Kept s₀ x) => ?_) ?_); clear_value x; rotate_left; subst x | (refine (fun (hx : State.Kept s₀ x.1) => ?_) ?_); clear_value x; rotate_left; subst x | subst x
    | lift_lets -underBinder +implicits
    | with_reducible apply h_ev
    | with_reducible apply State.becomeDue_kept
    | with_reducible apply State.incF_kept
    | with_reducible apply State.workLost_kept
    | with_reducible refine .ite (fun _ => ?_) (fun _ => ?_)
    | with_reducible refine .ofFst (by assumption) ?_
    | split

theorem State.engineWatchdog_kept {s₀ s : State} (h₀ : State.Kept s₀ s) (l : Nat) (work : Option Nat) (late again : Bool) : State.Kept s₀ (State.engineWatchdog s l work late again) := by
  unfold State.engineWatchdog
  repeat' first
    | with_reducible assumption
    | intro x; first | (refine (fun (hx : State.Kept s₀ x) => ?_) ?_); clear_value x; rotate_left; subst x | (refine (fun (hx : State.Kept s₀ x.1) => ?_) ?_); clear_value x; rotate_left; subst x | subst x
    | lift_lets -underBinder +implicits
    | with_reducible apply State.engFault_kept
    | with_reducible apply State.fault_kept
    | with_reducible apply State.incF_kept
    | with_reducible refine .ite (fun _ => ?_) (fun _ => ?_)
    | with_reducible refine .ofFst (by assumption) ?_
    | intro _
    | split

theorem State.engineParity_kept {s₀ s : State} (h₀ : State.Kept s₀ s) (l : Nat) (word_ : Bool) (work : Option Nat) (late again : Bool) : State.Kept s₀ (State.engineParity s l word_ work late again) := by
  unfold State.engineParity
  repeat' first
    | with_reducible assumption
    | intro x; first | (refine (fun (hx : State.Kept s₀ x) => ?_) ?_); clear_value x; rotate_left; subst x | (refine (fun (hx : State.Kept s₀ x.1) => ?_) ?_); clear_value x; rotate_left; subst x | subst x
    | lift_lets -underBinder +implicits
    | with_reducible apply State.engFault_kept
    | with_reducible apply State.fault_kept
    | with_reducible apply State.hardFault_kept
    | with_reducible refine .ite (fun _ => ?_) (fun _ => ?_)
    | with_reducible refine .ofFst (by assumption) ?_
    | intro _
    | split

theorem State.substReady_kept {s₀ s : State} (h₀ : State.Kept s₀ s) (l : Nat) : State.Kept s₀ (State.substReady s l) := by
  unfold State.substReady
  repeat' first
    | with_reducible assumption
    | intro x; first | (refine (fun (hx : State.Kept s₀ x) => ?_) ?_); clear_value x; rotate_left; subst x | subst x
    | lift_lets -underBinder +implicits
    | with_reducible refine .ite (fun _ => ?_) (fun _ => ?_)
    | split
    | with_reducible refine State.Kept.mk_iff.2 ?_

theorem State.shedStep_kept {s₀ s : State} (h₀ : State.Kept s₀ s)  : State.Kept s₀ (State.shedStep s) := by
  unfold State.shedStep
  repeat' first
    | with_reducible assumption
    | intro x; first | (refine (fun (hx : State.Kept s₀ x) => ?_) ?_); clear_value x; rotate_left; subst x | (refine (fun (hx : ∀ a, State.Kept s₀ a → State.Kept s₀ (x a)) => ?_) ?_); clear_value x; rotate_left; subst x; intro _ _ | (refine (fun (hx : ∀ a b, State.Kept s₀ a → State.Kept s₀ (x a b).1) => ?_) ?_); clear_value x; rotate_left; subst x; intro _ _ _ | (refine (fun (hx : ∀ a b, State.Kept s₀ a → State.Kept s₀ (x a b)) => ?_) ?_); clear_value x; rotate_left; subst x; intro _ _ _ | (refine (fun (hx : ∀ a, State.Kept s₀ (x a)) => ?_) ?_); clear_value x; rotate_left; subst x; intro _ | (refine (fun (hx : ∀ a b, State.Kept s₀ (x a b)) => ?_) ?_); clear_value x; rotate_left; subst x; intro _ _ | subst x
    | lift_lets -underBinder +implicits
    | with_reducible apply State.stopTx_kept
    | with_reducible apply State.wf_kept
    | with_reducible refine .ite (fun _ => ?_) (fun _ => ?_)
    | with_reducible refine .foldl (fun _ _ _ => ?_) ?_
    | with_reducible apply_assumption -exfalso
    | dsimp -zeta only
    | split
    | with_reducible refine State.Kept.mk_iff.2 ?_

theorem State.portsMove_kept {s₀ s : State} (h₀ : State.Kept s₀ s) (c : Nat) : State.Kept s₀ (State.portsMove s c) := by
  unfold State.portsMove
  repeat' first
    | with_reducible assumption
    | intro x; first | (refine (fun (hx : State.Kept s₀ x) => ?_) ?_); clear_value x; rotate_left; subst x | subst x
    | lift_lets -underBinder +implicits
    | with_reducible refine .ite (fun _ => ?_) (fun _ => ?_)
    | with_reducible refine .foldl (fun _ _ _ => ?_) ?_
    | split
    | with_reducible refine State.Kept.mk_iff.2 ?_

theorem State.ccGone_kept {s₀ s : State} (h₀ : State.Kept s₀ s) (l : Nat) : State.Kept s₀ (State.ccGone s l) := by
  unfold State.ccGone
  repeat' first
    | with_reducible assumption
    | intro x; first | (refine (fun (hx : State.Kept s₀ x) => ?_) ?_); clear_value x; rotate_left; subst x | subst x
    | lift_lets -underBinder +implicits
    | with_reducible apply State.portsMove_kept
    | with_reducible refine .ite (fun _ => ?_) (fun _ => ?_)
    | with_reducible refine .foldl (fun _ _ _ => ?_) ?_
    | split
    | with_reducible refine State.Kept.mk_iff.2 ?_

theorem State.engineGone_kept {s₀ s : State} (h₀ : State.Kept s₀ s) (l steps ports : Nat) : State.Kept s₀ (State.engineGone s l steps ports) := by
  unfold State.engineGone
  repeat' first
    | with_reducible assumption
    | intro x; first | (refine (fun (hx : State.Kept s₀ x) => ?_) ?_); clear_value x; rotate_left; subst x | subst x
    | lift_lets -underBinder +implicits
    | with_reducible apply State.ccGone_kept
    | with_reducible apply State.forceSafe_kept
    | with_reducible apply State.mutePort_kept
    | with_reducible apply State.setEng_kept
    | with_reducible apply State.shedStep_kept
    | with_reducible refine .ite (fun _ => ?_) (fun _ => ?_)
    | with_reducible refine .foldl (fun _ _ _ => ?_) ?_
    | split
    | with_reducible refine State.Kept.mk_iff.2 ?_

theorem State.restoreLoad_kept {s₀ s : State} (h₀ : State.Kept s₀ s)  : State.Kept s₀ (State.restoreLoad s) := by
  unfold State.restoreLoad
  repeat' first
    | with_reducible assumption
    | intro x; first | (refine (fun (hx : State.Kept s₀ x) => ?_) ?_); clear_value x; rotate_left; subst x | subst x
    | lift_lets -underBinder +implicits
    | with_reducible refine .ite (fun _ => ?_) (fun _ => ?_)
    | split
    | with_reducible refine State.Kept.mk_iff.2 ?_

theorem State.releaseMaster_kept {s₀ s : State} (h₀ : State.Kept s₀ s) (l : Nat) : State.Kept s₀ (State.releaseMaster s l) := by
  unfold State.releaseMaster
  repeat' first
    | with_reducible assumption
    | intro x; first | (refine (fun (hx : State.Kept s₀ x) => ?_) ?_); clear_value x; rotate_left; subst x | subst x
    | lift_lets -underBinder +implicits
    | with_reducible apply State.setMst_kept
    | with_reducible refine .ite (fun _ => ?_) (fun _ => ?_)
    | with_reducible refine .foldl (fun _ _ _ => ?_) ?_
    | split
    | with_reducible refine State.Kept.mk_iff.2 ?_

theorem State.functionReset_kept {s₀ s : State} (h₀ : State.Kept s₀ s)  : State.Kept s₀ (State.functionReset s) := by
  unfold State.functionReset
  repeat' first
    | with_reducible assumption
    | intro x; first | (refine (fun (hx : State.Kept s₀ x) => ?_) ?_); clear_value x; rotate_left; subst x | subst x
    | lift_lets -underBinder +implicits
    | with_reducible apply State.closeSessions_kept
    | with_reducible apply State.releaseMaster_kept
    | with_reducible apply State.ringsReset_kept
    | with_reducible refine .ite (fun _ => ?_) (fun _ => ?_)
    | split
    | with_reducible refine State.Kept.mk_iff.2 ?_

theorem State.benchResult_kept {s₀ s : State} (h₀ : State.Kept s₀ s) (st : Status) : State.Kept s₀ (State.benchResult s st) := by
  unfold State.benchResult
  repeat' first
    | with_reducible assumption
    | with_reducible apply State.wf_kept
    | with_reducible refine .ite (fun _ => ?_) (fun _ => ?_)
    | split

theorem State.substSwap_kept {s₀ s : State} (h₀ : State.Kept s₀ s) (l old e : Nat) (card : Bool) : State.Kept s₀ (State.substSwap s l old e card) := by
  unfold State.substSwap
  repeat' first
    | with_reducible assumption
    | intro x; first | (refine (fun (hx : State.Kept s₀ x) => ?_) ?_); clear_value x; rotate_left; subst x | subst x
    | lift_lets -underBinder +implicits
    | with_reducible apply State.commitReq_kept
    | with_reducible apply State.releaseMaster_kept
    | with_reducible apply State.setEng_kept
    | with_reducible apply State.wr_kept
    | with_reducible refine .ite (fun _ => ?_) (fun _ => ?_)
    | split
    | with_reducible refine State.Kept.mk_iff.2 ?_

theorem State.substReport_kept {s₀ s : State} (h₀ : State.Kept s₀ s) (l old e : Nat) : State.Kept s₀ (State.substReport s l old e) := by
  unfold State.substReport
  repeat' first
    | with_reducible assumption
    | intro x; first | (refine (fun (hx : State.Kept s₀ x) => ?_) ?_); clear_value x; rotate_left; subst x | subst x
    | lift_lets -underBinder +implicits
    | with_reducible apply State.benchEmpty_kept
    | with_reducible apply State.cause_kept
    | with_reducible apply State.incF_kept
    | with_reducible apply State.record_kept
    | with_reducible apply State.restoreLoad_kept
    | with_reducible refine .ite (fun _ => ?_) (fun _ => ?_)
    | split

theorem State.substMove_kept {s₀ s : State} (h₀ : State.Kept s₀ s) (l steps ports : Nat) : State.Kept s₀ (State.substMove s l steps ports) := by
  unfold State.substMove
  repeat' first
    | with_reducible assumption
    | intro x; first | (refine (fun (hx : State.Kept s₀ x) => ?_) ?_); clear_value x; rotate_left; subst x | subst x
    | lift_lets -underBinder +implicits
    | with_reducible apply State.benchResult_kept
    | with_reducible apply State.engineGone_kept
    | with_reducible apply State.substReport_kept
    | with_reducible apply State.substSwap_kept
    | with_reducible refine .ite (fun _ => ?_) (fun _ => ?_)
    | split

theorem State.selftestDone_kept {s₀ s : State} (h₀ : State.Kept s₀ s) (e : Nat) (st : Status) : State.Kept s₀ (State.selftestDone s e st) := by
  unfold State.selftestDone
  repeat' first
    | with_reducible assumption
    | intro x; first | (refine (fun (hx : State.Kept s₀ x) => ?_) ?_); clear_value x; rotate_left; subst x | subst x
    | lift_lets -underBinder +implicits
    | with_reducible apply State.assignDue_kept
    | with_reducible apply State.benchEmpty_kept
    | with_reducible apply State.benchResult_kept
    | with_reducible apply State.cause_kept
    | with_reducible apply State.commitReq_kept
    | with_reducible apply State.incF_kept
    | with_reducible apply State.pageRecord_kept
    | with_reducible apply State.setEng_kept
    | with_reducible apply State.wf_kept
    | with_reducible refine .ite (fun _ => ?_) (fun _ => ?_)
    | split
    | with_reducible refine State.Kept.mk_iff.2 ?_

theorem State.benchSubstitute_kept {s₀ s : State} (h₀ : State.Kept s₀ s) (l : Nat) : State.Kept s₀ (State.benchSubstitute s l) := by
  unfold State.benchSubstitute
  repeat' first
    | with_reducible assumption
    | with_reducible apply State.becomeDue_kept
    | with_reducible apply State.benchResult_kept
    | with_reducible apply State.ignored_kept
    | with_reducible apply State.wf_kept
    | with_reducible refine .ite (fun _ => ?_) (fun _ => ?_)
    | split

theorem State.benchSelftest_kept {s₀ s : State} (h₀ : State.Kept s₀ s)  : State.Kept s₀ (State.benchSelftest s) := by
  unfold State.benchSelftest
  repeat' first
    | with_reducible assumption
    | intro x; first | (refine (fun (hx : State.Kept s₀ x) => ?_) ?_); clear_value x; rotate_left; subst x | subst x
    | lift_lets -underBinder +implicits
    | with_reducible apply State.benchResult_kept
    | with_reducible apply State.ignored_kept
    | with_reducible apply State.setEng_kept
    | with_reducible apply State.wf_kept
    | with_reducible refine .ite (fun _ => ?_) (fun _ => ?_)
    | with_reducible refine .foldl (fun _ _ _ => ?_) ?_
    | split
    | with_reducible refine State.Kept.mk_iff.2 ?_

theorem State.repairOne_kept {s₀ s : State} (h₀ : State.Kept s₀ s) (r : RepairRec) : State.Kept s₀ (State.repairOne s r).1 := by
  unfold State.repairOne
  repeat' first
    | with_reducible assumption
    | intro x; first | (refine (fun (hx : State.Kept s₀ x) => ?_) ?_); clear_value x; rotate_left; subst x | (refine (fun (hx : State.Kept s₀ x.1) => ?_) ?_); clear_value x; rotate_left; subst x | subst x
    | lift_lets -underBinder +implicits
    | with_reducible apply State.benchEmpty_kept
    | with_reducible refine .ite (fun _ => ?_) (fun _ => ?_)
    | with_reducible refine .iteFst (fun _ => ?_) (fun _ => ?_)
    | split
    | with_reducible refine State.Kept.mk_iff.2 ?_

theorem State.memRepair_kept {s₀ s : State} (h₀ : State.Kept s₀ s) (h : ScrubHit) : State.Kept s₀ (State.memRepair s h) := by
  unfold State.memRepair
  repeat' first
    | with_reducible assumption
    | intro x; first | (refine (fun (hx : State.Kept s₀ x) => ?_) ?_); clear_value x; rotate_left; subst x | (refine (fun (hx : State.Kept s₀ x.1) => ?_) ?_); clear_value x; rotate_left; subst x | subst x
    | lift_lets -underBinder +implicits
    | split
    | with_reducible apply State.becomeDue_kept
    | with_reducible apply State.commitReq_kept
    | with_reducible apply State.pageRecord_kept
    | with_reducible apply State.repairOne_kept
    | with_reducible apply State.setEng_kept
    | with_reducible refine .ite (fun _ => ?_) (fun _ => ?_)
    | with_reducible refine .foldl (fun _ _ _ => ?_) ?_
    | with_reducible refine .foldlFst (fun _ _ _ => ?_) ?_
    | with_reducible refine .ofFst (by assumption) ?_
    | split
    | with_reducible refine State.Kept.mk_iff.2 ?_

theorem State.scrubHit_kept {s₀ s : State} (h₀ : State.Kept s₀ s) (h : ScrubHit) : State.Kept s₀ (State.scrubHit s h) := by
  unfold State.scrubHit
  repeat' first
    | with_reducible assumption
    | intro x; first | (refine (fun (hx : State.Kept s₀ x) => ?_) ?_); clear_value x; rotate_left; subst x | (refine (fun (hx : State.Kept s₀ x.1) => ?_) ?_); clear_value x; rotate_left; subst x | subst x
    | lift_lets -underBinder +implicits
    | split
    | with_reducible apply State.corrected_kept
    | with_reducible apply State.fault_kept
    | with_reducible apply State.hardFault_kept
    | with_reducible apply State.memRepair_kept
    | with_reducible refine .ite (fun _ => ?_) (fun _ => ?_)
    | with_reducible refine .ofFst (by assumption) ?_
    | split
    | with_reducible refine State.Kept.mk_iff.2 ?_

theorem State.dramRetire_kept {s₀ s : State} (h₀ : State.Kept s₀ s) (row pages : Nat) : State.Kept s₀ (State.dramRetire s row pages) := by
  unfold State.dramRetire
  repeat' first
    | with_reducible assumption
    | intro x; first | (refine (fun (hx : State.Kept s₀ x) => ?_) ?_); clear_value x; rotate_left; subst x | subst x
    | lift_lets -underBinder +implicits
    | with_reducible apply State.benchEmpty_kept
    | with_reducible apply State.pageRecord_kept
    | with_reducible apply State.wf_kept
    | with_reducible refine .ite (fun _ => ?_) (fun _ => ?_)
    | split
    | with_reducible refine State.Kept.mk_iff.2 ?_

theorem State.dramHit_kept {s₀ s : State} (h₀ : State.Kept s₀ s) (row pages : Nat) (bad : Bool) : State.Kept s₀ (State.dramHit s row pages bad) := by
  unfold State.dramHit
  repeat' first
    | with_reducible assumption
    | intro x; first | (refine (fun (hx : State.Kept s₀ x) => ?_) ?_); clear_value x; rotate_left; subst x | (refine (fun (hx : State.Kept s₀ x.1) => ?_) ?_); clear_value x; rotate_left; subst x | subst x
    | lift_lets -underBinder +implicits
    | split
    | with_reducible apply State.corrected_kept
    | with_reducible apply State.dramRetire_kept
    | with_reducible apply State.fault_kept
    | with_reducible apply State.hardFault_kept
    | with_reducible refine .ite (fun _ => ?_) (fun _ => ?_)
    | with_reducible refine .ofFst (by assumption) ?_
    | split
    | with_reducible refine State.Kept.mk_iff.2 ?_

theorem State.slotFault_kept {s₀ s : State} (h₀ : State.Kept s₀ s) (n : Nat) : State.Kept s₀ (State.slotFault s n) := by
  unfold State.slotFault
  repeat' first
    | with_reducible assumption
    | intro x; first | (refine (fun (hx : State.Kept s₀ x) => ?_) ?_); clear_value x; rotate_left; subst x | (refine (fun (hx : State.Kept s₀ x.1) => ?_) ?_); clear_value x; rotate_left; subst x | subst x
    | lift_lets -underBinder +implicits
    | split
    | with_reducible apply State.benchEmpty_kept
    | with_reducible apply State.fault_kept
    | with_reducible apply State.pageRecord_kept
    | with_reducible apply State.record_kept
    | with_reducible apply State.setSlot_kept
    | with_reducible apply State.slotWipe_kept
    | with_reducible refine .ite (fun _ => ?_) (fun _ => ?_)
    | with_reducible refine .ofFst (by assumption) ?_
    | split
    | with_reducible refine State.Kept.mkSec_iff.2 ?_
    | with_reducible refine State.Kept.mk_iff.2 ?_

theorem State.scrubPass_kept {s₀ s : State} (h₀ : State.Kept s₀ s) (z : ScrubFound) : State.Kept s₀ (State.scrubPass s z) := by
  unfold State.scrubPass
  repeat' first
    | with_reducible assumption
    | intro x; first | (refine (fun (hx : State.Kept s₀ x) => ?_) ?_); clear_value x; rotate_left; subst x | subst x
    | lift_lets -underBinder +implicits
    | with_reducible apply State.dramHit_kept
    | with_reducible apply State.incF_kept
    | with_reducible apply State.scrubHit_kept
    | with_reducible apply State.slotFault_kept
    | with_reducible refine .ite (fun _ => ?_) (fun _ => ?_)
    | with_reducible refine .foldl (fun _ _ _ => ?_) ?_
    | split
    | with_reducible refine State.Kept.mk_iff.2 ?_

theorem State.aesRerun_kept {s₀ s : State} (h₀ : State.Kept s₀ s) (n : Nat) : State.Kept s₀ (State.aesRerun s n) := by
  unfold State.aesRerun
  repeat' first
    | with_reducible assumption
    | intro x; first | (refine (fun (hx : State.Kept s₀ x) => ?_) ?_); clear_value x; rotate_left; subst x | subst x
    | lift_lets -underBinder +implicits
    | with_reducible apply State.slotEmptied_kept
    | with_reducible refine .ite (fun _ => ?_) (fun _ => ?_)
    | split
    | with_reducible refine State.Kept.mkSec_iff.2 ?_
    | with_reducible refine State.Kept.mk_iff.2 ?_

theorem State.aesKat_kept {s₀ s : State} (h₀ : State.Kept s₀ s) (bad : List Nat) : State.Kept s₀ (State.aesKat s bad) := by
  unfold State.aesKat
  repeat' first
    | with_reducible assumption
    | intro x; first | (refine (fun (hx : State.Kept s₀ x) => ?_) ?_); clear_value x; rotate_left; subst x | (refine (fun (hx : State.Kept s₀ x.1) => ?_) ?_); clear_value x; rotate_left; subst x | subst x
    | lift_lets -underBinder +implicits
    | split
    | with_reducible apply State.aesRerun_kept
    | with_reducible apply State.fault_kept
    | with_reducible apply State.pageRecord_kept
    | with_reducible apply State.wb_kept
    | with_reducible refine .ite (fun _ => ?_) (fun _ => ?_)
    | with_reducible refine .foldl (fun _ _ _ => ?_) ?_
    | with_reducible refine .foldlFst (fun _ _ _ => ?_) ?_
    | with_reducible refine .ofFst (by assumption) ?_
    | split

theorem State.sliceCheck_kept {s₀ s : State} (h₀ : State.Kept s₀ s) (d i : Nat) (mismatch : Bool) : State.Kept s₀ (State.sliceCheck s d i mismatch) := by
  unfold State.sliceCheck
  repeat' first
    | with_reducible assumption
    | intro x; first | (refine (fun (hx : State.Kept s₀ x) => ?_) ?_); clear_value x; rotate_left; subst x | (refine (fun (hx : State.Kept s₀ x.1) => ?_) ?_); clear_value x; rotate_left; subst x | subst x
    | lift_lets -underBinder +implicits
    | split
    | with_reducible apply State.fault_kept
    | with_reducible apply State.pageRecord_kept
    | with_reducible apply State.setChan_kept
    | with_reducible apply State.wb_kept
    | with_reducible refine .ite (fun _ => ?_) (fun _ => ?_)
    | with_reducible refine .ofFst (by assumption) ?_
    | split
    | with_reducible refine State.Kept.mk_iff.2 ?_

theorem State.sliceSubst_kept {s₀ s : State} (h₀ : State.Kept s₀ s) (d : Nat) : State.Kept s₀ (State.sliceSubst s d) := by
  unfold State.sliceSubst
  repeat' first
    | with_reducible assumption
    | intro x; first | (refine (fun (hx : State.Kept s₀ x) => ?_) ?_); clear_value x; rotate_left; subst x | (refine (fun (hx : ∀ a, State.Kept s₀ a → State.Kept s₀ (x a)) => ?_) ?_); clear_value x; rotate_left; subst x; intro _ _ | (refine (fun (hx : ∀ a b, State.Kept s₀ a → State.Kept s₀ (x a b).1) => ?_) ?_); clear_value x; rotate_left; subst x; intro _ _ _ | (refine (fun (hx : ∀ a b, State.Kept s₀ a → State.Kept s₀ (x a b)) => ?_) ?_); clear_value x; rotate_left; subst x; intro _ _ _ | (refine (fun (hx : ∀ a, State.Kept s₀ (x a)) => ?_) ?_); clear_value x; rotate_left; subst x; intro _ | (refine (fun (hx : ∀ a b, State.Kept s₀ (x a b)) => ?_) ?_); clear_value x; rotate_left; subst x; intro _ _ | subst x
    | lift_lets -underBinder +implicits
    | split
    | with_reducible apply State.pageRecord_kept
    | with_reducible apply State.setChan_kept
    | with_reducible apply State.useSpare_kept
    | with_reducible apply State.wf_kept
    | with_reducible refine .ite (fun _ => ?_) (fun _ => ?_)
    | with_reducible apply_assumption -exfalso
    | dsimp -zeta only
    | split
    | with_reducible refine State.Kept.mk_iff.2 ?_

theorem State.d2dFail_kept {s₀ s : State} (h₀ : State.Kept s₀ s) (n : Nat) (again : Bool) : State.Kept s₀ (State.d2dFail s n again) := by
  unfold State.d2dFail
  repeat' first
    | with_reducible assumption
    | intro x; first | (refine (fun (hx : State.Kept s₀ x) => ?_) ?_); clear_value x; rotate_left; subst x | (refine (fun (hx : State.Kept s₀ x.1) => ?_) ?_); clear_value x; rotate_left; subst x | subst x
    | lift_lets -underBinder +implicits
    | split
    | with_reducible apply State.corrected_kept
    | with_reducible apply State.hardFault_kept
    | with_reducible refine .ite (fun _ => ?_) (fun _ => ?_)
    | with_reducible refine .ofFst (by assumption) ?_
    | split
    | with_reducible refine State.Kept.mk_iff.2 ?_

theorem State.condLost_kept {s₀ s : State} (h₀ : State.Kept s₀ s) (p c : Nat) : State.Kept s₀ (State.condLost s p c) := by
  unfold State.condLost
  repeat' first
    | with_reducible assumption
    | intro x; first | (refine (fun (hx : State.Kept s₀ x) => ?_) ?_); clear_value x; rotate_left; subst x | subst x
    | lift_lets -underBinder +implicits
    | with_reducible apply State.setCond_kept
    | with_reducible apply State.stopTx_kept
    | with_reducible apply State.wb_kept
    | with_reducible refine .ite (fun _ => ?_) (fun _ => ?_)
    | split
    | with_reducible refine State.Kept.mk_iff.2 ?_

theorem State.d2dRetrain_kept {s₀ s : State} (h₀ : State.Kept s₀ s) (n : Nat) (ok : Bool) : State.Kept s₀ (State.d2dRetrain s n ok) := by
  unfold State.d2dRetrain
  repeat' first
    | with_reducible assumption
    | intro x; first | (refine (fun (hx : State.Kept s₀ x) => ?_) ?_); clear_value x; rotate_left; subst x | subst x
    | lift_lets -underBinder +implicits
    | with_reducible apply State.condLost_kept
    | with_reducible apply State.pageRecord_kept
    | with_reducible apply State.setChan_kept
    | with_reducible apply State.wb_kept
    | with_reducible refine .ite (fun _ => ?_) (fun _ => ?_)
    | with_reducible refine .foldl (fun _ _ _ => ?_) ?_
    | split
    | with_reducible refine State.Kept.mk_iff.2 ?_

theorem State.convFault_kept {s₀ s : State} (h₀ : State.Kept s₀ s) (p c : Nat) : State.Kept s₀ (State.convFault s p c) := by
  unfold State.convFault
  repeat' first
    | with_reducible assumption
    | intro x; first | (refine (fun (hx : State.Kept s₀ x) => ?_) ?_); clear_value x; rotate_left; subst x | (refine (fun (hx : State.Kept s₀ x.1) => ?_) ?_); clear_value x; rotate_left; subst x | subst x
    | lift_lets -underBinder +implicits
    | split
    | with_reducible apply State.condLost_kept
    | with_reducible apply State.fault_kept
    | with_reducible apply State.pageRecord_kept
    | with_reducible refine .ite (fun _ => ?_) (fun _ => ?_)
    | with_reducible refine .ofFst (by assumption) ?_
    | split

theorem State.accLeave_kept {s₀ s : State} (h₀ : State.Kept s₀ s) (kind u : Nat) : State.Kept s₀ (State.accLeave s kind u) := by
  unfold State.accLeave
  repeat' first
    | with_reducible assumption
    | intro x; first | (refine (fun (hx : State.Kept s₀ x) => ?_) ?_); clear_value x; rotate_left; subst x | subst x
    | lift_lets -underBinder +implicits
    | with_reducible apply State.pageRecord_kept
    | with_reducible apply State.useSpare_kept
    | with_reducible refine .ite (fun _ => ?_) (fun _ => ?_)
    | split
    | with_reducible refine State.Kept.mk_iff.2 ?_

theorem State.accServe_kept {s₀ s : State} (h₀ : State.Kept s₀ s) (kind n : Nat) : State.Kept s₀ (State.accServe kind n s) := by
  induction n generalizing s with
  | zero => exact h₀
  | succ n ih =>
    unfold State.accServe
    split
    · exact ih (State.Kept.mk_iff.2 h₀)
    · exact h₀

theorem State.accArrive_kept {s₀ s : State} (h₀ : State.Kept s₀ s) (kind : Nat) (reqs : List AccReq) : State.Kept s₀ (State.accArrive s kind reqs) := by
  unfold State.accArrive
  repeat' first
    | with_reducible assumption
    | intro x; first | (refine (fun (hx : State.Kept s₀ x) => ?_) ?_); clear_value x; rotate_left; subst x | subst x
    | lift_lets -underBinder +implicits
    | with_reducible refine .ite (fun _ => ?_) (fun _ => ?_)
    | split
    | with_reducible refine State.Kept.mk_iff.2 ?_

theorem State.accRerun_kept {s₀ s : State} (h₀ : State.Kept s₀ s) (kind u : Nat) (r : AccReq) : State.Kept s₀ (State.accRerun s kind u r) := by
  unfold State.accRerun
  repeat' first
    | with_reducible assumption
    | intro x; first | (refine (fun (hx : State.Kept s₀ x) => ?_) ?_); clear_value x; rotate_left; subst x | subst x
    | lift_lets -underBinder +implicits
    | with_reducible apply State.accArrive_kept
    | with_reducible refine .ite (fun _ => ?_) (fun _ => ?_)
    | split
    | with_reducible refine State.Kept.mk_iff.2 ?_

theorem State.accDone_kept {s₀ s : State} (h₀ : State.Kept s₀ s) (kind u : Nat) (ok : Bool) (arrived : List AccReq) : State.Kept s₀ (State.accDone s kind u ok arrived) := by
  unfold State.accDone
  repeat' first
    | with_reducible assumption
    | intro x; first | (refine (fun (hx : State.Kept s₀ x) => ?_) ?_); clear_value x; rotate_left; subst x | (refine (fun (hx : State.Kept s₀ x.1) => ?_) ?_); clear_value x; rotate_left; subst x | subst x
    | lift_lets -underBinder +implicits
    | split
    | with_reducible apply State.accArrive_kept
    | with_reducible apply State.accLeave_kept
    | with_reducible apply State.accRerun_kept
    | with_reducible apply State.accServe_kept
    | with_reducible apply State.fault_kept
    | with_reducible refine .ite (fun _ => ?_) (fun _ => ?_)
    | with_reducible refine .ofFst (by assumption) ?_
    | split
    | with_reducible refine State.Kept.mk_iff.2 ?_

theorem State.windowClose_kept {s₀ s : State} (h₀ : State.Kept s₀ s) (p : Nat) : State.Kept s₀ (State.windowClose s p) := by
  unfold State.windowClose
  repeat' first
    | with_reducible assumption
    | with_reducible apply State.closeWin_kept
    | with_reducible refine .ite (fun _ => ?_) (fun _ => ?_)
    | split

theorem State.lifeMinute_kept {s₀ s : State} (h₀ : State.Kept s₀ s)  : State.Kept s₀ (State.lifeMinute s) := by
  unfold State.lifeMinute
  repeat' first
    | with_reducible assumption
    | intro x; first | (refine (fun (hx : State.Kept s₀ x) => ?_) ?_); clear_value x; rotate_left; subst x | subst x
    | lift_lets -underBinder +implicits
    | with_reducible apply State.addF_kept
    | with_reducible apply State.cause_kept
    | with_reducible refine .ite (fun _ => ?_) (fun _ => ?_)
    | split
    | with_reducible refine State.Kept.mk_iff.2 ?_

theorem State.ageingDaily_kept {s₀ s : State} (h₀ : State.Kept s₀ s)  : State.Kept s₀ (State.ageingDaily s) := by
  unfold State.ageingDaily
  repeat' first
    | with_reducible assumption
    | with_reducible apply State.record_kept
    | with_reducible refine .ite (fun _ => ?_) (fun _ => ?_)
    | split

theorem State.ageingHourly_kept {s₀ s : State} (h₀ : State.Kept s₀ s) (ro em : List Nat) : State.Kept s₀ (State.ageingHourly s ro em) := by
  unfold State.ageingHourly
  repeat' first
    | with_reducible assumption
    | intro x; first | (refine (fun (hx : State.Kept s₀ x) => ?_) ?_); clear_value x; rotate_left; subst x | (refine (fun (hx : ∀ a, State.Kept s₀ a → State.Kept s₀ (x a)) => ?_) ?_); clear_value x; rotate_left; subst x; intro _ _ | (refine (fun (hx : ∀ a b, State.Kept s₀ a → State.Kept s₀ (x a b).1) => ?_) ?_); clear_value x; rotate_left; subst x; intro _ _ _ | (refine (fun (hx : ∀ a b, State.Kept s₀ a → State.Kept s₀ (x a b)) => ?_) ?_); clear_value x; rotate_left; subst x; intro _ _ _ | (refine (fun (hx : ∀ a, State.Kept s₀ (x a)) => ?_) ?_); clear_value x; rotate_left; subst x; intro _ | (refine (fun (hx : ∀ a b, State.Kept s₀ (x a b)) => ?_) ?_); clear_value x; rotate_left; subst x; intro _ _ | clear_value x
    | lift_lets -underBinder +implicits
    | with_reducible apply State.cause_kept
    | with_reducible apply State.record_kept
    | with_reducible apply State.wr_kept
    | with_reducible refine .ite (fun _ => ?_) (fun _ => ?_)
    | with_reducible refine .foldl (fun _ _ _ => ?_) ?_
    | with_reducible refine .foldlFst (fun _ _ _ => ?_) ?_
    | with_reducible apply_assumption -exfalso
    | dsimp -zeta only
    | split
    | with_reducible refine State.Kept.mk_iff.2 ?_

end Sys2Proof.Machine
end

