-- ==== Sys2Proof/Laws/KeptSecSub.lean ====
section
/-! SUPPORT. The operations of Machine/SecSub.lean keep what Laws/Kept.lean says. -/

-- One declaration after another: the package is compiled as one text, and its memory stays within bounds.
set_option Elab.async false

namespace Sys2Proof.Machine

theorem State.idSign_kept {s₀ s : State} (h₀ : State.Kept s₀ s) (ctx msg : List Byte) : State.Kept s₀ (State.idSign s ctx msg).1 := by
  unfold State.idSign
  repeat' first
    | with_reducible assumption
    | intro x; first | (refine (fun (hx : State.Kept s₀ x) => ?_) ?_); clear_value x; rotate_left; subst x | (refine (fun (hx : State.Kept s₀ x.1) => ?_) ?_); clear_value x; rotate_left; subst x | subst x
    | lift_lets -underBinder +implicits
    | split
    | with_reducible apply State.drbgDraw_kept
    | with_reducible apply State.incF_kept
    | with_reducible refine .ite (fun _ => ?_) (fun _ => ?_)
    | with_reducible refine .iteFst (fun _ => ?_) (fun _ => ?_)
    | with_reducible refine .ofFst (by assumption) ?_
    | split

theorem State.attest_kept {s₀ s : State} (h₀ : State.Kept s₀ s) (c : Sub) (nonce : List Byte) : State.Kept s₀ (State.attest s c nonce) := by
  unfold State.attest
  repeat' first
    | with_reducible assumption
    | intro x; first | (refine (fun (hx : State.Kept s₀ x) => ?_) ?_); clear_value x; rotate_left; subst x | (refine (fun (hx : State.Kept s₀ x.1) => ?_) ?_); clear_value x; rotate_left; subst x | subst x
    | lift_lets -underBinder +implicits
    | split
    | with_reducible apply State.dmaWrite_kept
    | with_reducible apply State.finishTag_kept
    | with_reducible apply State.hostRead_kept
    | with_reducible apply State.idSign_kept
    | with_reducible apply State.secRequest_kept
    | with_reducible refine .ite (fun _ => ?_) (fun _ => ?_)
    | with_reducible refine .ofFst (by assumption) ?_
    | split

theorem State.identityRead_kept {s₀ s : State} (h₀ : State.Kept s₀ s) (c : Sub) : State.Kept s₀ (State.identityRead s c) := by
  unfold State.identityRead
  repeat' first
    | with_reducible assumption
    | intro x; first | (refine (fun (hx : State.Kept s₀ x) => ?_) ?_); clear_value x; rotate_left; subst x | subst x
    | lift_lets -underBinder +implicits
    | with_reducible apply State.dmaWrite_kept
    | with_reducible apply State.finishTag_kept
    | with_reducible apply State.secRequest_kept
    | with_reducible refine .ite (fun _ => ?_) (fun _ => ?_)
    | split

theorem State.sessionOpen_kept {s₀ s : State} (h₀ : State.Kept s₀ s) (c : Sub) (nonce : List Byte) : State.Kept s₀ (State.sessionOpen s c nonce) := by
  unfold State.sessionOpen
  repeat' first
    | with_reducible assumption
    | intro x; first | (refine (fun (hx : State.Kept s₀ x) => ?_) ?_); clear_value x; rotate_left; subst x | (refine (fun (hx : State.Kept s₀ x.1) => ?_) ?_); clear_value x; rotate_left; subst x | subst x
    | lift_lets -underBinder +implicits
    | split
    | with_reducible apply State.dmaWrite_kept
    | with_reducible apply State.drbgDraw_kept
    | with_reducible apply State.finishTag_kept
    | with_reducible apply State.hostRead_kept
    | with_reducible apply State.idSign_kept
    | with_reducible apply State.secRequest_kept
    | with_reducible apply State.setSession_kept
    | with_reducible refine .ite (fun _ => ?_) (fun _ => ?_)
    | with_reducible refine .ofFst (by assumption) ?_
    | split
    | with_reducible refine State.Kept.mkSec_iff.2 ?_
    | with_reducible refine State.Kept.mk_iff.2 ?_

theorem State.sessionFinish_kept {s₀ s : State} (h₀ : State.Kept s₀ s) (c : Sub) (buf : List Byte) : State.Kept s₀ (State.sessionFinish s c buf) := by
  unfold State.sessionFinish
  repeat' first
    | with_reducible assumption
    | intro x; first | (refine (fun (hx : State.Kept s₀ x) => ?_) ?_); clear_value x; rotate_left; subst x | subst x
    | lift_lets -underBinder +implicits
    | split
    | with_reducible apply State.cause_kept
    | with_reducible apply State.finishTag_kept
    | with_reducible apply State.hostRead_kept
    | with_reducible apply State.record_kept
    | with_reducible apply State.secRequest_kept
    | with_reducible apply State.setSession_kept
    | with_reducible apply State.verified_kept
    | with_reducible refine .ite (fun _ => ?_) (fun _ => ?_)
    | split

theorem State.sessionClose_kept {s₀ s : State} (h₀ : State.Kept s₀ s) (c : Sub) : State.Kept s₀ (State.sessionClose s c) := by
  unfold State.sessionClose
  repeat' first
    | with_reducible assumption
    | intro x; first | (refine (fun (hx : State.Kept s₀ x) => ?_) ?_); clear_value x; rotate_left; subst x | subst x
    | lift_lets -underBinder +implicits
    | with_reducible apply State.finishTag_kept
    | with_reducible apply State.setSession_kept
    | with_reducible refine .ite (fun _ => ?_) (fun _ => ?_)
    | split

theorem State.unsealBlock_kept {s₀ s : State} (h₀ : State.Kept s₀ s) (c : Sub) (blk : List Byte) : State.Kept s₀ (State.unsealBlock s c blk).1 := by
  unfold State.unsealBlock
  repeat' first
    | with_reducible assumption
    | intro x; first | (refine (fun (hx : State.Kept s₀ x) => ?_) ?_); clear_value x; rotate_left; subst x | (refine (fun (hx : State.Kept s₀ x.1) => ?_) ?_); clear_value x; rotate_left; subst x | subst x
    | lift_lets -underBinder +implicits
    | with_reducible apply State.authFailed_kept
    | with_reducible apply State.record_kept
    | with_reducible apply State.setSession_kept
    | with_reducible refine .ite (fun _ => ?_) (fun _ => ?_)
    | with_reducible refine .iteFst (fun _ => ?_) (fun _ => ?_)
    | split
    | with_reducible refine State.Kept.mk_iff.2 ?_

theorem State.sealedOp_kept {s₀ s : State} (h₀ : State.Kept s₀ s) (c : Sub) (blk : List Byte) (formed : List Byte → Bool) (permitted : Bool) (body : State → List Byte → State) (h_body : ∀ (x0 : State) (x1 : List Byte), State.Kept s₀ x0 → State.Kept s₀ (body x0 x1)) : State.Kept s₀ (State.sealedOp s c blk formed permitted body) := by
  unfold State.sealedOp
  repeat' first
    | with_reducible assumption
    | intro x; first | (refine (fun (hx : State.Kept s₀ x) => ?_) ?_); clear_value x; rotate_left; subst x | (refine (fun (hx : State.Kept s₀ x.1) => ?_) ?_); clear_value x; rotate_left; subst x | subst x
    | lift_lets -underBinder +implicits
    | with_reducible apply h_body
    | with_reducible apply State.finishTag_kept
    | with_reducible apply State.hostRead_kept
    | with_reducible apply State.secRequest_kept
    | with_reducible apply State.unsealBlock_kept
    | with_reducible refine .ite (fun _ => ?_) (fun _ => ?_)
    | with_reducible refine .ofFst (by assumption) ?_
    | split

theorem State.nbrEpoch_kept {s₀ s : State} (h₀ : State.Kept s₀ s) (a e : Nat) : State.Kept s₀ (State.nbrEpoch s a e) := by
  unfold State.nbrEpoch
  repeat' first
    | with_reducible assumption
    | intro x; first | (refine (fun (hx : State.Kept s₀ x) => ?_) ?_); clear_value x; rotate_left; subst x | subst x
    | lift_lets -underBinder +implicits
    | with_reducible refine .ite (fun _ => ?_) (fun _ => ?_)
    | split
    | with_reducible refine State.Kept.mk_iff.2 ?_

theorem State.epochTo_kept {s₀ s : State} (h₀ : State.Kept s₀ s) (a : Nat) (k mk : Bool) (e : Nat) : State.Kept s₀ (State.epochTo s a k mk e) := by
  unfold State.epochTo
  repeat' first
    | with_reducible assumption
    | intro x; first | (refine (fun (hx : State.Kept s₀ x) => ?_) ?_); clear_value x; rotate_left; subst x | subst x
    | lift_lets -underBinder +implicits
    | with_reducible apply State.nbrEpoch_kept
    | with_reducible apply State.setEp_kept
    | with_reducible refine .ite (fun _ => ?_) (fun _ => ?_)
    | split
    | with_reducible refine State.Kept.mk_iff.2 ?_

theorem State.keyEpoch_kept {s₀ s : State} (h₀ : State.Kept s₀ s) (c : Sub) (blk : List Byte) : State.Kept s₀ (State.keyEpoch s c blk) := by
  unfold State.keyEpoch
  repeat' first
    | with_reducible assumption
    | intro x; first | (refine (fun (hx : State.Kept s₀ x) => ?_) ?_); clear_value x; rotate_left; subst x | subst x
    | lift_lets -underBinder +implicits
    | with_reducible apply State.commitReq_kept
    | with_reducible apply State.epochTo_kept
    | with_reducible apply State.finishTag_kept
    | with_reducible apply State.sealedOp_kept
    | with_reducible refine .ite (fun _ => ?_) (fun _ => ?_)
    | with_reducible refine .foldl (fun _ _ _ => ?_) ?_
    | intro _
    | split

theorem State.showFuses_kept {s₀ s : State} (h₀ : State.Kept s₀ s)  : State.Kept s₀ (State.showFuses s) := by
  unfold State.showFuses
  repeat' first
    | with_reducible assumption
    | intro x; first | (refine (fun (hx : State.Kept s₀ x) => ?_) ?_); clear_value x; rotate_left; subst x | (refine (fun (hx : ∀ a, State.Kept s₀ a → State.Kept s₀ (x a)) => ?_) ?_); clear_value x; rotate_left; subst x; intro _ _ | (refine (fun (hx : ∀ a b, State.Kept s₀ a → State.Kept s₀ (x a b).1) => ?_) ?_); clear_value x; rotate_left; subst x; intro _ _ _ | (refine (fun (hx : ∀ a b, State.Kept s₀ a → State.Kept s₀ (x a b)) => ?_) ?_); clear_value x; rotate_left; subst x; intro _ _ _ | (refine (fun (hx : ∀ a, State.Kept s₀ (x a)) => ?_) ?_); clear_value x; rotate_left; subst x; intro _ | (refine (fun (hx : ∀ a b, State.Kept s₀ (x a b)) => ?_) ?_); clear_value x; rotate_left; subst x; intro _ _ | subst x
    | lift_lets -underBinder +implicits
    | with_reducible apply State.wf_kept
    | with_reducible apply State.wr_kept
    | with_reducible refine .ite (fun _ => ?_) (fun _ => ?_)
    | with_reducible refine .foldl (fun _ _ _ => ?_) ?_
    | with_reducible apply_assumption -exfalso
    | dsimp -zeta only
    | split

theorem State.provInstall_kept {s₀ s : State} (h₀ : State.Kept s₀ s) (c : Sub) (blk : List Byte) : State.Kept s₀ (State.provInstall s c blk) := by
  unfold State.provInstall
  repeat' first
    | with_reducible assumption
    | intro x; first | (refine (fun (hx : State.Kept s₀ x) => ?_) ?_); clear_value x; rotate_left; subst x | subst x
    | lift_lets -underBinder +implicits
    | with_reducible apply State.finishTag_kept
    | with_reducible apply State.sealedOp_kept
    | with_reducible apply State.showFuses_kept
    | with_reducible apply State.wb_kept
    | with_reducible apply State.wr_kept
    | with_reducible refine .ite (fun _ => ?_) (fun _ => ?_)
    | with_reducible refine .foldl (fun _ _ _ => ?_) ?_
    | intro _
    | split
    | with_reducible refine State.Kept.mkSec_iff.2 ?_
    | with_reducible refine State.Kept.mk_iff.2 ?_

theorem State.keyInstall_kept {s₀ s : State} (h₀ : State.Kept s₀ s) (c : Sub) (blk : List Byte) : State.Kept s₀ (State.keyInstall s c blk) := by
  unfold State.keyInstall
  repeat' first
    | with_reducible assumption
    | intro x; first | (refine (fun (hx : State.Kept s₀ x) => ?_) ?_); clear_value x; rotate_left; subst x | subst x
    | lift_lets -underBinder +implicits
    | with_reducible apply State.commitReq_kept
    | with_reducible apply State.finishTag_kept
    | with_reducible apply State.sealedOp_kept
    | with_reducible refine .ite (fun _ => ?_) (fun _ => ?_)
    | intro _
    | split

theorem State.policyApply_kept {s₀ s : State} (h₀ : State.Kept s₀ s)  : State.Kept s₀ (State.policyApply s) := by
  unfold State.policyApply
  repeat' first
    | with_reducible assumption
    | with_reducible apply State.policyLock_kept
    | with_reducible refine .ite (fun _ => ?_) (fun _ => ?_)
    | with_reducible refine .foldl (fun _ _ _ => ?_) ?_
    | split

theorem State.retireZeroise_kept {s₀ s : State} (h₀ : State.Kept s₀ s)  : State.Kept s₀ (State.retireZeroise s) := by
  unfold State.retireZeroise
  repeat' first
    | with_reducible assumption
    | intro x; first | (refine (fun (hx : State.Kept s₀ x) => ?_) ?_); clear_value x; rotate_left; subst x | subst x
    | lift_lets -underBinder +implicits
    | with_reducible apply State.setVault_kept
    | with_reducible apply State.wipeSlots_kept
    | with_reducible refine .ite (fun _ => ?_) (fun _ => ?_)
    | split
    | with_reducible refine State.Kept.mkSec_iff.2 ?_
    | with_reducible refine State.Kept.mk_iff.2 ?_

theorem State.lifecycle_kept {s₀ s : State} (h₀ : State.Kept s₀ s) (tgt : Nat) : State.Kept s₀ (s.lifecycle tgt) := by
  have h1 := State.closeSessions_kept (State.setDebug_kept h₀ 0 (Nat.zero_le _))
  have h2 : State.Kept s₀ (if tgt = 3 then (s.setDebug 0).closeSessions.retireZeroise else (s.setDebug 0).closeSessions) :=
    .ite (fun _ => State.retireZeroise_kept h1) (fun _ => h1)
  have h3 := State.Kept.ite (c := (dbgLevels tgt (if tgt = 3 then (s.setDebug 0).closeSessions.retireZeroise else (s.setDebug 0).closeSessions).mode).isEmpty = true)
    (fun _ => State.forceSafe_kept h2 5) (fun _ => h2)
  have h4 := State.record_kept (State.cause_kept h3 0x010 5) 0x010 0x1035 1 (detail 0 tgt 0)
  exact State.policyApply_kept (State.showFuses_kept (State.showSec_kept (h4.trans ⟨rfl, rfl, Nat.le_max_left .., id, id, Nat.le_refl _⟩)))

theorem State.fieldLock_kept {s₀ s : State} (h₀ : State.Kept s₀ s) (c : Sub) (blk : List Byte) : State.Kept s₀ (State.fieldLock s c blk) := by
  unfold State.fieldLock
  repeat' first
    | with_reducible assumption
    | with_reducible apply State.finishTag_kept
    | with_reducible apply State.lifecycle_kept
    | with_reducible apply State.sealedOp_kept
    | with_reducible refine .ite (fun _ => ?_) (fun _ => ?_)
    | intro _
    | split

theorem State.retire_kept {s₀ s : State} (h₀ : State.Kept s₀ s) (c : Sub) (blk : List Byte) : State.Kept s₀ (State.retire s c blk) := by
  unfold State.retire
  repeat' first
    | with_reducible assumption
    | with_reducible apply State.finishTag_kept
    | with_reducible apply State.lifecycle_kept
    | with_reducible apply State.sealedOp_kept
    | with_reducible refine .ite (fun _ => ?_) (fun _ => ?_)
    | intro _
    | split

theorem State.vaultStep_kept {s₀ s : State} (h₀ : State.Kept s₀ s) (d : Nat) (oks : List Bool) : State.Kept s₀ (State.vaultStep s d oks) := by
  unfold State.vaultStep
  repeat' first
    | with_reducible assumption
    | intro x; first | (refine (fun (hx : State.Kept s₀ x) => ?_) ?_); clear_value x; rotate_left; subst x | (refine (fun (hx : State.Kept s₀ x.1) => ?_) ?_); clear_value x; rotate_left; subst x | subst x
    | lift_lets -underBinder +implicits
    | split
    | with_reducible apply State.vaultCommit_kept
    | with_reducible apply State.xlCommitted_kept
    | with_reducible refine .ite (fun _ => ?_) (fun _ => ?_)
    | with_reducible refine .ofFst (by assumption) ?_
    | split
    | with_reducible refine State.Kept.mkSec_iff.2 ?_
    | with_reducible refine State.Kept.mk_iff.2 ?_

end Sys2Proof.Machine
end

