-- ==== Sys2Proof/Laws/KeptSerialIo.lean ====
section
/-! SUPPORT. The operations of Machine/SerialIo.lean keep what Laws/Kept.lean says. -/

-- One declaration after another: the package is compiled as one text, and its memory stays within bounds.
set_option Elab.async false

namespace Sys2Proof.Machine

theorem State.setChk_kept {s₀ s : State} (h₀ : State.Kept s₀ s) (u : Nat) (v : ChkSt) : State.Kept s₀ (State.setChk s u v) := by
  unfold State.setChk
  repeat' first
    | with_reducible assumption
    | intro x; first | (refine (fun (hx : State.Kept s₀ x) => ?_) ?_); clear_value x; rotate_left; subst x | subst x
    | lift_lets -underBinder +implicits
    | with_reducible refine .ite (fun _ => ?_) (fun _ => ?_)
    | split
    | with_reducible refine State.Kept.mk_iff.2 ?_

theorem State.chkFresh_kept {s₀ s : State} (h₀ : State.Kept s₀ s) (u : Nat) : State.Kept s₀ (State.chkFresh s u) := by
  unfold State.chkFresh
  repeat' first
    | with_reducible assumption
    | intro x; first | (refine (fun (hx : State.Kept s₀ x) => ?_) ?_); clear_value x; rotate_left; subst x | subst x
    | lift_lets -underBinder +implicits
    | with_reducible apply State.setChk_kept
    | with_reducible apply State.wr_kept
    | with_reducible refine .ite (fun _ => ?_) (fun _ => ?_)
    | split

theorem State.chkStatus_kept {s₀ s : State} (h₀ : State.Kept s₀ s) (u : Nat) (st : Status) : State.Kept s₀ (State.chkStatus s u st) := by
  unfold State.chkStatus
  repeat' first
    | with_reducible assumption
    | intro x; first | (refine (fun (hx : State.Kept s₀ x) => ?_) ?_); clear_value x; rotate_left; subst x | (refine (fun (hx : State.Kept s₀ x.1) => ?_) ?_); clear_value x; rotate_left; subst x | subst x
    | lift_lets -underBinder +implicits
    | with_reducible apply State.cause_kept
    | with_reducible apply State.faultEvent_kept
    | with_reducible apply State.incF_kept
    | with_reducible apply State.wf_kept
    | with_reducible refine .ite (fun _ => ?_) (fun _ => ?_)
    | with_reducible refine .ofFst (by assumption) ?_
    | split

theorem State.chkRecord_kept {s₀ s : State} (h₀ : State.Kept s₀ s) (u : Nat) (b : List Byte) : State.Kept s₀ (State.chkRecord s u b) := by
  unfold State.chkRecord
  repeat' first
    | with_reducible assumption
    | intro x; first | (refine (fun (hx : State.Kept s₀ x) => ?_) ?_); clear_value x; rotate_left; subst x | subst x
    | lift_lets -underBinder +implicits
    | with_reducible apply State.chkStatus_kept
    | with_reducible apply State.setChk_kept
    | with_reducible apply State.wf_kept
    | with_reducible refine .ite (fun _ => ?_) (fun _ => ?_)
    | with_reducible refine .foldl (fun _ _ _ => ?_) ?_
    | split
    | with_reducible refine State.Kept.mk_iff.2 ?_

theorem State.chkByteIn_kept {s₀ s : State} (h₀ : State.Kept s₀ s) (u : Nat) (b : Byte) : State.Kept s₀ (State.chkByteIn s u b) := by
  unfold State.chkByteIn
  repeat' first
    | with_reducible assumption
    | intro x; first | (refine (fun (hx : State.Kept s₀ x) => ?_) ?_); clear_value x; rotate_left; subst x | subst x
    | lift_lets -underBinder +implicits
    | with_reducible apply State.chkRecord_kept
    | with_reducible apply State.setChk_kept
    | with_reducible apply State.wr_kept
    | with_reducible refine .ite (fun _ => ?_) (fun _ => ?_)
    | split
    | with_reducible refine State.Kept.mk_iff.2 ?_

theorem State.chkClearOne_kept {s₀ s : State} (h₀ : State.Kept s₀ s) (u : Nat) : State.Kept s₀ (State.chkClearOne s u) := by
  unfold State.chkClearOne
  repeat' first
    | with_reducible assumption
    | intro x; first | (refine (fun (hx : State.Kept s₀ x) => ?_) ?_); clear_value x; rotate_left; subst x | subst x
    | lift_lets -underBinder +implicits
    | with_reducible apply State.chkFresh_kept
    | with_reducible apply State.setChk_kept
    | with_reducible refine .ite (fun _ => ?_) (fun _ => ?_)
    | split
    | with_reducible refine State.Kept.mk_iff.2 ?_

theorem State.chkClear_kept {s₀ s : State} (h₀ : State.Kept s₀ s) (mask : Nat) : State.Kept s₀ (State.chkClear s mask) := by
  unfold State.chkClear
  repeat' first
    | with_reducible assumption
    | with_reducible apply State.chkClearOne_kept
    | with_reducible refine .ite (fun _ => ?_) (fun _ => ?_)
    | with_reducible refine .foldl (fun _ _ _ => ?_) ?_
    | split

theorem State.chkTake_kept {s₀ s : State} (h₀ : State.Kept s₀ s) (u : Nat) (bs : List Byte) : State.Kept s₀ (State.chkTake s u bs) := by
  unfold State.chkTake
  repeat' first
    | with_reducible assumption
    | with_reducible apply State.chkByteIn_kept
    | with_reducible apply State.chkClearOne_kept
    | with_reducible refine .ite (fun _ => ?_) (fun _ => ?_)
    | with_reducible refine .foldl (fun _ _ _ => ?_) ?_
    | split

theorem State.chkFeed_kept {s₀ s : State} (h₀ : State.Kept s₀ s) (u : Nat) (bs : List Byte) : State.Kept s₀ (State.chkFeed s u bs) := by
  unfold State.chkFeed
  repeat' first
    | with_reducible assumption
    | with_reducible apply State.chkTake_kept
    | with_reducible refine .ite (fun _ => ?_) (fun _ => ?_)
    | split

theorem State.uartFeeds_kept {s₀ s : State} (h₀ : State.Kept s₀ s) (n : Nat) (c : Nat) : State.Kept s₀ (State.uartFeeds s n c) := by
  unfold State.uartFeeds
  repeat' first
    | with_reducible assumption
    | with_reducible apply State.chkTake_kept
    | with_reducible refine .ite (fun _ => ?_) (fun _ => ?_)
    | with_reducible refine .foldl (fun _ _ _ => ?_) ?_
    | split

theorem State.uartBoundary_kept {s₀ s : State} (h₀ : State.Kept s₀ s) (n : Nat) : State.Kept s₀ (State.uartBoundary s n) := by
  unfold State.uartBoundary
  repeat' first
    | with_reducible assumption
    | intro x; first | (refine (fun (hx : State.Kept s₀ x) => ?_) ?_); clear_value x; rotate_left; subst x | subst x
    | lift_lets -underBinder +implicits
    | with_reducible apply State.chkStatus_kept
    | with_reducible apply State.setChk_kept
    | with_reducible refine .ite (fun _ => ?_) (fun _ => ?_)
    | with_reducible refine .foldl (fun _ _ _ => ?_) ?_
    | split
    | with_reducible refine State.Kept.mk_iff.2 ?_

theorem State.setUart_kept {s₀ s : State} (h₀ : State.Kept s₀ s) (n : Nat) (k : UartSt) : State.Kept s₀ (State.setUart s n k) := by
  unfold State.setUart
  repeat' first
    | with_reducible assumption
    | intro x; first | (refine (fun (hx : State.Kept s₀ x) => ?_) ?_); clear_value x; rotate_left; subst x | subst x
    | lift_lets -underBinder +implicits
    | with_reducible apply State.wr_kept
    | with_reducible refine .ite (fun _ => ?_) (fun _ => ?_)
    | split
    | with_reducible refine State.Kept.mk_iff.2 ?_

theorem State.uartStart_kept {s₀ s : State} (h₀ : State.Kept s₀ s) (n : Nat) : State.Kept s₀ (State.uartStart s n) := by
  unfold State.uartStart
  repeat' first
    | with_reducible assumption
    | intro x; first | (refine (fun (hx : State.Kept s₀ x) => ?_) ?_); clear_value x; rotate_left; subst x | subst x
    | lift_lets -underBinder +implicits
    | with_reducible apply State.cause_kept
    | with_reducible apply State.setUart_kept
    | with_reducible refine .ite (fun _ => ?_) (fun _ => ?_)
    | split
    | with_reducible refine State.Kept.mk_iff.2 ?_

theorem State.uartTx_kept {s₀ s : State} (h₀ : State.Kept s₀ s) (n c : Nat) : State.Kept s₀ (State.uartTx s n c) := by
  unfold State.uartTx
  repeat' first
    | with_reducible assumption
    | intro x; first | (refine (fun (hx : State.Kept s₀ x) => ?_) ?_); clear_value x; rotate_left; subst x | subst x
    | lift_lets -underBinder +implicits
    | with_reducible apply State.setUart_kept
    | with_reducible apply State.uartStart_kept
    | with_reducible refine .ite (fun _ => ?_) (fun _ => ?_)
    | split
    | with_reducible refine State.Kept.mk_iff.2 ?_

theorem State.uartTxDone_kept {s₀ s : State} (h₀ : State.Kept s₀ s) (n : Nat) : State.Kept s₀ (State.uartTxDone s n) := by
  unfold State.uartTxDone
  repeat' first
    | with_reducible assumption
    | intro x; first | (refine (fun (hx : State.Kept s₀ x) => ?_) ?_); clear_value x; rotate_left; subst x | subst x
    | lift_lets -underBinder +implicits
    | with_reducible apply State.setUart_kept
    | with_reducible apply State.uartStart_kept
    | with_reducible refine .ite (fun _ => ?_) (fun _ => ?_)
    | split
    | with_reducible refine State.Kept.mk_iff.2 ?_

theorem State.brkSend_kept {s₀ s : State} (h₀ : State.Kept s₀ s) (n : Nat) : State.Kept s₀ (State.brkSend s n) := by
  unfold State.brkSend
  repeat' first
    | with_reducible assumption
    | intro x; first | (refine (fun (hx : State.Kept s₀ x) => ?_) ?_); clear_value x; rotate_left; subst x | subst x
    | lift_lets -underBinder +implicits
    | with_reducible apply State.setUart_kept
    | with_reducible apply State.uartStart_kept
    | with_reducible refine .ite (fun _ => ?_) (fun _ => ?_)
    | split
    | with_reducible refine State.Kept.mk_iff.2 ?_

theorem State.ctsChange_kept {s₀ s : State} (h₀ : State.Kept s₀ s) (high : Bool) : State.Kept s₀ (State.ctsChange s high) := by
  unfold State.ctsChange
  repeat' first
    | with_reducible assumption
    | intro x; first | (refine (fun (hx : State.Kept s₀ x) => ?_) ?_); clear_value x; rotate_left; subst x | subst x
    | lift_lets -underBinder +implicits
    | with_reducible apply State.setUart_kept
    | with_reducible apply State.uartStart_kept
    | with_reducible refine .ite (fun _ => ?_) (fun _ => ?_)
    | split
    | with_reducible refine State.Kept.mk_iff.2 ?_

theorem State.setSleep_kept {s₀ s : State} (h₀ : State.Kept s₀ s) (l : List Nat) : State.Kept s₀ (State.setSleep s l) := by
  unfold State.setSleep
  repeat' first
    | with_reducible assumption
    | intro x; first | (refine (fun (hx : State.Kept s₀ x) => ?_) ?_); clear_value x; rotate_left; subst x | subst x
    | lift_lets -underBinder +implicits
    | with_reducible apply State.wf_kept
    | with_reducible refine .ite (fun _ => ?_) (fun _ => ?_)
    | split
    | with_reducible refine State.Kept.mk_iff.2 ?_

theorem State.rxSeen_kept {s₀ s : State} (h₀ : State.Kept s₀ s) (n start e : Nat) : State.Kept s₀ (State.rxSeen s n start e) := by
  unfold State.rxSeen
  repeat' first
    | with_reducible assumption
    | intro x; first | (refine (fun (hx : State.Kept s₀ x) => ?_) ?_); clear_value x; rotate_left; subst x | subst x
    | lift_lets -underBinder +implicits
    | with_reducible apply State.setUart_kept
    | with_reducible refine .ite (fun _ => ?_) (fun _ => ?_)
    | split
    | with_reducible refine State.Kept.mk_iff.2 ?_

theorem State.idleBefore_kept {s₀ s : State} (h₀ : State.Kept s₀ s) (n start : Nat) : State.Kept s₀ (State.idleBefore s n start) := by
  unfold State.idleBefore
  repeat' first
    | with_reducible assumption
    | with_reducible apply State.uartBoundary_kept
    | with_reducible refine .ite (fun _ => ?_) (fun _ => ?_)
    | split

theorem State.handover_kept {s₀ s : State} (h₀ : State.Kept s₀ s)  : State.Kept s₀ (State.handover s) := by
  unfold State.handover
  repeat' first
    | with_reducible assumption
    | intro x; first | (refine (fun (hx : State.Kept s₀ x) => ?_) ?_); clear_value x; rotate_left; subst x | subst x
    | lift_lets -underBinder +implicits
    | with_reducible apply State.cause_kept
    | with_reducible apply State.setSleep_kept
    | with_reducible apply State.setUart_kept
    | with_reducible apply State.uartFeeds_kept
    | with_reducible apply State.wf_kept
    | with_reducible refine .ite (fun _ => ?_) (fun _ => ?_)
    | with_reducible refine .foldl (fun _ _ _ => ?_) ?_
    | split
    | with_reducible refine State.Kept.mk_iff.2 ?_

theorem State.uartRx_kept {s₀ s : State} (h₀ : State.Kept s₀ s) (n : Nat) (c : UartChar) : State.Kept s₀ (State.uartRx s n c) := by
  unfold State.uartRx
  repeat' first
    | with_reducible assumption
    | intro x; first | (refine (fun (hx : State.Kept s₀ x) => ?_) ?_); clear_value x; rotate_left; subst x | subst x
    | lift_lets -underBinder +implicits
    | with_reducible apply State.cause_kept
    | with_reducible apply State.handover_kept
    | with_reducible apply State.idleBefore_kept
    | with_reducible apply State.incF_kept
    | with_reducible apply State.rxSeen_kept
    | with_reducible apply State.setSleep_kept
    | with_reducible apply State.setUart_kept
    | with_reducible apply State.uartFeeds_kept
    | with_reducible refine .ite (fun _ => ?_) (fun _ => ?_)
    | split
    | with_reducible refine State.Kept.mk_iff.2 ?_

theorem State.uartPop_kept {s₀ s : State} (h₀ : State.Kept s₀ s) (n : Nat) : State.Kept s₀ (State.uartPop s n) := by
  unfold State.uartPop
  repeat' first
    | with_reducible assumption
    | intro x; first | (refine (fun (hx : State.Kept s₀ x) => ?_) ?_); clear_value x; rotate_left; subst x | subst x
    | lift_lets -underBinder +implicits
    | with_reducible apply State.setUart_kept
    | with_reducible refine .ite (fun _ => ?_) (fun _ => ?_)
    | split
    | with_reducible refine State.Kept.mk_iff.2 ?_

theorem State.uartBreak_kept {s₀ s : State} (h₀ : State.Kept s₀ s) (n start : Nat) : State.Kept s₀ (State.uartBreak s n start) := by
  unfold State.uartBreak
  repeat' first
    | with_reducible assumption
    | intro x; first | (refine (fun (hx : State.Kept s₀ x) => ?_) ?_); clear_value x; rotate_left; subst x | subst x
    | lift_lets -underBinder +implicits
    | with_reducible apply State.cause_kept
    | with_reducible apply State.incF_kept
    | with_reducible apply State.rxSeen_kept
    | with_reducible apply State.uartBoundary_kept
    | with_reducible apply State.wf_kept
    | with_reducible refine .ite (fun _ => ?_) (fun _ => ?_)
    | split

theorem State.deadLine_kept {s₀ s : State} (h₀ : State.Kept s₀ s) (n start : Nat) : State.Kept s₀ (State.deadLine s n start) := by
  unfold State.deadLine
  repeat' first
    | with_reducible assumption
    | intro x; first | (refine (fun (hx : State.Kept s₀ x) => ?_) ?_); clear_value x; rotate_left; subst x | subst x
    | lift_lets -underBinder +implicits
    | with_reducible apply State.cause_kept
    | with_reducible apply State.incF_kept
    | with_reducible apply State.pageRecord_kept
    | with_reducible apply State.setUart_kept
    | with_reducible refine .ite (fun _ => ?_) (fun _ => ?_)
    | split
    | with_reducible refine State.Kept.mk_iff.2 ?_

theorem State.deadClear_kept {s₀ s : State} (h₀ : State.Kept s₀ s) (n : Nat) : State.Kept s₀ (State.deadClear s n) := by
  unfold State.deadClear
  repeat' first
    | with_reducible assumption
    | intro x; first | (refine (fun (hx : State.Kept s₀ x) => ?_) ?_); clear_value x; rotate_left; subst x | subst x
    | lift_lets -underBinder +implicits
    | with_reducible apply State.setUart_kept
    | with_reducible refine .ite (fun _ => ?_) (fun _ => ?_)
    | split
    | with_reducible refine State.Kept.mk_iff.2 ?_

theorem State.uartDiv_kept {s₀ s : State} (h₀ : State.Kept s₀ s) (n v : Nat) : State.Kept s₀ (State.uartDiv s n v) := by
  unfold State.uartDiv
  repeat' first
    | with_reducible assumption
    | intro x; first | (refine (fun (hx : State.Kept s₀ x) => ?_) ?_); clear_value x; rotate_left; subst x | subst x
    | lift_lets -underBinder +implicits
    | with_reducible apply State.setUart_kept
    | with_reducible apply State.wf_kept
    | with_reducible refine .ite (fun _ => ?_) (fun _ => ?_)
    | split
    | with_reducible refine State.Kept.mk_iff.2 ?_

theorem State.uartIdle_kept {s₀ s : State} (h₀ : State.Kept s₀ s) (n : Nat) : State.Kept s₀ (State.uartIdle s n) := by
  unfold State.uartIdle
  repeat' first
    | with_reducible assumption
    | with_reducible apply State.idleBefore_kept
    | with_reducible refine .ite (fun _ => ?_) (fun _ => ?_)
    | split

theorem State.wakeMatch_kept {s₀ s : State} (h₀ : State.Kept s₀ s) (c : UartChar) : State.Kept s₀ (State.wakeMatch s c) := by
  unfold State.wakeMatch
  repeat' first
    | with_reducible assumption
    | intro x; first | (refine (fun (hx : State.Kept s₀ x) => ?_) ?_); clear_value x; rotate_left; subst x | subst x
    | lift_lets -underBinder +implicits
    | with_reducible apply State.cause_kept
    | with_reducible apply State.rxSeen_kept
    | with_reducible apply State.setSleep_kept
    | with_reducible apply State.wake_kept
    | with_reducible apply State.wb_kept
    | with_reducible apply State.wf_kept
    | with_reducible refine .ite (fun _ => ?_) (fun _ => ?_)
    | split
    | with_reducible refine State.Kept.mk_iff.2 ?_

theorem State.chkTimeout_kept {s₀ s : State} (h₀ : State.Kept s₀ s) (u : Nat) : State.Kept s₀ (State.chkTimeout s u) := by
  unfold State.chkTimeout
  repeat' first
    | with_reducible assumption
    | intro x; first | (refine (fun (hx : State.Kept s₀ x) => ?_) ?_); clear_value x; rotate_left; subst x | subst x
    | lift_lets -underBinder +implicits
    | with_reducible apply State.chkStatus_kept
    | with_reducible apply State.setChk_kept
    | with_reducible refine .ite (fun _ => ?_) (fun _ => ?_)
    | split
    | with_reducible refine State.Kept.mk_iff.2 ?_

theorem State.setI2c_kept {s₀ s : State} (h₀ : State.Kept s₀ s) (k : I2cSt) : State.Kept s₀ (State.setI2c s k) := by
  unfold State.setI2c
  repeat' first
    | with_reducible assumption
    | intro x; first | (refine (fun (hx : State.Kept s₀ x) => ?_) ?_); clear_value x; rotate_left; subst x | subst x
    | lift_lets -underBinder +implicits
    | with_reducible apply State.wb_kept
    | with_reducible apply State.wf_kept
    | with_reducible apply State.wr_kept
    | with_reducible refine .ite (fun _ => ?_) (fun _ => ?_)
    | split
    | with_reducible refine State.Kept.mk_iff.2 ?_

theorem State.i2cCmd_kept {s₀ s : State} (h₀ : State.Kept s₀ s) (v : Nat) : State.Kept s₀ (State.i2cCmd s v) := by
  unfold State.i2cCmd
  repeat' first
    | with_reducible assumption
    | intro x; first | (refine (fun (hx : State.Kept s₀ x) => ?_) ?_); clear_value x; rotate_left; subst x | subst x
    | lift_lets -underBinder +implicits
    | with_reducible apply State.setI2c_kept
    | with_reducible refine .ite (fun _ => ?_) (fun _ => ?_)
    | split
    | with_reducible refine State.Kept.mk_iff.2 ?_

theorem State.i2cQueue_kept {s₀ s : State} (h₀ : State.Kept s₀ s) (cmds : List Nat) (held : Bool) : State.Kept s₀ (State.i2cQueue s cmds held) := by
  unfold State.i2cQueue
  repeat' first
    | with_reducible assumption
    | intro x; first | (refine (fun (hx : State.Kept s₀ x) => ?_) ?_); clear_value x; rotate_left; subst x | subst x
    | lift_lets -underBinder +implicits
    | with_reducible apply State.cause_kept
    | with_reducible apply State.setI2c_kept
    | with_reducible refine .ite (fun _ => ?_) (fun _ => ?_)
    | split
    | with_reducible refine State.Kept.mk_iff.2 ?_

theorem State.i2cStopped_kept {s₀ s : State} (h₀ : State.Kept s₀ s) (cmds : List Nat) : State.Kept s₀ (State.i2cStopped s cmds) := by
  unfold State.i2cStopped
  repeat' first
    | with_reducible assumption
    | with_reducible apply State.i2cQueue_kept
    | with_reducible apply State.wb_kept
    | with_reducible refine .ite (fun _ => ?_) (fun _ => ?_)
    | split

theorem State.i2cWritten_kept {s₀ s : State} (h₀ : State.Kept s₀ s) (rest : List Nat) (nack arb : Bool) : State.Kept s₀ (State.i2cWritten s rest nack arb) := by
  unfold State.i2cWritten
  repeat' first
    | with_reducible assumption
    | with_reducible apply State.cause_kept
    | with_reducible apply State.i2cQueue_kept
    | with_reducible apply State.i2cStopped_kept
    | with_reducible apply State.incF_kept
    | with_reducible apply State.wb_kept
    | with_reducible refine .ite (fun _ => ?_) (fun _ => ?_)
    | split

theorem State.i2cRecovery_kept {s₀ s : State} (h₀ : State.Kept s₀ s) (clocks : Nat) : State.Kept s₀ (State.i2cRecovery s clocks).1 := by
  unfold State.i2cRecovery
  repeat' first
    | with_reducible assumption
    | intro x; first | (refine (fun (hx : State.Kept s₀ x) => ?_) ?_); clear_value x; rotate_left; subst x | (refine (fun (hx : State.Kept s₀ x.1) => ?_) ?_); clear_value x; rotate_left; subst x | subst x
    | lift_lets -underBinder +implicits
    | with_reducible apply State.cause_kept
    | with_reducible apply State.faultEvent_kept
    | with_reducible apply State.i2cQueue_kept
    | with_reducible apply State.incF_kept
    | with_reducible apply State.pageRecord_kept
    | with_reducible apply State.setI2c_kept
    | with_reducible apply State.wb_kept
    | with_reducible refine .ite (fun _ => ?_) (fun _ => ?_)
    | with_reducible refine .iteFst (fun _ => ?_) (fun _ => ?_)
    | with_reducible refine .ofFst (by assumption) ?_
    | split
    | with_reducible refine State.Kept.mk_iff.2 ?_

theorem State.i2cStart_kept {s₀ s : State} (h₀ : State.Kept s₀ s) (clocks : Nat) (nack arb : Bool) : State.Kept s₀ (State.i2cStart s clocks nack arb) := by
  unfold State.i2cStart
  repeat' first
    | with_reducible assumption
    | intro x; first | (refine (fun (hx : State.Kept s₀ x) => ?_) ?_); clear_value x; rotate_left; subst x | (refine (fun (hx : State.Kept s₀ x.1) => ?_) ?_); clear_value x; rotate_left; subst x | subst x
    | lift_lets -underBinder +implicits
    | split
    | with_reducible apply State.i2cRecovery_kept
    | with_reducible apply State.i2cWritten_kept
    | with_reducible apply State.wb_kept
    | with_reducible refine .ite (fun _ => ?_) (fun _ => ?_)
    | with_reducible refine .ofFst (by assumption) ?_
    | split

theorem State.i2cWrite_kept {s₀ s : State} (h₀ : State.Kept s₀ s) (nack arb : Bool) : State.Kept s₀ (State.i2cWrite s nack arb) := by
  unfold State.i2cWrite
  repeat' first
    | with_reducible assumption
    | intro x; first | (refine (fun (hx : State.Kept s₀ x) => ?_) ?_); clear_value x; rotate_left; subst x | subst x
    | lift_lets -underBinder +implicits
    | with_reducible apply State.i2cWritten_kept
    | with_reducible refine .ite (fun _ => ?_) (fun _ => ?_)
    | split

theorem State.i2cRead_kept {s₀ s : State} (h₀ : State.Kept s₀ s) (b : Byte) (arb : Bool) : State.Kept s₀ (State.i2cRead s b arb) := by
  unfold State.i2cRead
  repeat' first
    | with_reducible assumption
    | intro x; first | (refine (fun (hx : State.Kept s₀ x) => ?_) ?_); clear_value x; rotate_left; subst x | subst x
    | lift_lets -underBinder +implicits
    | with_reducible apply State.i2cQueue_kept
    | with_reducible apply State.i2cWritten_kept
    | with_reducible refine .ite (fun _ => ?_) (fun _ => ?_)
    | split
    | with_reducible refine State.Kept.mk_iff.2 ?_

theorem State.i2cStop_kept {s₀ s : State} (h₀ : State.Kept s₀ s)  : State.Kept s₀ (State.i2cStop s) := by
  unfold State.i2cStop
  repeat' first
    | with_reducible assumption
    | intro x; first | (refine (fun (hx : State.Kept s₀ x) => ?_) ?_); clear_value x; rotate_left; subst x | subst x
    | lift_lets -underBinder +implicits
    | with_reducible apply State.i2cStopped_kept
    | with_reducible refine .ite (fun _ => ?_) (fun _ => ?_)
    | split

theorem State.i2cRecover_kept {s₀ s : State} (h₀ : State.Kept s₀ s) (clocks : Nat) : State.Kept s₀ (State.i2cRecover s clocks) := by
  unfold State.i2cRecover
  repeat' first
    | with_reducible assumption
    | with_reducible apply State.i2cRecovery_kept
    | with_reducible refine .ite (fun _ => ?_) (fun _ => ?_)
    | with_reducible refine .ofFst (by assumption) ?_
    | split

theorem State.i2cAbort_kept {s₀ s : State} (h₀ : State.Kept s₀ s)  : State.Kept s₀ (State.i2cAbort s) := by
  unfold State.i2cAbort
  repeat' first
    | with_reducible assumption
    | with_reducible apply State.i2cStopped_kept
    | with_reducible refine .ite (fun _ => ?_) (fun _ => ?_)
    | split

theorem State.i2cPop_kept {s₀ s : State} (h₀ : State.Kept s₀ s)  : State.Kept s₀ (State.i2cPop s) := by
  unfold State.i2cPop
  repeat' first
    | with_reducible assumption
    | intro x; first | (refine (fun (hx : State.Kept s₀ x) => ?_) ?_); clear_value x; rotate_left; subst x | subst x
    | lift_lets -underBinder +implicits
    | with_reducible apply State.setI2c_kept
    | with_reducible refine .ite (fun _ => ?_) (fun _ => ?_)
    | split
    | with_reducible refine State.Kept.mk_iff.2 ?_

theorem State.sclTimeout_kept {s₀ s : State} (h₀ : State.Kept s₀ s)  : State.Kept s₀ (State.sclTimeout s) := by
  unfold State.sclTimeout
  repeat' first
    | with_reducible assumption
    | intro x; first | (refine (fun (hx : State.Kept s₀ x) => ?_) ?_); clear_value x; rotate_left; subst x | subst x
    | lift_lets -underBinder +implicits
    | with_reducible apply State.i2cQueue_kept
    | with_reducible apply State.wb_kept
    | with_reducible refine .ite (fun _ => ?_) (fun _ => ?_)
    | split
    | with_reducible refine State.Kept.mk_iff.2 ?_

theorem State.sclRelease_kept {s₀ s : State} (h₀ : State.Kept s₀ s)  : State.Kept s₀ (State.sclRelease s) := by
  unfold State.sclRelease
  repeat' first
    | with_reducible assumption
    | intro x; first | (refine (fun (hx : State.Kept s₀ x) => ?_) ?_); clear_value x; rotate_left; subst x | subst x
    | lift_lets -underBinder +implicits
    | with_reducible apply State.i2cStopped_kept
    | with_reducible refine .ite (fun _ => ?_) (fun _ => ?_)
    | split
    | with_reducible refine State.Kept.mk_iff.2 ?_

theorem State.outNote_kept {s₀ s : State} (h₀ : State.Kept s₀ s) (m : Nat) (v : Word) : State.Kept s₀ (State.outNote s m v) := by
  unfold State.outNote
  repeat' first
    | with_reducible assumption
    | intro x; first | (refine (fun (hx : State.Kept s₀ x) => ?_) ?_); clear_value x; rotate_left; subst x | subst x
    | lift_lets -underBinder +implicits
    | with_reducible refine .ite (fun _ => ?_) (fun _ => ?_)
    | split
    | with_reducible refine State.Kept.mk_iff.2 ?_

theorem State.outSet_kept {s₀ s : State} (h₀ : State.Kept s₀ s) (m : Nat) (v : Word) : State.Kept s₀ (State.outSet s m v) := by
  unfold State.outSet
  repeat' first
    | with_reducible assumption
    | with_reducible apply State.outNote_kept
    | with_reducible apply State.wr_kept
    | with_reducible refine .ite (fun _ => ?_) (fun _ => ?_)
    | split

theorem State.outClr_kept {s₀ s : State} (h₀ : State.Kept s₀ s) (m : Nat) (v : Word) : State.Kept s₀ (State.outClr s m v) := by
  unfold State.outClr
  repeat' first
    | with_reducible assumption
    | with_reducible apply State.outNote_kept
    | with_reducible apply State.wr_kept
    | with_reducible refine .ite (fun _ => ?_) (fun _ => ?_)
    | split

theorem State.gpioEdge_kept {s₀ s : State} (h₀ : State.Kept s₀ s) (n : Nat) (high : Bool) (held : Nat) : State.Kept s₀ (State.gpioEdge s n high held) := by
  unfold State.gpioEdge
  repeat' first
    | with_reducible assumption
    | intro x; first | (refine (fun (hx : State.Kept s₀ x) => ?_) ?_); clear_value x; rotate_left; subst x | subst x
    | lift_lets -underBinder +implicits
    | with_reducible apply State.cause_kept
    | with_reducible apply State.wake_kept
    | with_reducible apply State.wb_kept
    | with_reducible refine .ite (fun _ => ?_) (fun _ => ?_)
    | split

theorem State.ppsEdge_kept {s₀ s : State} (h₀ : State.Kept s₀ s) (falling : Bool) (held : Nat) : State.Kept s₀ (State.ppsEdge s falling held) := by
  unfold State.ppsEdge
  repeat' first
    | with_reducible assumption
    | intro x; first | (refine (fun (hx : State.Kept s₀ x) => ?_) ?_); clear_value x; rotate_left; subst x | subst x
    | lift_lets -underBinder +implicits
    | with_reducible apply State.cause_kept
    | with_reducible apply State.incF_kept
    | with_reducible apply State.utcEdge_kept
    | with_reducible apply State.wb_kept
    | with_reducible apply State.wr64_kept
    | with_reducible refine .ite (fun _ => ?_) (fun _ => ?_)
    | split
    | with_reducible refine State.Kept.mk_iff.2 ?_

end Sys2Proof.Machine
end

