-- ==== Sys2Proof/Laws/KeptUplink.lean ====
section
/-! SUPPORT. The operations of Machine/Uplink.lean keep what Laws/Kept.lean says. -/

-- One declaration after another: the package is compiled as one text, and its memory stays within bounds.
set_option Elab.async false

namespace Sys2Proof.Machine

theorem State.sendReport_kept {s₀ s : State} (h₀ : State.Kept s₀ s) (dst msgId : Nat) (sec : Bool) (body : List Byte) : State.Kept s₀ (State.sendReport s dst msgId sec body) := by
  unfold State.sendReport
  repeat' first
    | with_reducible assumption
    | intro x; first | (refine (fun (hx : State.Kept s₀ x) => ?_) ?_); clear_value x; rotate_left; subst x | subst x
    | lift_lets -underBinder +implicits
    | with_reducible apply State.creditRequest_kept
    | with_reducible apply State.setMsg_kept
    | with_reducible apply State.writeItem_kept
    | with_reducible refine .ite (fun _ => ?_) (fun _ => ?_)
    | split
    | with_reducible refine State.Kept.mkSec_iff.2 ?_
    | with_reducible refine State.Kept.mk_iff.2 ?_

theorem State.keepReport_kept {s₀ s : State} (h₀ : State.Kept s₀ s) (src id : Nat) (body : List Byte) : State.Kept s₀ (State.keepReport s src id body) := by
  unfold State.keepReport
  repeat' first
    | with_reducible assumption
    | intro x; first | (refine (fun (hx : State.Kept s₀ x) => ?_) ?_); clear_value x; rotate_left; subst x | subst x
    | lift_lets -underBinder +implicits
    | with_reducible refine .ite (fun _ => ?_) (fun _ => ?_)
    | split
    | with_reducible refine State.Kept.mk_iff.2 ?_

theorem State.reasmDone_kept {s₀ s : State} (h₀ : State.Kept s₀ s) (r : Reasm) : State.Kept s₀ (State.reasmDone s r) := by
  unfold State.reasmDone
  repeat' first
    | with_reducible assumption
    | intro x; first | (refine (fun (hx : State.Kept s₀ x) => ?_) ?_); clear_value x; rotate_left; subst x | subst x
    | lift_lets -underBinder +implicits
    | with_reducible refine .ite (fun _ => ?_) (fun _ => ?_)
    | split
    | with_reducible refine State.Kept.mk_iff.2 ?_

theorem State.uplinkRx_kept {s₀ s : State} (h₀ : State.Kept s₀ s)  : State.Kept s₀ (State.uplinkRx s) := by
  unfold State.uplinkRx
  repeat' first
    | with_reducible assumption
    | intro x; first | (refine (fun (hx : State.Kept s₀ x) => ?_) ?_); clear_value x; rotate_left; subst x | subst x
    | lift_lets -underBinder +implicits
    | with_reducible apply State.addF_kept
    | with_reducible apply State.deliverUplink_kept
    | with_reducible apply State.inc_kept
    | with_reducible apply State.keepReport_kept
    | with_reducible apply State.reasmDone_kept
    | with_reducible apply State.sendReport_kept
    | with_reducible apply State.setEp_kept
    | with_reducible apply State.spoolCheck_kept
    | with_reducible refine .ite (fun _ => ?_) (fun _ => ?_)
    | split
    | with_reducible refine State.Kept.mkSec_iff.2 ?_
    | with_reducible refine State.Kept.mk_iff.2 ?_

theorem State.reportRx_kept {s₀ s : State} (h₀ : State.Kept s₀ s)  : State.Kept s₀ (State.reportRx s) := by
  unfold State.reportRx
  repeat' first
    | with_reducible assumption
    | intro x; first | (refine (fun (hx : State.Kept s₀ x) => ?_) ?_); clear_value x; rotate_left; subst x | subst x
    | lift_lets -underBinder +implicits
    | with_reducible apply State.reasmDone_kept
    | with_reducible apply State.reportEnds_kept
    | with_reducible refine .ite (fun _ => ?_) (fun _ => ?_)
    | split

theorem State.reasmTimeout_kept {s₀ s : State} (h₀ : State.Kept s₀ s)  : State.Kept s₀ (State.reasmTimeout s) := by
  unfold State.reasmTimeout
  repeat' first
    | with_reducible assumption
    | intro x; first | (refine (fun (hx : State.Kept s₀ x) => ?_) ?_); clear_value x; rotate_left; subst x | subst x
    | lift_lets -underBinder +implicits
    | with_reducible apply State.bbFrameRx_kept
    | with_reducible apply State.cause_kept
    | with_reducible apply State.inc_kept
    | with_reducible apply State.nbFrameRx_kept
    | with_reducible apply State.reasmDone_kept
    | with_reducible refine .ite (fun _ => ?_) (fun _ => ?_)
    | with_reducible refine .foldl (fun _ _ _ => ?_) ?_
    | split

end Sys2Proof.Machine
end

