-- ==== Sys2Proof/Laws/KeptBoot.lean ====
section
/-! SUPPORT. The operations of Machine/Boot.lean keep what Laws/Kept.lean says. -/

-- One declaration after another: the package is compiled as one text, and its memory stays within bounds.
set_option Elab.async false

namespace Sys2Proof.Machine

theorem State.flashWrite_kept {s₀ s : State} (h₀ : State.Kept s₀ s) (a : Nat) (b : List Byte) : State.Kept s₀ (State.flashWrite s a b) := by
  unfold State.flashWrite
  repeat' first
    | with_reducible assumption
    | intro x; first | (refine (fun (hx : State.Kept s₀ x) => ?_) ?_); clear_value x; rotate_left; subst x | subst x
    | lift_lets -underBinder +implicits
    | with_reducible refine .ite (fun _ => ?_) (fun _ => ?_)
    | split
    | with_reducible refine State.Kept.mkSec_iff.2 ?_
    | with_reducible refine State.Kept.mk_iff.2 ?_

theorem State.bootWrite_kept {s₀ s : State} (h₀ : State.Kept s₀ s) (active trial : Nat) : State.Kept s₀ (State.bootWrite s active trial) := by
  unfold State.bootWrite
  repeat' first
    | with_reducible assumption
    | intro x; first | (refine (fun (hx : State.Kept s₀ x) => ?_) ?_); clear_value x; rotate_left; subst x | subst x
    | lift_lets -underBinder +implicits
    | split
    | with_reducible apply State.flashWrite_kept
    | with_reducible refine .ite (fun _ => ?_) (fun _ => ?_)
    | split

theorem State.imageCheck_kept {s₀ s : State} (h₀ : State.Kept s₀ s) (k : Nat) : State.Kept s₀ (State.imageCheck s k).1 := by
  unfold State.imageCheck
  repeat' first
    | with_reducible assumption
    | intro x; first | (refine (fun (hx : State.Kept s₀ x) => ?_) ?_); clear_value x; rotate_left; subst x | (refine (fun (hx : State.Kept s₀ x.1) => ?_) ?_); clear_value x; rotate_left; subst x | subst x
    | lift_lets -underBinder +implicits
    | with_reducible apply State.addF_kept
    | with_reducible apply State.verified_kept
    | with_reducible refine .ite (fun _ => ?_) (fun _ => ?_)
    | with_reducible refine .iteFst (fun _ => ?_) (fun _ => ?_)
    | split

theorem State.bootTry_kept {s₀ s : State} (h₀ : State.Kept s₀ s) (k : Nat) : State.Kept s₀ (State.bootTry s k).1 := by
  unfold State.bootTry
  repeat' first
    | with_reducible assumption
    | intro x; first | (refine (fun (hx : State.Kept s₀ x) => ?_) ?_); clear_value x; rotate_left; subst x | (refine (fun (hx : State.Kept s₀ x.1) => ?_) ?_); clear_value x; rotate_left; subst x | subst x
    | lift_lets -underBinder +implicits
    | split
    | with_reducible apply State.imageCheck_kept
    | with_reducible apply State.incF_kept
    | with_reducible apply State.record_kept
    | with_reducible refine .ite (fun _ => ?_) (fun _ => ?_)
    | with_reducible refine .iteFst (fun _ => ?_) (fun _ => ?_)
    | with_reducible refine .ofFst (by assumption) ?_
    | split

theorem State.bare_kept {s₀ s : State} (h₀ : State.Kept s₀ s) : State.Kept s₀ s.bare :=
  h₀.trans ⟨rfl, rfl, Nat.le_refl _, fun w => ⟨regsCanon_filter _ w.1, rfl, rfl, w.2.2.2⟩, fun _ => Nat.zero_le _, Nat.zero_le _⟩

theorem State.trialWithdrawn_kept {s₀ s : State} (h₀ : State.Kept s₀ s)  : State.Kept s₀ (State.trialWithdrawn s) := by
  unfold State.trialWithdrawn
  repeat' first
    | with_reducible assumption
    | with_reducible apply State.bootWrite_kept
    | with_reducible refine .ite (fun _ => ?_) (fun _ => ?_)
    | split

theorem State.rstCause_kept {s₀ s : State} (h₀ : State.Kept s₀ s) (bits count : Nat) : State.Kept s₀ (State.rstCause s bits count) := by
  unfold State.rstCause
  repeat' first
    | with_reducible assumption
    | with_reducible apply State.wr_kept
    | with_reducible refine .ite (fun _ => ?_) (fun _ => ?_)
    | split

theorem State.strapped_kept {s₀ s : State} (h₀ : State.Kept s₀ s)  : State.Kept s₀ (State.strapped s) := by
  unfold State.strapped
  repeat' first
    | with_reducible assumption
    | with_reducible apply State.wr_kept
    | with_reducible refine .ite (fun _ => ?_) (fun _ => ?_)
    | split

theorem State.bootStart_kept {s₀ s : State} (h₀ : State.Kept s₀ s) (por : Bool) : State.Kept s₀ (State.bootStart s por) := by
  unfold State.bootStart
  repeat' first
    | with_reducible assumption
    | intro x; first | (refine (fun (hx : State.Kept s₀ x) => ?_) ?_); clear_value x; rotate_left; subst x | subst x
    | lift_lets -underBinder +implicits
    | with_reducible apply State.wr_kept
    | with_reducible refine .ite (fun _ => ?_) (fun _ => ?_)
    | split
    | with_reducible refine State.Kept.mk_iff.2 ?_

theorem State.powerOnReset_kept {s₀ s : State} (h₀ : State.Kept s₀ s) (src straps : Nat) : State.Kept s₀ (State.powerOnReset s src straps) := by
  unfold State.powerOnReset
  repeat' first
    | with_reducible assumption
    | intro x; first | (refine (fun (hx : State.Kept s₀ x) => ?_) ?_); clear_value x; rotate_left; subst x | subst x
    | lift_lets -underBinder +implicits
    | with_reducible apply State.bare_kept
    | with_reducible apply State.bootStart_kept
    | with_reducible apply State.policyApply_kept
    | with_reducible apply State.recountAll_kept
    | with_reducible apply State.rstCause_kept
    | with_reducible apply State.strapped_kept
    | with_reducible apply State.trialWithdrawn_kept
    | with_reducible apply State.wr_kept
    | with_reducible refine .ite (fun _ => ?_) (fun _ => ?_)
    | split
    | with_reducible refine State.Kept.mk_iff.2 ?_

theorem State.deviceKeep_kept {s₀ s : State} (h₀ : State.Kept s₀ s) : State.Kept s₀ s.deviceKeep := by
  have h : State.Kept s s.trialWithdrawn.bare := State.bare_kept (State.trialWithdrawn_kept .rfl')
  exact h₀.trans ⟨h.now, h.pending, h.lc, fun w => ⟨regsCanon_filter _ w.1, (h.wf w).2⟩, id, h.dbg⟩

theorem State.deviceReset_kept {s₀ s : State} (h₀ : State.Kept s₀ s) (src : Nat) : State.Kept s₀ (State.deviceReset s src) := by
  unfold State.deviceReset
  repeat' first
    | with_reducible assumption
    | intro x; first | (refine (fun (hx : State.Kept s₀ x) => ?_) ?_); clear_value x; rotate_left; subst x | subst x
    | lift_lets -underBinder +implicits
    | with_reducible apply State.bootStart_kept
    | with_reducible apply State.deviceKeep_kept
    | with_reducible apply State.policyApply_kept
    | with_reducible apply State.recountAll_kept
    | with_reducible apply State.rstCause_kept
    | with_reducible apply State.strapped_kept
    | with_reducible apply State.wb_kept
    | with_reducible refine .ite (fun _ => ?_) (fun _ => ?_)
    | split

theorem State.dusDrawn_kept {s₀ s : State} (h₀ : State.Kept s₀ s)  : State.Kept s₀ (State.dusDrawn s) := by
  unfold State.dusDrawn
  repeat' first
    | with_reducible assumption
    | intro x; first | (refine (fun (hx : State.Kept s₀ x) => ?_) ?_); clear_value x; rotate_left; subst x | subst x
    | lift_lets -underBinder +implicits
    | with_reducible refine .ite (fun _ => ?_) (fun _ => ?_)
    | split
    | with_reducible refine State.Kept.mkSec_iff.2 ?_
    | with_reducible refine State.Kept.mk_iff.2 ?_

theorem State.bootOtp_kept {s₀ s : State} (h₀ : State.Kept s₀ s) (banks : Nat) : State.Kept s₀ (State.bootOtp s banks) := by
  unfold State.bootOtp
  repeat' first
    | with_reducible assumption
    | intro x; first | (refine (fun (hx : State.Kept s₀ x) => ?_) ?_); clear_value x; rotate_left; subst x | (refine (fun (hx : State.Kept s₀ x.1) => ?_) ?_); clear_value x; rotate_left; subst x | subst x
    | lift_lets -underBinder +implicits
    | with_reducible apply State.drbgDraw_kept
    | with_reducible apply State.dusDrawn_kept
    | with_reducible apply State.pageRecord_kept
    | with_reducible apply State.showFuses_kept
    | with_reducible apply State.useSpare_kept
    | with_reducible refine .ite (fun _ => ?_) (fun _ => ?_)
    | with_reducible refine .foldl (fun _ _ _ => ?_) ?_
    | with_reducible refine .foldlFst (fun _ _ _ => ?_) ?_
    | with_reducible refine .ofFst (by assumption) ?_
    | split

theorem State.flashRetry_kept {s₀ s : State} (h₀ : State.Kept s₀ s) (n : Nat) : State.Kept s₀ (State.flashRetry s n) := by
  unfold State.flashRetry
  repeat' first
    | with_reducible assumption
    | with_reducible apply State.addF_kept
    | with_reducible refine .ite (fun _ => ?_) (fun _ => ?_)
    | split

theorem State.bootFlash_kept {s₀ s : State} (h₀ : State.Kept s₀ s)  : State.Kept s₀ (State.bootFlash s) := by
  unfold State.bootFlash
  repeat' first
    | with_reducible assumption
    | with_reducible apply State.commitBoot_kept
    | with_reducible apply State.drawn_kept
    | with_reducible apply State.flashRetry_kept
    | with_reducible apply State.wr_kept
    | with_reducible refine .ite (fun _ => ?_) (fun _ => ?_)
    | split

theorem State.bootRun_kept {s₀ s : State} (h₀ : State.Kept s₀ s) (k : Nat) : State.Kept s₀ (State.bootRun s k) := by
  unfold State.bootRun
  repeat' first
    | with_reducible assumption
    | intro x; first | (refine (fun (hx : State.Kept s₀ x) => ?_) ?_); clear_value x; rotate_left; subst x | subst x
    | lift_lets -underBinder +implicits
    | with_reducible apply State.wr_kept
    | with_reducible refine .ite (fun _ => ?_) (fun _ => ?_)
    | split
    | with_reducible refine State.Kept.mkSec_iff.2 ?_
    | with_reducible refine State.Kept.mk_iff.2 ?_

theorem State.bootImage_kept {s₀ s : State} (h₀ : State.Kept s₀ s)  : State.Kept s₀ (State.bootImage s).1 := by
  unfold State.bootImage
  repeat' first
    | with_reducible assumption
    | intro x; first | (refine (fun (hx : State.Kept s₀ x) => ?_) ?_); clear_value x; rotate_left; subst x | (refine (fun (hx : State.Kept s₀ x.1) => ?_) ?_); clear_value x; rotate_left; subst x | subst x
    | lift_lets -underBinder +implicits
    | with_reducible apply State.bootRun_kept
    | with_reducible apply State.bootTry_kept
    | with_reducible apply State.cause_kept
    | with_reducible apply State.incF_kept
    | with_reducible apply State.record_kept
    | with_reducible refine .ite (fun _ => ?_) (fun _ => ?_)
    | with_reducible refine .iteFst (fun _ => ?_) (fun _ => ?_)
    | with_reducible refine .ofFst (by assumption) ?_
    | split
    | with_reducible refine State.Kept.mkSec_iff.2 ?_
    | with_reducible refine State.Kept.mk_iff.2 ?_

theorem State.bootMap_kept {s₀ s : State} (h₀ : State.Kept s₀ s) (map : List (Nat × Nat)) (failed : List Nat) : State.Kept s₀ (State.bootMap s map failed) := by
  unfold State.bootMap
  repeat' first
    | with_reducible assumption
    | intro x; first | (refine (fun (hx : State.Kept s₀ x) => ?_) ?_); clear_value x; rotate_left; subst x | subst x
    | lift_lets -underBinder +implicits
    | with_reducible apply State.setEng_kept
    | with_reducible refine .ite (fun _ => ?_) (fun _ => ?_)
    | with_reducible refine .foldl (fun _ _ _ => ?_) ?_
    | split
    | with_reducible refine State.Kept.mk_iff.2 ?_

theorem State.bootVault_kept {s₀ s : State} (h₀ : State.Kept s₀ s)  : State.Kept s₀ (State.bootVault s) := by
  unfold State.bootVault
  repeat' first
    | with_reducible assumption
    | intro x; first | (refine (fun (hx : State.Kept s₀ x) => ?_) ?_); clear_value x; rotate_left; subst x | (refine (fun (hx : State.Kept s₀ x.1) => ?_) ?_); clear_value x; rotate_left; subst x | subst x
    | lift_lets -underBinder +implicits
    | split
    | with_reducible apply State.bootExcl_kept
    | with_reducible apply State.bootMap_kept
    | with_reducible apply State.vaultRead_kept
    | with_reducible refine .ite (fun _ => ?_) (fun _ => ?_)
    | with_reducible refine .ofFst (by assumption) ?_
    | split
    | with_reducible refine State.Kept.mkSec_iff.2 ?_
    | with_reducible refine State.Kept.mk_iff.2 ?_

theorem State.bootEps_kept {s₀ s : State} (h₀ : State.Kept s₀ s)  : State.Kept s₀ (State.bootEps s) := by
  unfold State.bootEps
  repeat' first
    | with_reducible assumption
    | intro x; first | (refine (fun (hx : State.Kept s₀ x) => ?_) ?_); clear_value x; rotate_left; subst x | subst x
    | lift_lets -underBinder +implicits
    | with_reducible apply State.epStore_kept
    | with_reducible apply State.showEp_kept
    | with_reducible refine .ite (fun _ => ?_) (fun _ => ?_)
    | split
    | with_reducible refine State.Kept.mk_iff.2 ?_

theorem State.bootAge_kept {s₀ s : State} (h₀ : State.Kept s₀ s)  : State.Kept s₀ (State.bootAge s) := by
  unfold State.bootAge
  repeat' first
    | with_reducible assumption
    | intro x; first | (refine (fun (hx : State.Kept s₀ x) => ?_) ?_); clear_value x; rotate_left; subst x | subst x
    | lift_lets -underBinder +implicits
    | with_reducible apply State.wr_kept
    | with_reducible refine .ite (fun _ => ?_) (fun _ => ?_)
    | split

theorem State.bootDrives_kept {s₀ s : State} (h₀ : State.Kept s₀ s) (drives : List DriveFound) : State.Kept s₀ (s.bootDrives drives) := by
  unfold State.bootDrives
  dsimp only
  exact State.showScb_kept (State.bootAge_kept (State.bootEps_kept (State.showOp_kept (.foldl (fun _ _ h => .ite (fun _ => State.driveAttach_kept h ..) (fun _ => h))
    (.ite (fun _ => State.Kept.mk_iff.2 h₀) (fun _ => State.Kept.mkScb_iff.2 h₀))))))

theorem State.bootLoad_kept {s₀ s : State} (h₀ : State.Kept s₀ s)  : State.Kept s₀ (State.bootLoad s) := by
  unfold State.bootLoad
  repeat' first
    | with_reducible assumption
    | intro x; first | (refine (fun (hx : State.Kept s₀ x) => ?_) ?_); clear_value x; rotate_left; subst x | subst x
    | lift_lets -underBinder +implicits
    | with_reducible apply State.wr_kept
    | with_reducible refine .ite (fun _ => ?_) (fun _ => ?_)
    | split
    | with_reducible refine State.Kept.mkSec_iff.2 ?_
    | with_reducible refine State.Kept.mk_iff.2 ?_

theorem State.bootEnter_kept {s₀ s : State} (h₀ : State.Kept s₀ s) (st : Status) : State.Kept s₀ (State.bootEnter s st) := by
  unfold State.bootEnter
  repeat' first
    | with_reducible assumption
    | intro x; first | (refine (fun (hx : State.Kept s₀ x) => ?_) ?_); clear_value x; rotate_left; subst x | subst x
    | lift_lets -underBinder +implicits
    | with_reducible apply State.cause_kept
    | with_reducible apply State.enterMode_kept
    | with_reducible apply State.pageRecord_kept
    | with_reducible apply State.wb_kept
    | with_reducible apply State.wr_kept
    | with_reducible refine .ite (fun _ => ?_) (fun _ => ?_)
    | split
    | with_reducible refine State.Kept.mk_iff.2 ?_

theorem State.bootAgain_kept {s₀ s : State} (h₀ : State.Kept s₀ s)  : State.Kept s₀ (State.bootAgain s) := by
  unfold State.bootAgain
  repeat' first
    | with_reducible assumption
    | with_reducible apply State.bootVault_kept
    | with_reducible refine .ite (fun _ => ?_) (fun _ => ?_)
    | split

theorem State.bootComplete_kept {s₀ s : State} (h₀ : State.Kept s₀ s) (drives : List DriveFound) (banks : Nat) : State.Kept s₀ (State.bootComplete s drives banks) := by
  unfold State.bootComplete
  repeat' first
    | with_reducible assumption
    | intro x; first | (refine (fun (hx : State.Kept s₀ x) => ?_) ?_); clear_value x; rotate_left; subst x | (refine (fun (hx : State.Kept s₀ x.1) => ?_) ?_); clear_value x; rotate_left; subst x | subst x
    | lift_lets -underBinder +implicits
    | split
    | with_reducible apply State.bootAgain_kept
    | with_reducible apply State.bootDrives_kept
    | with_reducible apply State.bootEnter_kept
    | with_reducible apply State.bootFlash_kept
    | with_reducible apply State.bootImage_kept
    | with_reducible apply State.bootLoad_kept
    | with_reducible apply State.bootOtp_kept
    | with_reducible apply State.bootVault_kept
    | with_reducible apply State.showSec_kept
    | with_reducible refine .ite (fun _ => ?_) (fun _ => ?_)
    | with_reducible refine .ofFst (by assumption) ?_
    | split

theorem State.imageOp_kept {s₀ s : State} (h₀ : State.Kept s₀ s) (c : Sub) (body : State → State) (h_body : ∀ (x0 : State), State.Kept s₀ x0 → State.Kept s₀ (body x0)) : State.Kept s₀ (State.imageOp s c body) := by
  unfold State.imageOp
  repeat' first
    | with_reducible assumption
    | with_reducible apply h_body
    | with_reducible apply State.finishTag_kept
    | with_reducible apply State.secRequest_kept
    | with_reducible refine .ite (fun _ => ?_) (fun _ => ?_)
    | with_reducible refine .ofFst (by assumption) ?_
    | split

theorem State.imageWrite_kept {s₀ s : State} (h₀ : State.Kept s₀ s) (c : Sub) (data : List Byte) (ok : Bool) : State.Kept s₀ (State.imageWrite s c data ok) := by
  unfold State.imageWrite
  repeat' first
    | with_reducible assumption
    | intro x; first | (refine (fun (hx : State.Kept s₀ x) => ?_) ?_); clear_value x; rotate_left; subst x | subst x
    | lift_lets -underBinder +implicits
    | with_reducible apply State.finishTag_kept
    | with_reducible apply State.flashWrite_kept
    | with_reducible apply State.hostRead_kept
    | with_reducible apply State.imageOp_kept
    | with_reducible apply State.incF_kept
    | with_reducible refine .ite (fun _ => ?_) (fun _ => ?_)
    | intro _
    | split

theorem State.imageActivate_kept {s₀ s : State} (h₀ : State.Kept s₀ s) (c : Sub) : State.Kept s₀ (State.imageActivate s c) := by
  unfold State.imageActivate
  repeat' first
    | with_reducible assumption
    | intro x; first | (refine (fun (hx : State.Kept s₀ x) => ?_) ?_); clear_value x; rotate_left; subst x | (refine (fun (hx : State.Kept s₀ x.1) => ?_) ?_); clear_value x; rotate_left; subst x | subst x
    | lift_lets -underBinder +implicits
    | split
    | with_reducible apply State.bootWrite_kept
    | with_reducible apply State.deviceReset_kept
    | with_reducible apply State.finishTag_kept
    | with_reducible apply State.imageCheck_kept
    | with_reducible apply State.imageOp_kept
    | with_reducible apply State.wf_kept
    | with_reducible refine .ite (fun _ => ?_) (fun _ => ?_)
    | with_reducible refine .ofFst (by assumption) ?_
    | intro _
    | split

theorem State.bootConfirm_kept {s₀ s : State} (h₀ : State.Kept s₀ s) (c : Sub) : State.Kept s₀ (State.bootConfirm s c) := by
  unfold State.bootConfirm
  repeat' first
    | with_reducible assumption
    | intro x; first | (refine (fun (hx : State.Kept s₀ x) => ?_) ?_); clear_value x; rotate_left; subst x | subst x
    | lift_lets -underBinder +implicits
    | with_reducible apply State.bootWrite_kept
    | with_reducible apply State.finishTag_kept
    | with_reducible apply State.imageOp_kept
    | with_reducible apply State.record_kept
    | with_reducible apply State.wb_kept
    | with_reducible apply State.wf_kept
    | with_reducible apply State.wr_kept
    | with_reducible refine .ite (fun _ => ?_) (fun _ => ?_)
    | with_reducible refine .foldl (fun _ _ _ => ?_) ?_
    | intro _
    | split
    | with_reducible refine State.Kept.mkSec_iff.2 ?_
    | with_reducible refine State.Kept.mk_iff.2 ?_

theorem State.trialExpiry_kept {s₀ s : State} (h₀ : State.Kept s₀ s)  : State.Kept s₀ (State.trialExpiry s) := by
  unfold State.trialExpiry
  repeat' first
    | with_reducible assumption
    | intro x; first | (refine (fun (hx : State.Kept s₀ x) => ?_) ?_); clear_value x; rotate_left; subst x | subst x
    | lift_lets -underBinder +implicits
    | with_reducible apply State.bootConfirm_kept
    | with_reducible apply State.deviceReset_kept
    | with_reducible refine .ite (fun _ => ?_) (fun _ => ?_)
    | split

end Sys2Proof.Machine
end

