-- ==== Sys2Proof/Laws/KeptTest.lean ====
section
/-! SUPPORT. The operations of Machine/Test.lean keep what Laws/Kept.lean says. -/

-- One declaration after another: the package is compiled as one text, and its memory stays within bounds.
set_option Elab.async false

namespace Sys2Proof.Machine

theorem State.testStart_kept {s₀ s : State} (h₀ : State.Kept s₀ s) (test port cond : Nat) : State.Kept s₀ (State.testStart s test port cond) := by
  unfold State.testStart
  repeat' first
    | with_reducible assumption
    | intro x; first | (refine (fun (hx : State.Kept s₀ x) => ?_) ?_); clear_value x; rotate_left; subst x | subst x
    | lift_lets -underBinder +implicits
    | with_reducible apply State.ignored_kept
    | with_reducible apply State.wb_kept
    | with_reducible refine .ite (fun _ => ?_) (fun _ => ?_)
    | split
    | with_reducible refine State.Kept.mk_iff.2 ?_

theorem State.testFaults_kept {s₀ s : State} (h₀ : State.Kept s₀ s) (p c : Nat) (z : TestOut) : State.Kept s₀ (State.testFaults s p c z) := by
  unfold State.testFaults
  repeat' first
    | with_reducible assumption
    | with_reducible apply State.aesKat_kept
    | with_reducible apply State.convFault_kept
    | with_reducible apply State.d2dFail_kept
    | with_reducible apply State.scrubHit_kept
    | with_reducible apply State.trngFail_kept
    | with_reducible refine .ite (fun _ => ?_) (fun _ => ?_)
    | with_reducible refine .foldl (fun _ _ _ => ?_) ?_
    | split

theorem State.testDone_kept {s₀ s : State} (h₀ : State.Kept s₀ s) (found : TestOut) : State.Kept s₀ (State.testDone s found) := by
  unfold State.testDone
  repeat' first
    | with_reducible assumption
    | intro x; first | (refine (fun (hx : State.Kept s₀ x) => ?_) ?_); clear_value x; rotate_left; subst x | subst x
    | lift_lets -underBinder +implicits
    | split
    | with_reducible apply State.testEnd_kept
    | with_reducible apply State.testFaults_kept
    | with_reducible refine .ite (fun _ => ?_) (fun _ => ?_)
    | split

theorem State.atbSelect_kept {s₀ s : State} (h₀ : State.Kept s₀ s) (b : Nat) (v : Word) (debug : Bool) : State.Kept s₀ (State.atbSelect s b v debug) := by
  unfold State.atbSelect
  repeat' first
    | with_reducible assumption
    | intro x; first | (refine (fun (hx : State.Kept s₀ x) => ?_) ?_); clear_value x; rotate_left; subst x | subst x
    | lift_lets -underBinder +implicits
    | with_reducible apply State.wr_kept
    | with_reducible refine .ite (fun _ => ?_) (fun _ => ?_)
    | split

end Sys2Proof.Machine
end

