-- ==== Sys2Proof/Laws/KeptMetro.lean ====
section
/-! SUPPORT. The operations of Machine/Metro.lean keep what Laws/Kept.lean says. -/

-- One declaration after another: the package is compiled as one text, and its memory stays within bounds.
set_option Elab.async false

namespace Sys2Proof.Machine

theorem State.setMetPort_kept {s₀ s : State} (h₀ : State.Kept s₀ s) (p : Nat) (v : MetPort) : State.Kept s₀ (State.setMetPort s p v) := by
  unfold State.setMetPort
  repeat' first
    | with_reducible assumption
    | intro x; first | (refine (fun (hx : State.Kept s₀ x) => ?_) ?_); clear_value x; rotate_left; subst x | subst x
    | lift_lets -underBinder +implicits
    | with_reducible refine .ite (fun _ => ?_) (fun _ => ?_)
    | split
    | with_reducible refine State.Kept.mk_iff.2 ?_

theorem State.metEmit_kept {s₀ s : State} (h₀ : State.Kept s₀ s) (credit : Bool) (mk : Nat → List Byte) : State.Kept s₀ (State.metEmit s credit mk) := by
  unfold State.metEmit
  repeat' first
    | with_reducible assumption
    | intro x; first | (refine (fun (hx : State.Kept s₀ x) => ?_) ?_); clear_value x; rotate_left; subst x | subst x
    | lift_lets -underBinder +implicits
    | with_reducible apply State.archMet_kept
    | with_reducible apply State.inc_kept
    | with_reducible refine .ite (fun _ => ?_) (fun _ => ?_)
    | with_reducible refine .foldl (fun _ _ _ => ?_) ?_
    | split
    | with_reducible refine State.Kept.mk_iff.2 ?_

theorem State.metLive_kept {s₀ s : State} (h₀ : State.Kept s₀ s) (p : Nat) (a : MetAcc) : State.Kept s₀ (State.metLive s p a) := by
  unfold State.metLive
  repeat' first
    | with_reducible assumption
    | intro x; first | (refine (fun (hx : State.Kept s₀ x) => ?_) ?_); clear_value x; rotate_left; subst x | subst x
    | lift_lets -underBinder +implicits
    | with_reducible apply State.wr_kept
    | with_reducible refine .ite (fun _ => ?_) (fun _ => ?_)
    | with_reducible refine .foldl (fun _ _ _ => ?_) ?_
    | split

theorem State.metClose3_kept {s₀ s : State} (h₀ : State.Kept s₀ s) (p : Nat) (credit short : Bool) : State.Kept s₀ (State.metClose3 s p credit short) := by
  unfold State.metClose3
  repeat' first
    | with_reducible assumption
    | intro x; first | (refine (fun (hx : State.Kept s₀ x) => ?_) ?_); clear_value x; rotate_left; subst x | subst x
    | lift_lets -underBinder +implicits
    | with_reducible apply State.metEmit_kept
    | with_reducible apply State.setMetPort_kept
    | with_reducible refine .ite (fun _ => ?_) (fun _ => ?_)
    | split
    | with_reducible refine State.Kept.mk_iff.2 ?_

theorem State.metClose10_kept {s₀ s : State} (h₀ : State.Kept s₀ s) (p : Nat) (credit : Bool) : State.Kept s₀ (State.metClose10 s p credit) := by
  unfold State.metClose10
  repeat' first
    | with_reducible assumption
    | intro x; first | (refine (fun (hx : State.Kept s₀ x) => ?_) ?_); clear_value x; rotate_left; subst x | subst x
    | lift_lets -underBinder +implicits
    | with_reducible apply State.metEmit_kept
    | with_reducible apply State.setMetPort_kept
    | with_reducible refine .ite (fun _ => ?_) (fun _ => ?_)
    | split
    | with_reducible refine State.Kept.mk_iff.2 ?_

theorem State.metEnd_kept {s₀ s : State} (h₀ : State.Kept s₀ s) (p : Nat) (xs : List MetSample) (credit cut : Bool) : State.Kept s₀ (State.metEnd s p xs credit cut) := by
  unfold State.metEnd
  repeat' first
    | with_reducible assumption
    | intro x; first | (refine (fun (hx : State.Kept s₀ x) => ?_) ?_); clear_value x; rotate_left; subst x | subst x
    | lift_lets -underBinder +implicits
    | with_reducible apply State.cause_kept
    | with_reducible apply State.metClose10_kept
    | with_reducible apply State.metClose3_kept
    | with_reducible apply State.metLive_kept
    | with_reducible apply State.setMetPort_kept
    | with_reducible apply State.wr_kept
    | with_reducible refine .ite (fun _ => ?_) (fun _ => ?_)
    | with_reducible refine .foldl (fun _ _ _ => ?_) ?_
    | with_reducible refine .foldlFst (fun _ _ _ => ?_) ?_
    | split
    | with_reducible refine State.Kept.mk_iff.2 ?_

theorem State.metInterval_kept {s₀ s : State} (h₀ : State.Kept s₀ s) (p : Nat) (xs : List MetSample) (credit : Bool) : State.Kept s₀ (State.metInterval s p xs credit) := by
  unfold State.metInterval
  repeat' first
    | with_reducible assumption
    | with_reducible apply State.metEnd_kept
    | with_reducible refine .ite (fun _ => ?_) (fun _ => ?_)
    | split

theorem State.metBoundary_kept {s₀ s : State} (h₀ : State.Kept s₀ s) (p : Nat) (xs : List MetSample) (credit : Bool) : State.Kept s₀ (State.metBoundary s p xs credit) := by
  unfold State.metBoundary
  repeat' first
    | with_reducible assumption
    | intro x; first | (refine (fun (hx : State.Kept s₀ x) => ?_) ?_); clear_value x; rotate_left; subst x | subst x
    | lift_lets -underBinder +implicits
    | with_reducible apply State.metClose10_kept
    | with_reducible apply State.metClose3_kept
    | with_reducible apply State.metEnd_kept
    | with_reducible refine .ite (fun _ => ?_) (fun _ => ?_)
    | split

theorem State.eventRecord_kept {s₀ s : State} (h₀ : State.Kept s₀ s) (p kind : Nat) (e : VoltEvt) (thr : Nat) (credit : Bool) : State.Kept s₀ (State.eventRecord s p kind e thr credit) := by
  unfold State.eventRecord
  repeat' first
    | with_reducible assumption
    | intro x; first | (refine (fun (hx : State.Kept s₀ x) => ?_) ?_); clear_value x; rotate_left; subst x | subst x
    | lift_lets -underBinder +implicits
    | with_reducible apply State.metEmit_kept
    | with_reducible refine .ite (fun _ => ?_) (fun _ => ?_)
    | split

theorem State.dipSwell_kept {s₀ s : State} (h₀ : State.Kept s₀ s) (p : Nat) (xs : List MetSample) (credit : Bool) : State.Kept s₀ (State.dipSwell s p xs credit) := by
  unfold State.dipSwell
  repeat' first
    | with_reducible assumption
    | intro x; first | (refine (fun (hx : State.Kept s₀ x) => ?_) ?_); clear_value x; rotate_left; subst x | (refine (fun (hx : ∀ a, State.Kept s₀ a → State.Kept s₀ (x a)) => ?_) ?_); clear_value x; rotate_left; subst x; intro _ _ | (refine (fun (hx : ∀ a b, State.Kept s₀ a → State.Kept s₀ (x a b).1) => ?_) ?_); clear_value x; rotate_left; subst x; intro _ _ _ | (refine (fun (hx : ∀ a b, State.Kept s₀ a → State.Kept s₀ (x a b)) => ?_) ?_); clear_value x; rotate_left; subst x; intro _ _ _ | (refine (fun (hx : ∀ a, State.Kept s₀ (x a)) => ?_) ?_); clear_value x; rotate_left; subst x; intro _ | (refine (fun (hx : ∀ a b, State.Kept s₀ (x a b)) => ?_) ?_); clear_value x; rotate_left; subst x; intro _ _ | subst x
    | lift_lets -underBinder +implicits
    | with_reducible apply State.cause_kept
    | with_reducible apply State.eventRecord_kept
    | with_reducible apply State.incF_kept
    | with_reducible apply State.setMetPort_kept
    | with_reducible apply State.wr_kept
    | with_reducible refine .ite (fun _ => ?_) (fun _ => ?_)
    | with_reducible apply_assumption -exfalso
    | dsimp -zeta only
    | split
    | with_reducible refine State.Kept.mk_iff.2 ?_

theorem State.snapTrigger_kept {s₀ s : State} (h₀ : State.Kept s₀ s)  : State.Kept s₀ (State.snapTrigger s) := by
  unfold State.snapTrigger
  repeat' first
    | with_reducible assumption
    | with_reducible apply State.incF_kept
    | with_reducible apply State.wb_kept
    | with_reducible apply State.wr64_kept
    | with_reducible refine .ite (fun _ => ?_) (fun _ => ?_)
    | split

theorem State.snapDone_kept {s₀ s : State} (h₀ : State.Kept s₀ s) (xs : List (List Int)) : State.Kept s₀ (State.snapDone s xs) := by
  unfold State.snapDone
  repeat' first
    | with_reducible assumption
    | intro x; first | (refine (fun (hx : State.Kept s₀ x) => ?_) ?_); clear_value x; rotate_left; subst x | subst x
    | lift_lets -underBinder +implicits
    | with_reducible apply State.cause_kept
    | with_reducible apply State.snap_kept
    | with_reducible apply State.wf_kept
    | with_reducible refine .ite (fun _ => ?_) (fun _ => ?_)
    | split
    | with_reducible refine State.Kept.mk_iff.2 ?_

theorem State.copyCapture_kept {s₀ s : State} (h₀ : State.Kept s₀ s) (c : Sub) (data : List Byte) (lt : Nat) : State.Kept s₀ (State.copyCapture s c data lt) := by
  unfold State.copyCapture
  repeat' first
    | with_reducible assumption
    | intro x; first | (refine (fun (hx : State.Kept s₀ x) => ?_) ?_); clear_value x; rotate_left; subst x | subst x
    | lift_lets -underBinder +implicits
    | with_reducible apply State.dmaWrite_kept
    | with_reducible apply State.finish_kept
    | with_reducible refine .ite (fun _ => ?_) (fun _ => ?_)
    | split

theorem State.snapRead_kept {s₀ s : State} (h₀ : State.Kept s₀ s) (c : Sub) : State.Kept s₀ (State.snapRead s c) := by
  unfold State.snapRead
  repeat' first
    | with_reducible assumption
    | with_reducible apply State.copyCapture_kept
    | with_reducible apply State.finishTag_kept
    | with_reducible apply State.snap_kept
    | with_reducible apply State.wb_kept
    | with_reducible refine .ite (fun _ => ?_) (fun _ => ?_)
    | split

end Sys2Proof.Machine
end

