-- ==== Sys2Proof/Laws/KeptFire.lean ====
section
/-! SUPPORT. The operations of Machine/Fire.lean keep what Laws/Kept.lean says. -/

-- One declaration after another: the package is compiled as one text, and its memory stays within bounds.
set_option Elab.async false

namespace Sys2Proof.Machine

theorem State.fixCommit_kept {s₀ s : State} (h₀ : State.Kept s₀ s) (i : Nat) : State.Kept s₀ (State.fixCommit s i) := by
  unfold State.fixCommit
  repeat' first
    | with_reducible assumption
    | intro x; first | (refine (fun (hx : State.Kept s₀ x) => ?_) ?_); clear_value x; rotate_left; subst x | subst x
    | lift_lets -underBinder +implicits
    | with_reducible refine .ite (fun _ => ?_) (fun _ => ?_)
    | split
    | with_reducible refine State.Kept.mk_iff.2 ?_

theorem State.engWake_kept {s₀ s : State} (h₀ : State.Kept s₀ s) (l : Nat) : State.Kept s₀ (State.engWake s l) := by
  unfold State.engWake
  repeat' first
    | with_reducible assumption
    | intro x; first | (refine (fun (hx : State.Kept s₀ x) => ?_) ?_); clear_value x; rotate_left; subst x | subst x
    | lift_lets -underBinder +implicits
    | with_reducible refine .ite (fun _ => ?_) (fun _ => ?_)
    | split
    | with_reducible refine State.Kept.mk_iff.2 ?_

theorem State.fetchNeed_kept {s₀ s : State} (h₀ : State.Kept s₀ s) (p : Nat) (n : MapNeed) : State.Kept s₀ (State.fetchNeed s p n) := by
  unfold State.fetchNeed
  repeat' first
    | with_reducible assumption
    | intro x; first | (refine (fun (hx : State.Kept s₀ x) => ?_) ?_); clear_value x; rotate_left; subst x | subst x
    | lift_lets -underBinder +implicits
    | with_reducible apply State.cacheFetch_kept
    | with_reducible refine .ite (fun _ => ?_) (fun _ => ?_)
    | split

theorem State.prewarmWake_kept {s₀ s : State} (h₀ : State.Kept s₀ s) (i : Nat) (needs : List MapNeed) : State.Kept s₀ (State.prewarmWake s i needs) := by
  unfold State.prewarmWake
  repeat' first
    | with_reducible assumption
    | intro x; first | (refine (fun (hx : State.Kept s₀ x) => ?_) ?_); clear_value x; rotate_left; subst x | subst x
    | lift_lets -underBinder +implicits
    | with_reducible apply State.engWake_kept
    | with_reducible apply State.fetchNeed_kept
    | with_reducible apply State.pllStart_kept
    | with_reducible refine .ite (fun _ => ?_) (fun _ => ?_)
    | with_reducible refine .foldl (fun _ _ _ => ?_) ?_
    | split

theorem State.plainFire_kept {s₀ s : State} (h₀ : State.Kept s₀ s) (i action : Nat) (refused : Bool) (effect : State → Fixture → State) (h_effect : ∀ (x0 : State) (x1 : Fixture), State.Kept s₀ x0 → State.Kept s₀ (effect x0 x1)) : State.Kept s₀ (State.plainFire s i action refused effect) := by
  unfold State.plainFire
  repeat' first
    | with_reducible assumption
    | intro x; first | (refine (fun (hx : State.Kept s₀ x) => ?_) ?_); clear_value x; rotate_left; subst x | (refine (fun (hx : State.Kept s₀ x.1) => ?_) ?_); clear_value x; rotate_left; subst x | subst x
    | lift_lets -underBinder +implicits
    | with_reducible apply h_effect
    | with_reducible apply State.fired_kept
    | with_reducible apply State.skip_kept
    | with_reducible refine .ite (fun _ => ?_) (fun _ => ?_)
    | with_reducible refine .ofFst (by assumption) ?_
    | split

theorem State.bankSwapFix_kept {s₀ s : State} (h₀ : State.Kept s₀ s) (i : Nat) : State.Kept s₀ (State.bankSwapFix s i) := by
  unfold State.bankSwapFix
  repeat' first
    | with_reducible assumption
    | intro x; first | (refine (fun (hx : State.Kept s₀ x) => ?_) ?_); clear_value x; rotate_left; subst x | subst x
    | lift_lets -underBinder +implicits
    | with_reducible apply State.groupExchange_kept
    | with_reducible apply State.groupFail_kept
    | with_reducible apply State.plainFire_kept
    | with_reducible refine .ite (fun _ => ?_) (fun _ => ?_)
    | intro _
    | split

theorem State.engineWakeFix_kept {s₀ s : State} (h₀ : State.Kept s₀ s) (i : Nat) : State.Kept s₀ (State.engineWakeFix s i) := by
  unfold State.engineWakeFix
  repeat' first
    | with_reducible assumption
    | with_reducible apply State.engWake_kept
    | with_reducible apply State.plainFire_kept
    | with_reducible apply State.pllStart_kept
    | with_reducible refine .ite (fun _ => ?_) (fun _ => ?_)
    | intro _
    | split

theorem State.convTriggerFix_kept {s₀ s : State} (h₀ : State.Kept s₀ s) (i : Nat) : State.Kept s₀ (State.convTriggerFix s i) := by
  unfold State.convTriggerFix
  repeat' first
    | with_reducible assumption
    | intro x; first | (refine (fun (hx : State.Kept s₀ x) => ?_) ?_); clear_value x; rotate_left; subst x | subst x
    | lift_lets -underBinder +implicits
    | with_reducible apply State.capTrigger_kept
    | with_reducible apply State.hkcTrigger_kept
    | with_reducible apply State.plainFire_kept
    | with_reducible apply State.snapTrigger_kept
    | with_reducible refine .ite (fun _ => ?_) (fun _ => ?_)
    | intro _
    | split

theorem State.engineEventFix_kept {s₀ s : State} (h₀ : State.Kept s₀ s) (i : Nat) : State.Kept s₀ (State.engineEventFix s i) := by
  unfold State.engineEventFix
  repeat' first
    | with_reducible assumption
    | intro x; first | (refine (fun (hx : State.Kept s₀ x) => ?_) ?_); clear_value x; rotate_left; subst x | subst x
    | lift_lets -underBinder +implicits
    | with_reducible apply State.plainFire_kept
    | with_reducible refine .ite (fun _ => ?_) (fun _ => ?_)
    | intro _
    | split
    | with_reducible refine State.Kept.mk_iff.2 ?_

theorem State.hostEventFix_kept {s₀ s : State} (h₀ : State.Kept s₀ s) (i : Nat) : State.Kept s₀ (State.hostEventFix s i) := by
  unfold State.hostEventFix
  repeat' first
    | with_reducible assumption
    | with_reducible apply State.cause_kept
    | with_reducible apply State.plainFire_kept
    | with_reducible apply State.wr_kept
    | with_reducible refine .ite (fun _ => ?_) (fun _ => ?_)
    | intro _
    | split

theorem State.modeWakeFix_kept {s₀ s : State} (h₀ : State.Kept s₀ s) (i : Nat) : State.Kept s₀ (State.modeWakeFix s i) := by
  unfold State.modeWakeFix
  repeat' first
    | with_reducible assumption
    | with_reducible apply State.modeReq_kept
    | with_reducible apply State.plainFire_kept
    | with_reducible apply State.wake_kept
    | with_reducible refine .ite (fun _ => ?_) (fun _ => ?_)
    | intro _
    | split

theorem State.ctlFireFix_kept {s₀ s : State} (h₀ : State.Kept s₀ s) (i : Nat) : State.Kept s₀ (State.ctlFireFix s i) := by
  unfold State.ctlFireFix
  repeat' first
    | with_reducible assumption
    | intro x; first | (refine (fun (hx : State.Kept s₀ x) => ?_) ?_); clear_value x; rotate_left; subst x | subst x
    | lift_lets -underBinder +implicits
    | with_reducible apply State.ctlFire_kept
    | with_reducible apply State.skip_kept
    | with_reducible refine .ite (fun _ => ?_) (fun _ => ?_)
    | split

end Sys2Proof.Machine
end

