-- ==== Sys2Proof/Laws/KeptBusWrite.lean ====
section
/-! SUPPORT. The operations of Machine/BusWrite.lean keep what Laws/Kept.lean says. -/

-- One declaration after another: the package is compiled as one text, and its memory stays within bounds.
set_option Elab.async false

namespace Sys2Proof.Machine

theorem State.shadowWrite_kept {s₀ s : State} (h₀ : State.Kept s₀ s) (p : Nat) (key : Nat → Nat) (v : Word) : State.Kept s₀ (State.shadowWrite s p key v) := by
  unfold State.shadowWrite
  repeat' first
    | with_reducible assumption
    | intro x; first | (refine (fun (hx : State.Kept s₀ x) => ?_) ?_); clear_value x; rotate_left; subst x | subst x
    | lift_lets -underBinder +implicits
    | with_reducible apply State.bankWrite_kept
    | with_reducible apply State.setPage_kept
    | with_reducible apply State.wr_kept
    | with_reducible refine .ite (fun _ => ?_) (fun _ => ?_)
    | split
    | with_reducible refine State.Kept.mk_iff.2 ?_

theorem State.rowWrite_kept {s₀ s : State} (h₀ : State.Kept s₀ s) (a : Nat) (r : RegRow) (v : Word) : State.Kept s₀ (State.rowWrite s a r v) := by
  unfold State.rowWrite
  repeat' first
    | with_reducible assumption
    | intro x; first | (refine (fun (hx : State.Kept s₀ x) => ?_) ?_); clear_value x; rotate_left; subst x | subst x
    | lift_lets -underBinder +implicits
    | with_reducible apply State.shadowWrite_kept
    | with_reducible apply State.wr_kept
    | with_reducible refine .ite (fun _ => ?_) (fun _ => ?_)
    | split

theorem State.plainWrite_kept {s₀ s : State} (h₀ : State.Kept s₀ s) (a : Nat) (v : Word) : State.Kept s₀ (State.plainWrite s a v) := by
  unfold State.plainWrite
  repeat' first
    | with_reducible assumption
    | intro x; first | (refine (fun (hx : State.Kept s₀ x) => ?_) ?_); clear_value x; rotate_left; subst x | subst x
    | lift_lets -underBinder +implicits
    | with_reducible apply State.rowWrite_kept
    | with_reducible refine .ite (fun _ => ?_) (fun _ => ?_)
    | split

theorem State.srstFresh_kept {s₀ s : State} (h₀ : State.Kept s₀ s) (p : Nat) : State.Kept s₀ (State.srstFresh s p) := by
  unfold State.srstFresh
  repeat' first
    | with_reducible assumption
    | intro x; first | (refine (fun (hx : State.Kept s₀ x) => ?_) ?_); clear_value x; rotate_left; subst x | subst x
    | lift_lets -underBinder +implicits
    | with_reducible apply State.setChan_kept
    | with_reducible apply State.setCond_kept
    | with_reducible apply State.setSleep_kept
    | with_reducible apply State.setTrk_kept
    | with_reducible apply State.setUart_kept
    | with_reducible apply State.showLease_kept
    | with_reducible apply State.showSec_kept
    | with_reducible apply State.wf_kept
    | with_reducible refine .ite (fun _ => ?_) (fun _ => ?_)
    | with_reducible refine .foldl (fun _ _ _ => ?_) ?_
    | split
    | with_reducible refine State.Kept.mk_iff.2 ?_

theorem State.blkCtlWrite_kept {s₀ s : State} (h₀ : State.Kept s₀ s) (p : Nat) (v : Word) : State.Kept s₀ (State.blkCtlWrite s p v) := by
  unfold State.blkCtlWrite
  repeat' first
    | with_reducible assumption
    | intro x; first | (refine (fun (hx : State.Kept s₀ x) => ?_) ?_); clear_value x; rotate_left; subst x | subst x
    | lift_lets -underBinder +implicits
    | with_reducible apply State.anchor_kept
    | with_reducible apply State.dropHeld_kept
    | with_reducible apply State.softReset_kept
    | with_reducible apply State.srstFresh_kept
    | with_reducible apply State.wr_kept
    | with_reducible refine .ite (fun _ => ?_) (fun _ => ?_)
    | split

theorem State.bankCtlWrite_kept {s₀ s : State} (h₀ : State.Kept s₀ s) (p : Nat) (v : Word) : State.Kept s₀ (State.bankCtlWrite s p v) := by
  unfold State.bankCtlWrite
  repeat' first
    | with_reducible assumption
    | intro x; first | (refine (fun (hx : State.Kept s₀ x) => ?_) ?_); clear_value x; rotate_left; subst x | subst x
    | lift_lets -underBinder +implicits
    | with_reducible apply State.bankCopy_kept
    | with_reducible apply State.ignored_kept
    | with_reducible apply State.soloCancel_kept
    | with_reducible apply State.soloReq_kept
    | with_reducible apply State.wr_kept
    | with_reducible refine .ite (fun _ => ?_) (fun _ => ?_)
    | split

theorem State.ownerWrite_kept {s₀ s : State} (h₀ : State.Kept s₀ s) (p : Nat) (v : Word) : State.Kept s₀ (State.ownerWrite s p v) := by
  unfold State.ownerWrite
  repeat' first
    | with_reducible assumption
    | with_reducible apply State.wr_kept
    | with_reducible refine .ite (fun _ => ?_) (fun _ => ?_)
    | split

theorem State.faultWinWrite_kept {s₀ s : State} (h₀ : State.Kept s₀ s) (p : Nat) (v : Word) : State.Kept s₀ (State.faultWinWrite s p v) := by
  unfold State.faultWinWrite
  repeat' first
    | with_reducible assumption
    | with_reducible apply State.wr_kept
    | with_reducible refine .ite (fun _ => ?_) (fun _ => ?_)
    | split

theorem State.headerWrite_kept {s₀ s : State} (h₀ : State.Kept s₀ s) (p o : Nat) (v : Word) : State.Kept s₀ (State.headerWrite s p o v) := by
  unfold State.headerWrite
  repeat' first
    | with_reducible assumption
    | intro x; first | (refine (fun (hx : State.Kept s₀ x) => ?_) ?_); clear_value x; rotate_left; subst x | subst x
    | lift_lets -underBinder +implicits
    | with_reducible apply State.bankCtlWrite_kept
    | with_reducible apply State.blkCtlWrite_kept
    | with_reducible apply State.causeClear_kept
    | with_reducible apply State.faultWinWrite_kept
    | with_reducible apply State.intSet_kept
    | with_reducible apply State.lockWrite_kept
    | with_reducible apply State.maskWrite_kept
    | with_reducible apply State.ownerWrite_kept
    | with_reducible apply State.wb_kept
    | with_reducible refine .ite (fun _ => ?_) (fun _ => ?_)
    | split

theorem State.sysWrite_kept {s₀ s : State} (h₀ : State.Kept s₀ s) (o : Nat) (v : Word) : State.Kept s₀ (State.sysWrite s o v) := by
  unfold State.sysWrite
  repeat' first
    | with_reducible assumption
    | intro x; first | (refine (fun (hx : State.Kept s₀ x) => ?_) ?_); clear_value x; rotate_left; subst x | subst x
    | lift_lets -underBinder +implicits
    | with_reducible apply State.deviceReset_kept
    | with_reducible apply State.modeReq_kept
    | with_reducible apply State.wf_kept
    | with_reducible refine .ite (fun _ => ?_) (fun _ => ?_)
    | split

theorem State.trkCtlWrite_kept {s₀ s : State} (h₀ : State.Kept s₀ s) (v : Word) : State.Kept s₀ (State.trkCtlWrite s v) := by
  unfold State.trkCtlWrite
  repeat' first
    | with_reducible assumption
    | intro x; first | (refine (fun (hx : State.Kept s₀ x) => ?_) ?_); clear_value x; rotate_left; subst x | subst x
    | lift_lets -underBinder +implicits
    | with_reducible apply State.cycApply_kept
    | with_reducible apply State.snap_kept
    | with_reducible apply State.trkEnable_kept
    | with_reducible apply State.trkHold_kept
    | with_reducible apply State.trkRestart_kept
    | with_reducible apply State.utcArm_kept
    | with_reducible apply State.wb_kept
    | with_reducible refine .ite (fun _ => ?_) (fun _ => ?_)
    | split

theorem State.entCmd_kept {s₀ s : State} (h₀ : State.Kept s₀ s) (host : Bool) (op : Nat) : State.Kept s₀ (State.entCmd s host op) := by
  unfold State.entCmd
  repeat' first
    | with_reducible assumption
    | intro x; first | (refine (fun (hx : State.Kept s₀ x) => ?_) ?_); clear_value x; rotate_left; subst x | subst x
    | lift_lets -underBinder +implicits
    | with_reducible apply State.entDisarm_kept
    | with_reducible apply State.entRead_kept
    | with_reducible apply State.entWrite_kept
    | with_reducible refine .ite (fun _ => ?_) (fun _ => ?_)
    | split

theorem State.bankPageWrite_kept {s₀ s : State} (h₀ : State.Kept s₀ s) (a : Nat) (v : Word) : State.Kept s₀ (State.bankPageWrite s a v) := by
  unfold State.bankPageWrite
  repeat' first
    | with_reducible assumption
    | intro x; first | (refine (fun (hx : State.Kept s₀ x) => ?_) ?_); clear_value x; rotate_left; subst x | subst x
    | lift_lets -underBinder +implicits
    | with_reducible apply State.groupCancel_kept
    | with_reducible apply State.groupReq_kept
    | with_reducible apply State.ignored_kept
    | with_reducible apply State.plainWrite_kept
    | with_reducible refine .ite (fun _ => ?_) (fun _ => ?_)
    | split

theorem State.umpWrite_kept {s₀ s : State} (h₀ : State.Kept s₀ s) (m a : Nat) (v : Word) : State.Kept s₀ (State.umpWrite s m a v) := by
  unfold State.umpWrite
  repeat' first
    | with_reducible assumption
    | intro x; first | (refine (fun (hx : State.Kept s₀ x) => ?_) ?_); clear_value x; rotate_left; subst x | subst x
    | lift_lets -underBinder +implicits
    | with_reducible apply State.plainWrite_kept
    | with_reducible refine .ite (fun _ => ?_) (fun _ => ?_)
    | split
    | with_reducible refine State.Kept.mk_iff.2 ?_

theorem State.benchCmd_kept {s₀ s : State} (h₀ : State.Kept s₀ s) (v : Word) : State.Kept s₀ (State.benchCmd s v) := by
  unfold State.benchCmd
  repeat' first
    | with_reducible assumption
    | intro x; first | (refine (fun (hx : State.Kept s₀ x) => ?_) ?_); clear_value x; rotate_left; subst x | subst x
    | lift_lets -underBinder +implicits
    | with_reducible apply State.benchSelftest_kept
    | with_reducible apply State.benchSubstitute_kept
    | with_reducible refine .ite (fun _ => ?_) (fun _ => ?_)
    | split

theorem State.atbWrite_kept {s₀ s : State} (h₀ : State.Kept s₀ s) (m o : Nat) (v : Word) : State.Kept s₀ (State.atbWrite s m o v) := by
  unfold State.atbWrite
  repeat' first
    | with_reducible assumption
    | with_reducible apply State.atbSelect_kept
    | with_reducible apply State.testStart_kept
    | with_reducible refine .ite (fun _ => ?_) (fun _ => ?_)
    | split

theorem State.hkcCtlWrite_kept {s₀ s : State} (h₀ : State.Kept s₀ s) (v : Word) : State.Kept s₀ (State.hkcCtlWrite s v) := by
  unfold State.hkcCtlWrite
  repeat' first
    | with_reducible assumption
    | intro x; first | (refine (fun (hx : State.Kept s₀ x) => ?_) ?_); clear_value x; rotate_left; subst x | subst x
    | lift_lets -underBinder +implicits
    | with_reducible apply State.hkcCal_kept
    | with_reducible apply State.hkcTrigger_kept
    | with_reducible apply State.wb_kept
    | with_reducible refine .ite (fun _ => ?_) (fun _ => ?_)
    | split

theorem State.chkWrite_kept {s₀ s : State} (h₀ : State.Kept s₀ s) (a : Nat) (v : Word) : State.Kept s₀ (State.chkWrite s a v) := by
  unfold State.chkWrite
  repeat' first
    | with_reducible assumption
    | intro x; first | (refine (fun (hx : State.Kept s₀ x) => ?_) ?_); clear_value x; rotate_left; subst x | subst x
    | lift_lets -underBinder +implicits
    | with_reducible apply State.chkClear_kept
    | with_reducible apply State.chkFeed_kept
    | with_reducible apply State.chkFresh_kept
    | with_reducible apply State.plainWrite_kept
    | with_reducible refine .ite (fun _ => ?_) (fun _ => ?_)
    | split

theorem State.slotCmd_kept {s₀ s : State} (h₀ : State.Kept s₀ s) (m : Nat) (v : Word) : State.Kept s₀ (State.slotCmd s m v) := by
  unfold State.slotCmd
  repeat' first
    | with_reducible assumption
    | with_reducible apply State.slotDerive_kept
    | with_reducible apply State.slotErase_kept
    | with_reducible refine .ite (fun _ => ?_) (fun _ => ?_)
    | split

theorem State.hlCfgWrite_kept {s₀ s : State} (h₀ : State.Kept s₀ s) (n a : Nat) (v : Word) : State.Kept s₀ (State.hlCfgWrite s n a v) := by
  unfold State.hlCfgWrite
  repeat' first
    | with_reducible assumption
    | intro x; first | (refine (fun (hx : State.Kept s₀ x) => ?_) ?_); clear_value x; rotate_left; subst x | subst x
    | lift_lets -underBinder +implicits
    | with_reducible apply State.linkLoss_kept
    | with_reducible apply State.plainWrite_kept
    | with_reducible refine .ite (fun _ => ?_) (fun _ => ?_)
    | split

theorem State.hostCtlWrite_kept {s₀ s : State} (h₀ : State.Kept s₀ s) (v : Word) : State.Kept s₀ (State.hostCtlWrite s v) := by
  unfold State.hostCtlWrite
  repeat' first
    | with_reducible assumption
    | intro x; first | (refine (fun (hx : State.Kept s₀ x) => ?_) ?_); clear_value x; rotate_left; subst x | subst x
    | lift_lets -underBinder +implicits
    | with_reducible apply State.heartbeat_kept
    | with_reducible apply State.hostSwitch_kept
    | with_reducible refine .ite (fun _ => ?_) (fun _ => ?_)
    | split

theorem State.hostWdWrite_kept {s₀ s : State} (h₀ : State.Kept s₀ s) (a : Nat) (v : Word) : State.Kept s₀ (State.hostWdWrite s a v) := by
  unfold State.hostWdWrite
  repeat' first
    | with_reducible assumption
    | intro x; first | (refine (fun (hx : State.Kept s₀ x) => ?_) ?_); clear_value x; rotate_left; subst x | subst x
    | lift_lets -underBinder +implicits
    | with_reducible apply State.hostBack_kept
    | with_reducible apply State.plainWrite_kept
    | with_reducible refine .ite (fun _ => ?_) (fun _ => ?_)
    | split

theorem State.msixWrite_kept {s₀ s : State} (h₀ : State.Kept s₀ s) (a : Nat) (v : Word) : State.Kept s₀ (State.msixWrite s a v) := by
  unfold State.msixWrite
  repeat' first
    | with_reducible assumption
    | with_reducible apply State.plainWrite_kept
    | with_reducible apply State.wr_kept
    | with_reducible refine .ite (fun _ => ?_) (fun _ => ?_)
    | split

theorem State.stoCtl_kept {s₀ s : State} (h₀ : State.Kept s₀ s) (v : Word) : State.Kept s₀ (State.stoCtl s v) := by
  unfold State.stoCtl
  repeat' first
    | with_reducible assumption
    | with_reducible apply State.driveAccept_kept
    | with_reducible refine .ite (fun _ => ?_) (fun _ => ?_)
    | with_reducible refine .foldl (fun _ _ _ => ?_) ?_
    | split

theorem State.qCmd_kept {s₀ s : State} (h₀ : State.Kept s₀ s) (op : Nat) : State.Kept s₀ (State.qCmd s op) := by
  unfold State.qCmd
  repeat' first
    | with_reducible assumption
    | intro x; first | (refine (fun (hx : State.Kept s₀ x) => ?_) ?_); clear_value x; rotate_left; subst x | subst x
    | lift_lets -underBinder +implicits
    | with_reducible apply State.flushWork_kept
    | with_reducible apply State.qClearErr_kept
    | with_reducible apply State.qDone_kept
    | with_reducible apply State.qRead_kept
    | with_reducible apply State.qSetLimit_kept
    | with_reducible refine .ite (fun _ => ?_) (fun _ => ?_)
    | split

theorem State.poolLowWrite_kept {s₀ s : State} (h₀ : State.Kept s₀ s) (a : Nat) (v : Word) : State.Kept s₀ (State.poolLowWrite s a v) := by
  unfold State.poolLowWrite
  repeat' first
    | with_reducible assumption
    | intro x; first | (refine (fun (hx : State.Kept s₀ x) => ?_) ?_); clear_value x; rotate_left; subst x | subst x
    | lift_lets -underBinder +implicits
    | with_reducible apply State.plainWrite_kept
    | with_reducible apply State.setPool_kept
    | with_reducible refine .ite (fun _ => ?_) (fun _ => ?_)
    | split

theorem State.uartWrite_kept {s₀ s : State} (h₀ : State.Kept s₀ s) (n a : Nat) (v : Word) : State.Kept s₀ (State.uartWrite s n a v) := by
  unfold State.uartWrite
  repeat' first
    | with_reducible assumption
    | intro x; first | (refine (fun (hx : State.Kept s₀ x) => ?_) ?_); clear_value x; rotate_left; subst x | subst x
    | lift_lets -underBinder +implicits
    | with_reducible apply State.brkSend_kept
    | with_reducible apply State.plainWrite_kept
    | with_reducible apply State.uartDiv_kept
    | with_reducible apply State.uartPop_kept
    | with_reducible apply State.uartStart_kept
    | with_reducible apply State.uartTx_kept
    | with_reducible refine .ite (fun _ => ?_) (fun _ => ?_)
    | split

theorem State.i2cPageWrite_kept {s₀ s : State} (h₀ : State.Kept s₀ s) (a : Nat) (v : Word) : State.Kept s₀ (State.i2cPageWrite s a v) := by
  unfold State.i2cPageWrite
  repeat' first
    | with_reducible assumption
    | intro x; first | (refine (fun (hx : State.Kept s₀ x) => ?_) ?_); clear_value x; rotate_left; subst x | subst x
    | lift_lets -underBinder +implicits
    | with_reducible apply State.drawn_kept
    | with_reducible apply State.i2cAbort_kept
    | with_reducible apply State.i2cCmd_kept
    | with_reducible apply State.i2cPop_kept
    | with_reducible apply State.i2cRecover_kept
    | with_reducible apply State.plainWrite_kept
    | with_reducible refine .ite (fun _ => ?_) (fun _ => ?_)
    | split

theorem State.gpioWrite_kept {s₀ s : State} (h₀ : State.Kept s₀ s) (m a : Nat) (v : Word) : State.Kept s₀ (State.gpioWrite s m a v) := by
  unfold State.gpioWrite
  repeat' first
    | with_reducible assumption
    | intro x; first | (refine (fun (hx : State.Kept s₀ x) => ?_) ?_); clear_value x; rotate_left; subst x | subst x
    | lift_lets -underBinder +implicits
    | with_reducible apply State.outClr_kept
    | with_reducible apply State.outSet_kept
    | with_reducible apply State.plainWrite_kept
    | with_reducible refine .ite (fun _ => ?_) (fun _ => ?_)
    | split

theorem State.armCmd_kept {s₀ s : State} (h₀ : State.Kept s₀ s) (v : Word) : State.Kept s₀ (State.armCmd s v) := by
  unfold State.armCmd
  repeat' first
    | with_reducible assumption
    | intro x; first | (refine (fun (hx : State.Kept s₀ x) => ?_) ?_); clear_value x; rotate_left; subst x | subst x
    | lift_lets -underBinder +implicits
    | with_reducible apply State.clrLock_kept
    | with_reducible apply State.ctlDisarmOut_kept
    | with_reducible apply State.outArm_kept
    | with_reducible refine .ite (fun _ => ?_) (fun _ => ?_)
    | split

theorem State.ctlWrite_kept {s₀ s : State} (h₀ : State.Kept s₀ s) (a : Nat) (v : Word) : State.Kept s₀ (State.ctlWrite s a v) := by
  unfold State.ctlWrite
  repeat' first
    | with_reducible assumption
    | intro x; first | (refine (fun (hx : State.Kept s₀ x) => ?_) ?_); clear_value x; rotate_left; subst x | subst x
    | lift_lets -underBinder +implicits
    | with_reducible apply State.armCmd_kept
    | with_reducible apply State.plainWrite_kept
    | with_reducible apply State.showIlk_kept
    | with_reducible refine .ite (fun _ => ?_) (fun _ => ?_)
    | split

theorem State.portCtlWrite_kept {s₀ s : State} (h₀ : State.Kept s₀ s) (p a : Nat) (v : Word) : State.Kept s₀ (State.portCtlWrite s p a v) := by
  unfold State.portCtlWrite
  repeat' first
    | with_reducible assumption
    | intro x; first | (refine (fun (hx : State.Kept s₀ x) => ?_) ?_); clear_value x; rotate_left; subst x | subst x
    | lift_lets -underBinder +implicits
    | with_reducible apply State.plainWrite_kept
    | with_reducible apply State.probeRequest_kept
    | with_reducible apply State.wb_kept
    | with_reducible refine .ite (fun _ => ?_) (fun _ => ?_)
    | with_reducible refine .foldl (fun _ _ _ => ?_) ?_
    | split

theorem State.lfeWrite_kept {s₀ s : State} (h₀ : State.Kept s₀ s) (p k a : Nat) (v : Word) : State.Kept s₀ (State.lfeWrite s p k a v) := by
  unfold State.lfeWrite
  repeat' first
    | with_reducible assumption
    | intro x; first | (refine (fun (hx : State.Kept s₀ x) => ?_) ?_); clear_value x; rotate_left; subst x | subst x
    | lift_lets -underBinder +implicits
    | with_reducible apply State.gainRefresh_kept
    | with_reducible apply State.plainWrite_kept
    | with_reducible apply State.polRefresh_kept
    | with_reducible apply State.portCtlWrite_kept
    | with_reducible refine .ite (fun _ => ?_) (fun _ => ?_)
    | with_reducible refine .foldl (fun _ _ _ => ?_) ?_
    | split

theorem State.phyCtlWrite_kept {s₀ s : State} (h₀ : State.Kept s₀ s) (a : Nat) (off : Bool) (v : Word) : State.Kept s₀ (State.phyCtlWrite s a off v) := by
  unfold State.phyCtlWrite
  repeat' first
    | with_reducible assumption
    | with_reducible apply State.plainWrite_kept
    | with_reducible refine .ite (fun _ => ?_) (fun _ => ?_)
    | split

theorem State.mapCfgWrite_kept {s₀ s : State} (h₀ : State.Kept s₀ s) (a : Nat) (v : Word) : State.Kept s₀ (State.mapCfgWrite s a v) := by
  unfold State.mapCfgWrite
  repeat' first
    | with_reducible assumption
    | with_reducible apply State.plainWrite_kept
    | with_reducible refine .ite (fun _ => ?_) (fun _ => ?_)
    | split

theorem State.macWrite_kept {s₀ s : State} (h₀ : State.Kept s₀ s) (p k a : Nat) (v : Word) : State.Kept s₀ (State.macWrite s p k a v) := by
  unfold State.macWrite
  repeat' first
    | with_reducible assumption
    | intro x; first | (refine (fun (hx : State.Kept s₀ x) => ?_) ?_); clear_value x; rotate_left; subst x | subst x
    | lift_lets -underBinder +implicits
    | with_reducible apply State.plainWrite_kept
    | with_reducible apply State.shadowWrite_kept
    | with_reducible refine .ite (fun _ => ?_) (fun _ => ?_)
    | split

theorem State.phyWrite_kept {s₀ s : State} (h₀ : State.Kept s₀ s) (bb : Bool) (p k a : Nat) (v : Word) : State.Kept s₀ (State.phyWrite s bb p k a v) := by
  unfold State.phyWrite
  repeat' first
    | with_reducible assumption
    | intro x; first | (refine (fun (hx : State.Kept s₀ x) => ?_) ?_); clear_value x; rotate_left; subst x | subst x
    | lift_lets -underBinder +implicits
    | with_reducible apply State.mapCfgWrite_kept
    | with_reducible apply State.phyCtlWrite_kept
    | with_reducible apply State.plainWrite_kept
    | with_reducible refine .ite (fun _ => ?_) (fun _ => ?_)
    | split

theorem State.srvWrite_kept {s₀ s : State} (h₀ : State.Kept s₀ s) (a : Nat) (v : Word) : State.Kept s₀ (State.srvWrite s a v) := by
  unfold State.srvWrite
  repeat' first
    | with_reducible assumption
    | intro x; first | (refine (fun (hx : State.Kept s₀ x) => ?_) ?_); clear_value x; rotate_left; subst x | subst x
    | lift_lets -underBinder +implicits
    | with_reducible apply State.capArm_kept
    | with_reducible apply State.capTrigger_kept
    | with_reducible apply State.muteClear_kept
    | with_reducible apply State.plainWrite_kept
    | with_reducible refine .ite (fun _ => ?_) (fun _ => ?_)
    | split

theorem State.coefWrite_kept {s₀ s : State} (h₀ : State.Kept s₀ s) (a : Nat) (v : Word) : State.Kept s₀ (State.coefWrite s a v) := by
  unfold State.coefWrite
  repeat' first
    | with_reducible assumption
    | intro x; first | (refine (fun (hx : State.Kept s₀ x) => ?_) ?_); clear_value x; rotate_left; subst x | subst x
    | lift_lets -underBinder +implicits
    | with_reducible apply State.plainWrite_kept
    | with_reducible refine .ite (fun _ => ?_) (fun _ => ?_)
    | split

theorem State.lgcCmd_kept {s₀ s : State} (h₀ : State.Kept s₀ s) (k : Nat) (v : Word) : State.Kept s₀ (State.lgcCmd s k v) := by
  unfold State.lgcCmd
  repeat' first
    | with_reducible assumption
    | intro x; first | (refine (fun (hx : State.Kept s₀ x) => ?_) ?_); clear_value x; rotate_left; subst x | subst x
    | lift_lets -underBinder +implicits
    | with_reducible apply State.cardClr_kept
    | with_reducible apply State.ctxStart_kept
    | with_reducible apply State.ctxStop_kept
    | with_reducible apply State.tlbInvAll_kept
    | with_reducible apply State.tlbInvVa_kept
    | with_reducible refine .ite (fun _ => ?_) (fun _ => ?_)
    | with_reducible refine .foldl (fun _ _ _ => ?_) ?_
    | split

theorem State.fltCtl_kept {s₀ s : State} (h₀ : State.Kept s₀ s) (k r : Nat) (v : Word) : State.Kept s₀ (State.fltCtl s k r v) := by
  unfold State.fltCtl
  repeat' first
    | with_reducible assumption
    | intro x; first | (refine (fun (hx : State.Kept s₀ x) => ?_) ?_); clear_value x; rotate_left; subst x | subst x
    | lift_lets -underBinder +implicits
    | with_reducible apply State.fltAbort_kept
    | with_reducible apply State.fltResume_kept
    | with_reducible refine .ite (fun _ => ?_) (fun _ => ?_)
    | split

theorem State.lgcChWrite_kept {s₀ s : State} (h₀ : State.Kept s₀ s) (k a : Nat) (v : Word) : State.Kept s₀ (State.lgcChWrite s k a v) := by
  unfold State.lgcChWrite
  repeat' first
    | with_reducible assumption
    | intro x; first | (refine (fun (hx : State.Kept s₀ x) => ?_) ?_); clear_value x; rotate_left; subst x | subst x
    | lift_lets -underBinder +implicits
    | with_reducible apply State.plainWrite_kept
    | with_reducible apply State.setMst_kept
    | with_reducible apply State.slotOwn_kept
    | with_reducible refine .ite (fun _ => ?_) (fun _ => ?_)
    | with_reducible refine .foldl (fun _ _ _ => ?_) ?_
    | split
    | with_reducible refine State.Kept.mk_iff.2 ?_

theorem State.lgcWriteReg_kept {s₀ s : State} (h₀ : State.Kept s₀ s) (k j a : Nat) (v : Word) : State.Kept s₀ (State.lgcWriteReg s k j a v) := by
  unfold State.lgcWriteReg
  repeat' first
    | with_reducible assumption
    | intro x; first | (refine (fun (hx : State.Kept s₀ x) => ?_) ?_); clear_value x; rotate_left; subst x | subst x
    | lift_lets -underBinder +implicits
    | with_reducible apply State.fltCtl_kept
    | with_reducible apply State.lgcChWrite_kept
    | with_reducible apply State.lgcCmd_kept
    | with_reducible apply State.plainWrite_kept
    | with_reducible apply State.slotCtl_kept
    | with_reducible refine .ite (fun _ => ?_) (fun _ => ?_)
    | split

theorem State.lowWrite_kept {s₀ s : State} (h₀ : State.Kept s₀ s) (m a : Nat) (v : Word) : State.Kept s₀ (State.lowWrite s m a v) := by
  unfold State.lowWrite
  repeat' first
    | with_reducible assumption
    | intro x; first | (refine (fun (hx : State.Kept s₀ x) => ?_) ?_); clear_value x; rotate_left; subst x | subst x
    | lift_lets -underBinder +implicits
    | with_reducible apply State.atbWrite_kept
    | with_reducible apply State.bankPageWrite_kept
    | with_reducible apply State.benchCmd_kept
    | with_reducible apply State.chkWrite_kept
    | with_reducible apply State.ctlWrite_kept
    | with_reducible apply State.entCmd_kept
    | with_reducible apply State.gpioWrite_kept
    | with_reducible apply State.hkcCtlWrite_kept
    | with_reducible apply State.hlCfgWrite_kept
    | with_reducible apply State.hostCtlWrite_kept
    | with_reducible apply State.hostWdWrite_kept
    | with_reducible apply State.i2cPageWrite_kept
    | with_reducible apply State.msixWrite_kept
    | with_reducible apply State.plainWrite_kept
    | with_reducible apply State.poolLowWrite_kept
    | with_reducible apply State.qCmd_kept
    | with_reducible apply State.slotCmd_kept
    | with_reducible apply State.stoCtl_kept
    | with_reducible apply State.sysWrite_kept
    | with_reducible apply State.trkCtlWrite_kept
    | with_reducible apply State.uartWrite_kept
    | with_reducible apply State.umpWrite_kept
    | with_reducible apply State.wb_kept
    | with_reducible refine .ite (fun _ => ?_) (fun _ => ?_)
    | split

theorem State.highWrite_kept {s₀ s : State} (h₀ : State.Kept s₀ s) (a : Nat) (v : Word) : State.Kept s₀ (State.highWrite s a v) := by
  unfold State.highWrite
  repeat' first
    | with_reducible assumption
    | intro x; first | (refine (fun (hx : State.Kept s₀ x) => ?_) ?_); clear_value x; rotate_left; subst x | subst x
    | lift_lets -underBinder +implicits
    | with_reducible apply State.coefWrite_kept
    | with_reducible apply State.epWinWrite_kept
    | with_reducible apply State.lfeWrite_kept
    | with_reducible apply State.lgcWriteReg_kept
    | with_reducible apply State.macWrite_kept
    | with_reducible apply State.phyWrite_kept
    | with_reducible apply State.plainWrite_kept
    | with_reducible apply State.srvWrite_kept
    | with_reducible refine .ite (fun _ => ?_) (fun _ => ?_)
    | split

theorem State.dmaOwnWrite_kept {s₀ s : State} (h₀ : State.Kept s₀ s) (m ch : Nat) (v : Word) : State.Kept s₀ (State.dmaOwnWrite s m ch v) := by
  unfold State.dmaOwnWrite
  repeat' first
    | with_reducible assumption
    | intro x; first | (refine (fun (hx : State.Kept s₀ x) => ?_) ?_); clear_value x; rotate_left; subst x | subst x
    | lift_lets -underBinder +implicits
    | with_reducible apply State.setMst_kept
    | with_reducible refine .ite (fun _ => ?_) (fun _ => ?_)
    | split
    | with_reducible refine State.Kept.mk_iff.2 ?_

theorem State.writeWord_kept {s₀ s : State} (h₀ : State.Kept s₀ s) (m a : Nat) (v : Word) : State.Kept s₀ (State.writeWord s m a v) := by
  unfold State.writeWord
  repeat' first
    | with_reducible assumption
    | intro x; first | (refine (fun (hx : State.Kept s₀ x) => ?_) ?_); clear_value x; rotate_left; subst x | subst x
    | lift_lets -underBinder +implicits
    | with_reducible apply State.arbNote_kept
    | with_reducible apply State.dmaOwnWrite_kept
    | with_reducible apply State.headerWrite_kept
    | with_reducible apply State.highWrite_kept
    | with_reducible apply State.ignored_kept
    | with_reducible apply State.lowWrite_kept
    | with_reducible refine .ite (fun _ => ?_) (fun _ => ?_)
    | split

theorem State.regWrite_kept {s₀ s : State} (h₀ : State.Kept s₀ s) (m a : Nat) (bytes : List Byte) : State.Kept s₀ (State.regWrite s m a bytes) := by
  unfold State.regWrite
  repeat' first
    | with_reducible assumption
    | with_reducible apply State.ignored_kept
    | with_reducible apply State.writeWord_kept
    | with_reducible refine .ite (fun _ => ?_) (fun _ => ?_)
    | with_reducible refine .foldl (fun _ _ _ => ?_) ?_
    | split

end Sys2Proof.Machine
end

