-- ==== Sys2Proof/Laws/KeptBusRead.lean ====
section
/-! SUPPORT. The operations of Machine/BusRead.lean keep what Laws/Kept.lean says. -/

-- One declaration after another: the package is compiled as one text, and its memory stays within bounds.
set_option Elab.async false

namespace Sys2Proof.Machine

theorem State.ringCtl_kept {s₀ s : State} (h₀ : State.Kept s₀ s) (r : Nat) (v : Word) : State.Kept s₀ (State.ringCtl s r v) := by
  unfold State.ringCtl
  repeat' first
    | with_reducible assumption
    | intro x; first | (refine (fun (hx : State.Kept s₀ x) => ?_) ?_); clear_value x; rotate_left; subst x | subst x
    | lift_lets -underBinder +implicits
    | with_reducible apply State.ringAbort_kept
    | with_reducible apply State.ringDisable_kept
    | with_reducible apply State.ringEnable_kept
    | with_reducible refine .ite (fun _ => ?_) (fun _ => ?_)
    | split

theorem State.ringCfg_kept {s₀ s : State} (h₀ : State.Kept s₀ s) (r o : Nat) (v : Word) : State.Kept s₀ (State.ringCfg s r o v) := by
  unfold State.ringCfg
  repeat' first
    | with_reducible assumption
    | with_reducible apply State.wr_kept
    | with_reducible refine .ite (fun _ => ?_) (fun _ => ?_)
    | split

theorem State.msgWrite_kept {s₀ s : State} (h₀ : State.Kept s₀ s) (x : Nat) (v : Word) : State.Kept s₀ (State.msgWrite s x v) := by
  unfold State.msgWrite
  repeat' first
    | with_reducible assumption
    | intro x; first | (refine (fun (hx : State.Kept s₀ x) => ?_) ?_); clear_value x; rotate_left; subst x | subst x
    | lift_lets -underBinder +implicits
    | with_reducible apply State.cqDoorbell_kept
    | with_reducible apply State.ignored_kept
    | with_reducible apply State.msixUnmask_kept
    | with_reducible apply State.ringCfg_kept
    | with_reducible apply State.ringCtl_kept
    | with_reducible apply State.sqDoorbell_kept
    | with_reducible apply State.wb_kept
    | with_reducible apply State.wr_kept
    | with_reducible refine .ite (fun _ => ?_) (fun _ => ?_)
    | split

end Sys2Proof.Machine
end

