-- ==== Sys2Proof/Laws/KeptUmpire.lean ====
section
/-! SUPPORT. The operations of Machine/Umpire.lean keep what Laws/Kept.lean says. -/

-- One declaration after another: the package is compiled as one text, and its memory stays within bounds.
set_option Elab.async false

namespace Sys2Proof.Machine

theorem State.cardRecord_kept {s₀ s : State} (h₀ : State.Kept s₀ s) (m kind acc addr : Nat) : State.Kept s₀ (State.cardRecord s m kind acc addr) := by
  unfold State.cardRecord
  repeat' first
    | with_reducible assumption
    | intro x; first | (refine (fun (hx : State.Kept s₀ x) => ?_) ?_); clear_value x; rotate_left; subst x | (refine (fun (hx : State.Kept s₀ x.1) => ?_) ?_); clear_value x; rotate_left; subst x | subst x
    | lift_lets -underBinder +implicits
    | with_reducible apply State.cause_kept
    | with_reducible apply State.faultEvent_kept
    | with_reducible apply State.inc_kept
    | with_reducible apply State.lastingAtOnce_kept
    | with_reducible apply State.record_kept
    | with_reducible apply State.setMst_kept
    | with_reducible apply State.wr_kept
    | with_reducible apply State.wr64_kept
    | with_reducible refine .ite (fun _ => ?_) (fun _ => ?_)
    | with_reducible refine .ofFst (by assumption) ?_
    | split
    | with_reducible refine State.Kept.mk_iff.2 ?_

theorem State.cardDesc_kept {s₀ s : State} (h₀ : State.Kept s₀ s) (m : Nat) : State.Kept s₀ (State.cardDesc s m) := by
  unfold State.cardDesc
  repeat' first
    | with_reducible assumption
    | intro x; first | (refine (fun (hx : State.Kept s₀ x) => ?_) ?_); clear_value x; rotate_left; subst x | subst x
    | lift_lets -underBinder +implicits
    | with_reducible apply State.setMst_kept
    | with_reducible refine .ite (fun _ => ?_) (fun _ => ?_)
    | with_reducible refine .foldl (fun _ _ _ => ?_) ?_
    | split
    | with_reducible refine State.Kept.mk_iff.2 ?_

theorem State.accServeAll_kept {s₀ s : State} (h₀ : State.Kept s₀ s)  : State.Kept s₀ (State.accServeAll s) := by
  unfold State.accServeAll
  repeat' first
    | with_reducible assumption
    | with_reducible apply State.accServe_kept
    | with_reducible refine .ite (fun _ => ?_) (fun _ => ?_)
    | with_reducible refine .foldl (fun _ _ _ => ?_) ?_
    | split

theorem State.cardWork_kept {s₀ s : State} (h₀ : State.Kept s₀ s) (m : Nat) (carried : List Nat) : State.Kept s₀ (State.cardWork s m carried) := by
  unfold State.cardWork
  repeat' first
    | with_reducible assumption
    | intro x; first | (refine (fun (hx : State.Kept s₀ x) => ?_) ?_); clear_value x; rotate_left; subst x | subst x
    | lift_lets -underBinder +implicits
    | with_reducible apply State.accServeAll_kept
    | with_reducible apply State.aesAbort_kept
    | with_reducible apply State.cardDesc_kept
    | with_reducible apply State.flushWork_kept
    | with_reducible apply State.resolveWhere_kept
    | with_reducible refine .ite (fun _ => ?_) (fun _ => ?_)
    | with_reducible refine .foldl (fun _ _ _ => ?_) ?_
    | split
    | with_reducible refine State.Kept.mk_iff.2 ?_

theorem State.slotUndo_kept {s₀ s : State} (h₀ : State.Kept s₀ s) (k : Nat) : State.Kept s₀ (State.slotUndo s k) := by
  unfold State.slotUndo
  repeat' first
    | with_reducible assumption
    | intro x; first | (refine (fun (hx : State.Kept s₀ x) => ?_) ?_); clear_value x; rotate_left; subst x | subst x
    | lift_lets -underBinder +implicits
    | with_reducible apply State.setCtxState_kept
    | with_reducible apply State.wb_kept
    | with_reducible refine .ite (fun _ => ?_) (fun _ => ?_)
    | with_reducible refine .foldl (fun _ _ _ => ?_) ?_
    | split

theorem State.slotCard_kept {s₀ s0 : State} (h₀ : State.Kept s₀ s0) (k : Nat) : State.Kept s₀ (State.slotCard s0 k) := by
  unfold State.slotCard
  repeat' first
    | with_reducible assumption
    | intro x; first | (refine (fun (hx : State.Kept s₀ x) => ?_) ?_); clear_value x; rotate_left; subst x | subst x
    | lift_lets -underBinder +implicits
    | with_reducible apply State.cause_kept
    | with_reducible apply State.setMst_kept
    | with_reducible apply State.slotUndo_kept
    | with_reducible apply State.wb_kept
    | with_reducible refine .ite (fun _ => ?_) (fun _ => ?_)
    | with_reducible refine .foldl (fun _ _ _ => ?_) ?_
    | split
    | with_reducible refine State.Kept.mk_iff.2 ?_

theorem State.hostCard_kept {s₀ s : State} (h₀ : State.Kept s₀ s)  : State.Kept s₀ (State.hostCard s) := by
  unfold State.hostCard
  repeat' first
    | with_reducible assumption
    | intro x; first | (refine (fun (hx : State.Kept s₀ x) => ?_) ?_); clear_value x; rotate_left; subst x | subst x
    | lift_lets -underBinder +implicits
    | with_reducible apply State.testEnd_kept
    | with_reducible refine .ite (fun _ => ?_) (fun _ => ?_)
    | split
    | with_reducible refine State.Kept.mk_iff.2 ?_

theorem State.debugCard_kept {s₀ s : State} (h₀ : State.Kept s₀ s)  : State.Kept s₀ (State.debugCard s) := by
  unfold State.debugCard
  repeat' first
    | with_reducible assumption
    | intro x; first | (refine (fun (hx : State.Kept s₀ x) => ?_) ?_); clear_value x; rotate_left; subst x | subst x
    | lift_lets -underBinder +implicits
    | with_reducible apply State.setDebug_kept
    | with_reducible refine .ite (fun _ => ?_) (fun _ => ?_)
    | exact Nat.zero_le _
    | split
    | with_reducible refine State.Kept.mk_iff.2 ?_

theorem State.cardOne_kept {s₀ s : State} (h₀ : State.Kept s₀ s) (m kind acc addr : Nat) (carried : List Nat) : State.Kept s₀ (State.cardOne s m kind acc addr carried) := by
  unfold State.cardOne
  repeat' first
    | with_reducible assumption
    | intro x; first | (refine (fun (hx : State.Kept s₀ x) => ?_) ?_); clear_value x; rotate_left; subst x | subst x
    | lift_lets -underBinder +implicits
    | with_reducible apply State.becomeDue_kept
    | with_reducible apply State.cardRecord_kept
    | with_reducible apply State.cardWork_kept
    | with_reducible apply State.debugCard_kept
    | with_reducible apply State.hostCard_kept
    | with_reducible apply State.slotCard_kept
    | with_reducible apply State.wf_kept
    | with_reducible refine .ite (fun _ => ?_) (fun _ => ?_)
    | split

theorem State.redCard_kept {s₀ s : State} (h₀ : State.Kept s₀ s) (m kind acc addr : Nat) (carried : List Nat) : State.Kept s₀ (State.redCard s m kind acc addr carried) := by
  unfold State.redCard
  repeat' first
    | with_reducible assumption
    | intro x; first | (refine (fun (hx : State.Kept s₀ x) => ?_) ?_); clear_value x; rotate_left; subst x | subst x
    | lift_lets -underBinder +implicits
    | with_reducible apply State.cardOne_kept
    | with_reducible refine .ite (fun _ => ?_) (fun _ => ?_)
    | split

theorem State.fabWrite_kept {s₀ s : State} (h₀ : State.Kept s₀ s) (m : Nat) (dl : Bool) (addr : Nat) (b : List Byte) : State.Kept s₀ (s.fabWrite m dl addr b) := by
  unfold State.fabWrite
  dsimp only
  split
  · exact State.regWrite_kept h₀ ..
  split
  · exact State.Kept.storeLgc (State.arbNote_kept h₀ _) ..
  split
  · exact State.Kept.storeMem (State.arbNote_kept h₀ _) addr _
  split
  · exact State.dmaWrite_kept h₀ ..
  · exact h₀

theorem State.returned_kept {s₀ s : State} (h₀ : State.Kept s₀ s) (m : Nat) (b : List Byte) (ok : Bool) : State.Kept s₀ (State.returned s m b ok) := by
  unfold State.returned
  repeat' first
    | with_reducible assumption
    | intro x; first | (refine (fun (hx : State.Kept s₀ x) => ?_) ?_); clear_value x; rotate_left; subst x | subst x
    | lift_lets -underBinder +implicits
    | with_reducible refine .ite (fun _ => ?_) (fun _ => ?_)
    | split
    | with_reducible refine State.Kept.mk_iff.2 ?_

theorem State.apertureAcc_kept {s₀ s : State} (h₀ : State.Kept s₀ s) (x : FabAcc) : State.Kept s₀ (State.apertureAcc s x) := by
  unfold State.apertureAcc
  repeat' first
    | with_reducible assumption
    | intro x; first | (refine (fun (hx : State.Kept s₀ x) => ?_) ?_); clear_value x; rotate_left; subst x | subst x
    | lift_lets -underBinder +implicits
    | with_reducible apply State.fabWrite_kept
    | with_reducible apply State.ignored_kept
    | with_reducible apply State.returned_kept
    | with_reducible refine .ite (fun _ => ?_) (fun _ => ?_)
    | split

theorem State.chanMoved_kept {s₀ s : State} (h₀ : State.Kept s₀ s) (m done left : Nat) : State.Kept s₀ (State.chanMoved s m done left) := by
  unfold State.chanMoved
  repeat' first
    | with_reducible assumption
    | intro x; first | (refine (fun (hx : State.Kept s₀ x) => ?_) ?_); clear_value x; rotate_left; subst x | subst x
    | lift_lets -underBinder +implicits
    | with_reducible apply State.setMst_kept
    | with_reducible refine .ite (fun _ => ?_) (fun _ => ?_)
    | split
    | with_reducible refine State.Kept.mk_iff.2 ?_

theorem FabRun.piece_kept {s₀ : State} {r : FabRun} (h₀ : State.Kept s₀ r.s) (x : FabAcc) (addr rep ofs n : Nat) : State.Kept s₀ (r.piece x addr rep ofs n).s := by
  unfold FabRun.piece
  cases r.s.umpCheck x addr with
  | some k => exact State.redCard_kept (.ite (fun _ => h₀) (fun _ => State.chanMoved_kept h₀ ..)) ..
  | none =>
    dsimp only
    split
    · exact State.fabWrite_kept h₀ ..
    · exact h₀

theorem FabRun.legacyPiece_kept {s₀ : State} {r : FabRun} (h₀ : State.Kept s₀ r.s) (x : FabAcc) (k c : Nat) (ch : Option Nat) (ofs n : Nat) :
    State.Kept s₀ (r.legacyPiece x k c ch ofs n).s := by
  have h1 := State.translate_kept h₀ k c x.acc (x.addr + ofs)
  unfold FabRun.legacyPiece
  dsimp only
  rcases hy : r.s.translate k c x.acc (x.addr + ofs) with ⟨s1, pa⟩
  rw [hy] at h1
  cases pa with
  | inl pa => exact FabRun.piece_kept (r := { r with s := s1 }) h1 ..
  | inr kind =>
    cases ch with
    | none => exact State.ctxFault_kept h1 ..
    | some j => exact State.chanFault_kept h1 ..

theorem FabRun.foldl_kept {α : Type} {s₀ : State} {f : FabRun → α → FabRun} {l : List α} {r : FabRun} (hf : ∀ r a, State.Kept s₀ r.s → State.Kept s₀ (f r a).s)
    (h : State.Kept s₀ r.s) : State.Kept s₀ (l.foldl f r).s := by
  induction l generalizing r with
  | nil => exact h
  | cons a l ih => exact ih (hf r a h)

theorem State.burst_kept {s₀ s : State} (h₀ : State.Kept s₀ s) (x : FabAcc) : State.Kept s₀ (s.burst x).s := by
  unfold State.burst
  dsimp only
  rcases s.lgcSource x with _ | ⟨k, c, ch⟩
  · refine FabRun.foldl_kept (r := { s := s }) (fun r p h => ?_) h₀
    split
    · exact h
    · exact FabRun.piece_kept h ..
  · refine FabRun.foldl_kept (r := { s := s }) (fun r p h => ?_) h₀
    split
    · exact h
    · exact FabRun.legacyPiece_kept h ..

theorem State.shadowFault_kept {s₀ s : State} (h₀ : State.Kept s₀ s)  : State.Kept s₀ (State.shadowFault s) := by
  unfold State.shadowFault
  repeat' first
    | with_reducible assumption
    | intro x; first | (refine (fun (hx : State.Kept s₀ x) => ?_) ?_); clear_value x; rotate_left; subst x | (refine (fun (hx : State.Kept s₀ x.1) => ?_) ?_); clear_value x; rotate_left; subst x | subst x
    | lift_lets -underBinder +implicits
    | split
    | with_reducible apply State.fault_kept
    | with_reducible apply State.forceSafe_kept
    | with_reducible refine .ite (fun _ => ?_) (fun _ => ?_)
    | with_reducible refine .ofFst (by assumption) ?_
    | split

theorem State.fabricAccess_kept {s₀ s : State} (h₀ : State.Kept s₀ s) (x : FabAcc) : State.Kept s₀ (s.fabricAccess x) := by
  have h1 : State.Kept s₀ (if x.m = 0x300 then s.hostTouch else s) := .ite (fun _ => State.hostTouch_kept h₀) (fun _ => h₀)
  have h2 : ∀ {t : State}, State.Kept s₀ t → State.Kept s₀ (if x.shadow = true then t.shadowFault else t) := fun h => .ite (fun _ => State.shadowFault_kept h) (fun _ => h)
  unfold State.fabricAccess
  dsimp only
  refine .ite (fun _ => h1) (fun _ => .ite (fun _ => .ite (fun _ => h1) (fun _ => State.returned_kept h1 ..)) (fun _ => .ite (fun _ => .ite (fun _ => h1)
    (fun _ => State.returned_kept h1 ..)) (fun _ => .ite (fun _ => State.apertureAcc_kept h1 _) (fun _ => .ite (fun _ => h1) (fun _ => ?_)))))
  have h3 := State.burst_kept (h2 h1) x
  generalize (if x.shadow = true then (if x.m = 0x300 then s.hostTouch else s).shadowFault else if x.m = 0x300 then s.hostTouch else s).burst x = r at h3 ⊢
  have h4 : ∀ a b, State.Kept s₀ (if r.stop = true ∨ x.prog.2 = 0 then r else { r with s := r.s.chanMoved x.m a b }).s := fun a b => by
    split
    · exact h3
    · exact State.chanMoved_kept h3 ..
  simp only [Bool.or_eq_true, decide_eq_true_eq]
  exact .ite (fun _ => h4 _ _) (fun _ => .ite (fun _ => State.returned_kept (h4 _ _) ..) (fun _ => State.returned_kept (h4 _ _) ..))

end Sys2Proof.Machine
end

