-- ==== Sys2Proof/Laws/KeptDebug.lean ====
section
/-! SUPPORT. The operations of Machine/Debug.lean keep what Laws/Kept.lean says. -/

-- One declaration after another: the package is compiled as one text, and its memory stays within bounds.
set_option Elab.async false

namespace Sys2Proof.Machine

theorem State.tapSelect_kept {s₀ s : State} (h₀ : State.Kept s₀ s) (ok : Bool) (op dr : Nat) : State.Kept s₀ (State.tapSelect s ok op dr) := by
  unfold State.tapSelect
  repeat' first
    | with_reducible assumption
    | intro x; first | (refine (fun (hx : State.Kept s₀ x) => ?_) ?_); clear_value x; rotate_left; subst x | subst x
    | lift_lets -underBinder +implicits
    | with_reducible refine .ite (fun _ => ?_) (fun _ => ?_)
    | split
    | with_reducible refine State.Kept.mk_iff.2 ?_

theorem State.tapForce_kept {s₀ s : State} (h₀ : State.Kept s₀ s)  : State.Kept s₀ (State.tapForce s) := by
  unfold State.tapForce
  repeat' first
    | with_reducible assumption
    | intro x; first | (refine (fun (hx : State.Kept s₀ x) => ?_) ?_); clear_value x; rotate_left; subst x | subst x
    | lift_lets -underBinder +implicits
    | with_reducible apply State.linkLoss_kept
    | with_reducible apply State.stopAll_kept
    | with_reducible refine .ite (fun _ => ?_) (fun _ => ?_)
    | split

theorem State.tapScan_kept {s₀ s : State} (h₀ : State.Kept s₀ s) (op pins shift : Nat) : State.Kept s₀ (State.tapScan s op pins shift) := by
  unfold State.tapScan
  repeat' first
    | with_reducible assumption
    | intro x; first | (refine (fun (hx : State.Kept s₀ x) => ?_) ?_); clear_value x; rotate_left; subst x | subst x
    | lift_lets -underBinder +implicits
    | with_reducible apply State.tapForce_kept
    | with_reducible apply State.tapSelect_kept
    | with_reducible refine .ite (fun _ => ?_) (fun _ => ?_)
    | split
    | with_reducible refine State.Kept.mk_iff.2 ?_

theorem State.lcAdvance_kept {s₀ s : State} (h₀ : State.Kept s₀ s) (target : Nat) : State.Kept s₀ (State.lcAdvance s target) := by
  unfold State.lcAdvance
  repeat' first
    | with_reducible assumption
    | intro x; first | (refine (fun (hx : State.Kept s₀ x) => ?_) ?_); clear_value x; rotate_left; subst x | subst x
    | lift_lets -underBinder +implicits
    | with_reducible apply State.lifecycle_kept
    | with_reducible apply State.tapSelect_kept
    | with_reducible refine .ite (fun _ => ?_) (fun _ => ?_)
    | split

theorem State.tapReset_kept {s₀ s : State} (h₀ : State.Kept s₀ s) (trst : Bool) : State.Kept s₀ (State.tapReset s trst) := by
  unfold State.tapReset
  repeat' first
    | with_reducible assumption
    | intro x; first | (refine (fun (hx : State.Kept s₀ x) => ?_) ?_); clear_value x; rotate_left; subst x | subst x
    | lift_lets -underBinder +implicits
    | with_reducible apply State.tapSelect_kept
    | with_reducible refine .ite (fun _ => ?_) (fun _ => ?_)
    | split
    | with_reducible refine State.Kept.mk_iff.2 ?_

theorem State.dapReply_kept {s₀ s : State} (h₀ : State.Kept s₀ s) (st : Status) (r : Nat) : State.Kept s₀ (State.dapReply s st r) := by
  unfold State.dapReply
  repeat' first
    | with_reducible assumption
    | intro x; first | (refine (fun (hx : State.Kept s₀ x) => ?_) ?_); clear_value x; rotate_left; subst x | subst x
    | lift_lets -underBinder +implicits
    | with_reducible refine .ite (fun _ => ?_) (fun _ => ?_)
    | split
    | with_reducible refine State.Kept.mk_iff.2 ?_

theorem State.dapRun_kept {s₀ s : State} (h₀ : State.Kept s₀ s) (body : State → State) (h_body : ∀ (x0 : State), State.Kept s₀ x0 → State.Kept s₀ (body x0)) : State.Kept s₀ (State.dapRun s body) := by
  unfold State.dapRun
  repeat' first
    | with_reducible assumption
    | with_reducible apply h_body
    | with_reducible refine .ite (fun _ => ?_) (fun _ => ?_)
    | with_reducible refine .ofFst (by assumption) ?_
    | split

theorem State.dapFree_kept {s₀ s : State} (h₀ : State.Kept s₀ s) (body : State → State) (h_body : ∀ (x0 : State), State.Kept s₀ x0 → State.Kept s₀ (body x0)) : State.Kept s₀ (State.dapFree s body) := by
  unfold State.dapFree
  repeat' first
    | with_reducible assumption
    | with_reducible apply h_body
    | with_reducible apply State.dapReply_kept
    | with_reducible refine .ite (fun _ => ?_) (fun _ => ?_)
    | with_reducible refine .ofFst (by assumption) ?_
    | split

theorem State.challengeIssue_kept {s₀ s : State} (h₀ : State.Kept s₀ s)  : State.Kept s₀ (State.challengeIssue s) := by
  unfold State.challengeIssue
  repeat' first
    | with_reducible assumption
    | intro x; first | (refine (fun (hx : State.Kept s₀ x) => ?_) ?_); clear_value x; rotate_left; subst x | (refine (fun (hx : State.Kept s₀ x.1) => ?_) ?_); clear_value x; rotate_left; subst x | subst x
    | lift_lets -underBinder +implicits
    | split
    | with_reducible apply State.dapReply_kept
    | with_reducible apply State.drbgDraw_kept
    | with_reducible refine .ite (fun _ => ?_) (fun _ => ?_)
    | with_reducible refine .ofFst (by assumption) ?_
    | split
    | with_reducible refine State.Kept.mk_iff.2 ?_

theorem State.dapChallenge_kept {s₀ s : State} (h₀ : State.Kept s₀ s)  : State.Kept s₀ (State.dapChallenge s) := by
  unfold State.dapChallenge
  repeat' first
    | with_reducible assumption
    | with_reducible apply State.challengeIssue_kept
    | with_reducible apply State.dapFree_kept
    | with_reducible refine .ite (fun _ => ?_) (fun _ => ?_)
    | intro _
    | split

theorem State.dapOutWord_kept {s₀ s : State} (h₀ : State.Kept s₀ s)  : State.Kept s₀ (State.dapOutWord s) := by
  unfold State.dapOutWord
  repeat' first
    | with_reducible assumption
    | intro x; first | (refine (fun (hx : State.Kept s₀ x) => ?_) ?_); clear_value x; rotate_left; subst x | subst x
    | lift_lets -underBinder +implicits
    | with_reducible apply State.dapReply_kept
    | with_reducible apply State.drawn_kept
    | with_reducible refine .ite (fun _ => ?_) (fun _ => ?_)
    | split
    | with_reducible refine State.Kept.mk_iff.2 ?_

theorem State.dapInWord_kept {s₀ s : State} (h₀ : State.Kept s₀ s) (v : Word) : State.Kept s₀ (State.dapInWord s v) := by
  unfold State.dapInWord
  repeat' first
    | with_reducible assumption
    | intro x; first | (refine (fun (hx : State.Kept s₀ x) => ?_) ?_); clear_value x; rotate_left; subst x | subst x
    | lift_lets -underBinder +implicits
    | with_reducible apply State.dapFree_kept
    | with_reducible apply State.dapReply_kept
    | with_reducible refine .ite (fun _ => ?_) (fun _ => ?_)
    | intro _
    | split
    | with_reducible refine State.Kept.mk_iff.2 ?_

theorem State.dapVerdict_kept {s₀ s : State} (h₀ : State.Kept s₀ s) (st : Status) : State.Kept s₀ (State.dapVerdict s st) := by
  unfold State.dapVerdict
  repeat' first
    | with_reducible assumption
    | intro x; first | (refine (fun (hx : State.Kept s₀ x) => ?_) ?_); clear_value x; rotate_left; subst x | subst x
    | lift_lets -underBinder +implicits
    | with_reducible apply State.dapReply_kept
    | with_reducible apply State.incF_kept
    | with_reducible apply State.wf_kept
    | with_reducible refine .ite (fun _ => ?_) (fun _ => ?_)
    | split

theorem State.dapSettled_kept {s₀ s : State} (h₀ : State.Kept s₀ s) (st : Status) : State.Kept s₀ (State.dapSettled s st) := by
  unfold State.dapSettled
  repeat' first
    | with_reducible assumption
    | intro x; first | (refine (fun (hx : State.Kept s₀ x) => ?_) ?_); clear_value x; rotate_left; subst x | subst x
    | lift_lets -underBinder +implicits
    | with_reducible apply State.dapVerdict_kept
    | with_reducible refine .ite (fun _ => ?_) (fun _ => ?_)
    | split
    | with_reducible refine State.Kept.mk_iff.2 ?_

theorem State.dapAuthFail_kept {s₀ s : State} (h₀ : State.Kept s₀ s)  : State.Kept s₀ (State.dapAuthFail s) := by
  unfold State.dapAuthFail
  repeat' first
    | with_reducible assumption
    | intro x; first | (refine (fun (hx : State.Kept s₀ x) => ?_) ?_); clear_value x; rotate_left; subst x | subst x
    | lift_lets -underBinder +implicits
    | with_reducible apply State.dapVerdict_kept
    | with_reducible apply State.record_kept
    | with_reducible refine .ite (fun _ => ?_) (fun _ => ?_)
    | split
    | with_reducible refine State.Kept.mk_iff.2 ?_

theorem State.dapLower_kept {s₀ s : State} (h₀ : State.Kept s₀ s) (l : Nat) : State.Kept s₀ (s.dapLower l) := by
  unfold State.dapLower
  exact .ite (fun _ => State.dapReply_kept (State.wf_kept h₀ ..) ..)
    (fun hl => State.dapReply_kept (State.wf_kept (State.setDebug_kept h₀ _ (Nat.le_of_not_lt hl)) ..) ..)

theorem State.dapStatus_kept {s₀ s : State} (h₀ : State.Kept s₀ s)  : State.Kept s₀ (State.dapStatus s) := by
  unfold State.dapStatus
  repeat' first
    | with_reducible assumption
    | with_reducible apply State.dapReply_kept
    | with_reducible refine .ite (fun _ => ?_) (fun _ => ?_)
    | split

theorem State.dapAddrLo_kept {s₀ s : State} (h₀ : State.Kept s₀ s) (v : Word) : State.Kept s₀ (State.dapAddrLo s v) := by
  unfold State.dapAddrLo
  repeat' first
    | with_reducible assumption
    | intro x; first | (refine (fun (hx : State.Kept s₀ x) => ?_) ?_); clear_value x; rotate_left; subst x | subst x
    | lift_lets -underBinder +implicits
    | with_reducible apply State.dapReply_kept
    | with_reducible refine .ite (fun _ => ?_) (fun _ => ?_)
    | split
    | with_reducible refine State.Kept.mk_iff.2 ?_

theorem State.dapAddrHi_kept {s₀ s : State} (h₀ : State.Kept s₀ s) (v : Word) : State.Kept s₀ (State.dapAddrHi s v) := by
  unfold State.dapAddrHi
  repeat' first
    | with_reducible assumption
    | intro x; first | (refine (fun (hx : State.Kept s₀ x) => ?_) ?_); clear_value x; rotate_left; subst x | subst x
    | lift_lets -underBinder +implicits
    | with_reducible apply State.dapReply_kept
    | with_reducible refine .ite (fun _ => ?_) (fun _ => ?_)
    | split
    | with_reducible refine State.Kept.mk_iff.2 ?_

theorem State.dapMem_kept {s₀ s : State} (h₀ : State.Kept s₀ s) (acc : Nat) (data : List Byte) : State.Kept s₀ (State.dapMem s acc data) := by
  unfold State.dapMem
  repeat' first
    | with_reducible assumption
    | intro x; first | (refine (fun (hx : State.Kept s₀ x) => ?_) ?_); clear_value x; rotate_left; subst x | subst x
    | lift_lets -underBinder +implicits
    | with_reducible apply State.dapReply_kept
    | with_reducible apply State.fabWrite_kept
    | with_reducible apply State.redCard_kept
    | with_reducible refine .ite (fun _ => ?_) (fun _ => ?_)
    | split
    | with_reducible refine State.Kept.mk_iff.2 ?_

theorem State.setHalted_kept {s₀ s : State} (h₀ : State.Kept s₀ s) (h : List Nat) : State.Kept s₀ (State.setHalted s h) := by
  unfold State.setHalted
  repeat' first
    | with_reducible assumption
    | intro x; first | (refine (fun (hx : State.Kept s₀ x) => ?_) ?_); clear_value x; rotate_left; subst x | subst x
    | lift_lets -underBinder +implicits
    | with_reducible refine .ite (fun _ => ?_) (fun _ => ?_)
    | split
    | with_reducible refine State.Kept.mk_iff.2 ?_

theorem State.dapHalt_kept {s₀ s : State} (h₀ : State.Kept s₀ s) (l : Nat) (checks : Bool) : State.Kept s₀ (State.dapHalt s l checks) := by
  unfold State.dapHalt
  repeat' first
    | with_reducible assumption
    | with_reducible apply State.dapReply_kept
    | with_reducible apply State.setHalted_kept
    | with_reducible refine .ite (fun _ => ?_) (fun _ => ?_)
    | split

theorem State.dapStep_kept {s₀ s : State} (h₀ : State.Kept s₀ s) (l : Nat) : State.Kept s₀ (State.dapStep s l) := by
  unfold State.dapStep
  repeat' first
    | with_reducible assumption
    | with_reducible apply State.dapReply_kept
    | with_reducible refine .ite (fun _ => ?_) (fun _ => ?_)
    | split

theorem State.dapResume_kept {s₀ s : State} (h₀ : State.Kept s₀ s) (l : Nat) : State.Kept s₀ (State.dapResume s l) := by
  unfold State.dapResume
  repeat' first
    | with_reducible assumption
    | with_reducible apply State.dapReply_kept
    | with_reducible apply State.setHalted_kept
    | with_reducible refine .ite (fun _ => ?_) (fun _ => ?_)
    | split

theorem State.chalExpiry_kept {s₀ s : State} (h₀ : State.Kept s₀ s)  : State.Kept s₀ (State.chalExpiry s) := by
  unfold State.chalExpiry
  repeat' first
    | with_reducible assumption
    | intro x; first | (refine (fun (hx : State.Kept s₀ x) => ?_) ?_); clear_value x; rotate_left; subst x | subst x
    | lift_lets -underBinder +implicits
    | with_reducible refine .ite (fun _ => ?_) (fun _ => ?_)
    | split
    | with_reducible refine State.Kept.mk_iff.2 ?_

theorem State.lockoutEnd_kept {s₀ s : State} (h₀ : State.Kept s₀ s)  : State.Kept s₀ (State.lockoutEnd s) := by
  unfold State.lockoutEnd
  repeat' first
    | with_reducible assumption
    | intro x; first | (refine (fun (hx : State.Kept s₀ x) => ?_) ?_); clear_value x; rotate_left; subst x | subst x
    | lift_lets -underBinder +implicits
    | with_reducible apply State.setMst_kept
    | with_reducible refine .ite (fun _ => ?_) (fun _ => ?_)
    | split
    | with_reducible refine State.Kept.mk_iff.2 ?_

/-- A debug request checked: the one operation that may raise the level. -/
theorem State.submitCheck_base (s : State) : State.Base s s.submitCheck := by
  have h1 : State.Base s (s.dapDecide (leAt s.dap.resp 5 1)) := by
    unfold State.dapDecide
    split
    · exact (State.dapSettled_kept .rfl' _).base
    split
    · exact (State.dapSettled_kept (State.record_kept .rfl' ..) _).base
    split
    · exact (State.setDebug_base State.Kept.rfl'.base _).trans (State.dapSettled_kept .rfl' _).base
    · exact (State.dapAuthFail_kept .rfl').base
  exact h1.trans ⟨rfl, rfl, Nat.le_refl _, id, id⟩


/-- A debug request keeps all but the debug level. -/
theorem State.dapSubmit_base (s : State) : State.Base s s.dapSubmit := by
  unfold State.dapSubmit State.dapFree
  split
  · exact (State.dapReply_kept .rfl' ..).base
  · exact s.submitCheck_base

end Sys2Proof.Machine
end

