-- ==== Sys2Proof/Laws/KeptAccess.lean ====
section
/-! SUPPORT. The operations of Machine/Access.lean keep what Laws/Kept.lean says. -/

-- One declaration after another: the package is compiled as one text, and its memory stays within bounds.
set_option Elab.async false

namespace Sys2Proof.Machine

theorem State.byMaster_kept {s₀ s : State} (h₀ : State.Kept s₀ s) (m a : Nat) (op : State → State) (h_op : ∀ (x0 : State), State.Kept s₀ x0 → State.Kept s₀ (op x0)) : State.Kept s₀ (State.byMaster s m a op) := by
  unfold State.byMaster
  repeat' first
    | with_reducible assumption
    | intro x; first | (refine (fun (hx : State.Kept s₀ x) => ?_) ?_); clear_value x; rotate_left; subst x | (refine (fun (hx : State.Kept s₀ x.1) => ?_) ?_); clear_value x; rotate_left; subst x | subst x
    | lift_lets -underBinder +implicits
    | with_reducible apply h_op
    | with_reducible apply State.redCard_kept
    | with_reducible refine .ite (fun _ => ?_) (fun _ => ?_)
    | with_reducible refine .ofFst (by assumption) ?_
    | split

theorem State.cmdReg_kept {s₀ s : State} (h₀ : State.Kept s₀ s) (m a : Nat) (op : State → State) (h_op : ∀ (x0 : State), State.Kept s₀ x0 → State.Kept s₀ (op x0)) : State.Kept s₀ (State.cmdReg s m a op) := by
  unfold State.cmdReg
  repeat' first
    | with_reducible assumption
    | intro x; first | (refine (fun (hx : State.Kept s₀ x) => ?_) ?_); clear_value x; rotate_left; subst x | (refine (fun (hx : State.Kept s₀ x.1) => ?_) ?_); clear_value x; rotate_left; subst x | subst x
    | lift_lets -underBinder +implicits
    | with_reducible apply h_op
    | with_reducible apply State.byMaster_kept
    | with_reducible apply State.hostTouch_kept
    | with_reducible apply State.ignored_kept
    | with_reducible refine .ite (fun _ => ?_) (fun _ => ?_)
    | with_reducible refine .ofFst (by assumption) ?_
    | intro _
    | split

theorem State.causeClearBy_kept {s₀ s : State} (h₀ : State.Kept s₀ s) (m p : Nat) (v : Word) : State.Kept s₀ (State.causeClearBy s m p v) := by
  unfold State.causeClearBy
  repeat' first
    | with_reducible assumption
    | with_reducible apply State.byMaster_kept
    | with_reducible apply State.causeClear_kept
    | with_reducible apply State.hostTouch_kept
    | with_reducible apply State.ignored_kept
    | with_reducible refine .ite (fun _ => ?_) (fun _ => ?_)
    | intro _
    | split

theorem State.softResetCmd_kept {s₀ s : State} (h₀ : State.Kept s₀ s) (p : Nat) : State.Kept s₀ (State.softResetCmd s p) := by
  unfold State.softResetCmd
  repeat' first
    | with_reducible assumption
    | with_reducible apply State.blkCtlWrite_kept
    | with_reducible refine .ite (fun _ => ?_) (fun _ => ?_)
    | split

theorem State.bankCtlCmd_kept {s₀ s : State} (h₀ : State.Kept s₀ s) (p b : Nat) : State.Kept s₀ (State.bankCtlCmd s p b) := by
  unfold State.bankCtlCmd
  repeat' first
    | with_reducible assumption
    | with_reducible apply State.bankCtlWrite_kept
    | with_reducible refine .ite (fun _ => ?_) (fun _ => ?_)
    | split

theorem State.msgBytes_kept {s₀ s : State} (h₀ : State.Kept s₀ s) (x : Nat) (bytes : List Byte) : State.Kept s₀ (State.msgBytes s x bytes) := by
  unfold State.msgBytes
  repeat' first
    | with_reducible assumption
    | with_reducible apply State.ignored_kept
    | with_reducible apply State.msgWrite_kept
    | with_reducible refine .ite (fun _ => ?_) (fun _ => ?_)
    | with_reducible refine .foldl (fun _ _ _ => ?_) ?_
    | split

theorem State.slotGuard_kept {s₀ s : State} (h₀ : State.Kept s₀ s) (m a : Nat) (bytes : List Byte) (op : State → State) (h_op : ∀ (x0 : State), State.Kept s₀ x0 → State.Kept s₀ (op x0)) : State.Kept s₀ (State.slotGuard s m a bytes op) := by
  unfold State.slotGuard
  repeat' first
    | with_reducible assumption
    | with_reducible apply h_op
    | with_reducible apply State.redCard_kept
    | with_reducible refine .ite (fun _ => ?_) (fun _ => ?_)
    | with_reducible refine .ofFst (by assumption) ?_
    | split

theorem State.regWriteBy_kept {s₀ s : State} (h₀ : State.Kept s₀ s) (m via : Nat) (msg : Bool) (a : Nat) (bytes : List Byte) : State.Kept s₀ (State.regWriteBy s m via msg a bytes) := by
  unfold State.regWriteBy
  repeat' first
    | with_reducible assumption
    | with_reducible apply State.byMaster_kept
    | with_reducible apply State.hostTouch_kept
    | with_reducible apply State.ignored_kept
    | with_reducible apply State.msgBytes_kept
    | with_reducible apply State.regWrite_kept
    | with_reducible apply State.slotGuard_kept
    | with_reducible refine .ite (fun _ => ?_) (fun _ => ?_)
    | intro _
    | split

theorem State.hostMsg_kept {s₀ s : State} (h₀ : State.Kept s₀ s) (op : State → State) (h_op : ∀ (x0 : State), State.Kept s₀ x0 → State.Kept s₀ (op x0)) : State.Kept s₀ (State.hostMsg s op) := by
  unfold State.hostMsg
  repeat' first
    | with_reducible assumption
    | with_reducible apply h_op
    | with_reducible apply State.hostTouch_kept
    | with_reducible refine .ite (fun _ => ?_) (fun _ => ?_)
    | with_reducible refine .ofFst (by assumption) ?_
    | split

theorem State.slotUse_kept {s₀ s : State} (h₀ : State.Kept s₀ s) (m acc n : Nat) (op : State → State) (h_op : ∀ (x0 : State), State.Kept s₀ x0 → State.Kept s₀ (op x0)) : State.Kept s₀ (State.slotUse s m acc n op) := by
  unfold State.slotUse
  repeat' first
    | with_reducible assumption
    | with_reducible apply h_op
    | with_reducible apply State.redCard_kept
    | with_reducible refine .ite (fun _ => ?_) (fun _ => ?_)
    | with_reducible refine .ofFst (by assumption) ?_
    | split

theorem State.slotDeriveBy_kept {s₀ s : State} (h₀ : State.Kept s₀ s) (m n src srcSlot : Nat) : State.Kept s₀ (State.slotDeriveBy s m n src srcSlot) := by
  unfold State.slotDeriveBy
  repeat' first
    | with_reducible assumption
    | with_reducible apply State.slotDerive_kept
    | with_reducible apply State.slotUse_kept
    | with_reducible refine .ite (fun _ => ?_) (fun _ => ?_)
    | intro _
    | split

theorem State.slotEraseBy_kept {s₀ s : State} (h₀ : State.Kept s₀ s) (m n : Nat) : State.Kept s₀ (State.slotEraseBy s m n) := by
  unfold State.slotEraseBy
  repeat' first
    | with_reducible assumption
    | with_reducible apply State.slotErase_kept
    | with_reducible apply State.slotUse_kept
    | with_reducible refine .ite (fun _ => ?_) (fun _ => ?_)
    | intro _
    | split

theorem State.aesOperation_kept {s₀ s : State} (h₀ : State.Kept s₀ s) (core n : Nat) (job : AesJob) (who : AccReq) (fin : Bool) (chunks : Nat) : State.Kept s₀ (State.aesOperation s core n job who fin chunks) := by
  unfold State.aesOperation
  repeat' first
    | with_reducible assumption
    | with_reducible apply State.aesFinish_kept
    | with_reducible apply State.aesStart_kept
    | with_reducible apply State.slotUse_kept
    | with_reducible refine .ite (fun _ => ?_) (fun _ => ?_)
    | intro _
    | split

theorem State.bulkRead_kept {s₀ s : State} (h₀ : State.Kept s₀ s) (a n : Nat) : State.Kept s₀ (State.bulkRead s a n) := by
  unfold State.bulkRead
  repeat' first
    | with_reducible assumption
    | intro x; first | (refine (fun (hx : State.Kept s₀ x) => ?_) ?_); clear_value x; rotate_left; subst x | (refine (fun (hx : State.Kept s₀ x.s) => ?_) ?_); clear_value x; rotate_left; subst x | subst x
    | lift_lets -underBinder +implicits
    | with_reducible apply State.bulkSend_kept
    | with_reducible apply State.burst_kept
    | with_reducible apply State.hostTouch_kept
    | with_reducible refine .ite (fun _ => ?_) (fun _ => ?_)
    | split

theorem State.bulkWrite_kept {s₀ s : State} (h₀ : State.Kept s₀ s) (a : Nat) (data : List Byte) : State.Kept s₀ (State.bulkWrite s a data) := by
  unfold State.bulkWrite
  repeat' first
    | with_reducible assumption
    | with_reducible apply State.burst_kept
    | with_reducible apply State.hostTouch_kept
    | with_reducible refine .ite (fun _ => ?_) (fun _ => ?_)
    | split

theorem State.maintRead_kept {s₀ s : State} (h₀ : State.Kept s₀ s) (n page ofs : Nat) : State.Kept s₀ (State.maintRead s n page ofs) := by
  unfold State.maintRead
  repeat' first
    | with_reducible assumption
    | intro x; first | (refine (fun (hx : State.Kept s₀ x) => ?_) ?_); clear_value x; rotate_left; subst x | subst x
    | lift_lets -underBinder +implicits
    | with_reducible apply State.hostTouch_kept
    | with_reducible apply State.returned_kept
    | with_reducible refine .ite (fun _ => ?_) (fun _ => ?_)
    | split

theorem State.maintWrite_kept {s₀ s : State} (h₀ : State.Kept s₀ s) (n page ofs : Nat) (v : Word) : State.Kept s₀ (State.maintWrite s n page ofs v) := by
  unfold State.maintWrite
  repeat' first
    | with_reducible assumption
    | with_reducible apply State.burst_kept
    | with_reducible apply State.hostTouch_kept
    | with_reducible refine .ite (fun _ => ?_) (fun _ => ?_)
    | split

theorem State.nopSub_kept {s₀ s : State} (h₀ : State.Kept s₀ s) (r : Nat) (e : List Byte) : State.Kept s₀ (State.nopSub s r e) := by
  unfold State.nopSub
  repeat' first
    | with_reducible assumption
    | with_reducible apply State.finishTag_kept
    | with_reducible apply State.submit_kept
    | with_reducible refine .ite (fun _ => ?_) (fun _ => ?_)
    | intro _
    | split

theorem State.mgmtBody_kept {s₀ s : State} (h₀ : State.Kept s₀ s) (mt : Nat) (op : State → Delivered → State) (h_op : ∀ (x0 : State) (x1 : Delivered), State.Kept s₀ x0 → State.Kept s₀ (op x0 x1)) : State.Kept s₀ (State.mgmtBody s mt op) := by
  unfold State.mgmtBody
  repeat' first
    | with_reducible assumption
    | intro x; first | (refine (fun (hx : State.Kept s₀ x) => ?_) ?_); clear_value x; rotate_left; subst x | (refine (fun (hx : State.Kept s₀ x.1) => ?_) ?_); clear_value x; rotate_left; subst x | subst x
    | lift_lets -underBinder +implicits
    | with_reducible apply h_op
    | with_reducible refine State.takeInbox_kept ?_ _ _ (by assumption)
    | with_reducible refine .ite (fun _ => ?_) (fun _ => ?_)
    | with_reducible refine .ofFst (by assumption) ?_
    | split

theorem State.carryBody_kept {s₀ s : State} (h₀ : State.Kept s₀ s)  : State.Kept s₀ (State.carryBody s) := by
  unfold State.carryBody
  repeat' first
    | with_reducible assumption
    | intro x; first | (refine (fun (hx : State.Kept s₀ x) => ?_) ?_); clear_value x; rotate_left; subst x | subst x
    | lift_lets -underBinder +implicits
    | with_reducible refine State.takeInbox_kept ?_ _ _ (by assumption)
    | with_reducible apply State.coopCarry_kept
    | with_reducible refine .ite (fun _ => ?_) (fun _ => ?_)
    | split

theorem State.stepOwner_kept {s₀ s : State} (h₀ : State.Kept s₀ s) (i : Nat) (f : Fixture) : State.Kept s₀ (State.stepOwner s i f) := by
  unfold State.stepOwner
  repeat' first
    | with_reducible assumption
    | intro x; first | (refine (fun (hx : State.Kept s₀ x) => ?_) ?_); clear_value x; rotate_left; subst x | subst x
    | lift_lets -underBinder +implicits
    | with_reducible apply State.cause_kept
    | with_reducible apply State.groupFail_kept
    | with_reducible apply State.outResolve_kept
    | with_reducible refine .ite (fun _ => ?_) (fun _ => ?_)
    | split
    | with_reducible refine State.Kept.mk_iff.2 ?_

theorem State.crossing_kept {s₀ s : State} (h₀ : State.Kept s₀ s) (stayed falling : Bool) (freq : Nat) (rocof zcDelay diff : Int) (lags : List (Fin 12 × Word)) : State.Kept s₀ (State.crossing s stayed falling freq rocof zcDelay diff lags) := by
  unfold State.crossing
  repeat' first
    | with_reducible assumption
    | intro x; first | (refine (fun (hx : State.Kept s₀ x) => ?_) ?_); clear_value x; rotate_left; subst x | subst x
    | lift_lets -underBinder +implicits
    | with_reducible apply State.gridCycle_kept
    | with_reducible apply State.planStart_kept
    | with_reducible apply State.stepOwner_kept
    | with_reducible apply State.zcEdge_kept
    | with_reducible refine .ite (fun _ => ?_) (fun _ => ?_)
    | with_reducible refine .foldl (fun _ _ _ => ?_) ?_
    | split

theorem State.mapResendTo_kept {s₀ s : State} (h₀ : State.Kept s₀ s) (peer p : Nat) (bb : Bool) (c : Nat) : State.Kept s₀ (State.mapResendTo s peer p bb c) := by
  unfold State.mapResendTo
  repeat' first
    | with_reducible assumption
    | intro x; first | (refine (fun (hx : State.Kept s₀ x) => ?_) ?_); clear_value x; rotate_left; subst x | (refine (fun (hx : State.Kept s₀ x.1) => ?_) ?_); clear_value x; rotate_left; subst x | subst x
    | lift_lets -underBinder +implicits
    | split
    | with_reducible apply State.mapResend_kept
    | with_reducible apply State.sendMap_kept
    | with_reducible refine .ite (fun _ => ?_) (fun _ => ?_)
    | with_reducible refine .foldl (fun _ _ _ => ?_) ?_
    | with_reducible refine .foldlFst (fun _ _ _ => ?_) ?_
    | with_reducible refine .ofFst (by assumption) ?_
    | split

theorem State.nbrReportDue_kept {s₀ s : State} (h₀ : State.Kept s₀ s) (p : Nat) (lqs : List (Nat × Nat × Nat)) : State.Kept s₀ (State.nbrReportDue s p lqs) := by
  unfold State.nbrReportDue
  repeat' first
    | with_reducible assumption
    | with_reducible apply State.nbrReportSend_kept
    | with_reducible refine .ite (fun _ => ?_) (fun _ => ?_)
    | split

theorem State.txEndWith_kept {s₀ s : State} (h₀ : State.Kept s₀ s) (p c : Nat) (bb : Bool) (a b d : LineEnd) (conv : Bool) : State.Kept s₀ (State.txEndWith s p c bb a b d conv) := by
  unfold State.txEndWith
  repeat' first
    | with_reducible assumption
    | intro x; first | (refine (fun (hx : State.Kept s₀ x) => ?_) ?_); clear_value x; rotate_left; subst x | subst x
    | lift_lets -underBinder +implicits
    | with_reducible apply State.convFault_kept
    | with_reducible apply State.transmissionEnd_kept
    | with_reducible refine .ite (fun _ => ?_) (fun _ => ?_)
    | split

theorem State.cellsLasting_kept {s₀ s : State} (h₀ : State.Kept s₀ s) (z : ScrubFound) : State.Kept s₀ (State.cellsLasting s z) := by
  unfold State.cellsLasting
  repeat' first
    | with_reducible assumption
    | with_reducible apply State.dramRetire_kept
    | with_reducible apply State.memRepair_kept
    | with_reducible refine .ite (fun _ => ?_) (fun _ => ?_)
    | with_reducible refine .foldl (fun _ _ _ => ?_) ?_
    | split

theorem State.lineRead_kept {s₀ s : State} (h₀ : State.Kept s₀ s) (q corr : Nat) (bad : List Nat) (loc : ScrubFound) : State.Kept s₀ (State.lineRead s q corr bad loc) := by
  unfold State.lineRead
  repeat' first
    | with_reducible assumption
    | intro x; first | (refine (fun (hx : State.Kept s₀ x) => ?_) ?_); clear_value x; rotate_left; subst x | (refine (fun (hx : State.Kept s₀ x.1) => ?_) ?_); clear_value x; rotate_left; subst x | subst x
    | lift_lets -underBinder +implicits
    | split
    | with_reducible apply State.cellsLasting_kept
    | with_reducible apply State.readLine_kept
    | with_reducible refine .ite (fun _ => ?_) (fun _ => ?_)
    | with_reducible refine .ofFst (by assumption) ?_
    | split

theorem State.hkcScanDone_kept {s₀ s : State} (h₀ : State.Kept s₀ s) (rs : List (Nat × Int)) : State.Kept s₀ (State.hkcScanDone s rs) := by
  unfold State.hkcScanDone
  repeat' first
    | with_reducible assumption
    | intro x; first | (refine (fun (hx : State.Kept s₀ x) => ?_) ?_); clear_value x; rotate_left; subst x | (refine (fun (hx : State.Kept s₀ x.1) => ?_) ?_); clear_value x; rotate_left; subst x | subst x
    | lift_lets -underBinder +implicits
    | split
    | with_reducible apply State.forceSafe_kept
    | with_reducible apply State.hkcScan_kept
    | with_reducible refine .ite (fun _ => ?_) (fun _ => ?_)
    | with_reducible refine .ofFst (by assumption) ?_
    | split

theorem State.ispChange_kept {s₀ s : State} (h₀ : State.Kept s₀ s) (p : Nat) : State.Kept s₀ (State.ispChange s p) := by
  unfold State.ispChange
  repeat' first
    | with_reducible assumption
    | with_reducible apply State.cause_kept
    | with_reducible apply State.pageRecord_kept
    | with_reducible refine .ite (fun _ => ?_) (fun _ => ?_)
    | split

theorem State.setIsp_kept {s₀ s : State} (h₀ : State.Kept s₀ s) (p : Nat) (x : IspSt) : State.Kept s₀ (State.setIsp s p x) := by
  unfold State.setIsp
  repeat' first
    | with_reducible assumption
    | intro x; first | (refine (fun (hx : State.Kept s₀ x) => ?_) ?_); clear_value x; rotate_left; subst x | subst x
    | lift_lets -underBinder +implicits
    | with_reducible refine .ite (fun _ => ?_) (fun _ => ?_)
    | split
    | with_reducible refine State.Kept.mk_iff.2 ?_

theorem State.ispDetect_kept {s₀ s : State} (h₀ : State.Kept s₀ s) (p : Nat) (windows : List (List Nat)) (alloc : Option IspAlloc) : State.Kept s₀ (State.ispDetect s p windows alloc) := by
  unfold State.ispDetect
  repeat' first
    | with_reducible assumption
    | intro x; first | (refine (fun (hx : State.Kept s₀ x) => ?_) ?_); clear_value x; rotate_left; subst x | subst x
    | lift_lets -underBinder +implicits
    | with_reducible apply State.ispChange_kept
    | with_reducible apply State.setIsp_kept
    | with_reducible apply State.wb_kept
    | with_reducible refine .ite (fun _ => ?_) (fun _ => ?_)
    | split
    | with_reducible refine State.Kept.mk_iff.2 ?_

theorem State.ispClear_kept {s₀ s : State} (h₀ : State.Kept s₀ s) (p : Nat) : State.Kept s₀ (State.ispClear s p) := by
  unfold State.ispClear
  repeat' first
    | with_reducible assumption
    | intro x; first | (refine (fun (hx : State.Kept s₀ x) => ?_) ?_); clear_value x; rotate_left; subst x | subst x
    | lift_lets -underBinder +implicits
    | with_reducible apply State.ispChange_kept
    | with_reducible apply State.setIsp_kept
    | with_reducible apply State.wb_kept
    | with_reducible refine .ite (fun _ => ?_) (fun _ => ?_)
    | split

end Sys2Proof.Machine
end

