-- ==== Sys2Proof/Laws/KeptCommands.lean ====
section
/-! SUPPORT. Every command answers a next state, and beside moving the instant on it keeps what Laws/Kept.lean says. -/

-- One declaration after another: the package is compiled as one text, and its memory stays within bounds.
set_option Elab.async false

namespace Sys2Proof.Machine

theorem execRegisterWrite_kept (t : Nat) (m : Nat) (via : Fin 2) (msg : Bool) (a : Nat) (data : List Byte) (s : State) : ∃ s₁, execRegisterWrite t m via msg a data s = .next s₁ ∧ State.Kept (s.advance t) s₁ := by
  refine ⟨_, rfl, ?_⟩
  exact State.regWriteBy_kept .rfl' ..

theorem execIntSet_kept (t : Nat) (m page : Nat) (v : Word) (s : State) : ∃ s₁, execIntSet t m page v s = .next s₁ ∧ State.Kept (s.advance t) s₁ := by
  refine ⟨_, rfl, ?_⟩
  exact State.cmdReg_kept .rfl' m _ _ (fun x (h : State.Kept (s.advance t) x) => (State.intSet_kept h page v))

theorem execIntCauseClear_kept (t : Nat) (m page : Nat) (v : Word) (s : State) : ∃ s₁, execIntCauseClear t m page v s = .next s₁ ∧ State.Kept (s.advance t) s₁ := by
  refine ⟨_, rfl, ?_⟩
  exact State.causeClearBy_kept .rfl' ..

theorem execSoftReset_kept (t : Nat) (m page : Nat) (s : State) : ∃ s₁, execSoftReset t m page s = .next s₁ ∧ State.Kept (s.advance t) s₁ := by
  refine ⟨_, rfl, ?_⟩
  exact State.cmdReg_kept .rfl' m _ _ (fun x (h : State.Kept (s.advance t) x) => (State.softResetCmd_kept h page))

theorem execSoftResetDone_kept (t : Nat) (page : Nat) (s : State) : ∃ s₁, execSoftResetDone t page s = .next s₁ ∧ State.Kept (s.advance t) s₁ := by
  refine ⟨_, rfl, ?_⟩
  repeat' first
    | with_reducible exact .rfl'
    | with_reducible assumption
    | with_reducible apply State.softResetDone_kept
    | with_reducible refine .ite (fun _ => ?_) (fun _ => ?_)

theorem execLockWrite_kept (t : Nat) (m page : Nat) (v : Word) (s : State) : ∃ s₁, execLockWrite t m page v s = .next s₁ ∧ State.Kept (s.advance t) s₁ := by
  refine ⟨_, rfl, ?_⟩
  exact State.cmdReg_kept .rfl' m _ _ (fun x (h : State.Kept (s.advance t) x) => (State.lockWrite_kept h page v))

theorem execBankCopy_kept (t : Nat) (m page : Nat) (s : State) : ∃ s₁, execBankCopy t m page s = .next s₁ ∧ State.Kept (s.advance t) s₁ := by
  refine ⟨_, rfl, ?_⟩
  exact State.cmdReg_kept .rfl' m _ _ (fun x (h : State.Kept (s.advance t) x) => (State.bankCtlCmd_kept h page 14))

theorem execBankCopyDone_kept (t : Nat) (page : Nat) (s : State) : ∃ s₁, execBankCopyDone t page s = .next s₁ ∧ State.Kept (s.advance t) s₁ := by
  refine ⟨_, rfl, ?_⟩
  exact State.bankCopyDone_kept .rfl' ..

theorem execSoloSwapRequest_kept (t : Nat) (m page : Nat) (s : State) : ∃ s₁, execSoloSwapRequest t m page s = .next s₁ ∧ State.Kept (s.advance t) s₁ := by
  refine ⟨_, rfl, ?_⟩
  exact State.cmdReg_kept .rfl' m _ _ (fun x (h : State.Kept (s.advance t) x) => (State.bankCtlCmd_kept h page 12))

theorem execSoloSwapCancel_kept (t : Nat) (m page : Nat) (s : State) : ∃ s₁, execSoloSwapCancel t m page s = .next s₁ ∧ State.Kept (s.advance t) s₁ := by
  refine ⟨_, rfl, ?_⟩
  exact State.cmdReg_kept .rfl' m _ _ (fun x (h : State.Kept (s.advance t) x) => (State.bankCtlCmd_kept h page 13))

theorem execSoloSwap_kept (t : Nat) (page : Nat) (s : State) : ∃ s₁, execSoloSwap t page s = .next s₁ ∧ State.Kept (s.advance t) s₁ := by
  refine ⟨_, rfl, ?_⟩
  repeat' first
    | with_reducible exact .rfl'
    | with_reducible assumption
    | with_reducible apply State.refilter_kept
    | with_reducible apply State.soloSwapAny_kept

theorem execGroupSwapRequest_kept (t : Nat) (m : Nat) (g : Fin 16) (s : State) : ∃ s₁, execGroupSwapRequest t m g s = .next s₁ ∧ State.Kept (s.advance t) s₁ := by
  refine ⟨_, rfl, ?_⟩
  exact State.cmdReg_kept .rfl' m _ _ (fun x (h : State.Kept (s.advance t) x) => (State.groupReq_kept h g))

theorem execGroupSwapCancel_kept (t : Nat) (m : Nat) (g : Fin 16) (s : State) : ∃ s₁, execGroupSwapCancel t m g s = .next s₁ ∧ State.Kept (s.advance t) s₁ := by
  refine ⟨_, rfl, ?_⟩
  exact State.cmdReg_kept .rfl' m _ _ (fun x (h : State.Kept (s.advance t) x) => (State.groupCancel_kept h g))

theorem execGroupSwap_kept (t : Nat) (g : Fin 16) (s : State) : ∃ s₁, execGroupSwap t g s = .next s₁ ∧ State.Kept (s.advance t) s₁ := by
  refine ⟨_, rfl, ?_⟩
  repeat' first
    | with_reducible exact .rfl'
    | with_reducible assumption
    | with_reducible apply State.groupSwap_kept
    | with_reducible apply State.refilter_kept

theorem execD2dCrcFail_kept (t : Nat) (n : Fin 5) (again : Bool) (s : State) : ∃ s₁, execD2dCrcFail t n again s = .next s₁ ∧ State.Kept (s.advance t) s₁ := by
  refine ⟨_, rfl, ?_⟩
  exact State.d2dFail_kept .rfl' ..

theorem execFaultWindowClose_kept (t : Nat) (page : Nat) (s : State) : ∃ s₁, execFaultWindowClose t page s = .next s₁ ∧ State.Kept (s.advance t) s₁ := by
  refine ⟨_, rfl, ?_⟩
  exact State.windowClose_kept .rfl' ..

theorem execZeroCrossingEdge_kept (t : Nat) (stayed falling : Bool) (freq : Nat) (rocof zcDelay diff : Int) (lags : List (Fin 12 × Word)) (s : State) : ∃ s₁, execZeroCrossingEdge t stayed falling freq rocof zcDelay diff lags s = .next s₁ ∧ State.Kept (s.advance t) s₁ := by
  refine ⟨_, rfl, ?_⟩
  exact State.crossing_kept .rfl' ..

theorem execSlewComplete_kept (t : Nat) (s : State) : ∃ s₁, execSlewComplete t  s = .next s₁ ∧ State.Kept (s.advance t) s₁ := by
  refine ⟨_, rfl, ?_⟩
  exact State.slewComplete_kept .rfl' ..

theorem execHoldoverTimeout_kept (t : Nat) (s : State) : ∃ s₁, execHoldoverTimeout t  s = .next s₁ ∧ State.Kept (s.advance t) s₁ := by
  refine ⟨_, rfl, ?_⟩
  exact State.holdoverTimeout_kept .rfl' ..

theorem execHoldTxReached_kept (t : Nat) (s : State) : ∃ s₁, execHoldTxReached t  s = .next s₁ ∧ State.Kept (s.advance t) s₁ := by
  refine ⟨_, rfl, ?_⟩
  exact State.holdTxReached_kept .rfl' ..

theorem execHoldLong_kept (t : Nat) (s : State) : ∃ s₁, execHoldLong t  s = .next s₁ ∧ State.Kept (s.advance t) s₁ := by
  refine ⟨_, rfl, ?_⟩
  exact State.holdLong_kept .rfl' ..

theorem execTrkHold_kept (t : Nat) (m : Nat) (s : State) : ∃ s₁, execTrkHold t m s = .next s₁ ∧ State.Kept (s.advance t) s₁ := by
  refine ⟨_, rfl, ?_⟩
  exact State.cmdReg_kept .rfl' m _ _ (fun x (h : State.Kept (s.advance t) x) => (State.trkHold_kept h))

theorem execTrackerRestart_kept (t : Nat) (m : Nat) (s : State) : ∃ s₁, execTrackerRestart t m s = .next s₁ ∧ State.Kept (s.advance t) s₁ := by
  refine ⟨_, rfl, ?_⟩
  exact State.cmdReg_kept .rfl' m _ _ (fun x (h : State.Kept (s.advance t) x) => (State.trkRestart_kept h))

theorem execTrackerEnable_kept (t : Nat) (m : Nat) (en : Bool) (s : State) : ∃ s₁, execTrackerEnable t m en s = .next s₁ ∧ State.Kept (s.advance t) s₁ := by
  refine ⟨_, rfl, ?_⟩
  exact State.cmdReg_kept .rfl' m _ _ (fun x (h : State.Kept (s.advance t) x) => (State.trkEnable_kept h en))

theorem execSnap_kept (t : Nat) (m : Nat) (s : State) : ∃ s₁, execSnap t m s = .next s₁ ∧ State.Kept (s.advance t) s₁ := by
  refine ⟨_, rfl, ?_⟩
  exact State.cmdReg_kept .rfl' m _ _ (fun x (h : State.Kept (s.advance t) x) => (State.snap_kept h))

theorem execCycApply_kept (t : Nat) (m : Nat) (s : State) : ∃ s₁, execCycApply t m s = .next s₁ ∧ State.Kept (s.advance t) s₁ := by
  refine ⟨_, rfl, ?_⟩
  exact State.cmdReg_kept .rfl' m _ _ (fun x (h : State.Kept (s.advance t) x) => (State.cycApply_kept h))

theorem execUtcArm_kept (t : Nat) (m : Nat) (s : State) : ∃ s₁, execUtcArm t m s = .next s₁ ∧ State.Kept (s.advance t) s₁ := by
  refine ⟨_, rfl, ?_⟩
  exact State.cmdReg_kept .rfl' m _ _ (fun x (h : State.Kept (s.advance t) x) => (State.utcArm_kept h))

theorem execPpsEdge_kept (t : Nat) (falling : Bool) (held : Nat) (s : State) : ∃ s₁, execPpsEdge t falling held s = .next s₁ ∧ State.Kept (s.advance t) s₁ := by
  refine ⟨_, rfl, ?_⟩
  exact State.ppsEdge_kept .rfl' ..

theorem execPpsTimeout_kept (t : Nat) (s : State) : ∃ s₁, execPpsTimeout t  s = .next s₁ ∧ State.Kept (s.advance t) s₁ := by
  refine ⟨_, rfl, ?_⟩
  exact State.ppsTimeout_kept .rfl' ..

theorem execUtcHoldExpiry_kept (t : Nat) (s : State) : ∃ s₁, execUtcHoldExpiry t  s = .next s₁ ∧ State.Kept (s.advance t) s₁ := by
  refine ⟨_, rfl, ?_⟩
  exact State.utcHoldExpiry_kept .rfl' ..

theorem execMetOkChange_kept (t : Nat) (ok : Bool) (s : State) : ∃ s₁, execMetOkChange t ok s = .next s₁ ∧ State.Kept (s.advance t) s₁ := by
  refine ⟨_, rfl, ?_⟩
  exact State.metOkChange_kept .rfl' ..

theorem execEntCmdRead_kept (t : Nat) (m : Nat) (s : State) : ∃ s₁, execEntCmdRead t m s = .next s₁ ∧ State.Kept (s.advance t) s₁ := by
  refine ⟨_, rfl, ?_⟩
  repeat' first
    | with_reducible exact .rfl'
    | with_reducible assumption
    | with_reducible apply State.cmdReg_kept
    | with_reducible apply State.entRead_kept
    | intro _

theorem execEntCmdWrite_kept (t : Nat) (m : Nat) (s : State) : ∃ s₁, execEntCmdWrite t m s = .next s₁ ∧ State.Kept (s.advance t) s₁ := by
  refine ⟨_, rfl, ?_⟩
  exact State.cmdReg_kept .rfl' m _ _ (fun x (h : State.Kept (s.advance t) x) => (State.entWrite_kept h (x.hostRange m)))

theorem execEntCmdDisarm_kept (t : Nat) (m : Nat) (s : State) : ∃ s₁, execEntCmdDisarm t m s = .next s₁ ∧ State.Kept (s.advance t) s₁ := by
  refine ⟨_, rfl, ?_⟩
  exact State.cmdReg_kept .rfl' m _ _ (fun x (h : State.Kept (s.advance t) x) => (State.entDisarm_kept h (x.hostRange m)))

theorem execFixHeldWriteApply_kept (t : Nat) (s : State) : ∃ s₁, execFixHeldWriteApply t  s = .next s₁ ∧ State.Kept (s.advance t) s₁ := by
  refine ⟨_, rfl, ?_⟩
  exact State.applyHeld_kept .rfl' ..

theorem execFixtureCommit_kept (t : Nat) (i : Fin 8192) (s : State) : ∃ s₁, execFixtureCommit t i s = .next s₁ ∧ State.Kept (s.advance t) s₁ := by
  refine ⟨_, rfl, ?_⟩
  exact State.fixCommit_kept .rfl' ..

theorem execPrewarmWake_kept (t : Nat) (i : Fin 8192) (needs : List MapNeed) (s : State) : ∃ s₁, execPrewarmWake t i needs s = .next s₁ ∧ State.Kept (s.advance t) s₁ := by
  refine ⟨_, rfl, ?_⟩
  exact State.prewarmWake_kept .rfl' ..

theorem execTxStart_kept (t : Nat) (i : Fin 8192) (x : TxDesc) (s : State) : ∃ s₁, execTxStart t i x s = .next s₁ ∧ State.Kept (s.advance t) s₁ := by
  refine ⟨_, rfl, ?_⟩
  exact State.txStart_kept .rfl' ..

theorem execRxWindow_kept (t : Nat) (i : Fin 8192) (s : State) : ∃ s₁, execRxWindow t i s = .next s₁ ∧ State.Kept (s.advance t) s₁ := by
  refine ⟨_, rfl, ?_⟩
  exact State.rxWindow_kept .rfl' ..

theorem execRxWindowClose_kept (t : Nat) (p ch : Fin 4) (s : State) : ∃ s₁, execRxWindowClose t p ch s = .next s₁ ∧ State.Kept (s.advance t) s₁ := by
  refine ⟨_, rfl, ?_⟩
  exact State.rxWindowClose_kept .rfl' ..

theorem execAckTx_kept (t : Nat) (i : Fin 8192) (bandC : List (Nat × Nat)) (s : State) : ∃ s₁, execAckTx t i bandC s = .next s₁ ∧ State.Kept (s.advance t) s₁ := by
  refine ⟨_, rfl, ?_⟩
  exact State.ackTx_kept .rfl' ..

theorem execBankSwap_kept (t : Nat) (i : Fin 8192) (s : State) : ∃ s₁, execBankSwap t i s = .next s₁ ∧ State.Kept (s.advance t) s₁ := by
  refine ⟨_, rfl, ?_⟩
  repeat' first
    | with_reducible exact .rfl'
    | with_reducible assumption
    | with_reducible apply State.bankSwapFix_kept
    | with_reducible apply State.refilter_kept

theorem execEngineWake_kept (t : Nat) (i : Fin 8192) (s : State) : ∃ s₁, execEngineWake t i s = .next s₁ ∧ State.Kept (s.advance t) s₁ := by
  refine ⟨_, rfl, ?_⟩
  exact State.engineWakeFix_kept .rfl' ..

theorem execConvTrigger_kept (t : Nat) (i : Fin 8192) (s : State) : ∃ s₁, execConvTrigger t i s = .next s₁ ∧ State.Kept (s.advance t) s₁ := by
  refine ⟨_, rfl, ?_⟩
  exact State.convTriggerFix_kept .rfl' ..

theorem execCtlFire_kept (t : Nat) (i : Fin 8192) (s : State) : ∃ s₁, execCtlFire t i s = .next s₁ ∧ State.Kept (s.advance t) s₁ := by
  refine ⟨_, rfl, ?_⟩
  exact State.ctlFireFix_kept .rfl' ..

theorem execSfBoundary_kept (t : Nat) (i : Fin 8192) (s : State) : ∃ s₁, execSfBoundary t i s = .next s₁ ∧ State.Kept (s.advance t) s₁ := by
  refine ⟨_, rfl, ?_⟩
  exact State.sfBoundary_kept .rfl' ..

theorem execQuiet_kept (t : Nat) (i : Fin 8192) (s : State) : ∃ s₁, execQuiet t i s = .next s₁ ∧ State.Kept (s.advance t) s₁ := by
  refine ⟨_, rfl, ?_⟩
  exact State.quietFix_kept .rfl' ..

theorem execEngineEvent_kept (t : Nat) (i : Fin 8192) (s : State) : ∃ s₁, execEngineEvent t i s = .next s₁ ∧ State.Kept (s.advance t) s₁ := by
  refine ⟨_, rfl, ?_⟩
  exact State.engineEventFix_kept .rfl' ..

theorem execHostEvent_kept (t : Nat) (i : Fin 8192) (s : State) : ∃ s₁, execHostEvent t i s = .next s₁ ∧ State.Kept (s.advance t) s₁ := by
  refine ⟨_, rfl, ?_⟩
  exact State.hostEventFix_kept .rfl' ..

theorem execModeWake_kept (t : Nat) (i : Fin 8192) (s : State) : ∃ s₁, execModeWake t i s = .next s₁ ∧ State.Kept (s.advance t) s₁ := by
  refine ⟨_, rfl, ?_⟩
  exact State.modeWakeFix_kept .rfl' ..

theorem execAgcOverload_kept (t : Nat) (p ch : Fin 4) (s : State) : ∃ s₁, execAgcOverload t p ch s = .next s₁ ∧ State.Kept (s.advance t) s₁ := by
  refine ⟨_, rfl, ?_⟩
  exact State.agcOverload_kept .rfl' ..

theorem execAgcStepUp_kept (t : Nat) (p ch : Fin 4) (s : State) : ∃ s₁, execAgcStepUp t p ch s = .next s₁ ∧ State.Kept (s.advance t) s₁ := by
  refine ⟨_, rfl, ?_⟩
  exact State.agcStepUp_kept .rfl' ..

theorem execTransmissionEnd_kept (t : Nat) (p : Fin 4) (c : Fin 3) (bb : Bool) (a b d : LineEnd) (conv : Bool) (s : State) : ∃ s₁, execTransmissionEnd t p c bb a b d conv s = .next s₁ ∧ State.Kept (s.advance t) s₁ := by
  refine ⟨_, rfl, ?_⟩
  exact State.txEndWith_kept .rfl' ..

theorem execCurrentLimit_kept (t : Nat) (p : Fin 4) (c : Fin 3) (us : Nat) (s : State) : ∃ s₁, execCurrentLimit t p c us s = .next s₁ ∧ State.Kept (s.advance t) s₁ := by
  refine ⟨_, rfl, ?_⟩
  exact State.currentLimit_kept .rfl' ..

theorem execFoldback_kept (t : Nat) (p : Fin 4) (c : Fin 3) (s : State) : ∃ s₁, execFoldback t p c s = .next s₁ ∧ State.Kept (s.advance t) s₁ := by
  refine ⟨_, rfl, ?_⟩
  exact State.foldback_kept .rfl' ..

theorem execLimitExpiry_kept (t : Nat) (p : Fin 4) (c : Fin 3) (s : State) : ∃ s₁, execLimitExpiry t p c s = .next s₁ ∧ State.Kept (s.advance t) s₁ := by
  refine ⟨_, rfl, ?_⟩
  exact State.limitExpiry_kept .rfl' ..

theorem execProbeRequest_kept (t : Nat) (m : Nat) (p : Fin 4) (c : Fin 3) (s : State) : ∃ s₁, execProbeRequest t m p c s = .next s₁ ∧ State.Kept (s.advance t) s₁ := by
  refine ⟨_, rfl, ?_⟩
  exact State.cmdReg_kept .rfl' m _ _ (fun x (h : State.Kept (s.advance t) x) => (State.probeRequest_kept h p c))

theorem execProbeStart_kept (t : Nat) (p : Fin 4) (c : Fin 3) (s : State) : ∃ s₁, execProbeStart t p c s = .next s₁ ∧ State.Kept (s.advance t) s₁ := by
  refine ⟨_, rfl, ?_⟩
  exact State.probeStart_kept .rfl' ..

theorem execProbeDone_kept (t : Nat) (p : Fin 4) (c : Fin 3) (z : Nat) (s : State) : ∃ s₁, execProbeDone t p c z s = .next s₁ ∧ State.Kept (s.advance t) s₁ := by
  refine ⟨_, rfl, ?_⟩
  exact State.probeDone_kept .rfl' ..

theorem execProbeRetry_kept (t : Nat) (p : Fin 4) (c : Fin 3) (s : State) : ∃ s₁, execProbeRetry t p c s = .next s₁ ∧ State.Kept (s.advance t) s₁ := by
  refine ⟨_, rfl, ?_⟩
  exact State.probeRetry_kept .rfl' ..

theorem execPolarityChange_kept (t : Nat) (p : Fin 4) (c : Fin 3) (s : State) : ∃ s₁, execPolarityChange t p c s = .next s₁ ∧ State.Kept (s.advance t) s₁ := by
  refine ⟨_, rfl, ?_⟩
  exact State.polarityChange_kept .rfl' ..

theorem execLnSwapDetect_kept (t : Nat) (p : Fin 4) (c : Fin 3) (s : State) : ∃ s₁, execLnSwapDetect t p c s = .next s₁ ∧ State.Kept (s.advance t) s₁ := by
  refine ⟨_, rfl, ?_⟩
  exact State.lnSwap_kept .rfl' ..

theorem execSeqRevDetect_kept (t : Nat) (p : Fin 4) (s : State) : ∃ s₁, execSeqRevDetect t p s = .next s₁ ∧ State.Kept (s.advance t) s₁ := by
  refine ⟨_, rfl, ?_⟩
  exact State.seqRev_kept .rfl' ..

theorem execOpenNeutralDetect_kept (t : Nat) (p : Fin 4) (cycles : List (Nat × List Nat)) (s : State) : ∃ s₁, execOpenNeutralDetect t p cycles s = .next s₁ ∧ State.Kept (s.advance t) s₁ := by
  refine ⟨_, rfl, ?_⟩
  exact State.openNeutral_kept .rfl' ..

theorem execVdrvFault_kept (t : Nat) (p : Fin 4) (mv : Int) (s : State) : ∃ s₁, execVdrvFault t p mv s = .next s₁ ∧ State.Kept (s.advance t) s₁ := by
  refine ⟨_, rfl, ?_⟩
  exact State.vdrvFault_kept .rfl' ..

theorem execVdrvRecover_kept (t : Nat) (p : Fin 4) (mv : Int) (s : State) : ∃ s₁, execVdrvRecover t p mv s = .next s₁ ∧ State.Kept (s.advance t) s₁ := by
  refine ⟨_, rfl, ?_⟩
  exact State.vdrvRecover_kept .rfl' ..

theorem execNbFrameRx_kept (t : Nat) (p : Fin 4) (c : Fin 3) (x : RxFrame) (s : State) : ∃ s₁, execNbFrameRx t p c x s = .next s₁ ∧ State.Kept (s.advance t) s₁ := by
  refine ⟨_, rfl, ?_⟩
  exact State.nbFrameRx_kept .rfl' ..

theorem execBbFrameRx_kept (t : Nat) (p : Fin 4) (c : Fin 3) (x : RxFrame) (s : State) : ∃ s₁, execBbFrameRx t p c x s = .next s₁ ∧ State.Kept (s.advance t) s₁ := by
  refine ⟨_, rfl, ?_⟩
  exact State.bbFrameRx_kept .rfl' ..

theorem execBandcMaxTx_kept (t : Nat) (p : Fin 4) (c : Fin 3) (s : State) : ∃ s₁, execBandcMaxTx t p c s = .next s₁ ∧ State.Kept (s.advance t) s₁ := by
  refine ⟨_, rfl, ?_⟩
  exact State.bandcMax_kept .rfl' ..

theorem execIspDetect_kept (t : Nat) (p : Fin 4) (windows : List (List Nat)) (alloc : Option IspAlloc) (s : State) : ∃ s₁, execIspDetect t p windows alloc s = .next s₁ ∧ State.Kept (s.advance t) s₁ := by
  refine ⟨_, rfl, ?_⟩
  exact State.ispDetect_kept .rfl' ..

theorem execIspClear_kept (t : Nat) (p : Fin 4) (s : State) : ∃ s₁, execIspClear t p s = .next s₁ ∧ State.Kept (s.advance t) s₁ := by
  refine ⟨_, rfl, ?_⟩
  exact State.ispClear_kept .rfl' ..

theorem execAckRx_kept (t : Nat) (s : State) : ∃ s₁, execAckRx t  s = .next s₁ ∧ State.Kept (s.advance t) s₁ := by
  refine ⟨_, rfl, ?_⟩
  exact State.ackRx_kept .rfl' ..

theorem execAckTimeout_kept (t : Nat) (d : Nat) (s : State) : ∃ s₁, execAckTimeout t d s = .next s₁ ∧ State.Kept (s.advance t) s₁ := by
  refine ⟨_, rfl, ?_⟩
  exact State.ackTimeout_kept .rfl' ..

theorem execMapChange_kept (t : Nat) (s : State) : ∃ s₁, execMapChange t  s = .next s₁ ∧ State.Kept (s.advance t) s₁ := by
  refine ⟨_, rfl, ?_⟩
  repeat' first
    | with_reducible exact .rfl'
    | with_reducible assumption
    | with_reducible apply State.mapChange_kept
    | with_reducible apply State.mgmtBody_kept
    | intro _

theorem execMapChangeApply_kept (t : Nat) (peer : Nat) (p : Fin 4) (bb : Bool) (c : Fin 3) (rx : Bool) (s : State) : ∃ s₁, execMapChangeApply t peer p bb c rx s = .next s₁ ∧ State.Kept (s.advance t) s₁ := by
  refine ⟨_, rfl, ?_⟩
  repeat' first
    | with_reducible exact .rfl'
    | with_reducible assumption
    | with_reducible apply State.mapApply_kept
    | with_reducible refine .ite (fun _ => ?_) (fun _ => ?_)

theorem execMapChangeResend_kept (t : Nat) (peer : Nat) (p : Fin 4) (bb : Bool) (c : Fin 3) (s : State) : ∃ s₁, execMapChangeResend t peer p bb c s = .next s₁ ∧ State.Kept (s.advance t) s₁ := by
  refine ⟨_, rfl, ?_⟩
  exact State.mapResendTo_kept .rfl' ..

theorem execOldSetRelease_kept (t : Nat) (peer : Nat) (p : Fin 4) (bb : Bool) (c : Fin 3) (rx : Bool) (s : State) : ∃ s₁, execOldSetRelease t peer p bb c rx s = .next s₁ ∧ State.Kept (s.advance t) s₁ := by
  refine ⟨_, rfl, ?_⟩
  repeat' first
    | with_reducible exact .rfl'
    | with_reducible assumption
    | with_reducible apply State.oldRelease_kept
    | with_reducible refine .ite (fun _ => ?_) (fun _ => ?_)

theorem execSChange_kept (t : Nat) (s : State) : ∃ s₁, execSChange t  s = .next s₁ ∧ State.Kept (s.advance t) s₁ := by
  refine ⟨_, rfl, ?_⟩
  exact State.sChange_kept .rfl' ..

theorem execBeaconRx_kept (t : Nat) (lq : Nat) (s : State) : ∃ s₁, execBeaconRx t lq s = .next s₁ ∧ State.Kept (s.advance t) s₁ := by
  refine ⟨_, rfl, ?_⟩
  exact State.beaconRx_kept .rfl' ..

theorem execBeaconMiss_kept (t : Nat) (s : State) : ∃ s₁, execBeaconMiss t  s = .next s₁ ∧ State.Kept (s.advance t) s₁ := by
  refine ⟨_, rfl, ?_⟩
  exact State.beaconMiss_kept .rfl' ..

theorem execContentionAccess_kept (t : Nat) (id level : Nat) (preamble : Bool) (s : State) : ∃ s₁, execContentionAccess t id level preamble s = .next s₁ ∧ State.Kept (s.advance t) s₁ := by
  refine ⟨_, rfl, ?_⟩
  exact State.contention_kept .rfl' ..

theorem execGrantResend_kept (t : Nat) (s : State) : ∃ s₁, execGrantResend t  s = .next s₁ ∧ State.Kept (s.advance t) s₁ := by
  refine ⟨_, rfl, ?_⟩
  exact State.grantResend_kept .rfl' ..

theorem execSlotGrant_kept (t : Nat) (s : State) : ∃ s₁, execSlotGrant t  s = .next s₁ ∧ State.Kept (s.advance t) s₁ := by
  refine ⟨_, rfl, ?_⟩
  exact State.slotGrant_kept .rfl' ..

theorem execAssocReq_kept (t : Nat) (s : State) : ∃ s₁, execAssocReq t  s = .next s₁ ∧ State.Kept (s.advance t) s₁ := by
  refine ⟨_, rfl, ?_⟩
  exact State.assocRequest_kept .rfl' ..

theorem execAssocResp_kept (t : Nat) (s : State) : ∃ s₁, execAssocResp t  s = .next s₁ ∧ State.Kept (s.advance t) s₁ := by
  refine ⟨_, rfl, ?_⟩
  exact State.assocResponse_kept .rfl' ..

theorem execDisassoc_kept (t : Nat) (s : State) : ∃ s₁, execDisassoc t  s = .next s₁ ∧ State.Kept (s.advance t) s₁ := by
  refine ⟨_, rfl, ?_⟩
  exact State.disassoc_kept .rfl' ..

theorem execLeaseRenew_kept (t : Nat) (s : State) : ∃ s₁, execLeaseRenew t  s = .next s₁ ∧ State.Kept (s.advance t) s₁ := by
  refine ⟨_, rfl, ?_⟩
  exact State.leaseRenew_kept .rfl' ..

theorem execLeaseAck_kept (t : Nat) (s : State) : ∃ s₁, execLeaseAck t  s = .next s₁ ∧ State.Kept (s.advance t) s₁ := by
  refine ⟨_, rfl, ?_⟩
  exact State.leaseAck_kept .rfl' ..

theorem execMgmtNull_kept (t : Nat) (s : State) : ∃ s₁, execMgmtNull t  s = .next s₁ ∧ State.Kept (s.advance t) s₁ := by
  refine ⟨_, rfl, ?_⟩
  exact State.nullRx_kept .rfl' ..

theorem execLeaseRenewSend_kept (t : Nat) (s : State) : ∃ s₁, execLeaseRenewSend t  s = .next s₁ ∧ State.Kept (s.advance t) s₁ := by
  refine ⟨_, rfl, ?_⟩
  exact State.leaseRenewSend_kept .rfl' ..

theorem execLeaseEnd_kept (t : Nat) (s : State) : ∃ s₁, execLeaseEnd t  s = .next s₁ ∧ State.Kept (s.advance t) s₁ := by
  refine ⟨_, rfl, ?_⟩
  exact State.leaseEnd_kept .rfl' ..

theorem execQuarantineEnd_kept (t : Nat) (s : State) : ∃ s₁, execQuarantineEnd t  s = .next s₁ ∧ State.Kept (s.advance t) s₁ := by
  refine ⟨_, rfl, ?_⟩
  exact State.quarantineEnd_kept .rfl' ..

theorem execIrHoldExpiry_kept (t : Nat) (s : State) : ∃ s₁, execIrHoldExpiry t  s = .next s₁ ∧ State.Kept (s.advance t) s₁ := by
  refine ⟨_, rfl, ?_⟩
  exact State.irExpiry_kept .rfl' ..

theorem execNbrExpiry_kept (t : Nat) (p : Fin 4) (s : State) : ∃ s₁, execNbrExpiry t p s = .next s₁ ∧ State.Kept (s.advance t) s₁ := by
  refine ⟨_, rfl, ?_⟩
  exact State.nbrExpiry_kept .rfl' ..

theorem execEpochGraceEnd_kept (t : Nat) (s : State) : ∃ s₁, execEpochGraceEnd t  s = .next s₁ ∧ State.Kept (s.advance t) s₁ := by
  refine ⟨_, rfl, ?_⟩
  exact State.graceEnd_kept .rfl' ..

theorem execNbrReport_kept (t : Nat) (s : State) : ∃ s₁, execNbrReport t  s = .next s₁ ∧ State.Kept (s.advance t) s₁ := by
  refine ⟨_, rfl, ?_⟩
  repeat' first
    | with_reducible exact .rfl'
    | with_reducible assumption
    | with_reducible apply State.mgmtBody_kept
    | with_reducible apply State.nbrReport_kept
    | intro _

theorem execNbrReportSend_kept (t : Nat) (p : Fin 4) (lqs : List (Nat × Nat × Nat)) (s : State) : ∃ s₁, execNbrReportSend t p lqs s = .next s₁ ∧ State.Kept (s.advance t) s₁ := by
  refine ⟨_, rfl, ?_⟩
  exact State.nbrReportDue_kept .rfl' ..

theorem execParentSet_kept (t : Nat) (s : State) : ∃ s₁, execParentSet t  s = .next s₁ ∧ State.Kept (s.advance t) s₁ := by
  refine ⟨_, rfl, ?_⟩
  repeat' first
    | with_reducible exact .rfl'
    | with_reducible assumption
    | with_reducible apply State.mgmtBody_kept
    | with_reducible apply State.parentSet_kept
    | intro _

theorem execParentSetApply_kept (t : Nat) (s : State) : ∃ s₁, execParentSetApply t  s = .next s₁ ∧ State.Kept (s.advance t) s₁ := by
  refine ⟨_, rfl, ?_⟩
  exact State.parentApply_kept .rfl' ..

theorem execRouteErr_kept (t : Nat) (s : State) : ∃ s₁, execRouteErr t  s = .next s₁ ∧ State.Kept (s.advance t) s₁ := by
  refine ⟨_, rfl, ?_⟩
  repeat' first
    | with_reducible exact .rfl'
    | with_reducible assumption
    | with_reducible apply State.mgmtBody_kept
    | with_reducible apply State.routeErr_kept
    | intro _

theorem execCoopResult_kept (t : Nat) (s : State) : ∃ s₁, execCoopResult t  s = .next s₁ ∧ State.Kept (s.advance t) s₁ := by
  refine ⟨_, rfl, ?_⟩
  repeat' first
    | with_reducible exact .rfl'
    | with_reducible assumption
    | with_reducible apply State.coopResult_kept
    | with_reducible apply State.mgmtBody_kept
    | intro _

theorem execGroupSet_kept (t : Nat) (s : State) : ∃ s₁, execGroupSet t  s = .next s₁ ∧ State.Kept (s.advance t) s₁ := by
  refine ⟨_, rfl, ?_⟩
  repeat' first
    | with_reducible exact .rfl'
    | with_reducible assumption
    | with_reducible apply State.groupSet_kept
    | with_reducible apply State.mgmtBody_kept
    | intro _

theorem execCoopCarry_kept (t : Nat) (s : State) : ∃ s₁, execCoopCarry t  s = .next s₁ ∧ State.Kept (s.advance t) s₁ := by
  refine ⟨_, rfl, ?_⟩
  exact State.carryBody_kept .rfl' ..

theorem execForwardHoldExpiry_kept (t : Nat) (s : State) : ∃ s₁, execForwardHoldExpiry t  s = .next s₁ ∧ State.Kept (s.advance t) s₁ := by
  refine ⟨_, rfl, ?_⟩
  exact State.forwardExpiry_kept .rfl' ..

theorem execRouteWaitExpiry_kept (t : Nat) (a : Nat) (s : State) : ∃ s₁, execRouteWaitExpiry t a s = .next s₁ ∧ State.Kept (s.advance t) s₁ := by
  refine ⟨_, rfl, ?_⟩
  exact State.routeWaitExpiry_kept .rfl' ..

theorem execCoopWaitExpiry_kept (t : Nat) (s : State) : ∃ s₁, execCoopWaitExpiry t  s = .next s₁ ∧ State.Kept (s.advance t) s₁ := by
  refine ⟨_, rfl, ?_⟩
  exact State.coopExpiry_kept .rfl' ..

theorem execFloodRebroadcast_kept (t : Nat) (orig fseq : Nat) (s : State) : ∃ s₁, execFloodRebroadcast t orig fseq s = .next s₁ ∧ State.Kept (s.advance t) s₁ := by
  refine ⟨_, rfl, ?_⟩
  exact State.floodSend_kept .rfl' ..

theorem execFloodDupExpiry_kept (t : Nat) (s : State) : ∃ s₁, execFloodDupExpiry t  s = .next s₁ ∧ State.Kept (s.advance t) s₁ := by
  refine ⟨_, rfl, ?_⟩
  exact State.floodExpiry_kept .rfl' ..

theorem execEpWinWrite_kept (t : Nat) (m : Nat) (i : Fin 128) (v : Word) (s : State) : ∃ s₁, execEpWinWrite t m i v s = .next s₁ ∧ State.Kept (s.advance t) s₁ := by
  refine ⟨_, rfl, ?_⟩
  exact State.cmdReg_kept .rfl' m _ _ (fun x (h : State.Kept (s.advance t) x) => (State.epWinWrite_kept h i v))

theorem execEndpointRecordStore_kept (t : Nat) (s : State) : ∃ s₁, execEndpointRecordStore t  s = .next s₁ ∧ State.Kept (s.advance t) s₁ := by
  refine ⟨_, rfl, ?_⟩
  exact State.epStore_kept .rfl' ..

theorem execMsgSend_kept (t : Nat) (r : Fin 256) (e : List Byte) (payload : List Byte) (free : Bool) (s : State) : ∃ s₁, execMsgSend t r e payload free s = .next s₁ ∧ State.Kept (s.advance t) s₁ := by
  refine ⟨_, rfl, ?_⟩
  exact State.submit_kept .rfl' r e _ _ (fun x c (h : State.Kept (s.advance t) x) => (State.msgSend_kept h c payload free))

theorem execTxnSend_kept (t : Nat) (r : Fin 256) (e : List Byte) (members : List Byte) (payloads : List (List Byte)) (free : List Bool) (s : State) : ∃ s₁, execTxnSend t r e members payloads free s = .next s₁ ∧ State.Kept (s.advance t) s₁ := by
  refine ⟨_, rfl, ?_⟩
  exact State.submit_kept .rfl' r e _ _ (fun x c (h : State.Kept (s.advance t) x) => (State.txnSend_kept h c members payloads free))

theorem execAdmission_kept (t : Nat) (r : Fin 256) (e : List Byte) (s : State) : ∃ s₁, execAdmission t r e s = .next s₁ ∧ State.Kept (s.advance t) s₁ := by
  refine ⟨_, rfl, ?_⟩
  exact State.submit_kept .rfl' r e _ _ (fun x c (h : State.Kept (s.advance t) x) => (State.admission_kept h c))

theorem execRevoke_kept (t : Nat) (r : Fin 256) (e : List Byte) (s : State) : ∃ s₁, execRevoke t r e s = .next s₁ ∧ State.Kept (s.advance t) s₁ := by
  refine ⟨_, rfl, ?_⟩
  exact State.submit_kept .rfl' r e _ _ (fun x c (h : State.Kept (s.advance t) x) => (State.revoke_kept h c))

theorem execReceiptTimeout_kept (t : Nat) (msg : Nat) (s : State) : ∃ s₁, execReceiptTimeout t msg s = .next s₁ ∧ State.Kept (s.advance t) s₁ := by
  refine ⟨_, rfl, ?_⟩
  exact State.receiptTimeout_kept .rfl' ..

theorem execMessageDeadline_kept (t : Nat) (msg : Nat) (s : State) : ∃ s₁, execMessageDeadline t msg s = .next s₁ ∧ State.Kept (s.advance t) s₁ := by
  refine ⟨_, rfl, ?_⟩
  exact State.msgDeadline_kept .rfl' ..

theorem execReportRx_kept (t : Nat) (s : State) : ∃ s₁, execReportRx t  s = .next s₁ ∧ State.Kept (s.advance t) s₁ := by
  refine ⟨_, rfl, ?_⟩
  exact State.reportRx_kept .rfl' ..

theorem execUplinkMessageRx_kept (t : Nat) (s : State) : ∃ s₁, execUplinkMessageRx t  s = .next s₁ ∧ State.Kept (s.advance t) s₁ := by
  refine ⟨_, rfl, ?_⟩
  exact State.uplinkRx_kept .rfl' ..

theorem execReassemblyTimeout_kept (t : Nat) (s : State) : ∃ s₁, execReassemblyTimeout t  s = .next s₁ ∧ State.Kept (s.advance t) s₁ := by
  refine ⟨_, rfl, ?_⟩
  exact State.reasmTimeout_kept .rfl' ..

theorem execCreditRequest_kept (t : Nat) (q : Nat) (n : Nat) (s : State) : ∃ s₁, execCreditRequest t q n s = .next s₁ ∧ State.Kept (s.advance t) s₁ := by
  refine ⟨_, rfl, ?_⟩
  exact State.creditTurn_kept .rfl' ..

theorem execCreditReturn_kept (t : Nat) (q : Nat) (n : Nat) (s : State) : ∃ s₁, execCreditReturn t q n s = .next s₁ ∧ State.Kept (s.advance t) s₁ := by
  refine ⟨_, rfl, ?_⟩
  exact State.creditBack_kept .rfl' ..

theorem execQueueWrite_kept (t : Nat) (q : Nat) (writer epoch : Nat) (data : List Byte) (start fin : Bool) (s : State) : ∃ s₁, execQueueWrite t q writer epoch data start fin s = .next s₁ ∧ State.Kept (s.advance t) s₁ := by
  refine ⟨_, rfl, ?_⟩
  exact State.queueWrite_kept .rfl' ..

theorem execReadLine_kept (t : Nat) (q : Nat) (corr : Nat) (bad : List Nat) (loc : ScrubFound) (s : State) : ∃ s₁, execReadLine t q corr bad loc s = .next s₁ ∧ State.Kept (s.advance t) s₁ := by
  refine ⟨_, rfl, ?_⟩
  exact State.lineRead_kept .rfl' ..

theorem execRewind_kept (t : Nat) (q : Nat) (s : State) : ∃ s₁, execRewind t q s = .next s₁ ∧ State.Kept (s.advance t) s₁ := by
  refine ⟨_, rfl, ?_⟩
  exact State.rewind_kept .rfl' ..

theorem execRelease_kept (t : Nat) (q : Nat) (s : State) : ∃ s₁, execRelease t q s = .next s₁ ∧ State.Kept (s.advance t) s₁ := by
  refine ⟨_, rfl, ?_⟩
  exact State.releaseWork_kept .rfl' ..

theorem execQueueFlush_kept (t : Nat) (q : Nat) (s : State) : ∃ s₁, execQueueFlush t q s = .next s₁ ∧ State.Kept (s.advance t) s₁ := by
  refine ⟨_, rfl, ?_⟩
  exact State.flushWork_kept .rfl' ..

theorem execCellReturnDone_kept (t : Nat) (q : Nat) (s : State) : ∃ s₁, execCellReturnDone t q s = .next s₁ ∧ State.Kept (s.advance t) s₁ := by
  refine ⟨_, rfl, ?_⟩
  exact State.cellReturnDone_kept .rfl' ..

theorem execQReadDesc_kept (t : Nat) (m : Nat) (s : State) : ∃ s₁, execQReadDesc t m s = .next s₁ ∧ State.Kept (s.advance t) s₁ := by
  refine ⟨_, rfl, ?_⟩
  exact State.cmdReg_kept .rfl' m _ _ (fun x (h : State.Kept (s.advance t) x) => (State.qCmd_kept h 1))

theorem execQFlush_kept (t : Nat) (m : Nat) (s : State) : ∃ s₁, execQFlush t m s = .next s₁ ∧ State.Kept (s.advance t) s₁ := by
  refine ⟨_, rfl, ?_⟩
  exact State.cmdReg_kept .rfl' m _ _ (fun x (h : State.Kept (s.advance t) x) => (State.qCmd_kept h 2))

theorem execQSetLimit_kept (t : Nat) (m : Nat) (s : State) : ∃ s₁, execQSetLimit t m s = .next s₁ ∧ State.Kept (s.advance t) s₁ := by
  refine ⟨_, rfl, ?_⟩
  exact State.cmdReg_kept .rfl' m _ _ (fun x (h : State.Kept (s.advance t) x) => (State.qCmd_kept h 3))

theorem execQClearErr_kept (t : Nat) (m : Nat) (s : State) : ∃ s₁, execQClearErr t m s = .next s₁ ∧ State.Kept (s.advance t) s₁ := by
  refine ⟨_, rfl, ?_⟩
  exact State.cmdReg_kept .rfl' m _ _ (fun x (h : State.Kept (s.advance t) x) => (State.qCmd_kept h 4))

theorem execLinkUp_kept (t : Nat) (n : Fin 2) (mode : Fin 8) (s : State) : ∃ s₁, execLinkUp t n mode s = .next s₁ ∧ State.Kept (s.advance t) s₁ := by
  refine ⟨_, rfl, ?_⟩
  exact State.linkUp_kept .rfl' ..

theorem execLinkLoss_kept (t : Nat) (n : Fin 2) (s : State) : ∃ s₁, execLinkLoss t n s = .next s₁ ∧ State.Kept (s.advance t) s₁ := by
  refine ⟨_, rfl, ?_⟩
  exact State.linkLoss_kept .rfl' ..

theorem execFailoverComplete_kept (t : Nat) (s : State) : ∃ s₁, execFailoverComplete t  s = .next s₁ ∧ State.Kept (s.advance t) s₁ := by
  refine ⟨_, rfl, ?_⟩
  exact State.failoverDone_kept .rfl' ..

theorem execHostSwitch_kept (t : Nat) (m : Nat) (s : State) : ∃ s₁, execHostSwitch t m s = .next s₁ ∧ State.Kept (s.advance t) s₁ := by
  refine ⟨_, rfl, ?_⟩
  exact State.cmdReg_kept .rfl' m _ _ (fun x (h : State.Kept (s.advance t) x) => (State.hostSwitch_kept h))

theorem execHeartbeat_kept (t : Nat) (m : Nat) (s : State) : ∃ s₁, execHeartbeat t m s = .next s₁ ∧ State.Kept (s.advance t) s₁ := by
  refine ⟨_, rfl, ?_⟩
  exact State.cmdReg_kept .rfl' m _ _ (fun x (h : State.Kept (s.advance t) x) => (State.heartbeat_kept h))

theorem execHostWatchdog_kept (t : Nat) (s : State) : ∃ s₁, execHostWatchdog t  s = .next s₁ ∧ State.Kept (s.advance t) s₁ := by
  refine ⟨_, rfl, ?_⟩
  exact State.hostWatchdog_kept .rfl' ..

theorem execSqDoorbell_kept (t : Nat) (r : Fin 256) (v : Word) (s : State) : ∃ s₁, execSqDoorbell t r v s = .next s₁ ∧ State.Kept (s.advance t) s₁ := by
  refine ⟨_, rfl, ?_⟩
  exact State.hostMsg_kept .rfl' _ (fun x (h : State.Kept (s.advance t) x) => (State.sqDoorbell_kept h r (fld v 0 16)))

theorem execCqDoorbell_kept (t : Nat) (r : Fin 256) (v : Word) (s : State) : ∃ s₁, execCqDoorbell t r v s = .next s₁ ∧ State.Kept (s.advance t) s₁ := by
  refine ⟨_, rfl, ?_⟩
  exact State.hostMsg_kept .rfl' _ (fun x (h : State.Kept (s.advance t) x) => (State.cqDoorbell_kept h r (fld v 0 16)))

theorem execIrqGapExpiry_kept (t : Nat) (r : Fin 256) (s : State) : ∃ s₁, execIrqGapExpiry t r s = .next s₁ ∧ State.Kept (s.advance t) s₁ := by
  refine ⟨_, rfl, ?_⟩
  exact State.irqGapEnd_kept .rfl' ..

theorem execMsixUnmask_kept (t : Nat) (v : Fin 512) (s : State) : ∃ s₁, execMsixUnmask t v s = .next s₁ ∧ State.Kept (s.advance t) s₁ := by
  refine ⟨_, rfl, ?_⟩
  exact State.hostMsg_kept .rfl' _ (fun x (h : State.Kept (s.advance t) x) => (State.msixUnmask_kept h v))

theorem execNop_kept (t : Nat) (r : Fin 256) (e : List Byte) (s : State) : ∃ s₁, execNop t r e s = .next s₁ ∧ State.Kept (s.advance t) s₁ := by
  refine ⟨_, rfl, ?_⟩
  exact State.nopSub_kept .rfl' ..

theorem execFixWrite_kept (t : Nat) (r : Fin 256) (e : List Byte) (s : State) : ∃ s₁, execFixWrite t r e s = .next s₁ ∧ State.Kept (s.advance t) s₁ := by
  refine ⟨_, rfl, ?_⟩
  exact State.submit_kept .rfl' r e _ _ (fun x c (h : State.Kept (s.advance t) x) => (State.fixWrite_kept h c))

theorem execFixDisarm_kept (t : Nat) (r : Fin 256) (e : List Byte) (s : State) : ∃ s₁, execFixDisarm t r e s = .next s₁ ∧ State.Kept (s.advance t) s₁ := by
  refine ⟨_, rfl, ?_⟩
  exact State.submit_kept .rfl' r e _ _ (fun x c (h : State.Kept (s.advance t) x) => (State.fixDisarm_kept h c))

theorem execFixRead_kept (t : Nat) (r : Fin 256) (e : List Byte) (s : State) : ∃ s₁, execFixRead t r e s = .next s₁ ∧ State.Kept (s.advance t) s₁ := by
  refine ⟨_, rfl, ?_⟩
  exact State.submit_kept .rfl' r e _ _ (fun x c (h : State.Kept (s.advance t) x) => (State.fixRead_kept h c))

theorem execRxbufPost_kept (t : Nat) (r : Fin 256) (e : List Byte) (s : State) : ∃ s₁, execRxbufPost t r e s = .next s₁ ∧ State.Kept (s.advance t) s₁ := by
  refine ⟨_, rfl, ?_⟩
  exact State.submit_kept .rfl' r e _ _ (fun x c (h : State.Kept (s.advance t) x) => (State.rxbufPost_kept h c))

theorem execRingEnable_kept (t : Nat) (r : Fin 256) (s : State) : ∃ s₁, execRingEnable t r s = .next s₁ ∧ State.Kept (s.advance t) s₁ := by
  refine ⟨_, rfl, ?_⟩
  exact State.hostMsg_kept .rfl' _ (fun x (h : State.Kept (s.advance t) x) => (State.ringCtl_kept h r 1))

theorem execRingDisable_kept (t : Nat) (r : Fin 256) (s : State) : ∃ s₁, execRingDisable t r s = .next s₁ ∧ State.Kept (s.advance t) s₁ := by
  refine ⟨_, rfl, ?_⟩
  exact State.hostMsg_kept .rfl' _ (fun x (h : State.Kept (s.advance t) x) => (State.ringCtl_kept h r 0))

theorem execRingAbort_kept (t : Nat) (r : Fin 256) (s : State) : ∃ s₁, execRingAbort t r s = .next s₁ ∧ State.Kept (s.advance t) s₁ := by
  refine ⟨_, rfl, ?_⟩
  exact State.hostMsg_kept .rfl' _ (fun x (h : State.Kept (s.advance t) x) => (State.ringAbort_kept h r))

theorem execRingDrainDone_kept (t : Nat) (r : Fin 256) (s : State) : ∃ s₁, execRingDrainDone t r s = .next s₁ ∧ State.Kept (s.advance t) s₁ := by
  refine ⟨_, rfl, ?_⟩
  exact State.ringDrainDone_kept .rfl' ..

theorem execRingDmaError_kept (t : Nat) (r : Fin 256) (failed : Nat) (s : State) : ∃ s₁, execRingDmaError t r failed s = .next s₁ ∧ State.Kept (s.advance t) s₁ := by
  refine ⟨_, rfl, ?_⟩
  exact State.ringError_kept .rfl' ..

theorem execFunctionLevelReset_kept (t : Nat) (s : State) : ∃ s₁, execFunctionLevelReset t  s = .next s₁ ∧ State.Kept (s.advance t) s₁ := by
  refine ⟨_, rfl, ?_⟩
  repeat' first
    | with_reducible exact .rfl'
    | with_reducible assumption
    | with_reducible apply State.functionReset_kept

theorem execRegRd_kept (t : Nat) (a n : Nat) (s : State) : ∃ s₁, execRegRd t a n s = .next s₁ ∧ State.Kept (s.advance t) s₁ := by
  refine ⟨_, rfl, ?_⟩
  exact State.bulkRead_kept .rfl' ..

theorem execRegWr_kept (t : Nat) (a : Nat) (data : List Byte) (s : State) : ∃ s₁, execRegWr t a data s = .next s₁ ∧ State.Kept (s.advance t) s₁ := by
  refine ⟨_, rfl, ?_⟩
  exact State.bulkWrite_kept .rfl' ..

theorem execBulkSubmit_kept (t : Nat) (r : Fin 256) (idx : Nat) (entries : List (List Byte)) (s : State) : ∃ s₁, execBulkSubmit t r idx entries s = .next s₁ ∧ State.Kept (s.advance t) s₁ := by
  refine ⟨_, rfl, ?_⟩
  exact State.bulkSubmit_kept .rfl' ..

theorem execCqAck_kept (t : Nat) (r : Fin 256) (v : Word) (s : State) : ∃ s₁, execCqAck t r v s = .next s₁ ∧ State.Kept (s.advance t) s₁ := by
  refine ⟨_, rfl, ?_⟩
  exact State.bulkAck_kept .rfl' ..

theorem execBulkData_kept (t : Nat) (a : Nat) (data : List Byte) (s : State) : ∃ s₁, execBulkData t a data s = .next s₁ ∧ State.Kept (s.advance t) s₁ := by
  refine ⟨_, rfl, ?_⟩
  exact State.bulkData_kept .rfl' ..

theorem execMaintRegRead_kept (t : Nat) (n : Fin 2) (page ofs : Nat) (s : State) : ∃ s₁, execMaintRegRead t n page ofs s = .next s₁ ∧ State.Kept (s.advance t) s₁ := by
  refine ⟨_, rfl, ?_⟩
  exact State.maintRead_kept .rfl' ..

theorem execMaintRegWrite_kept (t : Nat) (n : Fin 2) (page ofs : Nat) (v : Word) (s : State) : ∃ s₁, execMaintRegWrite t n page ofs v s = .next s₁ ∧ State.Kept (s.advance t) s₁ := by
  refine ⟨_, rfl, ?_⟩
  exact State.maintWrite_kept .rfl' ..

theorem execSecondRecord_kept (t : Nat) (xs : List SrvSample) (credit : Bool) (s : State) : ∃ s₁, execSecondRecord t xs credit s = .next s₁ ∧ State.Kept (s.advance t) s₁ := by
  refine ⟨_, rfl, ?_⟩
  exact State.secondRecord_kept .rfl' ..

theorem execReferenceRecord_kept (t : Nat) (xs : List SrvSample) (credit : Bool) (s : State) : ∃ s₁, execReferenceRecord t xs credit s = .next s₁ ∧ State.Kept (s.advance t) s₁ := by
  refine ⟨_, rfl, ?_⟩
  exact State.referenceRecord_kept .rfl' ..

theorem execIlConverged_kept (t : Nat) (image : Nat) (s : State) : ∃ s₁, execIlConverged t image s = .next s₁ ∧ State.Kept (s.advance t) s₁ := by
  refine ⟨_, rfl, ?_⟩
  exact State.ilConverged_kept .rfl' ..

theorem execIlFallback_kept (t : Nat) (s : State) : ∃ s₁, execIlFallback t  s = .next s₁ ∧ State.Kept (s.advance t) s₁ := by
  refine ⟨_, rfl, ?_⟩
  exact State.ilFallback_kept .rfl' ..

theorem execLoopbackCheck_kept (t : Nat) (p : Fin 4) (c : Fin 3) (tone : Int) (bands : List (Nat × Int)) (s : State) : ∃ s₁, execLoopbackCheck t p c tone bands s = .next s₁ ∧ State.Kept (s.advance t) s₁ := by
  refine ⟨_, rfl, ?_⟩
  exact State.loopback_kept .rfl' ..

theorem execMuteClear_kept (t : Nat) (m : Nat) (ports : Fin 16) (s : State) : ∃ s₁, execMuteClear t m ports s = .next s₁ ∧ State.Kept (s.advance t) s₁ := by
  refine ⟨_, rfl, ?_⟩
  exact State.cmdReg_kept .rfl' m _ _ (fun x (h : State.Kept (s.advance t) x) => (State.muteClear_kept h ports))

theorem execCaptureTrigger_kept (t : Nat) (m : Nat) (s : State) : ∃ s₁, execCaptureTrigger t m s = .next s₁ ∧ State.Kept (s.advance t) s₁ := by
  refine ⟨_, rfl, ?_⟩
  exact State.cmdReg_kept .rfl' m _ _ (fun x (h : State.Kept (s.advance t) x) => (State.capTrigger_kept h 2))

theorem execLimitLineTrigger_kept (t : Nat) (n f : Nat) (level : Int) (s : State) : ∃ s₁, execLimitLineTrigger t n f level s = .next s₁ ∧ State.Kept (s.advance t) s₁ := by
  refine ⟨_, rfl, ?_⟩
  exact State.limitTrigger_kept .rfl' ..

theorem execCaptureHeld_kept (t : Nat) (xs : List SrvSample) (credit : Bool) (s : State) : ∃ s₁, execCaptureHeld t xs credit s = .next s₁ ∧ State.Kept (s.advance t) s₁ := by
  refine ⟨_, rfl, ?_⟩
  exact State.capHeld_kept .rfl' ..

theorem execCaptureArm_kept (t : Nat) (m : Nat) (s : State) : ∃ s₁, execCaptureArm t m s = .next s₁ ∧ State.Kept (s.advance t) s₁ := by
  refine ⟨_, rfl, ?_⟩
  repeat' first
    | with_reducible exact .rfl'
    | with_reducible assumption
    | with_reducible apply State.capArm_kept
    | with_reducible apply State.cmdReg_kept
    | intro _

theorem execCapRead_kept (t : Nat) (r : Fin 256) (e : List Byte) (s : State) : ∃ s₁, execCapRead t r e s = .next s₁ ∧ State.Kept (s.advance t) s₁ := by
  refine ⟨_, rfl, ?_⟩
  exact State.submit_kept .rfl' r e _ _ (fun x c (h : State.Kept (s.advance t) x) => (State.capRead_kept h c))

theorem execXlInstall_kept (t : Nat) (r : Fin 256) (e : List Byte) (data : List Byte) (s : State) : ∃ s₁, execXlInstall t r e data s = .next s₁ ∧ State.Kept (s.advance t) s₁ := by
  refine ⟨_, rfl, ?_⟩
  exact State.submit_kept .rfl' r e _ _ (fun x c (h : State.Kept (s.advance t) x) => (State.xlInstall_kept h c data))

theorem execExclusionApply_kept (t : Nat) (s : State) : ∃ s₁, execExclusionApply t  s = .next s₁ ∧ State.Kept (s.advance t) s₁ := by
  refine ⟨_, rfl, ?_⟩
  repeat' first
    | with_reducible exact .rfl'
    | with_reducible assumption
    | with_reducible apply State.exclusionApply_kept
    | with_reducible apply State.refilter_kept

theorem execMetroInterval_kept (t : Nat) (p : Fin 4) (xs : List MetSample) (credit : Bool) (s : State) : ∃ s₁, execMetroInterval t p xs credit s = .next s₁ ∧ State.Kept (s.advance t) s₁ := by
  refine ⟨_, rfl, ?_⟩
  exact State.metInterval_kept .rfl' ..

theorem execMetroUtcBoundary_kept (t : Nat) (p : Fin 4) (xs : List MetSample) (credit : Bool) (s : State) : ∃ s₁, execMetroUtcBoundary t p xs credit s = .next s₁ ∧ State.Kept (s.advance t) s₁ := by
  refine ⟨_, rfl, ?_⟩
  exact State.metBoundary_kept .rfl' ..

theorem execDipSwellDetect_kept (t : Nat) (p : Fin 4) (xs : List MetSample) (credit : Bool) (s : State) : ∃ s₁, execDipSwellDetect t p xs credit s = .next s₁ ∧ State.Kept (s.advance t) s₁ := by
  refine ⟨_, rfl, ?_⟩
  exact State.dipSwell_kept .rfl' ..

theorem execMetSnapDone_kept (t : Nat) (xs : List (List Int)) (s : State) : ∃ s₁, execMetSnapDone t xs s = .next s₁ ∧ State.Kept (s.advance t) s₁ := by
  refine ⟨_, rfl, ?_⟩
  exact State.snapDone_kept .rfl' ..

theorem execMetSnapRead_kept (t : Nat) (r : Fin 256) (e : List Byte) (s : State) : ∃ s₁, execMetSnapRead t r e s = .next s₁ ∧ State.Kept (s.advance t) s₁ := by
  refine ⟨_, rfl, ?_⟩
  exact State.submit_kept .rfl' r e _ _ (fun x c (h : State.Kept (s.advance t) x) => (State.snapRead_kept h c))

theorem execHkcRegularScan_kept (t : Nat) (rs : List (Nat × Int)) (s : State) : ∃ s₁, execHkcRegularScan t rs s = .next s₁ ∧ State.Kept (s.advance t) s₁ := by
  refine ⟨_, rfl, ?_⟩
  exact State.hkcScanDone_kept .rfl' ..

theorem execHkcInjTrig_kept (t : Nat) (m : Nat) (s : State) : ∃ s₁, execHkcInjTrig t m s = .next s₁ ∧ State.Kept (s.advance t) s₁ := by
  refine ⟨_, rfl, ?_⟩
  exact State.cmdReg_kept .rfl' m _ _ (fun x (h : State.Kept (s.advance t) x) => (State.hkcTrigger_kept h))

theorem execHkcInjDone_kept (t : Nat) (rs : List (Nat × Int)) (s : State) : ∃ s₁, execHkcInjDone t rs s = .next s₁ ∧ State.Kept (s.advance t) s₁ := by
  refine ⟨_, rfl, ?_⟩
  exact State.hkcInjDone_kept .rfl' ..

theorem execHkcCal_kept (t : Nat) (s : State) : ∃ s₁, execHkcCal t  s = .next s₁ ∧ State.Kept (s.advance t) s₁ := by
  refine ⟨_, rfl, ?_⟩
  exact State.hkcCal_kept .rfl' ..

theorem execHkcCalDone_kept (t : Nat) (s : State) : ∃ s₁, execHkcCalDone t  s = .next s₁ ∧ State.Kept (s.advance t) s₁ := by
  refine ⟨_, rfl, ?_⟩
  exact State.hkcCalDone_kept .rfl' ..

theorem execCtlArm_kept (t : Nat) (r : Fin 256) (e : List Byte) (s : State) : ∃ s₁, execCtlArm t r e s = .next s₁ ∧ State.Kept (s.advance t) s₁ := by
  refine ⟨_, rfl, ?_⟩
  exact State.submit_kept .rfl' r e _ _ (fun x c (h : State.Kept (s.advance t) x) => (State.ctlArm_kept h c))

theorem execArmCmdArm_kept (t : Nat) (m : Nat) (s : State) : ∃ s₁, execArmCmdArm t m s = .next s₁ ∧ State.Kept (s.advance t) s₁ := by
  refine ⟨_, rfl, ?_⟩
  exact State.cmdReg_kept .rfl' m _ _ (fun x (h : State.Kept (s.advance t) x) => (State.armCmd_kept h 1))

theorem execArmCmdDisarm_kept (t : Nat) (m : Nat) (s : State) : ∃ s₁, execArmCmdDisarm t m s = .next s₁ ∧ State.Kept (s.advance t) s₁ := by
  refine ⟨_, rfl, ?_⟩
  exact State.cmdReg_kept .rfl' m _ _ (fun x (h : State.Kept (s.advance t) x) => (State.armCmd_kept h 2))

theorem execCtlDisarm_kept (t : Nat) (r : Fin 256) (e : List Byte) (s : State) : ∃ s₁, execCtlDisarm t r e s = .next s₁ ∧ State.Kept (s.advance t) s₁ := by
  refine ⟨_, rfl, ?_⟩
  exact State.submit_kept .rfl' r e _ _ (fun x c (h : State.Kept (s.advance t) x) => (State.ctlDisarm_kept h c))

theorem execClrLock_kept (t : Nat) (m : Nat) (s : State) : ∃ s₁, execClrLock t m s = .next s₁ ∧ State.Kept (s.advance t) s₁ := by
  refine ⟨_, rfl, ?_⟩
  exact State.cmdReg_kept .rfl' m _ _ (fun x (h : State.Kept (s.advance t) x) => (State.armCmd_kept h 4))

theorem execPulseEnd_kept (t : Nat) (n : Fin 8) (s : State) : ∃ s₁, execPulseEnd t n s = .next s₁ ∧ State.Kept (s.advance t) s₁ := by
  refine ⟨_, rfl, ?_⟩
  exact State.pulseEnd_kept .rfl' ..

theorem execCtlfbEdge_kept (t : Nat) (n : Fin 8) (level : Bool) (s : State) : ∃ s₁, execCtlfbEdge t n level s = .next s₁ ∧ State.Kept (s.advance t) s₁ := by
  refine ⟨_, rfl, ?_⟩
  exact State.feedbackEdge_kept .rfl' ..

theorem execFeedbackTimeout_kept (t : Nat) (n : Fin 8) (s : State) : ∃ s₁, execFeedbackTimeout t n s = .next s₁ ∧ State.Kept (s.advance t) s₁ := by
  refine ⟨_, rfl, ?_⟩
  exact State.feedbackTimeout_kept .rfl' ..

theorem execInterlockChange_kept (t : Nat) (n : Fin 4) (level : Bool) (s : State) : ∃ s₁, execInterlockChange t n level s = .next s₁ ∧ State.Kept (s.advance t) s₁ := by
  refine ⟨_, rfl, ?_⟩
  exact State.interlockChange_kept .rfl' ..

theorem execDriveAttach_kept (t : Nat) (x : DriveFound) (s : State) : ∃ s₁, execDriveAttach t x s = .next s₁ ∧ State.Kept (s.advance t) s₁ := by
  refine ⟨_, rfl, ?_⟩
  repeat' first
    | with_reducible exact .rfl'
    | with_reducible assumption
    | with_reducible apply State.driveAttach_kept

theorem execDriveAccept_kept (t : Nat) (m : Nat) (n : Fin 2) (s : State) : ∃ s₁, execDriveAccept t m n s = .next s₁ ∧ State.Kept (s.advance t) s₁ := by
  refine ⟨_, rfl, ?_⟩
  exact State.cmdReg_kept .rfl' m _ _ (fun x (h : State.Kept (s.advance t) x) => (State.driveAccept_kept h n))

theorem execDriveLoss_kept (t : Nat) (n : Fin 2) (cause : Nat) (s : State) : ∃ s₁, execDriveLoss t n cause s = .next s₁ ∧ State.Kept (s.advance t) s₁ := by
  refine ⟨_, rfl, ?_⟩
  exact State.driveLoss_kept .rfl' ..

theorem execBlockRepair_kept (t : Nat) (n : Fin 2) (region lba : Nat) (gone : List Nat) (s : State) : ∃ s₁, execBlockRepair t n region lba gone s = .next s₁ ∧ State.Kept (s.advance t) s₁ := by
  refine ⟨_, rfl, ?_⟩
  exact State.blockRepair_kept .rfl' ..

theorem execResyncDone_kept (t : Nat) (s : State) : ∃ s₁, execResyncDone t  s = .next s₁ ∧ State.Kept (s.advance t) s₁ := by
  refine ⟨_, rfl, ?_⟩
  exact State.resyncDone_kept .rfl' ..

theorem execSmartPoll_kept (t : Nat) (n : Fin 2) (used spare thr retired : Nat) (temp : Int) (s : State) : ∃ s₁, execSmartPoll t n used spare thr retired temp s = .next s₁ ∧ State.Kept (s.advance t) s₁ := by
  refine ⟨_, rfl, ?_⟩
  exact State.smartPoll_kept .rfl' ..

theorem execVaultCommit_kept (t : Nat) (datum : Fin 8) (oks : List Bool) (s : State) : ∃ s₁, execVaultCommit t datum oks s = .next s₁ ∧ State.Kept (s.advance t) s₁ := by
  refine ⟨_, rfl, ?_⟩
  exact State.vaultStep_kept .rfl' ..

theorem execLeaseTableCommit_kept (t : Nat) (s : State) : ∃ s₁, execLeaseTableCommit t  s = .next s₁ ∧ State.Kept (s.advance t) s₁ := by
  refine ⟨_, rfl, ?_⟩
  exact State.leaseCommitDue_kept .rfl' ..

theorem execScorebookStore_kept (t : Nat) (s : State) : ∃ s₁, execScorebookStore t  s = .next s₁ ∧ State.Kept (s.advance t) s₁ := by
  refine ⟨_, rfl, ?_⟩
  exact State.scorebookStore_kept .rfl' ..

theorem execScbRead_kept (t : Nat) (r : Fin 256) (e : List Byte) (s : State) : ∃ s₁, execScbRead t r e s = .next s₁ ∧ State.Kept (s.advance t) s₁ := by
  refine ⟨_, rfl, ?_⟩
  exact State.submit_kept .rfl' r e _ _ (fun x c (h : State.Kept (s.advance t) x) => (State.scbRead_kept h c))

theorem execArchRead_kept (t : Nat) (r : Fin 256) (e : List Byte) (s : State) : ∃ s₁, execArchRead t r e s = .next s₁ ∧ State.Kept (s.advance t) s₁ := by
  refine ⟨_, rfl, ?_⟩
  exact State.submit_kept .rfl' r e _ _ (fun x c (h : State.Kept (s.advance t) x) => (State.archRead_kept h c))

theorem execKeyDerive_kept (t : Nat) (m : Nat) (n : Fin 64) (src : Fin 3) (srcSlot : Fin 64) (s : State) : ∃ s₁, execKeyDerive t m n src srcSlot s = .next s₁ ∧ State.Kept (s.advance t) s₁ := by
  refine ⟨_, rfl, ?_⟩
  exact State.cmdReg_kept .rfl' m _ _ (fun x (h : State.Kept (s.advance t) x) => (State.slotDeriveBy_kept h m n src srcSlot))

theorem execKeyErase_kept (t : Nat) (m : Nat) (n : Fin 64) (s : State) : ∃ s₁, execKeyErase t m n s = .next s₁ ∧ State.Kept (s.advance t) s₁ := by
  refine ⟨_, rfl, ?_⟩
  exact State.cmdReg_kept .rfl' m _ _ (fun x (h : State.Kept (s.advance t) x) => (State.slotEraseBy_kept h m n))

theorem execAesOperation_kept (t : Nat) (core : Fin 4) (slot : Nat) (job : AesJob) (who : AccReq) (fin : Bool) (chunks : Nat) (s : State) : ∃ s₁, execAesOperation t core slot job who fin chunks s = .next s₁ ∧ State.Kept (s.advance t) s₁ := by
  refine ⟨_, rfl, ?_⟩
  exact State.aesOperation_kept .rfl' ..

theorem execAesKatPeriodic_kept (t : Nat) (bad : List Nat) (s : State) : ∃ s₁, execAesKatPeriodic t bad s = .next s₁ ∧ State.Kept (s.advance t) s₁ := by
  refine ⟨_, rfl, ?_⟩
  exact State.aesKat_kept .rfl' ..

theorem execTrngSourceFail_kept (t : Nat) (n : Fin 4) (s : State) : ∃ s₁, execTrngSourceFail t n s = .next s₁ ∧ State.Kept (s.advance t) s₁ := by
  refine ⟨_, rfl, ?_⟩
  exact State.trngFail_kept .rfl' ..

theorem execEntropyTimeout_kept (t : Nat) (s : State) : ∃ s₁, execEntropyTimeout t  s = .next s₁ ∧ State.Kept (s.advance t) s₁ := by
  refine ⟨_, rfl, ?_⟩
  exact State.entropyTimeout_kept .rfl' ..

theorem execDrbgReseed_kept (t : Nat) (s : State) : ∃ s₁, execDrbgReseed t  s = .next s₁ ∧ State.Kept (s.advance t) s₁ := by
  refine ⟨_, rfl, ?_⟩
  exact State.drbgReseed_kept .rfl' ..

theorem execDrbgGenerate_kept (t : Nat) (n : Nat) (s : State) : ∃ s₁, execDrbgGenerate t n s = .next s₁ ∧ State.Kept (s.advance t) s₁ := by
  refine ⟨_, rfl, ?_⟩
  exact State.drbgGenerate_kept .rfl' ..

theorem execAttest_kept (t : Nat) (r : Fin 256) (e : List Byte) (nonce : List Byte) (s : State) : ∃ s₁, execAttest t r e nonce s = .next s₁ ∧ State.Kept (s.advance t) s₁ := by
  refine ⟨_, rfl, ?_⟩
  exact State.submit_kept .rfl' r e _ _ (fun x c (h : State.Kept (s.advance t) x) => (State.attest_kept h c nonce))

theorem execIdentityRead_kept (t : Nat) (r : Fin 256) (e : List Byte) (s : State) : ∃ s₁, execIdentityRead t r e s = .next s₁ ∧ State.Kept (s.advance t) s₁ := by
  refine ⟨_, rfl, ?_⟩
  exact State.submit_kept .rfl' r e _ _ (fun x c (h : State.Kept (s.advance t) x) => (State.identityRead_kept h c))

theorem execKeyEpoch_kept (t : Nat) (r : Fin 256) (e : List Byte) (blk : List Byte) (s : State) : ∃ s₁, execKeyEpoch t r e blk s = .next s₁ ∧ State.Kept (s.advance t) s₁ := by
  refine ⟨_, rfl, ?_⟩
  exact State.submit_kept .rfl' r e _ _ (fun x c (h : State.Kept (s.advance t) x) => (State.keyEpoch_kept h c blk))

theorem execProvInstall_kept (t : Nat) (r : Fin 256) (e : List Byte) (blk : List Byte) (s : State) : ∃ s₁, execProvInstall t r e blk s = .next s₁ ∧ State.Kept (s.advance t) s₁ := by
  refine ⟨_, rfl, ?_⟩
  exact State.submit_kept .rfl' r e _ _ (fun x c (h : State.Kept (s.advance t) x) => (State.provInstall_kept h c blk))

theorem execKeyInstall_kept (t : Nat) (r : Fin 256) (e : List Byte) (blk : List Byte) (s : State) : ∃ s₁, execKeyInstall t r e blk s = .next s₁ ∧ State.Kept (s.advance t) s₁ := by
  refine ⟨_, rfl, ?_⟩
  exact State.submit_kept .rfl' r e _ _ (fun x c (h : State.Kept (s.advance t) x) => (State.keyInstall_kept h c blk))

theorem execFieldLock_kept (t : Nat) (r : Fin 256) (e : List Byte) (blk : List Byte) (s : State) : ∃ s₁, execFieldLock t r e blk s = .next s₁ ∧ State.Kept (s.advance t) s₁ := by
  refine ⟨_, rfl, ?_⟩
  exact State.submit_kept .rfl' r e _ _ (fun x c (h : State.Kept (s.advance t) x) => (State.fieldLock_kept h c blk))

theorem execSessionOpen_kept (t : Nat) (r : Fin 256) (e : List Byte) (nonce : List Byte) (s : State) : ∃ s₁, execSessionOpen t r e nonce s = .next s₁ ∧ State.Kept (s.advance t) s₁ := by
  refine ⟨_, rfl, ?_⟩
  exact State.submit_kept .rfl' r e _ _ (fun x c (h : State.Kept (s.advance t) x) => (State.sessionOpen_kept h c nonce))

theorem execSessionFinish_kept (t : Nat) (r : Fin 256) (e : List Byte) (buf : List Byte) (s : State) : ∃ s₁, execSessionFinish t r e buf s = .next s₁ ∧ State.Kept (s.advance t) s₁ := by
  refine ⟨_, rfl, ?_⟩
  exact State.submit_kept .rfl' r e _ _ (fun x c (h : State.Kept (s.advance t) x) => (State.sessionFinish_kept h c buf))

theorem execSessionClose_kept (t : Nat) (r : Fin 256) (e : List Byte) (s : State) : ∃ s₁, execSessionClose t r e s = .next s₁ ∧ State.Kept (s.advance t) s₁ := by
  refine ⟨_, rfl, ?_⟩
  exact State.submit_kept .rfl' r e _ _ (fun x c (h : State.Kept (s.advance t) x) => (State.sessionClose_kept h c))

theorem execImageWrite_kept (t : Nat) (r : Fin 256) (e : List Byte) (data : List Byte) (ok : Bool) (s : State) : ∃ s₁, execImageWrite t r e data ok s = .next s₁ ∧ State.Kept (s.advance t) s₁ := by
  refine ⟨_, rfl, ?_⟩
  exact State.submit_kept .rfl' r e _ _ (fun x c (h : State.Kept (s.advance t) x) => (State.imageWrite_kept h c data ok))

theorem execImageActivate_kept (t : Nat) (r : Fin 256) (e : List Byte) (s : State) : ∃ s₁, execImageActivate t r e s = .next s₁ ∧ State.Kept (s.advance t) s₁ := by
  refine ⟨_, rfl, ?_⟩
  exact State.submit_kept .rfl' r e _ _ (fun x c (h : State.Kept (s.advance t) x) => (State.imageActivate_kept h c))

theorem execBootConfirm_kept (t : Nat) (r : Fin 256) (e : List Byte) (s : State) : ∃ s₁, execBootConfirm t r e s = .next s₁ ∧ State.Kept (s.advance t) s₁ := by
  refine ⟨_, rfl, ?_⟩
  exact State.submit_kept .rfl' r e _ _ (fun x c (h : State.Kept (s.advance t) x) => (State.bootConfirm_kept h c))

theorem execTrialExpiry_kept (t : Nat) (s : State) : ∃ s₁, execTrialExpiry t  s = .next s₁ ∧ State.Kept (s.advance t) s₁ := by
  refine ⟨_, rfl, ?_⟩
  exact State.trialExpiry_kept .rfl' ..

theorem execRetire_kept (t : Nat) (r : Fin 256) (e : List Byte) (blk : List Byte) (s : State) : ∃ s₁, execRetire t r e blk s = .next s₁ ∧ State.Kept (s.advance t) s₁ := by
  refine ⟨_, rfl, ?_⟩
  exact State.submit_kept .rfl' r e _ _ (fun x c (h : State.Kept (s.advance t) x) => (State.retire_kept h c blk))

theorem execUartRxChar_kept (t : Nat) (n : Fin 2) (c : UartChar) (s : State) : ∃ s₁, execUartRxChar t n c s = .next s₁ ∧ State.Kept (s.advance t) s₁ := by
  refine ⟨_, rfl, ?_⟩
  exact State.uartRx_kept .rfl' ..

theorem execUartBreak_kept (t : Nat) (n : Fin 2) (start : Nat) (s : State) : ∃ s₁, execUartBreak t n start s = .next s₁ ∧ State.Kept (s.advance t) s₁ := by
  refine ⟨_, rfl, ?_⟩
  exact State.uartBreak_kept .rfl' ..

theorem execUartDeadLine_kept (t : Nat) (n : Fin 2) (start : Nat) (s : State) : ∃ s₁, execUartDeadLine t n start s = .next s₁ ∧ State.Kept (s.advance t) s₁ := by
  refine ⟨_, rfl, ?_⟩
  exact State.deadLine_kept .rfl' ..

theorem execUartDeadClear_kept (t : Nat) (n : Fin 2) (s : State) : ∃ s₁, execUartDeadClear t n s = .next s₁ ∧ State.Kept (s.advance t) s₁ := by
  refine ⟨_, rfl, ?_⟩
  exact State.deadClear_kept .rfl' ..

theorem execUartTxData_kept (t : Nat) (m : Nat) (n : Fin 2) (char : Fin 512) (s : State) : ∃ s₁, execUartTxData t m n char s = .next s₁ ∧ State.Kept (s.advance t) s₁ := by
  refine ⟨_, rfl, ?_⟩
  exact State.cmdReg_kept .rfl' m _ _ (fun x (h : State.Kept (s.advance t) x) => (State.uartTx_kept h n char))

theorem execUartTxCharDone_kept (t : Nat) (n : Fin 2) (s : State) : ∃ s₁, execUartTxCharDone t n s = .next s₁ ∧ State.Kept (s.advance t) s₁ := by
  refine ⟨_, rfl, ?_⟩
  exact State.uartTxDone_kept .rfl' ..

theorem execUartRxPop_kept (t : Nat) (m : Nat) (n : Fin 2) (s : State) : ∃ s₁, execUartRxPop t m n s = .next s₁ ∧ State.Kept (s.advance t) s₁ := by
  refine ⟨_, rfl, ?_⟩
  exact State.cmdReg_kept .rfl' m _ _ (fun x (h : State.Kept (s.advance t) x) => (State.uartPop_kept h n))

theorem execUartDivWrite_kept (t : Nat) (m : Nat) (n : Fin 2) (v : Word) (s : State) : ∃ s₁, execUartDivWrite t m n v s = .next s₁ ∧ State.Kept (s.advance t) s₁ := by
  refine ⟨_, rfl, ?_⟩
  exact State.cmdReg_kept .rfl' m _ _ (fun x (h : State.Kept (s.advance t) x) => (State.uartDiv_kept h n (fld v 0 16)))

theorem execBrkSend_kept (t : Nat) (m : Nat) (n : Fin 2) (s : State) : ∃ s₁, execBrkSend t m n s = .next s₁ ∧ State.Kept (s.advance t) s₁ := by
  refine ⟨_, rfl, ?_⟩
  exact State.cmdReg_kept .rfl' m _ _ (fun x (h : State.Kept (s.advance t) x) => (State.brkSend_kept h n))

theorem execUartWakeMatch_kept (t : Nat) (c : UartChar) (s : State) : ∃ s₁, execUartWakeMatch t c s = .next s₁ ∧ State.Kept (s.advance t) s₁ := by
  refine ⟨_, rfl, ?_⟩
  exact State.wakeMatch_kept .rfl' ..

theorem execUartHandover_kept (t : Nat) (s : State) : ∃ s₁, execUartHandover t  s = .next s₁ ∧ State.Kept (s.advance t) s₁ := by
  refine ⟨_, rfl, ?_⟩
  exact State.handover_kept .rfl' ..

theorem execUartCtsChange_kept (t : Nat) (high : Bool) (s : State) : ∃ s₁, execUartCtsChange t high s = .next s₁ ∧ State.Kept (s.advance t) s₁ := by
  refine ⟨_, rfl, ?_⟩
  exact State.ctsChange_kept .rfl' ..

theorem execUartIdleBoundary_kept (t : Nat) (n : Fin 2) (s : State) : ∃ s₁, execUartIdleBoundary t n s = .next s₁ ∧ State.Kept (s.advance t) s₁ := by
  refine ⟨_, rfl, ?_⟩
  exact State.uartIdle_kept .rfl' ..

theorem execI2cStart_kept (t : Nat) (clocks : Nat) (nack arb : Bool) (s : State) : ∃ s₁, execI2cStart t clocks nack arb s = .next s₁ ∧ State.Kept (s.advance t) s₁ := by
  refine ⟨_, rfl, ?_⟩
  exact State.i2cStart_kept .rfl' ..

theorem execI2cWrite_kept (t : Nat) (nack arb : Bool) (s : State) : ∃ s₁, execI2cWrite t nack arb s = .next s₁ ∧ State.Kept (s.advance t) s₁ := by
  refine ⟨_, rfl, ?_⟩
  exact State.i2cWrite_kept .rfl' ..

theorem execI2cRead_kept (t : Nat) (b : Byte) (arb : Bool) (s : State) : ∃ s₁, execI2cRead t b arb s = .next s₁ ∧ State.Kept (s.advance t) s₁ := by
  refine ⟨_, rfl, ?_⟩
  exact State.i2cRead_kept .rfl' ..

theorem execI2cStop_kept (t : Nat) (s : State) : ∃ s₁, execI2cStop t  s = .next s₁ ∧ State.Kept (s.advance t) s₁ := by
  refine ⟨_, rfl, ?_⟩
  exact State.i2cStop_kept .rfl' ..

theorem execI2cRecover_kept (t : Nat) (m clocks : Nat) (s : State) : ∃ s₁, execI2cRecover t m clocks s = .next s₁ ∧ State.Kept (s.advance t) s₁ := by
  refine ⟨_, rfl, ?_⟩
  exact State.cmdReg_kept .rfl' m _ _ (fun x (h : State.Kept (s.advance t) x) => (State.i2cRecover_kept h clocks))

theorem execI2cAbort_kept (t : Nat) (m : Nat) (s : State) : ∃ s₁, execI2cAbort t m s = .next s₁ ∧ State.Kept (s.advance t) s₁ := by
  refine ⟨_, rfl, ?_⟩
  exact State.cmdReg_kept .rfl' m _ _ (fun x (h : State.Kept (s.advance t) x) => (State.i2cAbort_kept h))

theorem execI2cRdPop_kept (t : Nat) (m : Nat) (s : State) : ∃ s₁, execI2cRdPop t m s = .next s₁ ∧ State.Kept (s.advance t) s₁ := by
  refine ⟨_, rfl, ?_⟩
  exact State.cmdReg_kept .rfl' m _ _ (fun x (h : State.Kept (s.advance t) x) => (State.i2cPop_kept h))

theorem execI2cSclTimeout_kept (t : Nat) (s : State) : ∃ s₁, execI2cSclTimeout t  s = .next s₁ ∧ State.Kept (s.advance t) s₁ := by
  refine ⟨_, rfl, ?_⟩
  exact State.sclTimeout_kept .rfl' ..

theorem execI2cSclRelease_kept (t : Nat) (s : State) : ∃ s₁, execI2cSclRelease t  s = .next s₁ ∧ State.Kept (s.advance t) s₁ := by
  refine ⟨_, rfl, ?_⟩
  exact State.sclRelease_kept .rfl' ..

theorem execOutSet_kept (t : Nat) (m : Nat) (v : Word) (s : State) : ∃ s₁, execOutSet t m v s = .next s₁ ∧ State.Kept (s.advance t) s₁ := by
  refine ⟨_, rfl, ?_⟩
  exact State.cmdReg_kept .rfl' m _ _ (fun x (h : State.Kept (s.advance t) x) => (State.outSet_kept h m v))

theorem execOutClr_kept (t : Nat) (m : Nat) (v : Word) (s : State) : ∃ s₁, execOutClr t m v s = .next s₁ ∧ State.Kept (s.advance t) s₁ := by
  refine ⟨_, rfl, ?_⟩
  exact State.cmdReg_kept .rfl' m _ _ (fun x (h : State.Kept (s.advance t) x) => (State.outClr_kept h m v))

theorem execGpioEdge_kept (t : Nat) (n : Fin 24) (high : Bool) (held : Nat) (s : State) : ∃ s₁, execGpioEdge t n high held s = .next s₁ ∧ State.Kept (s.advance t) s₁ := by
  refine ⟨_, rfl, ?_⟩
  exact State.gpioEdge_kept .rfl' ..

theorem execChkFeed_kept (t : Nat) (m : Nat) (u : Fin 16) (v : Word) (s : State) : ∃ s₁, execChkFeed t m u v s = .next s₁ ∧ State.Kept (s.advance t) s₁ := by
  refine ⟨_, rfl, ?_⟩
  exact State.cmdReg_kept .rfl' m _ _ (fun x (h : State.Kept (s.advance t) x) => (State.chkFeed_kept h u (leBytes 4 v.toNat)))

theorem execChkFeedB_kept (t : Nat) (m : Nat) (u : Fin 16) (b : Byte) (s : State) : ∃ s₁, execChkFeedB t m u b s = .next s₁ ∧ State.Kept (s.advance t) s₁ := by
  refine ⟨_, rfl, ?_⟩
  repeat' first
    | with_reducible exact .rfl'
    | with_reducible assumption
    | with_reducible apply State.chkFeed_kept
    | with_reducible apply State.cmdReg_kept
    | intro _

theorem execChkClr_kept (t : Nat) (m : Nat) (units : Fin 65536) (s : State) : ∃ s₁, execChkClr t m units s = .next s₁ ∧ State.Kept (s.advance t) s₁ := by
  refine ⟨_, rfl, ?_⟩
  exact State.cmdReg_kept .rfl' m _ _ (fun x (h : State.Kept (s.advance t) x) => (State.chkClear_kept h units))

theorem execChkTimeout_kept (t : Nat) (u : Fin 16) (s : State) : ∃ s₁, execChkTimeout t u s = .next s₁ ∧ State.Kept (s.advance t) s₁ := by
  refine ⟨_, rfl, ?_⟩
  exact State.chkTimeout_kept .rfl' ..

theorem execModeRequest_kept (t : Nat) (m : Nat) (mode : Fin 16) (s : State) : ∃ s₁, execModeRequest t m mode s = .next s₁ ∧ State.Kept (s.advance t) s₁ := by
  refine ⟨_, rfl, ?_⟩
  repeat' first
    | with_reducible exact .rfl'
    | with_reducible assumption
    | with_reducible apply State.cmdReg_kept
    | with_reducible apply State.sysWrite_kept
    | intro _

theorem execModeSwitch_kept (t : Nat) (s : State) : ∃ s₁, execModeSwitch t  s = .next s₁ ∧ State.Kept (s.advance t) s₁ := by
  refine ⟨_, rfl, ?_⟩
  exact State.modeSwitch_kept .rfl' ..

theorem execModeChangeDone_kept (t : Nat) (s : State) : ∃ s₁, execModeChangeDone t  s = .next s₁ ∧ State.Kept (s.advance t) s₁ := by
  refine ⟨_, rfl, ?_⟩
  exact State.modeSettle_kept .rfl' ..

theorem execSafeNAssert_kept (t : Nat) (s : State) : ∃ s₁, execSafeNAssert t  s = .next s₁ ∧ State.Kept (s.advance t) s₁ := by
  refine ⟨_, rfl, ?_⟩
  exact State.safeAssert_kept .rfl' ..

theorem execSafeNRelease_kept (t : Nat) (s : State) : ∃ s₁, execSafeNRelease t  s = .next s₁ ∧ State.Kept (s.advance t) s₁ := by
  refine ⟨_, rfl, ?_⟩
  exact State.safeRelease_kept .rfl' ..

theorem execHostLinkAttach_kept (t : Nat) (s : State) : ∃ s₁, execHostLinkAttach t  s = .next s₁ ∧ State.Kept (s.advance t) s₁ := by
  refine ⟨_, rfl, ?_⟩
  exact State.hostAttach_kept .rfl' ..

theorem execXtal32Fail_kept (t : Nat) (s : State) : ∃ s₁, execXtal32Fail t  s = .next s₁ ∧ State.Kept (s.advance t) s₁ := by
  refine ⟨_, rfl, ?_⟩
  exact State.xtal32Fail_kept .rfl' ..

theorem execXtal25Fail_kept (t : Nat) (s : State) : ∃ s₁, execXtal25Fail t  s = .next s₁ ∧ State.Kept (s.advance t) s₁ := by
  refine ⟨_, rfl, ?_⟩
  exact State.xtal25Fail_kept .rfl' ..

theorem execRefLost_kept (t : Nat) (s : State) : ∃ s₁, execRefLost t  s = .next s₁ ∧ State.Kept (s.advance t) s₁ := by
  refine ⟨_, rfl, ?_⟩
  exact State.refLost_kept .rfl' ..

theorem execRef10Restore_kept (t : Nat) (s : State) : ∃ s₁, execRef10Restore t  s = .next s₁ ∧ State.Kept (s.advance t) s₁ := by
  refine ⟨_, rfl, ?_⟩
  exact State.refRestore_kept .rfl' ..

theorem execPllStop_kept (t : Nat) (s : State) : ∃ s₁, execPllStop t  s = .next s₁ ∧ State.Kept (s.advance t) s₁ := by
  refine ⟨_, rfl, ?_⟩
  exact State.pllStop_kept .rfl' ..

theorem execCc91Gate_kept (t : Nat) (s : State) : ∃ s₁, execCc91Gate t  s = .next s₁ ∧ State.Kept (s.advance t) s₁ := by
  refine ⟨_, rfl, ?_⟩
  exact State.cc91Gate_kept .rfl' ..

theorem execDapChallenge_kept (t : Nat) (s : State) : ∃ s₁, execDapChallenge t  s = .next s₁ ∧ State.Kept (s.advance t) s₁ := by
  refine ⟨_, rfl, ?_⟩
  repeat' first
    | with_reducible exact .rfl'
    | with_reducible assumption
    | with_reducible apply State.dapChallenge_kept
    | with_reducible apply State.dapRun_kept
    | intro _

theorem execDapOut_kept (t : Nat) (s : State) : ∃ s₁, execDapOut t  s = .next s₁ ∧ State.Kept (s.advance t) s₁ := by
  refine ⟨_, rfl, ?_⟩
  repeat' first
    | with_reducible exact .rfl'
    | with_reducible assumption
    | with_reducible apply State.dapOutWord_kept
    | with_reducible apply State.dapRun_kept
    | intro _

theorem execDapIn_kept (t : Nat) (v : Word) (s : State) : ∃ s₁, execDapIn t v s = .next s₁ ∧ State.Kept (s.advance t) s₁ := by
  refine ⟨_, rfl, ?_⟩
  exact State.dapRun_kept .rfl' _ (fun x (h : State.Kept (s.advance t) x) => (State.dapInWord_kept h v))

/-- A debug request keeps all but the debug level. -/
theorem execDapSubmit_base (t : Nat) (s : State) : ∃ s₁, execDapSubmit t s = .next s₁ ∧ State.Base (s.advance t) s₁ := by
  refine ⟨_, rfl, ?_⟩
  unfold State.dapRun
  split
  · exact State.dapSubmit_base _
  · exact State.Kept.rfl'.base

theorem execDapStatus_kept (t : Nat) (s : State) : ∃ s₁, execDapStatus t  s = .next s₁ ∧ State.Kept (s.advance t) s₁ := by
  refine ⟨_, rfl, ?_⟩
  repeat' first
    | with_reducible exact .rfl'
    | with_reducible assumption
    | with_reducible apply State.dapRun_kept
    | with_reducible apply State.dapStatus_kept
    | intro _

theorem execDapLower_kept (t : Nat) (l : Fin 4) (s : State) : ∃ s₁, execDapLower t l s = .next s₁ ∧ State.Kept (s.advance t) s₁ := by
  refine ⟨_, rfl, ?_⟩
  exact State.dapRun_kept .rfl' _ (fun x (h : State.Kept (s.advance t) x) => (State.dapLower_kept h l))

theorem execDapAddrLo_kept (t : Nat) (v : Word) (s : State) : ∃ s₁, execDapAddrLo t v s = .next s₁ ∧ State.Kept (s.advance t) s₁ := by
  refine ⟨_, rfl, ?_⟩
  exact State.dapRun_kept .rfl' _ (fun x (h : State.Kept (s.advance t) x) => (State.dapAddrLo_kept h v))

theorem execDapAddrHi_kept (t : Nat) (v : Word) (s : State) : ∃ s₁, execDapAddrHi t v s = .next s₁ ∧ State.Kept (s.advance t) s₁ := by
  refine ⟨_, rfl, ?_⟩
  exact State.dapRun_kept .rfl' _ (fun x (h : State.Kept (s.advance t) x) => (State.dapAddrHi_kept h v))

theorem execDapRead_kept (t : Nat) (host : List Byte) (s : State) : ∃ s₁, execDapRead t host s = .next s₁ ∧ State.Kept (s.advance t) s₁ := by
  refine ⟨_, rfl, ?_⟩
  exact State.dapRun_kept .rfl' _ (fun x (h : State.Kept (s.advance t) x) => (State.dapMem_kept h 0 host))

theorem execDapWrite_kept (t : Nat) (v : Word) (s : State) : ∃ s₁, execDapWrite t v s = .next s₁ ∧ State.Kept (s.advance t) s₁ := by
  refine ⟨_, rfl, ?_⟩
  exact State.dapRun_kept .rfl' _ (fun x (h : State.Kept (s.advance t) x) => (State.dapMem_kept h 1 (leBytes 4 v.toNat)))

theorem execDapHalt_kept (t : Nat) (l : Fin 128) (checks : Bool) (s : State) : ∃ s₁, execDapHalt t l checks s = .next s₁ ∧ State.Kept (s.advance t) s₁ := by
  refine ⟨_, rfl, ?_⟩
  exact State.dapRun_kept .rfl' _ (fun x (h : State.Kept (s.advance t) x) => (State.dapHalt_kept h l checks))

theorem execDapStep_kept (t : Nat) (l : Fin 128) (s : State) : ∃ s₁, execDapStep t l s = .next s₁ ∧ State.Kept (s.advance t) s₁ := by
  refine ⟨_, rfl, ?_⟩
  exact State.dapRun_kept .rfl' _ (fun x (h : State.Kept (s.advance t) x) => (State.dapStep_kept h l))

theorem execDapResume_kept (t : Nat) (l : Fin 128) (s : State) : ∃ s₁, execDapResume t l s = .next s₁ ∧ State.Kept (s.advance t) s₁ := by
  refine ⟨_, rfl, ?_⟩
  exact State.dapRun_kept .rfl' _ (fun x (h : State.Kept (s.advance t) x) => (State.dapResume_kept h l))

theorem execChallengeExpiry_kept (t : Nat) (s : State) : ∃ s₁, execChallengeExpiry t  s = .next s₁ ∧ State.Kept (s.advance t) s₁ := by
  refine ⟨_, rfl, ?_⟩
  exact State.chalExpiry_kept .rfl' ..

theorem execDebugLockoutEnd_kept (t : Nat) (s : State) : ∃ s₁, execDebugLockoutEnd t  s = .next s₁ ∧ State.Kept (s.advance t) s₁ := by
  refine ⟨_, rfl, ?_⟩
  exact State.lockoutEnd_kept .rfl' ..

theorem execExtest_kept (t : Nat) (pins shift : Nat) (s : State) : ∃ s₁, execExtest t pins shift s = .next s₁ ∧ State.Kept (s.advance t) s₁ := by
  refine ⟨_, rfl, ?_⟩
  exact State.tapScan_kept .rfl' ..

theorem execSamplePreload_kept (t : Nat) (pins shift : Nat) (s : State) : ∃ s₁, execSamplePreload t pins shift s = .next s₁ ∧ State.Kept (s.advance t) s₁ := by
  refine ⟨_, rfl, ?_⟩
  exact State.tapScan_kept .rfl' ..

theorem execIdcode_kept (t : Nat) (s : State) : ∃ s₁, execIdcode t  s = .next s₁ ∧ State.Kept (s.advance t) s₁ := by
  refine ⟨_, rfl, ?_⟩
  exact State.tapSelect_kept .rfl' ..

theorem execClamp_kept (t : Nat) (s : State) : ∃ s₁, execClamp t  s = .next s₁ ∧ State.Kept (s.advance t) s₁ := by
  refine ⟨_, rfl, ?_⟩
  repeat' first
    | with_reducible exact .rfl'
    | with_reducible assumption
    | with_reducible apply State.tapForce_kept
    | with_reducible apply State.tapSelect_kept

theorem execHighz_kept (t : Nat) (s : State) : ∃ s₁, execHighz t  s = .next s₁ ∧ State.Kept (s.advance t) s₁ := by
  refine ⟨_, rfl, ?_⟩
  repeat' first
    | with_reducible exact .rfl'
    | with_reducible assumption
    | with_reducible apply State.tapForce_kept
    | with_reducible apply State.tapSelect_kept

theorem execDapSelect_kept (t : Nat) (s : State) : ∃ s₁, execDapSelect t  s = .next s₁ ∧ State.Kept (s.advance t) s₁ := by
  refine ⟨_, rfl, ?_⟩
  exact State.tapSelect_kept .rfl' ..

theorem execLcAdvance_kept (t : Nat) (target : Fin 4) (s : State) : ∃ s₁, execLcAdvance t target s = .next s₁ ∧ State.Kept (s.advance t) s₁ := by
  refine ⟨_, rfl, ?_⟩
  exact State.lcAdvance_kept .rfl' ..

theorem execBypass_kept (t : Nat) (s : State) : ∃ s₁, execBypass t  s = .next s₁ ∧ State.Kept (s.advance t) s₁ := by
  refine ⟨_, rfl, ?_⟩
  exact State.tapSelect_kept .rfl' ..

theorem execTapReset_kept (t : Nat) (trst : Bool) (s : State) : ∃ s₁, execTapReset t trst s = .next s₁ ∧ State.Kept (s.advance t) s₁ := by
  refine ⟨_, rfl, ?_⟩
  exact State.tapReset_kept .rfl' ..

theorem execFabricAccess_kept (t : Nat) (x : FabAcc) (s : State) : ∃ s₁, execFabricAccess t x s = .next s₁ ∧ State.Kept (s.advance t) s₁ := by
  refine ⟨_, rfl, ?_⟩
  exact State.fabricAccess_kept .rfl' ..

theorem execLegacySlotEnable_kept (t : Nat) (m : Nat) (k : Fin 16) (v : Word) (s : State) : ∃ s₁, execLegacySlotEnable t m k v s = .next s₁ ∧ State.Kept (s.advance t) s₁ := by
  refine ⟨_, rfl, ?_⟩
  exact State.cmdReg_kept .rfl' m _ _ (fun x (h : State.Kept (s.advance t) x) => (State.slotCtl_kept h k v))

theorem execCardClr_kept (t : Nat) (m : Nat) (k : Fin 16) (s : State) : ∃ s₁, execCardClr t m k s = .next s₁ ∧ State.Kept (s.advance t) s₁ := by
  refine ⟨_, rfl, ?_⟩
  exact State.cmdReg_kept .rfl' m _ _ (fun x (h : State.Kept (s.advance t) x) => (State.cardClr_kept h k))

theorem execLgcStart_kept (t : Nat) (m : Nat) (k : Fin 16) (c : Fin 4) (s : State) : ∃ s₁, execLgcStart t m k c s = .next s₁ ∧ State.Kept (s.advance t) s₁ := by
  refine ⟨_, rfl, ?_⟩
  exact State.cmdReg_kept .rfl' m _ _ (fun x (h : State.Kept (s.advance t) x) => (State.ctxStart_kept h k c))

theorem execLgcStop_kept (t : Nat) (m : Nat) (k : Fin 16) (c : Fin 4) (s : State) : ∃ s₁, execLgcStop t m k c s = .next s₁ ∧ State.Kept (s.advance t) s₁ := by
  refine ⟨_, rfl, ?_⟩
  exact State.cmdReg_kept .rfl' m _ _ (fun x (h : State.Kept (s.advance t) x) => (State.ctxStop_kept h k c))

theorem execTlbInvAll_kept (t : Nat) (m : Nat) (k : Fin 16) (s : State) : ∃ s₁, execTlbInvAll t m k s = .next s₁ ∧ State.Kept (s.advance t) s₁ := by
  refine ⟨_, rfl, ?_⟩
  exact State.cmdReg_kept .rfl' m _ _ (fun x (h : State.Kept (s.advance t) x) => (State.tlbInvAll_kept h k))

theorem execTlbInvVa_kept (t : Nat) (m : Nat) (k : Fin 16) (asid : Fin 256) (s : State) : ∃ s₁, execTlbInvVa t m k asid s = .next s₁ ∧ State.Kept (s.advance t) s₁ := by
  refine ⟨_, rfl, ?_⟩
  exact State.cmdReg_kept .rfl' m _ _ (fun x (h : State.Kept (s.advance t) x) => (State.tlbInvVa_kept h k asid))

theorem execFltResume_kept (t : Nat) (m : Nat) (k : Fin 16) (n : Fin 8) (s : State) : ∃ s₁, execFltResume t m k n s = .next s₁ ∧ State.Kept (s.advance t) s₁ := by
  refine ⟨_, rfl, ?_⟩
  exact State.cmdReg_kept .rfl' m _ _ (fun x (h : State.Kept (s.advance t) x) => (State.fltResume_kept h k n))

theorem execFltAbort_kept (t : Nat) (m : Nat) (k : Fin 16) (n : Fin 8) (s : State) : ∃ s₁, execFltAbort t m k n s = .next s₁ ∧ State.Kept (s.advance t) s₁ := by
  refine ⟨_, rfl, ?_⟩
  exact State.cmdReg_kept .rfl' m _ _ (fun x (h : State.Kept (s.advance t) x) => (State.fltAbort_kept h k n))

theorem execQuantumExpiry_kept (t : Nat) (k : Fin 16) (s : State) : ∃ s₁, execQuantumExpiry t k s = .next s₁ ∧ State.Kept (s.advance t) s₁ := by
  refine ⟨_, rfl, ?_⟩
  exact State.quantumEnd_kept .rfl' ..

theorem execLgcRead_kept (t : Nat) (r : Fin 256) (e : List Byte) (s : State) : ∃ s₁, execLgcRead t r e s = .next s₁ ∧ State.Kept (s.advance t) s₁ := by
  refine ⟨_, rfl, ?_⟩
  exact State.submit_kept .rfl' r e _ _ (fun x c (h : State.Kept (s.advance t) x) => (State.lgcRead_kept h c))

theorem execLgcWrite_kept (t : Nat) (r : Fin 256) (e : List Byte) (data : List Byte) (s : State) : ∃ s₁, execLgcWrite t r e data s = .next s₁ ∧ State.Kept (s.advance t) s₁ := by
  refine ⟨_, rfl, ?_⟩
  exact State.submit_kept .rfl' r e _ _ (fun x c (h : State.Kept (s.advance t) x) => (State.lgcWrite_kept h c data))

theorem execEngineWatchdog_kept (t : Nat) (l : Fin 96) (work : Option Nat) (late again : Bool) (s : State) : ∃ s₁, execEngineWatchdog t l work late again s = .next s₁ ∧ State.Kept (s.advance t) s₁ := by
  refine ⟨_, rfl, ?_⟩
  exact State.engineWatchdog_kept .rfl' ..

theorem execEngineParityError_kept (t : Nat) (l : Fin 96) (uncorr : Bool) (work : Option Nat) (late again : Bool) (s : State) : ∃ s₁, execEngineParityError t l uncorr work late again s = .next s₁ ∧ State.Kept (s.advance t) s₁ := by
  refine ⟨_, rfl, ?_⟩
  exact State.engineParity_kept .rfl' ..

theorem execSubstituteReady_kept (t : Nat) (l : Fin 96) (s : State) : ∃ s₁, execSubstituteReady t l s = .next s₁ ∧ State.Kept (s.advance t) s₁ := by
  refine ⟨_, rfl, ?_⟩
  exact State.substReady_kept .rfl' ..

theorem execSubstitutionMove_kept (t : Nat) (l : Fin 96) (steps ports : Nat) (s : State) : ∃ s₁, execSubstitutionMove t l steps ports s = .next s₁ ∧ State.Kept (s.advance t) s₁ := by
  refine ⟨_, rfl, ?_⟩
  exact State.substMove_kept .rfl' ..

theorem execEngineSelftestDone_kept (t : Nat) (eng : Fin 105) (st : Nat) (s : State) : ∃ s₁, execEngineSelftestDone t eng st s = .next s₁ ∧ State.Kept (s.advance t) s₁ := by
  refine ⟨_, rfl, ?_⟩
  exact State.selftestDone_kept .rfl' ..

theorem execBenchSubstitute_kept (t : Nat) (m : Nat) (l : Fin 128) (s : State) : ∃ s₁, execBenchSubstitute t m l s = .next s₁ ∧ State.Kept (s.advance t) s₁ := by
  refine ⟨_, rfl, ?_⟩
  exact State.cmdReg_kept .rfl' m _ _ (fun x (h : State.Kept (s.advance t) x) => (State.benchSubstitute_kept h l))

theorem execBenchSelftest_kept (t : Nat) (m : Nat) (s : State) : ∃ s₁, execBenchSelftest t m s = .next s₁ ∧ State.Kept (s.advance t) s₁ := by
  refine ⟨_, rfl, ?_⟩
  repeat' first
    | with_reducible exact .rfl'
    | with_reducible assumption
    | with_reducible apply State.benchSelftest_kept
    | with_reducible apply State.cmdReg_kept
    | intro _

theorem execLegSubstitution_kept (t : Nat) (p : Fin 4) (c : Fin 3) (s : State) : ∃ s₁, execLegSubstitution t p c s = .next s₁ ∧ State.Kept (s.advance t) s₁ := by
  refine ⟨_, rfl, ?_⟩
  exact State.legSubst_kept .rfl' ..

theorem execSliceCheck_kept (t : Nat) (die : Fin 2) (i : Nat) (mismatch : Bool) (s : State) : ∃ s₁, execSliceCheck t die i mismatch s = .next s₁ ∧ State.Kept (s.advance t) s₁ := by
  refine ⟨_, rfl, ?_⟩
  exact State.sliceCheck_kept .rfl' ..

theorem execSliceSubstitution_kept (t : Nat) (die : Fin 2) (s : State) : ∃ s₁, execSliceSubstitution t die s = .next s₁ ∧ State.Kept (s.advance t) s₁ := by
  refine ⟨_, rfl, ?_⟩
  exact State.sliceSubst_kept .rfl' ..

theorem execD2dRetrain_kept (t : Nat) (n : Fin 5) (ok : Bool) (s : State) : ∃ s₁, execD2dRetrain t n ok s = .next s₁ ∧ State.Kept (s.advance t) s₁ := by
  refine ⟨_, rfl, ?_⟩
  exact State.d2dRetrain_kept .rfl' ..

theorem execScrubPass_kept (t : Nat) (found : ScrubFound) (s : State) : ∃ s₁, execScrubPass t found s = .next s₁ ∧ State.Kept (s.advance t) s₁ := by
  refine ⟨_, rfl, ?_⟩
  exact State.scrubPass_kept .rfl' ..

theorem execAgeingHourly_kept (t : Nat) (ro em : List Nat) (s : State) : ∃ s₁, execAgeingHourly t ro em s = .next s₁ ∧ State.Kept (s.advance t) s₁ := by
  refine ⟨_, rfl, ?_⟩
  exact State.ageingHourly_kept .rfl' ..

theorem execLifeMinute_kept (t : Nat) (s : State) : ∃ s₁, execLifeMinute t  s = .next s₁ ∧ State.Kept (s.advance t) s₁ := by
  refine ⟨_, rfl, ?_⟩
  exact State.lifeMinute_kept .rfl' ..

theorem execAgeingDaily_kept (t : Nat) (s : State) : ∃ s₁, execAgeingDaily t  s = .next s₁ ∧ State.Kept (s.advance t) s₁ := by
  refine ⟨_, rfl, ?_⟩
  exact State.ageingDaily_kept .rfl' ..

theorem execAcceleratorRequestDone_kept (t : Nat) (kind : Fin 3) (u : Nat) (ok : Bool) (arrived : List AccReq) (s : State) : ∃ s₁, execAcceleratorRequestDone t kind u ok arrived s = .next s₁ ∧ State.Kept (s.advance t) s₁ := by
  refine ⟨_, rfl, ?_⟩
  exact State.accDone_kept .rfl' ..

theorem execTestSram_kept (t : Nat) (m : Nat) (s : State) : ∃ s₁, execTestSram t m s = .next s₁ ∧ State.Kept (s.advance t) s₁ := by
  refine ⟨_, rfl, ?_⟩
  exact State.cmdReg_kept .rfl' m _ _ (fun x (h : State.Kept (s.advance t) x) => (State.testStart_kept h 1 0 0))

theorem execTestD2d_kept (t : Nat) (m : Nat) (p : Fin 4) (s : State) : ∃ s₁, execTestD2d t m p s = .next s₁ ∧ State.Kept (s.advance t) s₁ := by
  refine ⟨_, rfl, ?_⟩
  exact State.cmdReg_kept .rfl' m _ _ (fun x (h : State.Kept (s.advance t) x) => (State.testStart_kept h 2 p 0))

theorem execTestLoop_kept (t : Nat) (m : Nat) (p : Fin 4) (c : Fin 3) (s : State) : ∃ s₁, execTestLoop t m p c s = .next s₁ ∧ State.Kept (s.advance t) s₁ := by
  refine ⟨_, rfl, ?_⟩
  exact State.cmdReg_kept .rfl' m _ _ (fun x (h : State.Kept (s.advance t) x) => (State.testStart_kept h 3 p c))

theorem execTestAesKat_kept (t : Nat) (m : Nat) (s : State) : ∃ s₁, execTestAesKat t m s = .next s₁ ∧ State.Kept (s.advance t) s₁ := by
  refine ⟨_, rfl, ?_⟩
  exact State.cmdReg_kept .rfl' m _ _ (fun x (h : State.Kept (s.advance t) x) => (State.testStart_kept h 4 0 0))

theorem execTestTrng_kept (t : Nat) (m : Nat) (s : State) : ∃ s₁, execTestTrng t m s = .next s₁ ∧ State.Kept (s.advance t) s₁ := by
  refine ⟨_, rfl, ?_⟩
  exact State.cmdReg_kept .rfl' m _ _ (fun x (h : State.Kept (s.advance t) x) => (State.testStart_kept h 5 0 0))

theorem execTestDone_kept (t : Nat) (found : TestOut) (s : State) : ∃ s₁, execTestDone t found s = .next s₁ ∧ State.Kept (s.advance t) s₁ := by
  refine ⟨_, rfl, ?_⟩
  exact State.testDone_kept .rfl' ..

theorem execAtbSelect_kept (t : Nat) (m : Nat) (bus : Fin 4) (v : Word) (s : State) : ∃ s₁, execAtbSelect t m bus v s = .next s₁ ∧ State.Kept (s.advance t) s₁ := by
  refine ⟨_, rfl, ?_⟩
  exact State.cmdReg_kept .rfl' m _ _ (fun x (h : State.Kept (s.advance t) x) => (State.atbSelect_kept h bus v (m == 0x380)))

theorem execPowerOnReset_kept (t : Nat) (straps : Fin 8) (s : State) : ∃ s₁, execPowerOnReset t straps s = .next s₁ ∧ State.Kept (s.advance t) s₁ := by
  refine ⟨_, rfl, ?_⟩
  exact State.powerOnReset_kept .rfl' ..

theorem execAonMonitorReset_kept (t : Nat) (straps : Fin 8) (s : State) : ∃ s₁, execAonMonitorReset t straps s = .next s₁ ∧ State.Kept (s.advance t) s₁ := by
  refine ⟨_, rfl, ?_⟩
  exact State.powerOnReset_kept .rfl' ..

theorem execDeviceReset_kept (t : Nat) (s : State) : ∃ s₁, execDeviceReset t  s = .next s₁ ∧ State.Kept (s.advance t) s₁ := by
  refine ⟨_, rfl, ?_⟩
  exact State.deviceReset_kept .rfl' ..

theorem execCoreRailReset_kept (t : Nat) (s : State) : ∃ s₁, execCoreRailReset t  s = .next s₁ ∧ State.Kept (s.advance t) s₁ := by
  refine ⟨_, rfl, ?_⟩
  exact State.deviceReset_kept .rfl' ..

theorem execRstReq_kept (t : Nat) (m : Nat) (s : State) : ∃ s₁, execRstReq t m s = .next s₁ ∧ State.Kept (s.advance t) s₁ := by
  refine ⟨_, rfl, ?_⟩
  exact State.cmdReg_kept .rfl' m _ _ (fun x (h : State.Kept (s.advance t) x) => (State.sysWrite_kept h 0x050 1))

theorem execBootComplete_kept (t : Nat) (drives : List DriveFound) (banks : Nat) (s : State) : ∃ s₁, execBootComplete t drives banks s = .next s₁ ∧ State.Kept (s.advance t) s₁ := by
  refine ⟨_, rfl, ?_⟩
  exact State.bootComplete_kept .rfl' ..

end Sys2Proof.Machine
end

