-- ==== Sys2Proof/Tests/Slice0.lean ====
section
/-! SUPPORT. Tests on small states: terms that WellFormed refuses, values that the spec's own tables and examples give, and, for every statement with hypotheses, operands and a state that meet them. -/

-- One declaration after another: the package is compiled as one text, and its memory stays within bounds.
set_option Elab.async false

namespace Sys2Proof.Tests

open Sys2Proof Sys2Proof.Machine

/-! ## WellFormed: what it takes, and one ill-formed term for each check -/

/-- A transmit descriptor in form. -/
def txGood : TxDesc := { kind := .beacon, bb := false, cset := 1, nss := 1, mode := 1, mu := none, bandC := [] }

/-- A word stored by engine 5 in shared SRAM. -/
def accGood : FabAcc :=
  { m := 5, issuer := 5, ctx := none, acc := 1, addr := 0x10000000, data := [1, 2, 3, 4], len := 0, slot := none, shadow := false, prog := (0, 0), carried := [], dl := false }

/-- A drive on port 1. -/
def driveGood : DriveFound := { port := 1, identify := true, label := some (true, 2, 1), extents := 0, speed := 4, width := 4 }

theorem test_wf_takes : (Instr.registerWrite 0 0x300 0 false 0x100 []).wellFormed = true ∧ (Instr.txStart 0 0 txGood).wellFormed = true ∧
    (Instr.fabricAccess 0 accGood).wellFormed = true ∧ (Instr.driveAttach 0 driveGood).wellFormed = true ∧
    (Instr.nop 0 0 (List.replicate 64 0)).wellFormed = true ∧ (Instr.creditRequest 0 0x23FFFF 1).wellFormed = true := by decide +kernel

theorem test_wf_refuses_master : (Instr.snap 0 96).wellFormed = false := by decide +kernel
theorem test_wf_refuses_page : (Instr.bankCopyDone 0 16384).wellFormed = false := by decide +kernel
theorem test_wf_refuses_register_address : (Instr.registerWrite 0 5 0 false 0x4000000 []).wellFormed = false := by decide +kernel
theorem test_wf_refuses_message_address : (Instr.registerWrite 0 5 0 true 0x10000000 []).wellFormed = false := by decide +kernel
theorem test_wf_refuses_conductor_set : (Instr.txStart 0 0 { txGood with cset := 8 }).wellFormed = false := by decide +kernel
theorem test_wf_refuses_streams : (Instr.txStart 0 0 { txGood with nss := 4 }).wellFormed = false := by decide +kernel
theorem test_wf_refuses_robust_mode : (Instr.txStart 0 0 { txGood with mode := 4 }).wellFormed = false := by decide +kernel
theorem test_wf_refuses_subchannel : (Instr.txStart 0 0 { txGood with mu := some 19 }).wellFormed = false := by decide +kernel
theorem test_wf_refuses_access_master : (Instr.fabricAccess 0 { accGood with m := 0x140 }).wellFormed = false := by decide +kernel
theorem test_wf_refuses_access_issuer : (Instr.fabricAccess 0 { accGood with issuer := 0x212 }).wellFormed = false := by decide +kernel
theorem test_wf_refuses_access_kind : (Instr.fabricAccess 0 { accGood with acc := 3 }).wellFormed = false := by decide +kernel
theorem test_wf_refuses_access_address : (Instr.fabricAccess 0 { accGood with addr := 2 ^ 48 }).wellFormed = false := by decide +kernel
theorem test_wf_refuses_drive_port : (Instr.driveAttach 0 { driveGood with port := 2 }).wellFormed = false := by decide +kernel
theorem test_wf_refuses_boot_drive : (Instr.bootComplete 0 [driveGood, { driveGood with port := 2 }] 0).wellFormed = false := by decide +kernel
theorem test_wf_refuses_peer : (Instr.mapChangeApply 0 0x100000 0 false 0 true).wellFormed = false := by decide +kernel
theorem test_wf_refuses_entry_length : (Instr.nop 0 0 (List.replicate 63 0)).wellFormed = false := by decide +kernel
theorem test_wf_refuses_bulk_entry : (Instr.bulkSubmit 0 0 0 [List.replicate 65 0]).wellFormed = false := by decide +kernel
theorem test_wf_refuses_queue : (Instr.release 0 0x400000).wellFormed = false := by decide +kernel
theorem test_wf_refuses_bulk_address : (Instr.regRd 0 0x4000000 4).wellFormed = false := by decide +kernel
theorem test_wf_refuses_maint_offset : (Instr.maintRegRead 0 0 0 4096).wellFormed = false := by decide +kernel
theorem test_wf_refuses_boundary_scan : (Instr.extest 0 (2 ^ 158) 0).wellFormed = false := by decide +kernel
theorem test_wf_refuses_selftest : (Instr.engineSelftestDone 0 0 256).wellFormed = false := by decide +kernel

/-! ## Values of the spec's own tables and examples -/

/-- The bytes of "123456789". -/
def digits : List Byte := [0x31, 0x32, 0x33, 0x34, 0x35, 0x36, 0x37, 0x38, 0x39]

/-- R477: the CRC of "123456789" by POLY; POLY 3 is the CRC of R237. -/
theorem test_crc_check_values : (List.range 4).map (fun p => chkFinal p (digits.foldl (chkByte p) (chkInit p))) = [0xF4, 0xD64E, 0xCBF43926, 0xE3069283] ∧
    crc32c digits = 0xE3069283 := by decide +kernel

/-- Notation of chapter 00: LT 0x0000_1A2B_4000_0000 lies in slice 12, which runs from phase 0x4000_0000 to 0x4555_5555. -/
theorem test_slice_of_phase : sliceOf 0x40000000 = 12 ∧ sliceOf 0x45555555 = 12 ∧ sliceOf 0x45555556 = 13 := by decide

/-- R209: a CEN-A beacon in ROBUST-4 has 46 symbols and fills 112 slices. -/
theorem test_beacon_length : beaconLen 1 1 = (46, 112) := by decide

/-- R138: CEN-A has three uplink subchannels; tones 2 to 60. -/
theorem test_band_plan : (bandPlan 1).map (fun b => (b.first, b.n, b.sub)) = some (2, 59, 3) := by decide

/-- R216: the fields of a schedule entry lie where the table puts them. -/
def schedExample : SlotEntry := SlotEntry.ofBytes [0xD0, 0x00, 0x10, 0x20, 0x21, 0x05, 0x45, 0x23, 0x01, 0x78, 0x56, 0x04, 0x09, 0x0A, 0x03, 0x07]
theorem test_slot_entry : schedExample = { start := 0xD0, len := 0x010, kind := 2, cond := 1, cset := 0, valid := true, subch := 5, peer := 0x12345, peer2 := 0x45678, mapId := 9, nsym := 10, repExp := 3, ph := 7 } := by decide +kernel

/-- R79: a fixture's bytes spell it again, but for the fields a WRITE clears. -/
theorem test_fixture_bytes : (let f : Fixture := { lt := 0x1122334455667788, target := 0x31, action := 1, flags := 5, arg0 := 0x1234, arg1 := 0x5678, period := 2, count := 3, pwEng := 0xFFFF }
    Fixture.ofBytes f.bytes = f ∧ f.bytes.length = 32) := by decide +kernel

/-- R72: a line time 2^63 - 1 units ahead lies in the future, one 2^63 ahead and the present do not. -/
theorem test_line_time_future : ltFuture (2 ^ 63 - 1) 0 = true ∧ ltFuture (2 ^ 63) 0 = false ∧ ltFuture 7 7 = false ∧ ltFuture 0 (2 ^ 64 - 1) = true := by decide

/-- R10, R35, R68: at 50 Hz one cycle is 30,000,000 fast-clock edges. -/
theorem test_cycle_edges : phaseIn (50 * 65536) 0 30000000 = 2 ^ 32 := by decide +kernel

/-- R53: the group control word of the worked example names AT_LINE_TIME, and the bank word group 5 enabled. -/
theorem test_bank_example : fld 0x00000004 0 3 = 4 ∧ fld 0x00000015 0 4 = 5 ∧ bit 0x00000015 4 = true := by decide

/-- R327: ALIVE 255 is followed by 1. -/
theorem test_alive_wraps : nextAlive 255 = 1 ∧ nextAlive 1 = 2 ∧ phaseOf 8 0 = 1 ∧ phaseOf 8 256 = 0 := by decide

/-- R302: an item of 112 bytes takes one cell, one of 113 two; a line is 64 bytes (R313). -/
theorem test_cells : cellsOf 112 = 1 ∧ cellsOf 113 = 2 ∧ linesOf 64 = 1 ∧ linesOf 65 = 2 := by decide

/-- R145: the CEN-A and FCC rows (BPSK 1/2, 256-QAM 5/6, ROBUST-12), cut to the last digit given. -/
theorem test_narrowband_rates : ((bandPlan 1).map (fun b => (nbRate4 b 1 0 / 40, nbRate4 b 8 2 / 400, nbRobustRate b 3 / 10))) = some (3625, 4776, 299) ∧
    ((bandPlan 5).map (fun b => (nbRate4 b 1 0 / 400, nbRate4 b 8 2 / 400, nbRobustRate b 3 / 10))) = some (1890, 24901, 1572) := by decide

/-- R171: one stream at 256-QAM 5/6 and three at 4096-QAM 7/8, in whole units of 10 kbit/s. -/
theorem test_broadband_rates : bbRate 1 8 2 / 10000 = 43007 ∧ bbRate 3 12 3 / 10000 = 190832 := by decide

/-- R484: the rails of LISTEN and of FIELD sum to 2.8 W and 36.0 W. -/
theorem test_typical_power : (typicalPower 3).foldl (· + ·) 0 = 2800 ∧ (typicalPower 4).foldl (· + ·) 0 = 36000 := by decide

/-- R122: the preamble of CEN-A has 15 tones, of CEN-C two; R126: 185 bits follow from 64 header bits. -/
theorem test_preamble_tones : (nbPreamble 2 59).length = 15 ∧ nbPreamble 81 9 = [(84, 0), (88, 1)] ∧ 732 - (nbK 2 - 64) = 185 := by decide +kernel

/-! ## States the witnesses use -/

/-- The machine in mode 10 (SERVICE) with port 0 ACTIVE in PCIe mode and the host PRESENT. -/
def hosted : State := ((State.reset.wf Reg.SYS_MODE_STAT 0 4 10).wr (Reg.HL_HL_STAT 0) 0x11).wf Reg.HFN_HOST_STAT 0 2 1

/-- What `passes` asks of a master other than the host, in a form that evaluates. -/
theorem passes_of {s : State} {m a : Nat} (hm : m ≠ 0x300)
    (h : (! (s.mst m).card && (s.writeCheck m a).isNone && allocated (a / 0x1000) && ! (s.page (a / 0x1000)).srst) = true) : s.passes m a := by
  simp only [Bool.and_eq_true, Bool.not_eq_true', Option.isNone_iff_eq_none] at h
  have e := served_of_ne (s := s) hm
  exact ⟨⟨fun e => absurd e hm, by rw [e]; exact h.1.1.1, by rw [e]; exact h.1.1.2⟩, h.1.2, by rw [e]; exact h.2⟩

/-- The host reaches the control register of the tracker. -/
theorem hosted_passes : (hosted.advance 1).passes 0x300 0x3040 := ⟨⟨fun _ => by decide +kernel, by decide +kernel, by decide +kernel⟩, by decide, by decide +kernel⟩

/-- Pages the command writes go to are allocated (R38). -/
theorem witness_pages : ([0x000, 0x003, 0x004, 0x005, 0x008, 0x00A, 0x00C, 0x00D, 0x011, 0x01A, 0x01F, 0x021, 0x028, 0x029, 0x02A, 0x02B, 0x02C,
    0x071, 0x07B, 0x07C].all allocated && (List.range 4).all (fun p => allocated (0x030 + 4 * p)) &&
    (List.range 16).all (fun k => allocated (lgcPage k) && allocated (lgcPage k + 1))) = true := by decide +kernel

/-- Statements over `passes`: an engine, the host. -/
theorem witness_passes : (State.reset.advance 1).passes 5 0x3040 ∧ (State.reset.advance 1).passes 91 0xA050 ∧ (hosted.advance 1).passes 0x300 0x3040 :=
  ⟨passes_of (by decide) (by decide +kernel), passes_of (by decide) (by decide +kernel), hosted_passes⟩

/-- Statements over `windowOpen` and `hostReaches`. -/
theorem witness_window : (hosted.advance 1).windowOpen = true ∧ (hosted.advance 1).hostReaches = true ∧ (hosted.advance 1).role 0 ≠ 2 := by decide +kernel

/-- A machine whose ring 0 is ACTIVE with one entry waiting, in FIELD_LOCKED's predecessor PROVISIONED. -/
def ringed (rx : Bool) : State :=
  let s := (hosted.setRing 0 { state := 1, sqTail := 1, sqAlive := 1, cqAlive := 1 }).wb (ringReg 0 0x2000) 4 rx
  { s with sec := { s.sec with lc := 1 } }

/-- An entry of operation `op` that passes the checks of R331. -/
def entry (op : Nat) : List Byte :=
  let b := leBytes 1 1 ++ leBytes 1 1 ++ leBytes 2 0x77 ++ List.replicate 8 0 ++ leBytes 1 op ++ List.replicate 47 0
  b ++ leBytes 4 (crc32c b)

/-- Ring 0 takes an entry, as `takes` says, in a form that evaluates. -/
def takesHere (rx : Bool) (op : Nat) : Bool :=
  leAt (entry op) 12 1 == op && ((ringed rx).advance 1).canFetch 0 (entry op) && (((ringed rx).advance 1).fetch 0 (entry op)).2.2 == none

/-- Statements over `takes`: every operation of a command ring, and RXBUF_POST on a receive ring. -/
theorem witness_takes_evaluated : ([0x01, 0x02, 0x08, 0x09, 0x0A, 0x10, 0x11, 0x40, 0x41, 0x44, 0x45, 0x48, 0x50, 0x51, 0x60, 0x61, 0x62, 0x63, 0x64, 0x65, 0x66, 0x67, 0x68, 0x69, 0x6A, 0x6B, 0x6C, 0x70, 0x71].all (takesHere false) && takesHere true 0x20) = true := by decide +kernel
theorem witness_takes : ((ringed false).advance 1).takes 0 (entry 0x01) 0x01 ∧ ((ringed true).advance 1).takes 0 (entry 0x20) 0x20 :=
  ⟨⟨by decide +kernel, by decide +kernel, by decide +kernel⟩, ⟨by decide +kernel, by decide +kernel, by decide +kernel⟩⟩

/-- A management body of type `mt` in the inbox. -/
def inboxed (mt : Nat) : State :=
  { State.reset with link := { State.reset.link with inbox :=
      [{ port := 0, bb := false, cond := 0, src := 3, srcLong := none, mgmt := true, mtype := mt, body := [], sf := 0, cyc := 0 }] } }

/-- Statements over the inbox: MAP_CHANGE, and the bodies of relaying. -/
theorem witness_inbox : ([6, 0x20, 0x21, 0x22, 0x23, 0x24].all (fun mt => (((inboxed mt).advance 1).takeInbox (fun d => d.mgmt && d.mtype == mt)).isSome)) = true := by decide +kernel

/-- Statements over the debug access port: DAP is selected. -/
theorem witness_dap : (let s := { State.reset with dap := { State.reset.dap with ir := 0x10 } }; s.dap.ir = 0x10) := by decide


/-! ## Witnesses of the statements about the whole machine -/

theorem witness_EmptyQueueIdles : State.reset.pending = [] := rfl

/-- A state that meets the premises of the three invariants and steps. -/
theorem witness_steps : (let s := { State.reset with pending := [Instr.idcode 1] }
    s.Wf ∧ s.stageOk ∧ ∃ t, step s = .next t) := by
  refine ⟨⟨⟨rfl, ?_⟩, rfl, rfl, rfl⟩, Nat.zero_le _, ⟨_, rfl⟩⟩
  intro x hx
  simp only [State.reset, List.mem_cons, List.not_mem_nil, or_false] at hx
  rcases hx with rfl | rfl <;> decide +kernel

/-- DebugLevelRisesOnlyBySubmit: a SUBMIT for D1 raises the level. -/
theorem witness_DebugLevelRisesOnlyBySubmit :
    (let s := { hosted with dap := { State.reset.dap with ir := 0x10, resp := [0, 0, 0, 0, 0, 1] } }
     s.sec.dbg < ((s.advance 1).dapRun State.dapSubmit).sec.dbg) := by decide +kernel

/-! ## Witnesses of the statements of rules, one for each clause -/

theorem witness_FaultWindowZeroIgnored : allocated 0x003 = true ∧ (fld 0xFF0000 0 16 = 0 ∨ fld 0xFF0000 16 8 = 0) ∧ (fld 0xFFFF 0 16 = 0 ∨ fld 0xFFFF 16 8 = 0) ∧
    ((State.reset.advance 1).mst 5).card = false ∧ (State.reset.advance 1).writeCheck 5 (Reg.FAULT_WIN 0x003) = none ∧
    (hosted.advance 1).role 0 ≠ 2 ∧ (hosted.advance 1).windowOpen = true ∧ ((hosted.advance 1).hostTouch.mst 0x300).card = false ∧
    (hosted.advance 1).hostTouch.writeCheck 0x300 (Reg.FAULT_WIN 0x003) = none := by decide +kernel

/-- RegisterWriteChecked: a write that is performed, one to a page of another domain, and a carded master. -/
theorem witness_RegisterWriteChecked : (State.reset.mst 5).card = false ∧ State.reset.writeCheck 5 (Reg.FAULT_WIN 0x003) = none ∧
    State.reset.writeCheck 5 (Reg.OWNER 0x003) = some 3 ∧ ((State.reset.setMst 5 { State.reset.mst 5 with card := true }).mst 5).card = true := by decide +kernel

theorem witness_UnallocatedPageIgnored : allocated (0x140000 / 0x1000) = false ∧ 0x140000 % 4 = 0 ∧ (leBytes 4 7).length = 4 ∧ (5 : Nat) ≠ 0x300 ∧
    ((State.reset.advance 1).mst 5).card = false ∧ (State.reset.advance 1).writeCheck 5 0x140000 = none := by decide +kernel

theorem witness_SameCycleSetSurvivesClear : allocated 0x003 = true ∧ ((hosted.advance 1).mayWrite 0x300 (Reg.INT_CAUSE 0x003) ∧
    (((hosted.advance 1).setCause 0x003 1).advance 1).mayWrite 0x300 (Reg.INT_CAUSE 0x003)) ∧
    (((hosted.advance 1).served 0x300).page 0x003).setCycle ≠ ((hosted.advance 1).served 0x300).fabric + 1 :=
  ⟨by decide, ⟨⟨fun _ => by decide +kernel, by decide +kernel, by decide +kernel⟩, ⟨fun _ => by decide +kernel, by decide +kernel, by decide +kernel⟩⟩, by decide +kernel⟩

/-- LockFollowsItsTable: a page unlocked, keyed, and locked by policy. -/
theorem witness_LockFollowsItsTable : (State.reset.advance 1).passes 5 (Reg.LOCK 0x003) ∧ ((State.reset.page 0x003).policy = false ∧ (State.reset.page 0x003).keyed = false) ∧
    (let s := State.reset.setPage 0x003 { State.reset.page 0x003 with keyed := true, key := 9 }; (s.page 0x003).keyed = true ∧ (s.page 0x003).key = 9 ∧ (s.page 0x003).wrong < 256) ∧
    (let s := State.reset.setPage 0x003 { State.reset.page 0x003 with policy := true }; (s.page 0x003).policy = true) :=
  ⟨passes_of (by decide) (by decide +kernel), by decide, by decide, by decide⟩

theorem witness_SoftResetKeepsCounters : (State.reset.advance 1).passes 5 (Reg.BLK_CTL 0x003) ∧ (0x003 : Nat) ≠ 0x004 ∧ (0x003 : Nat) ≠ 0x005 :=
  ⟨passes_of (by decide) (by decide +kernel), by decide, by decide⟩

theorem witness_StoppedTrackerHoldsLineTime : (State.reset.advance 1).passes 5 0x3040 ∧ (State.reset.page 0x003).keyed = false ∧
    (State.reset.page 0x003).policy = false ∧ State.reset.trk.stopped = false := ⟨passes_of (by decide) (by decide +kernel), by decide, by decide, by decide⟩

/-- OccurrenceRepeats: a fixture that repeats for ever, one with occurrences left, one at its last, one with no period. -/
theorem witness_OccurrenceRepeats : (let s := fun (p c : Nat) => State.reset.setFix 7 { flags := 1, period := p, count := c }
    (((s 1 0).fixt 7).period ≠ 0 ∧ ((s 1 0).fixt 7).count = 0) ∧ 1 < ((s 1 2).fixt 7).count ∧ ((s 1 1).fixt 7).count = 1 ∧ ((s 0 5).fixt 7).period = 0) := by decide +kernel

/-- A machine in SERVICE whose line time runs, with a HOST_EVENT due now at index 20. -/
def dueNow : State :=
  { (hosted.setFix 20 { lt := 1000 * 2 ^ 32, action := 0x0B, flags := 1, arg0 := 5 }).wr Reg.LTIME_FREQ 3276800 with
    now := 3000, trk := { hosted.trk with epoch := true, t0 := 3000, lt0 := 1000 * 2 ^ 32 } }

theorem witness_HostEventFires : (dueNow.advance 3000).due 20 0x0B = some true ∧ dueNow.mode ≠ 0 ∧ (dueNow.advance 3000).fixHeld (dueNow.fixt 20) = none := by decide +kernel

/-- FixtureWriteOutcome: an index out of range, an action reserved, a disarmed entry, a past one, an ACK_TX too near and one far enough, a plain one. -/
theorem witness_FixtureWriteOutcome :
    (let f := fun (a lt fl : Nat) => Fixture.bytes { lt := lt, target := 0x31, action := a, flags := fl }
     dueNow.inRange true 0 = false ∧ dueNow.inRange true 8191 = true ∧ (Fixture.ofBytes (f 0x0D 0 0)).valid = false ∧
     ((Fixture.ofBytes (f 0x01 0 0)).valid = true ∧ (Fixture.ofBytes (f 0x01 0 0)).armed = false) ∧
     ((Fixture.ofBytes (f 0x01 5 1)).armed = true ∧ ltFuture (Fixture.ofBytes (f 0x01 5 1)).lt dueNow.lt = false) ∧
     (ltFuture (1000 * 2 ^ 32 + 2 ^ 20) dueNow.lt = true ∧ dueNow.edgesTo (1000 * 2 ^ 32 + 2 ^ 20) < (150 * usec : Nat)) ∧
     (ltFuture (1001 * 2 ^ 32) dueNow.lt = true ∧ ¬ dueNow.edgesTo (1001 * 2 ^ 32) < (150 * usec : Nat))) := by decide +kernel

/-- LimitAccumulatesAndExpires: a limited conductor at the second's last edge and one edge before. -/
theorem witness_LimitAccumulatesAndExpires : (let s := State.reset.putCond 1 2 { limit := true, limUs := 4, lastLim := 10 }
    (s.cond 1 2).limit = true ∧ (s.cond 1 2).lastLim + 1500000000 ≤ max s.now 1500000010 ∧ max s.now 1500000009 < (s.cond 1 2).lastLim + 1500000000) := by decide +kernel

/-- IspPresence: detection off, three windows heard, presence with its signal just heard and long past. -/
theorem witness_IspPresence : (let a := Reg.BBP_ISP_STAT 1; let s := State.reset.wb (Reg.BBP_ISP_CFG 1) 0 true; let ws := [[255], [255], [255]]
    (State.reset.wb (Reg.BBP_ISP_CFG 1) 0 false).rb (Reg.BBP_ISP_CFG 1) 0 = false ∧
    (s.rb (Reg.BBP_ISP_CFG 1) 0 = true ∧ s.rb a 0 = false ∧ 3 ≤ ws.length ∧ ws.getLast? = some [255] ∧ (ws.drop (ws.length - 3)).all (s.ispHeard 1) = true ∧
      (((s.setIsp 1 { s.ispOf 1 with seen := 1 }).wb a 0 true).ispChange 1).rb a 0 = true) ∧
    (s.wb a 0 true).rb a 0 = true ∧ (s.ispOf 1).seen + s.rf (Reg.BBP_ISP_CFG 1) 16 16 * 1000 * msec ≤ (s.advance (10 ^ 15)).now + 1 ∧
    (let s1 := s.setIsp 1 { seen := 5 }; (s1.advance 4).now + 1 < (s1.ispOf 1).seen + s1.rf (Reg.BBP_ISP_CFG 1) 16 16 * 1000 * msec)) := by decide +kernel

theorem witness_CreditsWithinLimit : (∀ k, (State.reset.queue k).cells + (State.reset.queue k).credits ≤ (State.reset.queue k).limit) ∧
    (∀ k, (State.reset.advance 1).flushWaits k = false) ∧ (State.reset.advance 1).creditWaits = [] ∧
    (State.reset.advance 1).qmg.turn ≠ (State.reset.advance 1).fabric + 1 ∧ queueAlloc 5 = true :=
  ⟨fun _ => Nat.zero_le _, fun _ => rfl, by decide +kernel, by decide +kernel, by decide⟩

/-- SqDoorbell: the window open; a tail that stands, one that fits, one that does not, and rings that take none. -/
theorem witness_SqDoorbell : ((ringed false).advance 1).windowOpen = true ∧
    (let S := ((ringed false).advance 1).hostTouch; let g := S.ring 0
     fld 1 0 16 = g.sqTail ∧ g.state = 1 ∧ (fld 256 0 16 ≠ g.sqTail ∧ (fld 256 0 16 + 65536 - g.sqHead) % 65536 ≤ 2 ^ S.log2n 0 ∧ (fld 256 0 16 + 65536 - g.sqTail) % 65536 ≤ 2 ^ S.log2n 0) ∧
     ¬ (fld 257 0 16 + 65536 - g.sqHead) % 65536 ≤ 2 ^ S.log2n 0 ∧ (S.ring 3).state = 0) := by decide +kernel

theorem witness_RingDmaError : (let s := State.reset.setRing 0 { state := 1 }; (s.ring 0).state = 1 ∧ (s.ring 2).state = 0) ∧
    (let s := (State.reset.setRing 0 { state := 2 }).setRing 1 { state := 3 }; (s.ring 0).state = 2 ∧ (s.ring 1).state = 3) := by decide

theorem witness_CaptureArms : (State.reset.advance 1).passes 5 0x7C044 ∧ (State.reset.capState = 0 ∨ State.reset.capState = 3) :=
  ⟨passes_of (by decide) (by decide +kernel), by decide +kernel⟩

/-- InjectedTrigger: the converter runs, with no trigger pending, with a calibration that began in the same fabric cycle, and with a trigger pending. -/
theorem witness_InjectedTrigger : (hosted.advance 1).passes 5 0xC040 ∧ (hosted.advance 1).hkcRuns = true ∧ (hosted.hkc.inj = false ∧ hosted.rb Reg.HKC_HKC_STAT 0 = false) ∧
    (let s : State := { hosted.wb Reg.HKC_HKC_STAT 0 true with hkc := { hosted.hkc with calAt := 1 } };
      s.hkc.inj = false ∧ s.rb Reg.HKC_HKC_STAT 0 = true ∧ s.hkc.calAt = (s.advance 1).fabric + 1) ∧
    ({ hosted with hkc := { hosted.hkc with inj := true } } : State).hkc.inj = true :=
  ⟨passes_of (by decide) (by decide +kernel), by decide +kernel, by decide +kernel, by decide +kernel, rfl⟩

theorem witness_ScorebookStores : 4 ≤ hosted.mode ∧ 4 ≤ (State.reset.wf Reg.SYS_MODE_STAT 0 4 4).mode := by decide +kernel

/-- A machine whose slot 3 holds a key. -/
def slotted : State := hosted.setSlot 3 { loaded := true, key := [1] }

theorem witness_KeyErased : (slotted.advance 1).passes 91 0x11040 ∧
    (slotted.advance 1).slotForeign ((slotted.advance 1).domain 91) 3 = false ∧ (slotted.advance 1).slotLate 91 3 = false ∧
    3 ≤ slotted.mode ∧ slotted.mode ≠ 3 ∧ slotted.sec.lc ≠ 3 ∧ (slotted.slot 3).retired = false ∧ (slotted.slot 3).loaded = true ∧
    (let s := slotted.setSlot 3 { slotted.slot 3 with dom := 1 }; s.slotForeign (s.domain 91) 3 = true) :=
  ⟨passes_of (by decide) (by decide +kernel), by decide +kernel⟩

/-- GpioOutputs: an output no one else writes, and one that a higher master wrote in the same fabric cycle. -/
theorem witness_GpioOutputs : (State.reset.advance 1).passes 5 0x2B048 ∧ (State.reset.advance 1).passes 5 0x2B04C ∧ State.reset.io.outAt ≠ (State.reset.advance 1).fabric + 1 ∧
    (let s : State := { State.reset with io := { State.reset.io with outAt := 1, outBy := [(0x300, 5)] } };
      s.io.outAt = (s.advance 1).fabric + 1 ∧ (0x300, 5) ∈ s.io.outBy ∧ 5 < 0x300) :=
  ⟨passes_of (by decide) (by decide +kernel), passes_of (by decide) (by decide +kernel), by decide +kernel, by decide +kernel⟩

theorem witness_TapInstructionsByLevel : State.reset.sec.dbg ≠ 3 := by decide

theorem witness_CardClearNeedsCard : (State.reset.advance 1).passes 5 (Reg.LGC_SLOT_CMD 15) ∧ State.reset.slotCarded 15 = false :=
  ⟨passes_of (by decide) (by decide +kernel), by decide +kernel⟩

/-- A machine whose region 0 covers shared SRAM for every domain. -/
def regioned : State := { hosted with ump := { hosted.ump with regions := [(0, { base := 0x10000, lim := 0x13FFF, rights := 0x8000FFFF })] } }

/-- FabricStore: the first line of shared SRAM, and its last. -/
theorem witness_FabricStore : (∀ x ∈ [accGood, { accGood with addr := 0x13FFFFFC }], x.m < 96 ∧ x.ctx = none ∧ x.acc = 1 ∧ x.shadow = false ∧
    0x10000000 ≤ x.addr ∧ 64 * (x.addr / 64) + 64 ≤ 0x14000000 ∧ x.data ≠ [] ∧ x.addr % 64 + x.data.length ≤ 64 ∧ (regioned.advance 1).umpCheck x x.addr = none ∧
    (regioned.advance 1).masterRuns x = true ∧ (regioned.advance 1).arbSeen = []) ∧
    3 ≤ regioned.mode ∧ (regioned.mst 5).card = false := by decide +kernel

/-- ServiceCommandsIgnored: out of SERVICE, and with a test running. -/
theorem witness_ServiceCommandsIgnored : State.reset.mode ≠ 10 ∧ (State.reset.advance 1).passes 5 0x8040 ∧ (State.reset.advance 1).passes 5 0xA050 ∧
    ({ hosted with tst := some (1, 0, 0) } : State).tst.isSome = true :=
  ⟨by decide +kernel, passes_of (by decide) (by decide +kernel), passes_of (by decide) (by decide +kernel), rfl⟩

theorem witness_PowerOnResetClears : State.reset.ctrCycle ≠ (State.reset.advance 1).fabric + 1 := by decide +kernel

theorem witness_DeviceResetKeepsTime : dueNow.mode ≠ 0 ∧ dueNow.boot.rstAt ≠ (dueNow.advance 1).fabric + 1 ∧ dueNow.rd Reg.LTIME_FREQ ≠ 0 ∧
    dueNow.ctrCycle ≠ (dueNow.advance 1).fabric + 1 := by decide +kernel

end Sys2Proof.Tests
end

section
/-! SUPPORT. Causes that hardware sets in a fabric cycle stand through a write of `INT_CAUSE` in the same cycle, and a write in any other cycle clears exactly the causes written 1 (R15). -/

namespace Sys2Proof.Machine

/-! ## Words: a set bit that a clear leaves out -/

/-- Bits that stand and are kept from the clear stand after it. -/
theorem and_not_clear_of_kept {x v keep bits : Word} (hx : x &&& bits = bits) (hk : keep &&& bits = bits) :
    (x &&& ~~~(v &&& ~~~keep)) &&& bits = bits := by
  ext i hi
  have hxi : (x[i] && bits[i]) = bits[i] := by rw [← BitVec.getElem_and, hx]
  have hki : (keep[i] && bits[i]) = bits[i] := by rw [← BitVec.getElem_and, hk]
  simp only [BitVec.getElem_and, BitVec.getElem_not]
  cases hb : bits[i] with
  | false => exact Bool.and_false _
  | true =>
    rw [hb, Bool.and_true] at hxi hki
    simp [hxi, hki]

/-- Bits just set read as set. -/
theorem or_and_self_right (x bits : Word) : (x ||| bits) &&& bits = bits := by
  ext i hi
  cases hb : bits[i] <;> simp [hb]

/-! ## Pages after the updates that a cause or a host access makes -/

/-- The hidden part of a page just set reads as its value. -/
@[simp] theorem State.page_setPage_self (s : State) (p : Nat) (v : PageSt) : (s.setPage p v).page p = v := tget_tset_self ..

/-- The page table alone says what a page holds. -/
theorem State.page_of_pages {s u : State} (h : u.pages = s.pages) (p : Nat) : u.page p = s.page p := by
  unfold State.page
  rw [h]

/-- Raising a page's interrupt leaves every page's hidden part. -/
@[simp] theorem State.raisePage_page (s : State) (p q : Nat) : (s.raisePage p).page q = s.page q :=
  State.page_of_pages (State.raisePage_signals s p).pages q

/-- A cause marks its page with the fabric cycle and with the bits set in it. -/
theorem State.setCause_page_self (s : State) (p : Nat) (bits : Word) :
    (s.setCause p bits).page p = { s.page p with
      setCycle := s.fabric + 1
      setBits := if (s.page p).setCycle == s.fabric + 1 then (s.page p).setBits ||| bits else bits } := by
  unfold State.setCause
  dsimp only
  split
  · exact State.page_setPage_self ..
  · rw [State.raisePage_page, State.page_setPage_self]

/-- A cause comes at the instant of the state. -/
@[simp] theorem State.setCause_now (s : State) (p : Nat) (bits : Word) : (s.setCause p bits).now = s.now := by
  obtain ⟨_, _, _, _, _, _, _, h⟩ := State.setCause_rest s p bits
  rw [h]

/-- The cause register of the page takes the bits: on an allocated page it is not the message counter. -/
theorem State.setCause_rd_intCause (s : State) {p : Nat} (bits : Word) (hp : allocated p = true) :
    (s.setCause p bits).rd (Reg.INT_CAUSE p) = s.rd (Reg.INT_CAUSE p) ||| bits := by
  have hlt := allocated_lt hp
  rw [State.setCause_rd s bits (by simp only [Reg.INT_CAUSE]; omega) (by simp only [Reg.INT_CAUSE, Reg.MSIX_VEC_CNT]; omega), if_pos rfl]

/-- From `s` to `u` the instant, the page marks and the causes of page `p` stand. -/
structure State.CausesStand (s u : State) (p : Nat) : Prop where
  now : u.now = s.now
  pages : u.pages = s.pages
  causes : u.rd (Reg.INT_CAUSE p) = s.rd (Reg.INT_CAUSE p)

theorem State.CausesStand.trans {s u w : State} {p : Nat} (h : s.CausesStand u p) (h' : u.CausesStand w p) : s.CausesStand w p :=
  ⟨h'.now.trans h.now, h'.pages.trans h.pages, h'.causes.trans h.causes⟩

/-- A counter field raised by one leaves every other register. -/
theorem State.rd_incF_ne (s : State) {a b : Nat} (lo width : Nat) (h : b ≠ a) : (s.incF a lo width).rd b = s.rd b :=
  State.rd_wr_ne s _ h

/-- Starting the PLLs (R485) writes the clock page's status and counter alone. -/
theorem State.pllStart_causesStand (s : State) (p : Nat) : s.CausesStand s.pllStart p := by
  have hstat : Reg.INT_CAUSE p ≠ Reg.CLK_CLK_STAT := by simp only [Reg.INT_CAUSE, Reg.CLK_CLK_STAT]; omega
  have hcnt : Reg.INT_CAUSE p ≠ Reg.CLK_PLL_CNT := by simp only [Reg.INT_CAUSE, Reg.CLK_PLL_CNT]; omega
  have hon : ((s.wb Reg.CLK_CLK_STAT 0 true).wb Reg.CLK_CLK_STAT 1 true).rd (Reg.INT_CAUSE p) = s.rd (Reg.INT_CAUSE p) := by
    rw [State.rd_wb_ne _ _ _ hstat, State.rd_wb_ne _ _ _ hstat]
  unfold State.pllStart
  dsimp only
  split
  · exact ⟨rfl, rfl, rfl⟩
  · split
    · exact ⟨rfl, rfl, hon⟩
    · exact ⟨rfl, rfl, by rw [State.rd_incF_ne _ _ _ hcnt, hon]⟩

/-- Noting a host access changes the host's part, and in LISTEN starts the PLLs (R485). -/
theorem State.served_causesStand (s : State) (m p : Nat) : s.CausesStand (s.served m) p := by
  unfold State.served State.hostTouch
  dsimp only
  split
  · split
    · refine .trans ?_ (State.pllStart_causesStand _ p)
      exact ⟨rfl, rfl, rfl⟩
    · exact ⟨rfl, rfl, rfl⟩
  · exact ⟨rfl, rfl, rfl⟩

/-- To advance again to an instant already reached changes nothing there. -/
theorem State.advance_causesStand {s : State} {t : Nat} (h : t ≤ s.now) (p : Nat) : s.CausesStand (s.advance t) p :=
  ⟨Nat.max_eq_left h, rfl, rfl⟩

/-! ## A write of `INT_CAUSE` -/

/-- A write of `INT_CAUSE` that is performed on an allocated page clears causes there. -/
theorem State.causeClearBy_of_mayWrite {s : State} {m p : Nat} (v : Word) (hp : allocated p = true) (h : s.mayWrite m (Reg.INT_CAUSE p)) :
    s.causeClearBy m p v = (s.served m).causeClear p v := by
  obtain ⟨hreach, hcard, hcheck⟩ := h
  have hserved : ¬ (m = 0x300 && ! s.hostReaches) = true := by
    rw [Bool.and_eq_true, decide_eq_true_eq, Bool.not_eq_true']
    exact fun hc => Bool.false_ne_true (hc.2.symm.trans (hreach hc.1))
  have hdone : (s.served m).byMaster m (Reg.INT_CAUSE p) (fun s1 => if allocated p then s1.causeClear p v else s1.ignored 0x000) =
      (s.served m).causeClear p v := by
    simp [State.byMaster, hcard, hcheck, hp]
  unfold State.causeClearBy
  exact (if_neg hserved).trans hdone

/-- INT_CAUSE_CLEAR is a write of the page's `INT_CAUSE` at the command's instant. -/
theorem exec_intCauseClear (t m p : Nat) (v : Word) (s : State) :
    exec (.intCauseClear t m p v) s = .next ((s.advance t).causeClearBy m p v) := rfl

/-- With no cause of the page set in the fabric cycle, the causes written 1 clear. -/
theorem State.causeClear_of_not_set {s : State} {p : Nat} (v : Word) (h : (s.page p).setCycle ≠ s.fabric + 1) :
    s.causeClear p v = s.wr (Reg.INT_CAUSE p) (s.rd (Reg.INT_CAUSE p) &&& ~~~v) := by
  unfold State.causeClear
  dsimp only
  have hall : ~~~(0 : Word) = BitVec.allOnes 32 := by decide
  rw [if_neg h, hall, BitVec.and_allOnes]

/-! ## Causes set in the present fabric cycle -/

/-- Hardware set the causes `bits` of page `p` in the present fabric cycle, and they stand. -/
structure State.SetInCycle (s : State) (p : Nat) (bits : Word) : Prop where
  cycle : (s.page p).setCycle = s.fabric + 1
  marked : (s.page p).setBits &&& bits = bits
  stand : s.rd (Reg.INT_CAUSE p) &&& bits = bits

/-- Causes just set are causes set in the present fabric cycle. -/
theorem State.setCause_setInCycle (s : State) {p : Nat} (bits : Word) (hp : allocated p = true) : (s.setCause p bits).SetInCycle p bits where
  cycle := by rw [State.setCause_page_self, State.fabric, State.fabric, State.setCause_now]
  marked := by
    rw [State.setCause_page_self]
    dsimp only
    split
    · exact or_and_self_right ..
    · exact BitVec.and_self
  stand := by rw [State.setCause_rd_intCause s bits hp, or_and_self_right]

/-- Causes set in the cycle remain so while the instant, the page marks and the cause register stand. -/
theorem State.SetInCycle.of_causesStand {s u : State} {p : Nat} {bits : Word} (h : s.SetInCycle p bits) (hu : s.CausesStand u p) :
    u.SetInCycle p bits where
  cycle := by rw [State.page_of_pages hu.pages, State.fabric, hu.now]; exact h.cycle
  marked := by rw [State.page_of_pages hu.pages]; exact h.marked
  stand := by rw [hu.causes]; exact h.stand

/-- Causes set in the present fabric cycle survive a clear in it (R15). -/
theorem State.SetInCycle.causeClear {s : State} {p : Nat} {bits : Word} (h : s.SetInCycle p bits) (v : Word) :
    (s.causeClear p v).rd (Reg.INT_CAUSE p) &&& bits = bits := by
  unfold State.causeClear
  dsimp only
  rw [State.rd_wr_self, if_pos h.cycle]
  exact and_not_clear_of_kept h.stand h.marked

/-! ## R15 for `INT_CAUSE` -/

/-- Set, then cleared in the same fabric cycle: the causes stand. -/
theorem intCauseClear_after_setCause {t m p : Nat} {bits : Word} {s : State} (v : Word) (hp : allocated p = true)
    (h : (((s.advance t).setCause p bits).advance t).mayWrite m (Reg.INT_CAUSE p)) :
    ∃ u, exec (.intCauseClear t m p v) ((s.advance t).setCause p bits) = .next u ∧ u.rd (Reg.INT_CAUSE p) &&& bits = bits := by
  refine ⟨_, exec_intCauseClear .., ?_⟩
  rw [State.causeClearBy_of_mayWrite v hp h]
  have hset := State.setCause_setInCycle (s.advance t) bits hp
  have hreached : t ≤ ((s.advance t).setCause p bits).now := by
    rw [State.setCause_now]
    exact Nat.le_max_right ..
  have hstand := (State.advance_causesStand hreached p).trans (State.served_causesStand _ m p)
  exact (hset.of_causesStand hstand).causeClear v

/-- Settles O14: a cause marks its page with the fabric cycle and the bits set in it, and a clear of that cycle leaves the marked bits out. -/
theorem sameCycleSetSurvivesClear : Obligations.SameCycleSetSurvivesClear := by
  unfold Obligations.SameCycleSetSurvivesClear
  intro t m p v bits s a S hp hclear hsetClear
  refine ⟨intCauseClear_after_setCause v hp hsetClear, ⟨_, exec_intCauseClear .., ?_⟩, fun hnone => ?_⟩
  · rw [State.setCause_rd_intCause _ bits hp, or_and_self_right]
  · rw [exec_intCauseClear, State.causeClearBy_of_mayWrite v hp hclear, State.causeClear_of_not_set v hnone]

end Sys2Proof.Machine
end

section
/-! SUPPORT. Every command answers a next state at its own instant or later and leaves the queue alone, so that a queue of commands runs to its end. -/

namespace Sys2Proof.Machine

/-! ## What every command keeps -/

/-- One arm per command, as in `exec`: a command keeps what its own lemma says. DAP_SUBMIT stands apart, for it may raise the debug level (R508). -/
theorem exec_kept (c : Instr) (s : State) (h : ∀ t, c ≠ .dapSubmit t) :
    ∃ u, exec c s = .next u ∧ State.Kept (s.advance c.time) u := by
  cases c with
  | registerWrite => exact execRegisterWrite_kept ..
  | intSet => exact execIntSet_kept ..
  | intCauseClear => exact execIntCauseClear_kept ..
  | softReset => exact execSoftReset_kept ..
  | softResetDone => exact execSoftResetDone_kept ..
  | lockWrite => exact execLockWrite_kept ..
  | bankCopy => exact execBankCopy_kept ..
  | bankCopyDone => exact execBankCopyDone_kept ..
  | soloSwapRequest => exact execSoloSwapRequest_kept ..
  | soloSwapCancel => exact execSoloSwapCancel_kept ..
  | soloSwap => exact execSoloSwap_kept ..
  | groupSwapRequest => exact execGroupSwapRequest_kept ..
  | groupSwapCancel => exact execGroupSwapCancel_kept ..
  | groupSwap => exact execGroupSwap_kept ..
  | d2dCrcFail => exact execD2dCrcFail_kept ..
  | faultWindowClose => exact execFaultWindowClose_kept ..
  | zeroCrossingEdge => exact execZeroCrossingEdge_kept ..
  | slewComplete => exact execSlewComplete_kept ..
  | holdoverTimeout => exact execHoldoverTimeout_kept ..
  | holdTxReached => exact execHoldTxReached_kept ..
  | holdLong => exact execHoldLong_kept ..
  | trkHold => exact execTrkHold_kept ..
  | trackerRestart => exact execTrackerRestart_kept ..
  | trackerEnable => exact execTrackerEnable_kept ..
  | snap => exact execSnap_kept ..
  | cycApply => exact execCycApply_kept ..
  | utcArm => exact execUtcArm_kept ..
  | ppsEdge => exact execPpsEdge_kept ..
  | ppsTimeout => exact execPpsTimeout_kept ..
  | utcHoldExpiry => exact execUtcHoldExpiry_kept ..
  | entCmdRead => exact execEntCmdRead_kept ..
  | entCmdWrite => exact execEntCmdWrite_kept ..
  | entCmdDisarm => exact execEntCmdDisarm_kept ..
  | fixHeldWriteApply => exact execFixHeldWriteApply_kept ..
  | fixtureCommit => exact execFixtureCommit_kept ..
  | prewarmWake => exact execPrewarmWake_kept ..
  | txStart => exact execTxStart_kept ..
  | rxWindow => exact execRxWindow_kept ..
  | rxWindowClose => exact execRxWindowClose_kept ..
  | ackTx => exact execAckTx_kept ..
  | bankSwap => exact execBankSwap_kept ..
  | engineWake => exact execEngineWake_kept ..
  | convTrigger => exact execConvTrigger_kept ..
  | ctlFire => exact execCtlFire_kept ..
  | sfBoundary => exact execSfBoundary_kept ..
  | quiet => exact execQuiet_kept ..
  | engineEvent => exact execEngineEvent_kept ..
  | hostEvent => exact execHostEvent_kept ..
  | modeWake => exact execModeWake_kept ..
  | agcOverload => exact execAgcOverload_kept ..
  | agcStepUp => exact execAgcStepUp_kept ..
  | transmissionEnd => exact execTransmissionEnd_kept ..
  | currentLimit => exact execCurrentLimit_kept ..
  | foldback => exact execFoldback_kept ..
  | limitExpiry => exact execLimitExpiry_kept ..
  | probeRequest => exact execProbeRequest_kept ..
  | probeStart => exact execProbeStart_kept ..
  | probeDone => exact execProbeDone_kept ..
  | probeRetry => exact execProbeRetry_kept ..
  | polarityChange => exact execPolarityChange_kept ..
  | lnSwapDetect => exact execLnSwapDetect_kept ..
  | seqRevDetect => exact execSeqRevDetect_kept ..
  | openNeutralDetect => exact execOpenNeutralDetect_kept ..
  | vdrvFault => exact execVdrvFault_kept ..
  | vdrvRecover => exact execVdrvRecover_kept ..
  | nbFrameRx => exact execNbFrameRx_kept ..
  | bbFrameRx => exact execBbFrameRx_kept ..
  | bandcMaxTx => exact execBandcMaxTx_kept ..
  | ispDetect => exact execIspDetect_kept ..
  | ispClear => exact execIspClear_kept ..
  | ackRx => exact execAckRx_kept ..
  | ackTimeout => exact execAckTimeout_kept ..
  | mapChange => exact execMapChange_kept ..
  | mapChangeApply => exact execMapChangeApply_kept ..
  | mapChangeResend => exact execMapChangeResend_kept ..
  | oldSetRelease => exact execOldSetRelease_kept ..
  | sChange => exact execSChange_kept ..
  | beaconRx => exact execBeaconRx_kept ..
  | beaconMiss => exact execBeaconMiss_kept ..
  | contentionAccess => exact execContentionAccess_kept ..
  | grantResend => exact execGrantResend_kept ..
  | slotGrant => exact execSlotGrant_kept ..
  | assocReq => exact execAssocReq_kept ..
  | assocResp => exact execAssocResp_kept ..
  | disassoc => exact execDisassoc_kept ..
  | leaseRenew => exact execLeaseRenew_kept ..
  | leaseAck => exact execLeaseAck_kept ..
  | mgmtNull => exact execMgmtNull_kept ..
  | leaseRenewSend => exact execLeaseRenewSend_kept ..
  | leaseEnd => exact execLeaseEnd_kept ..
  | quarantineEnd => exact execQuarantineEnd_kept ..
  | irHoldExpiry => exact execIrHoldExpiry_kept ..
  | nbrExpiry => exact execNbrExpiry_kept ..
  | epochGraceEnd => exact execEpochGraceEnd_kept ..
  | nbrReport => exact execNbrReport_kept ..
  | nbrReportSend => exact execNbrReportSend_kept ..
  | parentSet => exact execParentSet_kept ..
  | parentSetApply => exact execParentSetApply_kept ..
  | routeErr => exact execRouteErr_kept ..
  | coopResult => exact execCoopResult_kept ..
  | groupSet => exact execGroupSet_kept ..
  | coopCarry => exact execCoopCarry_kept ..
  | forwardHoldExpiry => exact execForwardHoldExpiry_kept ..
  | routeWaitExpiry => exact execRouteWaitExpiry_kept ..
  | coopWaitExpiry => exact execCoopWaitExpiry_kept ..
  | floodRebroadcast => exact execFloodRebroadcast_kept ..
  | floodDupExpiry => exact execFloodDupExpiry_kept ..
  | epWinWrite => exact execEpWinWrite_kept ..
  | endpointRecordStore => exact execEndpointRecordStore_kept ..
  | msgSend => exact execMsgSend_kept ..
  | txnSend => exact execTxnSend_kept ..
  | admission => exact execAdmission_kept ..
  | revoke => exact execRevoke_kept ..
  | receiptTimeout => exact execReceiptTimeout_kept ..
  | messageDeadline => exact execMessageDeadline_kept ..
  | reportRx => exact execReportRx_kept ..
  | uplinkMessageRx => exact execUplinkMessageRx_kept ..
  | reassemblyTimeout => exact execReassemblyTimeout_kept ..
  | creditRequest => exact execCreditRequest_kept ..
  | creditReturn => exact execCreditReturn_kept ..
  | queueWrite => exact execQueueWrite_kept ..
  | readLine => exact execReadLine_kept ..
  | rewind => exact execRewind_kept ..
  | release => exact execRelease_kept ..
  | queueFlush => exact execQueueFlush_kept ..
  | cellReturnDone => exact execCellReturnDone_kept ..
  | qReadDesc => exact execQReadDesc_kept ..
  | qFlush => exact execQFlush_kept ..
  | qSetLimit => exact execQSetLimit_kept ..
  | qClearErr => exact execQClearErr_kept ..
  | linkUp => exact execLinkUp_kept ..
  | linkLoss => exact execLinkLoss_kept ..
  | failoverComplete => exact execFailoverComplete_kept ..
  | hostSwitch => exact execHostSwitch_kept ..
  | heartbeat => exact execHeartbeat_kept ..
  | hostWatchdog => exact execHostWatchdog_kept ..
  | sqDoorbell => exact execSqDoorbell_kept ..
  | cqDoorbell => exact execCqDoorbell_kept ..
  | irqGapExpiry => exact execIrqGapExpiry_kept ..
  | msixUnmask => exact execMsixUnmask_kept ..
  | nop => exact execNop_kept ..
  | fixWrite => exact execFixWrite_kept ..
  | fixDisarm => exact execFixDisarm_kept ..
  | fixRead => exact execFixRead_kept ..
  | rxbufPost => exact execRxbufPost_kept ..
  | ringEnable => exact execRingEnable_kept ..
  | ringDisable => exact execRingDisable_kept ..
  | ringAbort => exact execRingAbort_kept ..
  | ringDrainDone => exact execRingDrainDone_kept ..
  | ringDmaError => exact execRingDmaError_kept ..
  | functionLevelReset => exact execFunctionLevelReset_kept ..
  | regRd => exact execRegRd_kept ..
  | regWr => exact execRegWr_kept ..
  | bulkSubmit => exact execBulkSubmit_kept ..
  | cqAck => exact execCqAck_kept ..
  | bulkData => exact execBulkData_kept ..
  | maintRegRead => exact execMaintRegRead_kept ..
  | maintRegWrite => exact execMaintRegWrite_kept ..
  | secondRecord => exact execSecondRecord_kept ..
  | referenceRecord => exact execReferenceRecord_kept ..
  | ilConverged => exact execIlConverged_kept ..
  | ilFallback => exact execIlFallback_kept ..
  | loopbackCheck => exact execLoopbackCheck_kept ..
  | muteClear => exact execMuteClear_kept ..
  | captureTrigger => exact execCaptureTrigger_kept ..
  | limitLineTrigger => exact execLimitLineTrigger_kept ..
  | captureHeld => exact execCaptureHeld_kept ..
  | captureArm => exact execCaptureArm_kept ..
  | capRead => exact execCapRead_kept ..
  | xlInstall => exact execXlInstall_kept ..
  | exclusionApply => exact execExclusionApply_kept ..
  | metroInterval => exact execMetroInterval_kept ..
  | metroUtcBoundary => exact execMetroUtcBoundary_kept ..
  | dipSwellDetect => exact execDipSwellDetect_kept ..
  | metSnapDone => exact execMetSnapDone_kept ..
  | metSnapRead => exact execMetSnapRead_kept ..
  | hkcRegularScan => exact execHkcRegularScan_kept ..
  | hkcInjTrig => exact execHkcInjTrig_kept ..
  | hkcInjDone => exact execHkcInjDone_kept ..
  | hkcCal => exact execHkcCal_kept ..
  | hkcCalDone => exact execHkcCalDone_kept ..
  | ctlArm => exact execCtlArm_kept ..
  | armCmdArm => exact execArmCmdArm_kept ..
  | armCmdDisarm => exact execArmCmdDisarm_kept ..
  | ctlDisarm => exact execCtlDisarm_kept ..
  | clrLock => exact execClrLock_kept ..
  | pulseEnd => exact execPulseEnd_kept ..
  | ctlfbEdge => exact execCtlfbEdge_kept ..
  | feedbackTimeout => exact execFeedbackTimeout_kept ..
  | interlockChange => exact execInterlockChange_kept ..
  | driveAttach => exact execDriveAttach_kept ..
  | driveAccept => exact execDriveAccept_kept ..
  | driveLoss => exact execDriveLoss_kept ..
  | blockRepair => exact execBlockRepair_kept ..
  | resyncDone => exact execResyncDone_kept ..
  | smartPoll => exact execSmartPoll_kept ..
  | vaultCommit => exact execVaultCommit_kept ..
  | leaseTableCommit => exact execLeaseTableCommit_kept ..
  | scorebookStore => exact execScorebookStore_kept ..
  | scbRead => exact execScbRead_kept ..
  | archRead => exact execArchRead_kept ..
  | keyDerive => exact execKeyDerive_kept ..
  | keyErase => exact execKeyErase_kept ..
  | aesOperation => exact execAesOperation_kept ..
  | aesKatPeriodic => exact execAesKatPeriodic_kept ..
  | trngSourceFail => exact execTrngSourceFail_kept ..
  | entropyTimeout => exact execEntropyTimeout_kept ..
  | drbgReseed => exact execDrbgReseed_kept ..
  | drbgGenerate => exact execDrbgGenerate_kept ..
  | attest => exact execAttest_kept ..
  | identityRead => exact execIdentityRead_kept ..
  | keyEpoch => exact execKeyEpoch_kept ..
  | provInstall => exact execProvInstall_kept ..
  | keyInstall => exact execKeyInstall_kept ..
  | fieldLock => exact execFieldLock_kept ..
  | sessionOpen => exact execSessionOpen_kept ..
  | sessionFinish => exact execSessionFinish_kept ..
  | sessionClose => exact execSessionClose_kept ..
  | imageWrite => exact execImageWrite_kept ..
  | imageActivate => exact execImageActivate_kept ..
  | bootConfirm => exact execBootConfirm_kept ..
  | trialExpiry => exact execTrialExpiry_kept ..
  | retire => exact execRetire_kept ..
  | uartRxChar => exact execUartRxChar_kept ..
  | uartBreak => exact execUartBreak_kept ..
  | uartDeadLine => exact execUartDeadLine_kept ..
  | uartDeadClear => exact execUartDeadClear_kept ..
  | uartTxData => exact execUartTxData_kept ..
  | uartTxCharDone => exact execUartTxCharDone_kept ..
  | uartRxPop => exact execUartRxPop_kept ..
  | uartDivWrite => exact execUartDivWrite_kept ..
  | brkSend => exact execBrkSend_kept ..
  | uartWakeMatch => exact execUartWakeMatch_kept ..
  | uartHandover => exact execUartHandover_kept ..
  | i2cStart => exact execI2cStart_kept ..
  | i2cWrite => exact execI2cWrite_kept ..
  | i2cRead => exact execI2cRead_kept ..
  | i2cStop => exact execI2cStop_kept ..
  | i2cRecover => exact execI2cRecover_kept ..
  | i2cAbort => exact execI2cAbort_kept ..
  | i2cRdPop => exact execI2cRdPop_kept ..
  | i2cSclTimeout => exact execI2cSclTimeout_kept ..
  | outSet => exact execOutSet_kept ..
  | outClr => exact execOutClr_kept ..
  | gpioEdge => exact execGpioEdge_kept ..
  | chkFeed => exact execChkFeed_kept ..
  | chkFeedB => exact execChkFeedB_kept ..
  | chkClr => exact execChkClr_kept ..
  | chkTimeout => exact execChkTimeout_kept ..
  | modeRequest => exact execModeRequest_kept ..
  | modeSwitch => exact execModeSwitch_kept ..
  | modeChangeDone => exact execModeChangeDone_kept ..
  | safeNAssert => exact execSafeNAssert_kept ..
  | safeNRelease => exact execSafeNRelease_kept ..
  | hostLinkAttach => exact execHostLinkAttach_kept ..
  | xtal32Fail => exact execXtal32Fail_kept ..
  | xtal25Fail => exact execXtal25Fail_kept ..
  | refLost => exact execRefLost_kept ..
  | ref10Restore => exact execRef10Restore_kept ..
  | pllStop => exact execPllStop_kept ..
  | cc91Gate => exact execCc91Gate_kept ..
  | dapChallenge => exact execDapChallenge_kept ..
  | dapOut => exact execDapOut_kept ..
  | dapIn => exact execDapIn_kept ..
  | dapSubmit t => exact absurd rfl (h t)
  | dapStatus => exact execDapStatus_kept ..
  | dapLower => exact execDapLower_kept ..
  | dapAddrLo => exact execDapAddrLo_kept ..
  | dapAddrHi => exact execDapAddrHi_kept ..
  | dapRead => exact execDapRead_kept ..
  | dapWrite => exact execDapWrite_kept ..
  | dapHalt => exact execDapHalt_kept ..
  | dapStep => exact execDapStep_kept ..
  | dapResume => exact execDapResume_kept ..
  | challengeExpiry => exact execChallengeExpiry_kept ..
  | debugLockoutEnd => exact execDebugLockoutEnd_kept ..
  | extest => exact execExtest_kept ..
  | samplePreload => exact execSamplePreload_kept ..
  | idcode => exact execIdcode_kept ..
  | clamp => exact execClamp_kept ..
  | highz => exact execHighz_kept ..
  | dapSelect => exact execDapSelect_kept ..
  | lcAdvance => exact execLcAdvance_kept ..
  | bypass => exact execBypass_kept ..
  | tapReset => exact execTapReset_kept ..
  | fabricAccess => exact execFabricAccess_kept ..
  | legacySlotEnable => exact execLegacySlotEnable_kept ..
  | cardClr => exact execCardClr_kept ..
  | lgcStart => exact execLgcStart_kept ..
  | lgcStop => exact execLgcStop_kept ..
  | tlbInvAll => exact execTlbInvAll_kept ..
  | tlbInvVa => exact execTlbInvVa_kept ..
  | fltResume => exact execFltResume_kept ..
  | fltAbort => exact execFltAbort_kept ..
  | quantumExpiry => exact execQuantumExpiry_kept ..
  | lgcRead => exact execLgcRead_kept ..
  | lgcWrite => exact execLgcWrite_kept ..
  | engineWatchdog => exact execEngineWatchdog_kept ..
  | substituteReady => exact execSubstituteReady_kept ..
  | substitutionMove => exact execSubstitutionMove_kept ..
  | engineSelftestDone => exact execEngineSelftestDone_kept ..
  | benchSubstitute => exact execBenchSubstitute_kept ..
  | benchSelftest => exact execBenchSelftest_kept ..
  | legSubstitution => exact execLegSubstitution_kept ..
  | sliceCheck => exact execSliceCheck_kept ..
  | sliceSubstitution => exact execSliceSubstitution_kept ..
  | d2dRetrain => exact execD2dRetrain_kept ..
  | scrubPass => exact execScrubPass_kept ..
  | ageingHourly => exact execAgeingHourly_kept ..
  | lifeMinute => exact execLifeMinute_kept ..
  | ageingDaily => exact execAgeingDaily_kept ..
  | testSram => exact execTestSram_kept ..
  | testD2d => exact execTestD2d_kept ..
  | testLoop => exact execTestLoop_kept ..
  | testAesKat => exact execTestAesKat_kept ..
  | testTrng => exact execTestTrng_kept ..
  | testDone => exact execTestDone_kept ..
  | atbSelect => exact execAtbSelect_kept ..
  | powerOnReset => exact execPowerOnReset_kept ..
  | aonMonitorReset => exact execAonMonitorReset_kept ..
  | deviceReset => exact execDeviceReset_kept ..
  | coreRailReset => exact execCoreRailReset_kept ..
  | rstReq => exact execRstReq_kept ..
  | bootComplete => exact execBootComplete_kept ..
  | uartCtsChange => exact execUartCtsChange_kept ..
  | uartIdleBoundary => exact execUartIdleBoundary_kept ..
  | i2cSclRelease => exact execI2cSclRelease_kept ..
  | acceleratorRequestDone => exact execAcceleratorRequestDone_kept ..
  | engineParityError => exact execEngineParityError_kept ..
  | metOkChange => exact execMetOkChange_kept ..

/-- Every command keeps what Laws/Kept.lean says but for the debug level, which DAP_SUBMIT may raise. -/
theorem exec_base (c : Instr) (s : State) : ∃ u, exec c s = .next u ∧ State.Base (s.advance c.time) u := by
  by_cases h : ∃ t, c = .dapSubmit t
  · obtain ⟨t, rfl⟩ := h
    exact execDapSubmit_base t s
  · obtain ⟨u, hu, hkept⟩ := exec_kept c s (fun t ht => h ⟨t, ht⟩)
    exact ⟨u, hu, hkept.base⟩

/-! ## Steps and runs of the queue -/

/-- A step on a queue with a command at its front carries that command out with the rest of the queue. -/
theorem step_of_pending_cons {s : State} {c : Instr} {rest : List Instr} (h : s.pending = c :: rest) :
    step s = exec c { s with pending := rest } := by
  unfold step
  rw [h]

/-- A step takes one command off the queue and none on. -/
theorem step_takes_front {s : State} {c : Instr} {rest : List Instr} (h : s.pending = c :: rest) :
    ∃ u, step s = .next u ∧ u.pending = rest := by
  obtain ⟨u, hu, hbase⟩ := exec_base c { s with pending := rest }
  exact ⟨u, (step_of_pending_cons h).trans hu, hbase.pending⟩

/-- A run of one step more goes on from the state the step answers. -/
theorem coreRun_succ_of_step {M : Host.Core} {s t : M.State} (k : Nat) (h : M.step s = .next t) : M.run (k + 1) s = M.run k t := by
  rw [Host.Core.run, h]

/-- As many steps as commands wait carry out the whole queue. -/
theorem run_empties (queue : List Instr) :
    ∀ s : State, s.pending = queue → ∃ u : State, Sys2Proof.core.run queue.length s = .next u ∧ u.pending = [] := by
  induction queue with
  | nil => exact fun s hs => ⟨s, rfl, hs⟩
  | cons c rest ih =>
    intro s hs
    obtain ⟨t, hstep, ht⟩ := step_takes_front hs
    obtain ⟨u, hrun, hu⟩ := ih t ht
    exact ⟨u, (coreRun_succ_of_step (M := Sys2Proof.core) rest.length hstep).trans hrun, hu⟩

/-! ## The queue, settled -/

/-- Settles O3: every command keeps the queue and comes at the instant its operation is advanced to. -/
theorem everyCommandAnswersNextState : Obligations.EveryCommandAnswersNextState := by
  unfold Obligations.EveryCommandAnswersNextState
  intro c s
  obtain ⟨u, hu, hbase⟩ := exec_base c s
  exact ⟨u, hu, hbase.pending, hbase.now⟩

/-- Settles O4, by induction on the queue: every step takes one command off it. -/
theorem queueRunsToEmpty : Obligations.QueueRunsToEmpty := by
  unfold Obligations.QueueRunsToEmpty
  exact fun s => run_empties s.pending s rfl

/-- Settles O1: the front of the queue is the command put there, and the rest is the queue it was put on. -/
theorem stepRunsFrontCommand : Obligations.StepRunsFrontCommand := by
  unfold Obligations.StepRunsFrontCommand
  exact fun c s => step_of_pending_cons (s := { s with pending := c :: s.pending }) rfl

end Sys2Proof.Machine
end

section
/-! SUPPORT. A register write that the window admits, as the umpire sees it: performed, refused with a red card, or not served (R32, R514, R516). -/

namespace Sys2Proof.Machine

/-! ## A write by a master, case by case -/

/-- A carded master is not served (R517). -/
theorem State.byMaster_of_carded {s : State} {m : Nat} (a : Nat) (op : State → State) (h : (s.mst m).card = true) : s.byMaster m a op = s := by
  unfold State.byMaster
  rw [if_pos h]

/-- A violation is not performed and draws the red card (R516). -/
theorem State.byMaster_of_violation {s : State} {m a kind : Nat} (op : State → State) (hcard : (s.mst m).card = false)
    (h : s.writeCheck m a = some kind) : s.byMaster m a op = s.redCard m kind 1 a [] := by
  unfold State.byMaster
  rw [if_neg (Bool.eq_false_iff.mp hcard), h]

/-- A write that no check turns away is performed (R514). -/
theorem State.byMaster_of_allowed {s : State} {m a : Nat} (op : State → State) (hcard : (s.mst m).card = false)
    (h : s.writeCheck m a = none) : s.byMaster m a op = op s := by
  unfold State.byMaster
  rw [if_neg (Bool.eq_false_iff.mp hcard), h]

/-- The check of key slots concerns `SLOT_CMD` alone (R436). -/
theorem State.slotGuard_of_ne {a : Nat} (s : State) (m : Nat) (b : List Byte) (op : State → State) (h : a ≠ Reg.SEC_SLOT_CMD) :
    s.slotGuard m a b op = op s := by
  simp [State.slotGuard, h]

/-! ## REGISTER_WRITE to the register window -/

/-- A write of register `a` with the check of key slots before it. -/
def State.guardedWrite (m a : Nat) (b : List Byte) (s : State) : State := s.slotGuard m a b (fun u => u.regWrite m a b)

theorem State.guardedWrite_of_ne {a : Nat} (s : State) (m : Nat) (b : List Byte) (h : a ≠ Reg.SEC_SLOT_CMD) :
    s.guardedWrite m a b = s.regWrite m a b := s.slotGuard_of_ne m b _ h

/-- A register write is a write by its master to the register window: the host's through the open windows of a port that is not STANDBY (R338). -/
theorem State.regWriteBy_registers {s : State} {m via : Nat} (a : Nat) (b : List Byte)
    (h : m = 0x300 → s.role via ≠ 2 ∧ s.windowOpen = true) :
    s.regWriteBy m via false a b = (s.served m).byMaster m a (State.guardedWrite m a b) := by
  unfold State.regWriteBy State.served
  split
  · next hm =>
    obtain ⟨hrole, hopen⟩ := h hm
    simp only [hrole, hopen]
    rfl
  · rfl

/-- REGISTER_WRITE is a register write at the command's instant. -/
theorem exec_registerWrite (t m : Nat) (via : Fin 2) (a : Nat) (b : List Byte) (s : State) :
    exec (.registerWrite t m via false a b) s = .next ((s.advance t).regWriteBy m via false a b) := rfl

/-- Settles O12: the write reaches its master's check, and each answer of the check decides it. -/
theorem registerWriteChecked : Obligations.RegisterWriteChecked := by
  unfold Obligations.RegisterWriteChecked
  intro t m a via b s S hvia
  rw [exec_registerWrite, State.regWriteBy_registers a b hvia]
  refine ⟨fun hcard => ?_, fun kind hcard hkind => ?_, fun hcard hnone hslot => ?_⟩
  · rw [State.byMaster_of_carded a _ hcard]
  · rw [State.byMaster_of_violation _ hcard hkind]
  · rw [State.byMaster_of_allowed _ hcard hnone, State.guardedWrite_of_ne _ m b hslot]

end Sys2Proof.Machine
end

section
/-! SUPPORT. A store by an engine to shared SRAM within one line: one piece, checked once, and written as it stands where no store of its fabric cycle goes after it (R33, R513, R514). -/

namespace Sys2Proof.Machine

/-! ## Bytes and pieces -/

/-- The whole of a byte string. -/
theorem takeBytes_all (b : List Byte) : takeBytes b 0 b.length = b := by simp [takeBytes]

/-- Bytes that end within the line they begin in are one piece (R514). -/
theorem pieces_of_one_line {addr n : Nat} (hn : n ≠ 0) (hline : addr % 64 + n ≤ 64) : pieces addr n (n + 1) = [(0, n)] := by
  obtain ⟨k, rfl⟩ := Nat.exists_eq_succ_of_ne_zero hn
  have hmin : min (k + 1) (64 - addr % 64) = k + 1 := by omega
  simp [pieces, hmin]

/-- A store that nothing of its fabric cycle goes after writes its own bytes (R33). -/
theorem State.settled_of_not_overtaken {s : State} {x : ArbRec} (mem : List Host.Cell) (base : Nat) {b : List Byte}
    (h : ∀ c, x.addr ≤ c → c < x.addr + b.length → s.overtaken x c = false) : s.settled x mem base b = b := by
  unfold State.settled
  refine List.ext_getElem (by simp) (fun i _ hi => ?_)
  have hfree : s.overtaken x (x.addr + i) = false := h _ (Nat.le_add_right ..) (by omega)
  simp [hfree]

/-! ## Shared SRAM (R513) -/

/-- An address of shared SRAM: no register, no legacy memory, but fabric memory. -/
theorem sram_is_memory {a : Nat} (hlo : 0x10000000 ≤ a) (hhi : a < 0x14000000) :
    ¬ a < 2 ^ 26 ∧ inLegacy a = false ∧ inMemory a = true := by
  refine ⟨by omega, ?_, ?_⟩
  · have hbase : ¬ lgcBase ≤ a := by unfold lgcBase; omega
    simp [inLegacy, hbase]
  · simp [inMemory, hlo, hhi]

/-- What a store to shared SRAM leaves: its bytes and the note of its fabric cycle. -/
def State.sramStored (s : State) (m : Nat) (dl : Bool) (a : Nat) (b : List Byte) : State :=
  { s.arbNote { addr := a, len := b.length, m := m, dl := dl } with mem := cellsWrite s.mem a b }

/-- Bytes written to shared SRAM that nothing of the fabric cycle goes after are stored as they are. -/
theorem State.fabWrite_sram {s : State} {m a : Nat} {dl : Bool} {b : List Byte} (hlo : 0x10000000 ≤ a) (hhi : a < 0x14000000)
    (h : ∀ c, a ≤ c → c < a + b.length → s.overtaken { addr := a, len := b.length, m := m, dl := dl } c = false) :
    s.fabWrite m dl a b = s.sramStored m dl a b := by
  obtain ⟨hwin, hlgc, hmem⟩ := sram_is_memory hlo hhi
  unfold State.fabWrite
  dsimp only
  rw [if_neg hwin, hlgc, hmem, State.settled_of_not_overtaken s.mem 0 h]
  rfl

/-! ## The path of an engine's store -/

/-- An access outside every legacy context has no legacy source. -/
theorem State.lgcSource_of_no_ctx (s : State) {x : FabAcc} (h : x.ctx = none) : s.lgcSource x = none := by
  unfold State.lgcSource
  rw [h]

/-- Such an access is not held by a legacy slot. -/
theorem State.lgcMay_of_no_ctx (s : State) {x : FabAcc} (h : x.ctx = none) : s.lgcMay x = true := by
  unfold State.lgcMay
  rw [s.lgcSource_of_no_ctx h, h]
  rfl

/-- Only the channels have a descriptor to move on. -/
theorem State.chanMoved_of_lt (s : State) {m : Nat} (done left : Nat) (h : m < 0x100) : s.chanMoved m done left = s := by
  unfold State.chanMoved
  rw [if_neg (by simp; omega)]

/-- A piece that passes every check writes its bytes. -/
theorem FabRun.piece_of_write {r : FabRun} {x : FabAcc} {addr : Nat} (rep ofs n : Nat) (hacc : x.acc = 1) (h : r.s.umpCheck x addr = none) :
    r.piece x addr rep ofs n = { r with s := r.s.fabWrite x.m x.dl addr (takeBytes x.data ofs n) } := by
  unfold FabRun.piece
  rw [h]
  exact if_pos hacc

/-- A write outside the register window that stays within a line and passes every check is written in one piece. -/
theorem State.burst_of_one_line {s : State} {x : FabAcc} (hctx : x.ctx = none) (hacc : x.acc = 1) (hwin : ¬ x.addr < 2 ^ 26)
    (hdata : x.data ≠ []) (hline : x.addr % 64 + x.data.length ≤ 64) (hcheck : s.umpCheck x x.addr = none) :
    s.burst x = { s := s.fabWrite x.m x.dl x.addr x.data } := by
  have hlen : x.data.length ≠ 0 := fun h => hdata (List.length_eq_zero_iff.mp h)
  have hpiece := FabRun.piece_of_write (r := { s := s }) x.addr 0 x.data.length hacc hcheck
  rw [takeBytes_all] at hpiece
  unfold State.burst
  simp only [s.lgcSource_of_no_ctx hctx, hacc, hwin, hlen, pieces_of_one_line hlen hline, decide_false, Bool.false_and, Bool.or_self,
    Bool.false_eq_true, if_true, if_false]
  exact hpiece

/-- A write of an engine that is served and runs, outside every legacy context and with the shadow checker agreeing, is its burst. -/
theorem State.fabricAccess_of_engine_write {s : State} {x : FabAcc} (hm : x.m < 96) (hctx : x.ctx = none) (hacc : x.acc = 1)
    (hshadow : x.shadow = false) (hmode : 3 ≤ s.mode) (hcard : (s.mst x.m).card = false) (hruns : s.masterRuns x = true) :
    s.fabricAccess x = (s.burst x).s := by
  have hhost : x.m ≠ 0x300 := by omega
  have hblocked : s.hostBlocked x = false := by simp [State.hostBlocked, hhost]
  unfold State.fabricAccess
  simp only [hhost, hblocked, hcard, hacc, hshadow, s.lgcMay_of_no_ctx hctx, hruns, Nat.not_lt.mpr hmode, if_true, if_false,
    Bool.not_true, Bool.or_self, Bool.false_eq_true, decide_false, Bool.false_and]
  split
  · rfl
  · exact State.chanMoved_of_lt _ _ _ (by omega)

/-- FABRIC_ACCESS is an access at the command's instant. -/
theorem exec_fabricAccess (t : Nat) (x : FabAcc) (s : State) : exec (.fabricAccess t x) s = .next ((s.advance t).fabricAccess x) := rfl

/-- Settles O37: the store is one piece that passes its check, and its bytes are written as they are. -/
theorem fabricStore : Obligations.FabricStore := by
  unfold Obligations.FabricStore
  intro t x s S rec_ hm hctx hacc hshadow hmode hcard hruns hlo hhi hdata hline hcheck hfree
  have hin : x.addr < 0x14000000 := by omega
  have hburst := State.burst_of_one_line hctx hacc (sram_is_memory hlo hin).1 hdata hline hcheck
  have hstored : S.fabricAccess x = S.sramStored x.m x.dl x.addr x.data := by
    rw [State.fabricAccess_of_engine_write (s := S) hm hctx hacc hshadow hmode hcard hruns, hburst]
    exact State.fabWrite_sram hlo hin hfree
  refine ⟨S.sramStored x.m x.dl x.addr x.data, ?_, rfl, cellsRead_cellsWrite .., fun b hb => ?_⟩
  · rw [exec_fabricAccess, hstored]
  · exact cellRead_cellsWrite_outside s.mem x.addr x.data hb

end Sys2Proof.Machine
end

section
/-! SUPPORT. What noting a host access leaves alone, and the outputs that OUT_SET and OUT_CLR raise and lower (R48, R471). -/

namespace Sys2Proof.Machine

/-! ## Serving a master (R338) -/

/-- Noting a host access stores nothing in memory and leaves the fixture list: it marks the host's part, and in LISTEN starts the PLLs (R485). -/
theorem State.served_mem_fix (s : State) (m : Nat) : (s.served m).mem = s.mem ∧ (s.served m).fix = s.fix := by
  unfold State.served
  split
  · unfold State.hostTouch
    dsimp only
    split
    · unfold State.pllStart
      dsimp only
      split
      · exact ⟨rfl, rfl⟩
      · split <;> exact ⟨rfl, rfl⟩
    · exact ⟨rfl, rfl⟩
  · exact ⟨rfl, rfl⟩

theorem State.served_mem (s : State) (m : Nat) : (s.served m).mem = s.mem := (s.served_mem_fix m).1

theorem State.served_fix (s : State) (m : Nat) : (s.served m).fix = s.fix := (s.served_mem_fix m).2

/-! ## Outputs that a higher master named (R48) -/

/-- The bits of `v` without those that `x` names where its master is higher than `m`. -/
def withoutHigher (m : Nat) (v : Word) (x : Nat × Word) : Word := if m < x.1 then v &&& ~~~x.2 else v

/-- In the cycle of other writes of the outputs, the free bits are those left when each of these has taken its own. -/
theorem State.outFree_of_noted {s : State} (m : Nat) (v : Word) (h : s.io.outAt = s.fabric + 1) :
    s.outFree m v = s.io.outBy.foldl (withoutHigher m) v := if_pos h

/-- In any other cycle every bit is free. -/
theorem State.outFree_of_not_noted {s : State} (m : Nat) (v : Word) (h : s.io.outAt ≠ s.fabric + 1) : s.outFree m v = v := if_neg h

/-- Bits taken by a higher master are gone. -/
theorem withoutHigher_disjoint {m : Nat} (v : Word) {x : Nat × Word} (h : m < x.1) : withoutHigher m v x &&& x.2 = 0 := by
  rw [withoutHigher, if_pos h, BitVec.and_assoc, BitVec.and_comm (~~~x.2), BitVec.and_not_self]
  exact BitVec.and_zero

/-- Bits that are gone stay gone. -/
theorem withoutHigher_keeps_disjoint (m : Nat) {v y : Word} (x : Nat × Word) (h : v &&& y = 0) : withoutHigher m v x &&& y = 0 := by
  unfold withoutHigher
  split
  · rw [BitVec.and_assoc, BitVec.and_comm (~~~x.2), ← BitVec.and_assoc, h]
    exact BitVec.zero_and
  · exact h

/-- Bits that are gone stay gone whatever other masters named. -/
theorem foldl_withoutHigher_keeps_disjoint (m : Nat) {y : Word} (l : List (Nat × Word)) :
    ∀ v : Word, v &&& y = 0 → l.foldl (withoutHigher m) v &&& y = 0 := by
  induction l with
  | nil => exact fun _ h => h
  | cons x l ih => exact fun v h => ih _ (withoutHigher_keeps_disjoint m x h)

/-- No bit is left that a higher master of the list names. -/
theorem foldl_withoutHigher_disjoint {m : Nat} {x : Nat × Word} (hm : m < x.1) {l : List (Nat × Word)} (hx : x ∈ l) :
    ∀ v : Word, l.foldl (withoutHigher m) v &&& x.2 = 0 := by
  induction l with
  | nil => exact absurd hx List.not_mem_nil
  | cons y l ih =>
    intro v
    rcases List.mem_cons.mp hx with rfl | hl
    · exact foldl_withoutHigher_keeps_disjoint m l _ (withoutHigher_disjoint v hm)
    · exact ih hl _

/-! ## OUT_SET and OUT_CLR (R471) -/

/-- OUT_SET that reaches its register sets outputs. -/
theorem exec_outSet_of_passes {t m : Nat} (v : Word) {s : State} (h : (s.advance t).passes m 0x2B048) :
    exec (.outSet t m v) s = .next (((s.advance t).served m).outSet m v) := congrArg Host.Outcome.next (cmdReg_of_passes _ h)

/-- OUT_CLR that reaches its register clears outputs. -/
theorem exec_outClr_of_passes {t m : Nat} (v : Word) {s : State} (h : (s.advance t).passes m 0x2B04C) :
    exec (.outClr t m v) s = .next (((s.advance t).served m).outClr m v) := congrArg Host.Outcome.next (cmdReg_of_passes _ h)

/-- Noting who named which outputs leaves every register. -/
@[simp] theorem State.outNote_rd (s : State) (m : Nat) (v : Word) (k : Nat) : (s.outNote m v).rd k = s.rd k := rfl

/-- A write of the outputs, noted: `GPIO_OUT` holds the value, and no other register and no memory changes. -/
theorem State.outWritten (s : State) (m : Nat) (v w : Word) :
    let u := (s.wr Reg.GPIO_OUT w).outNote m v
    u.rd Reg.GPIO_OUT = w ∧ (∀ k, k ≠ Reg.GPIO_OUT → u.rd k = s.rd k) ∧ u.mem = s.mem :=
  ⟨State.rd_wr_self .., fun _ hk => State.rd_wr_ne s w hk, rfl⟩

/-- Settles O33: each output write is one write of `GPIO_OUT` with the bits that no higher master of the cycle named. -/
theorem gpioOutputs : Obligations.GpioOutputs := by
  unfold Obligations.GpioOutputs
  intro t m v s S w
  have hmem : S.mem = s.mem := (s.advance t).served_mem m
  refine ⟨S.outFree_of_not_noted m v, fun hnoted x hx hm => ?_, fun hpass => ?_, fun hpass => ?_⟩
  · show S.outFree m v &&& x.2 = 0
    rw [State.outFree_of_noted m v hnoted]
    exact foldl_withoutHigher_disjoint hm hx v
  · obtain ⟨hout, hrest, hkept⟩ := S.outWritten m v ((S.rd Reg.GPIO_OUT ||| w) &&& 0xFFFFFF)
    exact ⟨_, exec_outSet_of_passes v hpass, hout, hrest, hkept.trans hmem⟩
  · obtain ⟨hout, hrest, hkept⟩ := S.outWritten m v (S.rd Reg.GPIO_OUT &&& ~~~w)
    exact ⟨_, exec_outClr_of_passes v hpass, hout, hrest, hkept.trans hmem⟩

end Sys2Proof.Machine
end

section
/-! SUPPORT. The header of a page under writes: the lock and what a read shows of it (R45), the fault window (R42), and a page that the allocation table does not list (R38, R598). -/

namespace Sys2Proof.Machine

/-! ## Header registers and their page (R38, R40) -/

/-- A header register lies on its page. -/
theorem header_page (p : Nat) {o : Nat} (h : o < 0x1000) : (p * 0x1000 + o) / 0x1000 = p := by omega

/-- A header register lies at its offset. -/
theorem header_offset (p : Nat) {o : Nat} (h : o < 0x1000) : (p * 0x1000 + o) % 0x1000 = o := by omega

/-- A write that reaches a register of page `p` finds the page allocated and not in soft reset. -/
theorem State.passes.page_runs {s : State} {m p o : Nat} (h : s.passes m (p * 0x1000 + o)) (ho : o < 0x1000) :
    allocated p = true ∧ ((s.served m).page p).srst = false := by
  obtain ⟨_, halloc, hsrst⟩ := h
  rw [header_page p ho] at halloc hsrst
  exact ⟨halloc, hsrst⟩

/-! ## Words of numbers -/

/-- A field of the word of a number below 2^32 is that field of the number. -/
theorem fld_word {n : Nat} (lo width : Nat) (h : n < 2 ^ 32) : fld (word n) lo width = n / 2 ^ lo % 2 ^ width := by
  unfold fld word
  rw [BitVec.toNat_ofNat, Nat.mod_eq_of_lt h]

/-- The word of a word's four bytes is the word. -/
theorem word_leBytes (v : Word) : word (leAt (leBytes 4 v.toNat) 0 4) = v := by
  have hv : v.toNat < 2 ^ 32 := v.isLt
  have hn : leAt (leBytes 4 v.toNat) 0 4 = v.toNat := by
    simp [leAt, takeBytes, leBytes, ofLE]
    omega
  rw [hn]
  exact BitVec.ofNat_toNat ..

/-! ## `LOCK` (R45) -/

/-- LOCK_WRITE that reaches its register is a write of the page's lock. -/
theorem exec_lockWrite_of_passes {t m p : Nat} (v : Word) {s : State} (h : (s.advance t).passes m (Reg.LOCK p)) :
    exec (.lockWrite t m p v) s = .next (((s.advance t).served m).lockWrite p v) := congrArg Host.Outcome.next (cmdReg_of_passes _ h)

section
variable {s : State} {p : Nat} {v : Word}

/-- A value written to a page that is not locked engages the lock with it as key. -/
theorem State.lockWrite_engages (hrun : (s.page p).srst = false) (hpol : (s.page p).policy = false) (hkey : (s.page p).keyed = false) (hv : v ≠ 0) :
    s.lockWrite p v = s.setPage p { s.page p with keyed := true, key := v } := by
  simp only [State.lockWrite, hrun, hpol, hkey, if_neg hv, Bool.false_eq_true, if_false]

/-- 0 engages nothing. -/
theorem State.lockWrite_zero (hrun : (s.page p).srst = false) (hpol : (s.page p).policy = false) (hkey : (s.page p).keyed = false) :
    s.lockWrite p 0 = s := by
  simp [State.lockWrite, hrun, hpol, hkey]

/-- The key releases the lock. -/
theorem State.lockWrite_releases (hrun : (s.page p).srst = false) (hpol : (s.page p).policy = false) (hkey : (s.page p).keyed = true) (hv : v = (s.page p).key) :
    s.lockWrite p v = s.setPage p { s.page p with keyed := false, key := 0, wrong := 0 } := by
  simp [State.lockWrite, hrun, hpol, hkey, hv]

/-- Another value counts as wrong and is recorded. -/
theorem State.lockWrite_wrong (hrun : (s.page p).srst = false) (hpol : (s.page p).policy = false) (hkey : (s.page p).keyed = true) (hv : v ≠ (s.page p).key) :
    s.lockWrite p v = (s.setPage p { s.page p with wrong := min 255 ((s.page p).wrong + 1) }).pageRecord p 0x24 0 (detail 0 0 0) := by
  simp [State.lockWrite, hrun, hpol, hkey, hv]

/-- Under the policy lock every value counts as wrong. -/
theorem State.lockWrite_policy (hrun : (s.page p).srst = false) (hpol : (s.page p).policy = true) :
    s.lockWrite p v = s.setPage p { s.page p with wrong := min 255 ((s.page p).wrong + 1) } := by
  simp [State.lockWrite, hrun, hpol]

end

/-- The number that a read of `LOCK` shows. -/
theorem PageSt.lockView_eq (g : PageSt) : g.lockView = word ((g.keyed || g.policy).toNat + 2 * g.policy.toNat + 2 ^ 8 * g.wrong) := by
  unfold PageSt.lockView
  rw [Nat.mul_comm (2 ^ 8)]
  cases g.policy <;> cases g.keyed <;> rfl

/-- A truth value read back from its number. -/
theorem decide_toNat_eq_one (b : Bool) : decide (b.toNat = 1) = b := by cases b <;> rfl

/-- A read of `LOCK` shows that the lock is engaged, that the policy engaged it, and the wrong values counted; never the key. -/
theorem PageSt.lockView_shows {g : PageSt} (h : g.wrong < 256) :
    bit g.lockView 0 = (g.keyed || g.policy) ∧ bit g.lockView 1 = g.policy ∧ fld g.lockView 8 8 = g.wrong ∧ fld g.lockView 16 16 = 0 := by
  have hengaged := Bool.toNat_le (g.keyed || g.policy)
  have hpolicy := Bool.toNat_le g.policy
  have hfld (lo width : Nat) := fld_word (n := (g.keyed || g.policy).toNat + 2 * g.policy.toNat + 2 ^ 8 * g.wrong) lo width (by omega)
  rw [bit_eq_fld, bit_eq_fld, g.lockView_eq, hfld, hfld, hfld, hfld]
  refine ⟨.trans (decide_eq_decide.mpr ?_) (decide_toNat_eq_one (g.keyed || g.policy)),
    .trans (decide_eq_decide.mpr ?_) (decide_toNat_eq_one g.policy), ?_, ?_⟩
  all_goals omega

/-- Settles O15: one lemma for each state of the lock, and one for what a read shows. -/
theorem lockFollowsItsTable : Obligations.LockFollowsItsTable := by
  unfold Obligations.LockFollowsItsTable
  intro t m p v s hpass S g
  obtain ⟨_, hrun⟩ := hpass.page_runs (by decide)
  rw [exec_lockWrite_of_passes v hpass]
  refine ⟨fun hpol hkey hv => ?_, fun hpol hkey hv => ?_, fun hpol hkey hv => ?_, fun hpol hkey hv => ?_, fun hpol => ?_, PageSt.lockView_shows⟩
  · rw [State.lockWrite_engages hrun hpol hkey hv]
  · rw [hv, State.lockWrite_zero hrun hpol hkey]
  · rw [State.lockWrite_releases hrun hpol hkey hv]
  · rw [State.lockWrite_wrong hrun hpol hkey hv]
  · rw [State.lockWrite_policy hrun hpol]

/-! ## One word written -/

/-- Four bytes at an aligned address are one word. -/
theorem State.regWrite_word (s : State) (m : Nat) {a : Nat} {b : List Byte} (ha : a % 4 = 0) (hb : b.length = 4) :
    s.regWrite m a b = s.writeWord m a (word (leAt b 0 4)) := by
  unfold State.regWrite
  rw [ha, hb]
  rfl

/-- REGISTER_WRITE of one aligned word that no check turns away writes the word. -/
theorem exec_registerWrite_word {t m a : Nat} {via : Fin 2} {b : List Byte} {s : State}
    (hvia : m = 0x300 → (s.advance t).role via ≠ 2 ∧ (s.advance t).windowOpen = true) (hcard : (((s.advance t).served m).mst m).card = false)
    (hcheck : ((s.advance t).served m).writeCheck m a = none) (hslot : a ≠ Reg.SEC_SLOT_CMD) (ha : a % 4 = 0) (hb : b.length = 4) :
    exec (.registerWrite t m via false a b) s = .next (((s.advance t).served m).writeWord m a (word (leAt b 0 4))) := by
  obtain ⟨_, _, hdone⟩ := registerWriteChecked t m a via b s hvia
  rw [hdone hcard hcheck hslot, State.regWrite_word _ m ha hb]

/-! ## `FAULT_WIN` (R42) -/

/-- A write of `FAULT_WIN` with 0 in a field changes nothing, in soft reset or out of it. -/
theorem State.writeWord_faultWin_zero (s : State) (m : Nat) {p : Nat} {v : Word} (hp : allocated p = true) (hv : fld v 0 16 = 0 ∨ fld v 16 8 = 0) :
    s.writeWord m (Reg.FAULT_WIN p) v = s := by
  have hpage : Reg.FAULT_WIN p / 0x1000 = p := header_page p (by decide)
  have hofs : Reg.FAULT_WIN p % 0x1000 = 0x038 := header_offset p (by decide)
  have hplain : s.replaces (Reg.FAULT_WIN p) v = false := by
    unfold State.replaces
    rw [hofs]
    rcases hv with h | h <;> simp [h]
  have hignored : s.faultWinWrite p v = s := by
    unfold State.faultWinWrite
    rcases hv with h | h <;> simp [h]
  unfold State.writeWord
  simp only [hpage, hofs, hp, hplain, Bool.not_true, Bool.false_and, Bool.false_eq_true, if_false]
  split
  · rfl
  · exact hignored

/-- Settles O11: the write passes its checks, is one word of `FAULT_WIN`, and that word is ignored. -/
theorem faultWindowZeroIgnored : Obligations.FaultWindowZeroIgnored := by
  unfold Obligations.FaultWindowZeroIgnored
  intro t m p via v s hp hv S a
  have haligned : a % 4 = 0 := by simp only [a, Reg.FAULT_WIN]; omega
  have hslot : a ≠ Reg.SEC_SLOT_CMD := by simp only [a, Reg.FAULT_WIN, Reg.SEC_SLOT_CMD]; omega
  have hignored (hvia : m = 0x300 → S.role via ≠ 2 ∧ S.windowOpen = true) (hcard : ((S.served m).mst m).card = false)
      (hcheck : (S.served m).writeCheck m a = none) : exec (.registerWrite t m via false a (leBytes 4 v.toNat)) s = .next (S.served m) := by
    rw [exec_registerWrite_word hvia hcard hcheck hslot haligned rfl, word_leBytes, State.writeWord_faultWin_zero _ m hp hv]
  refine ⟨fun hm hcard hcheck => ?_, fun hm hrole hopen hcard hcheck => ?_⟩
  · have hserved : S.served m = S := served_of_ne hm
    rw [hserved] at hignored
    exact hignored (fun h => absurd h hm) hcard hcheck
  · have hserved : S.served m = S.hostTouch := if_pos hm
    rw [hserved] at hignored
    exact hignored (fun _ => ⟨hrole, hopen⟩) hcard hcheck

/-! ## A page that is not allocated (R38, R598) -/

/-- A word of an unallocated page reads 0. -/
theorem State.readWord_of_unallocated (s : State) {a : Nat} (h : allocated (a / 0x1000) = false) : s.readWord a = 0 := by
  unfold State.readWord
  exact if_pos (by rw [h]; rfl)

/-- A word written to an unallocated page is an ignored access of SYS. -/
theorem State.writeWord_of_unallocated (s : State) (m : Nat) {a : Nat} (v : Word) (h : allocated (a / 0x1000) = false) :
    s.writeWord m a v = s.ignored 0x000 := by
  unfold State.writeWord
  exact if_pos (by rw [h]; rfl)

/-- An ignored access counts in `ERR_UNCORR` of its page and sets `UNCORR`; the other registers of the window stand, but for the message counter. -/
theorem State.ignored_rd (s : State) {p k : Nat} (hk : k < 2 ^ 26) (hn : k ≠ Reg.MSIX_VEC_CNT) :
    (s.ignored p).rd k = if k = Reg.INT_CAUSE p then s.rd k ||| word (2 ^ 28) else if k = Reg.ERR_UNCORR p then satInc (s.rd k) 0 32 else s.rd k := by
  have hinc : (s.inc (Reg.ERR_UNCORR p)).rd k = if k = Reg.ERR_UNCORR p then satInc (s.rd (Reg.ERR_UNCORR p)) 0 32 else s.rd k :=
    State.rd_wr s (Reg.ERR_UNCORR p) k _
  unfold State.ignored State.cause
  rw [State.setCause_rd _ _ hk hn, hinc]
  by_cases hc : k = Reg.INT_CAUSE p
  · have hne : k ≠ Reg.ERR_UNCORR p := by simp only [hc, Reg.INT_CAUSE, Reg.ERR_UNCORR]; omega
    rw [if_pos hc, if_pos hc, if_neg hne]
  · rw [if_neg hc, if_neg hc]
    by_cases he : k = Reg.ERR_UNCORR p
    · rw [if_pos he, if_pos he, he]
    · rw [if_neg he, if_neg he]

/-- An ignored access changes no memory and not the scorebook. -/
theorem State.ignored_stores (s : State) (p : Nat) :
    (s.ignored p).mem = s.mem ∧ (s.ignored p).lgcMem = s.lgcMem ∧ (s.ignored p).hostMem = s.hostMem ∧ (s.ignored p).scb = s.scb := by
  obtain ⟨_, _, _, _, _, _, _, h⟩ := State.setCause_rest (s.inc (Reg.ERR_UNCORR p)) p (word (2 ^ 28))
  unfold State.ignored State.cause
  rw [h]
  exact ⟨rfl, rfl, rfl, rfl⟩

/-- Settles O13: the write passes its checks, and the one word of it is an ignored access of SYS. -/
theorem unallocatedPageIgnored : Obligations.UnallocatedPageIgnored := by
  unfold Obligations.UnallocatedPageIgnored
  intro t m a via b s hfree haligned hlen hm hcard hcheck
  have hslot : a ≠ Reg.SEC_SLOT_CMD := by
    rintro rfl
    exact absurd hfree (by decide)
  have hserved : (s.advance t).served m = s.advance t := served_of_ne hm
  have hexec : exec (.registerWrite t m via false a b) s = .next ((s.advance t).ignored 0x000) := by
    rw [exec_registerWrite_word (fun h => absurd h hm) (by rwa [hserved]) (by rwa [hserved]) hslot haligned hlen, hserved,
      State.writeWord_of_unallocated _ m _ hfree]
  obtain ⟨hmem, hlgc, hhost, hscb⟩ := (s.advance t).ignored_stores 0x000
  refine ⟨s.readWord_of_unallocated hfree, _, hexec, ?_, ?_, fun k hk herr hcause hcnt => ?_, hmem, hlgc, hhost, hscb⟩
  · exact State.ignored_rd (s.advance t) (p := 0x000) (k := Reg.ERR_UNCORR 0) (by decide) (by decide)
  · exact State.ignored_rd (s.advance t) (p := 0x000) (k := Reg.INT_CAUSE 0) (by decide) (by decide)
  · rw [State.ignored_rd _ hk hcnt, if_neg hcause, if_neg herr]
    rfl

end Sys2Proof.Machine
end

section
/-! SUPPORT. A soft reset of a page other than FIX and BANK: what of the page's header and of the state behind it stands, and what returns to reset (R44). -/

namespace Sys2Proof.Machine

/-! ## Registers filtered by their key -/

/-- A filter that passes or drops a key whatever its value keeps the key's value, or leaves the key at its default. -/
theorem tget_filter {β : Type} (d : β) {f : Nat × β → Bool} {k : Nat} {keep : Bool} (hf : ∀ v, f (k, v) = keep) (l : List (Nat × β)) :
    tget d (l.filter f) k = if keep then tget d l k else d := by
  induction l with
  | nil => exact (ite_self d).symm
  | cons x l ih =>
    obtain ⟨key, v⟩ := x
    by_cases hkey : key = k
    · subst hkey
      cases keep with
      | true => simp [hf, tget]
      | false => simpa [hf] using ih
    · have hskip : tget d ((key, v) :: l) k = tget d l k := if_neg hkey
      rw [hskip, ← ih, List.filter_cons]
      split
      · exact if_neg hkey
      · rfl

/-! ## Changes behind the headers -/

/-- From `s` to `u` the header registers of every page, what stands behind the headers, memory and the fixture list stand. -/
structure State.HeadersStand (s u : State) : Prop where
  regs : ∀ k, k % 0x1000 < 0x040 → u.rd k = s.rd k
  pages : u.pages = s.pages
  mem : u.mem = s.mem
  fix : u.fix = s.fix

namespace State.HeadersStand
variable {s u w : State}

theorem refl (s : State) : s.HeadersStand s := ⟨fun _ _ => rfl, rfl, rfl, rfl⟩

theorem trans (h : s.HeadersStand u) (h' : u.HeadersStand w) : s.HeadersStand w :=
  ⟨fun k hk => (h'.regs k hk).trans (h.regs k hk), h'.pages.trans h.pages, h'.mem.trans h.mem, h'.fix.trans h.fix⟩

/-- A change that leaves all registers. -/
theorem of_regs (hregs : u.regs = s.regs) (hpages : u.pages = s.pages) (hmem : u.mem = s.mem) (hfix : u.fix = s.fix) : s.HeadersStand u :=
  ⟨fun k _ => by rw [State.rd, hregs, State.rd], hpages, hmem, hfix⟩

/-- A register behind the header set. -/
theorem wr (h : s.HeadersStand u) {a : Nat} (v : Word) (ha : 0x040 ≤ a % 0x1000) : s.HeadersStand (u.wr a v) :=
  h.trans ⟨fun k hk => State.rd_wr_ne u v (by rintro rfl; omega), rfl, rfl, rfl⟩

/-- Either branch. -/
theorem ite {c : Prop} [Decidable c] (hu : s.HeadersStand u) (hw : s.HeadersStand w) : s.HeadersStand (if c then u else w) := by
  split
  · exact hu
  · exact hw

/-- A chain of such changes. -/
theorem foldl {α : Type} {f : State → α → State} {l : List α} (hf : ∀ x, ∀ a ∈ l, State.HeadersStand x (f x a)) : s.HeadersStand (l.foldl f s) := by
  induction l generalizing s with
  | nil => exact .refl s
  | cons a l ih => exact (hf s a List.mem_cons_self).trans (ih (fun x b hb => hf x b (List.mem_cons_of_mem a hb)))

end State.HeadersStand

/-- Line time anchored anew touches the tracker alone. -/
theorem State.anchor_headersStand (s : State) : s.HeadersStand s.anchor := by
  unfold State.anchor
  dsimp only
  split <;> exact .of_regs rfl rfl rfl rfl

/-- A page withdrawn from a swap touches its group alone. -/
theorem State.withdraw_headersStand (s : State) (p : Nat) : s.HeadersStand (s.withdraw p) := by
  unfold State.withdraw
  split
  · exact .of_regs rfl rfl rfl rfl
  · exact .refl s

/-- The counters of the fabric cycle that stand at 1 after a soft reset lie behind the header (R49). -/
theorem State.recount_headersStand (s : State) (p : Nat) : s.HeadersStand (s.recount p) := by
  unfold State.recount
  split
  · refine .foldl (fun u x hx => ?_)
    obtain ⟨_, hofs⟩ := List.mem_filter.mp hx
    simp only [Bool.and_eq_true, decide_eq_true_eq] at hofs
    exact (State.HeadersStand.refl u).wr _ hofs.2
  · exact .refl s

theorem State.setUart_headersStand (s : State) (n : Nat) (k : UartSt) : s.HeadersStand (s.setUart n k) := by
  refine State.HeadersStand.wr (State.HeadersStand.wr ?_ _ ?_) _ ?_
  · exact .of_regs rfl rfl rfl rfl
  · simp only [Reg.UART_RX_DATA]; omega
  · simp only [Reg.UART_FIFO_STAT]; omega

theorem State.setSleep_headersStand (s : State) (l : List Nat) : s.HeadersStand (s.setSleep l) := by
  refine State.HeadersStand.wr ?_ _ (by decide)
  exact .of_regs rfl rfl rfl rfl

theorem State.showSec_headersStand (s : State) : s.HeadersStand s.showSec := (State.HeadersStand.refl s).wr _ (by decide)

theorem State.showLease_headersStand (s : State) : s.HeadersStand s.showLease := by
  unfold State.showLease
  split
  · exact .refl s
  · refine State.HeadersStand.wr (State.HeadersStand.wr (.refl s) _ ?_) _ ?_
    · simp only [Reg.MAC_OWN_ADDR]; omega
    · simp only [Reg.MAC_UP_STAT]; omega

/-- What stands behind registers that a soft reset returned to reset follows them, with no header of it. -/
theorem State.srstFresh_headersStand (s : State) (p : Nat) : s.HeadersStand (s.srstFresh p) := by
  refine .ite ?tracker (.ite ?test (.ite ?converter (.ite ?checks (.ite (.ite (.refl s) ?regions) (.ite ?security (.ite ?uart0 (.ite ?uart1
    (.ite ?i2c (.ite ?channels (.ite ?conductors (.ite ?lease (.refl s))))))))))))
  case security => exact ((State.HeadersStand.refl s).wr _ (by decide)).trans (State.showSec_headersStand _)
  case uart0 => exact (s.setUart_headersStand ..).trans (State.setSleep_headersStand ..)
  case uart1 => exact s.setUart_headersStand ..
  case channels => exact .foldl (fun _ _ _ => .of_regs rfl rfl rfl rfl)
  case conductors => exact .foldl (fun _ _ _ => .of_regs rfl rfl rfl rfl)
  case lease =>
    refine .trans ?_ (State.showLease_headersStand _)
    exact .of_regs rfl rfl rfl rfl
  all_goals exact .of_regs rfl rfl rfl rfl

/-! ## The registers of the page -/

/-- Of the header of an allocated page a soft reset returns `BLK_CTL` and `INT_CAUSE` to reset. -/
theorem State.resetRegs_header (s : State) {p o : Nat} (hp : p < 0x140) (ho : o < 0x040) :
    (s.resetRegs p).rd (p * 0x1000 + o) = if srstHeader o then keyReset (p * 0x1000 + o) else s.rd (p * 0x1000 + o) := by
  have hpage : (p * 0x1000 + o) / 0x1000 = p := header_page p (by omega)
  have hofs : (p * 0x1000 + o) % 0x1000 = o := header_offset p (by omega)
  have hwin : p * 0x1000 + o < 2 ^ 26 := by omega
  have hbank : ¬ bankStride ≤ p * 0x1000 + o := by simp only [bankStride]; omega
  have hroute : ¬ routeBase ≤ p * 0x1000 + o := by simp only [routeBase]; omega
  have hsched : ¬ schedKey ((p - 0x060) / 4) 0 0 ≤ p * 0x1000 + o := by simp only [schedKey, winBase]; omega
  have hblock : ¬ 0x040 ≤ o := by omega
  unfold State.resetRegs
  refine (tget_filter (keep := ! srstHeader o) _ (fun v => ?_) s.regs).trans ?_
  · simp only [hpage, hofs, hwin, hbank, hroute, hsched, hblock, decide_true, decide_false, Bool.false_and, Bool.and_false, Bool.or_false,
      Bool.false_eq_true, if_false, BEq.rfl, Bool.true_and]
  · cases srstHeader o <;> rfl

/-! ## SOFT_RESET (R44) -/

/-- What stands behind the header of a page once its soft reset has begun. -/
def PageSt.inSoftReset (g : PageSt) : PageSt :=
  { g with soloPend := false, groupPend := none, copying := false, dirty := false, held := [], srst := true, srstFail := g.pend, setCycle := 0, setBits := 0 }

/-- The soft reset of an allocated page that runs, other than FIX and BANK. -/
theorem State.softReset_of_runs {s : State} {p : Nat} (hp : allocated p = true) (hrun : (s.page p).srst = false) (hfix : p ≠ 0x004) (hbank : p ≠ 0x005) :
    s.softReset p = (((s.withdraw p).resetRegs p).recount p).setPage p (s.page p).inSoftReset := by
  unfold State.softReset
  simp only [hp, hrun, if_neg hfix, if_neg hbank]
  rfl

/-- What a soft reset of page `p` leaves from `s` to `u`: the page marked as in soft reset, its header but for `BLK_CTL` and `INT_CAUSE`, memory and the fixture list. -/
structure State.SoftResetLeaves (s u : State) (p : Nat) : Prop where
  page : u.page p = (s.page p).inSoftReset
  header : ∀ o, o < 0x040 → u.rd (p * 0x1000 + o) = if srstHeader o then keyReset (p * 0x1000 + o) else s.rd (p * 0x1000 + o)
  mem : u.mem = s.mem
  fix : u.fix = s.fix

/-- The registers of the page return to reset, and the page is marked. -/
theorem State.softReset_leaves {s : State} {p : Nat} (hp : allocated p = true) (hrun : (s.page p).srst = false) (hfix : p ≠ 0x004) (hbank : p ≠ 0x005) :
    s.SoftResetLeaves (s.softReset p) p := by
  have hwithdrawn := s.withdraw_headersStand p
  have hrecounted := ((s.withdraw p).resetRegs p).recount_headersStand p
  rw [State.softReset_of_runs hp hrun hfix hbank]
  refine ⟨State.page_setPage_self .., fun o ho => ?_, hrecounted.mem.trans hwithdrawn.mem, hrecounted.fix.trans hwithdrawn.fix⟩
  have hkey : (p * 0x1000 + o) % 0x1000 < 0x040 := by rw [header_offset p (by omega)]; exact ho
  rw [State.setPage_rd, hrecounted.regs _ hkey, State.resetRegs_header _ (allocated_lt hp) ho, hwithdrawn.regs _ hkey]

/-- Changes behind the headers before a soft reset and after it make no difference to what it leaves. -/
theorem State.SoftResetLeaves.between {s a b u : State} {p : Nat} (h : a.SoftResetLeaves b p) (hbefore : s.HeadersStand a) (hafter : b.HeadersStand u) :
    s.SoftResetLeaves u p where
  page := by rw [State.page_of_pages hafter.pages, h.page, State.page_of_pages hbefore.pages]
  header o ho := by
    have hkey : (p * 0x1000 + o) % 0x1000 < 0x040 := by rw [header_offset p (by omega)]; exact ho
    rw [hafter.regs _ hkey, h.header o ho, hbefore.regs _ hkey]
  mem := hafter.mem.trans (h.mem.trans hbefore.mem)
  fix := hafter.fix.trans (h.fix.trans hbefore.fix)

/-- A write of `BLK_CTL` with `SRST` stores its other bits, anchors line time on the tracker's page, and makes the soft reset. -/
theorem State.softResetCmd_of_runs {s : State} {p : Nat} (hp : allocated p = true) (hrun : (s.page p).srst = false) (hfix : p ≠ 0x004) :
    ∃ v, s.softResetCmd p =
      ((if p = 0x003 then (s.wr (Reg.BLK_CTL p) v).anchor else s.wr (Reg.BLK_CTL p) v).softReset p).srstFresh p := by
  have hsrst : (bit (setBit (s.rd (Reg.BLK_CTL p)) 1 true) 1 && allocated p && ! (s.page p).srst) = true := by
    rw [bit_setBit _ _ _ (by decide), hp, hrun]
    rfl
  unfold State.softResetCmd State.blkCtlWrite
  dsimp only
  rw [if_pos hsrst, if_neg hfix]
  exact ⟨_, rfl⟩

/-- SOFT_RESET leaves what the soft reset of its page leaves. -/
theorem State.softResetCmd_leaves {s : State} {p : Nat} (hp : allocated p = true) (hrun : (s.page p).srst = false) (hfix : p ≠ 0x004) (hbank : p ≠ 0x005) :
    s.SoftResetLeaves (s.softResetCmd p) p := by
  obtain ⟨v, hcmd⟩ := State.softResetCmd_of_runs hp hrun hfix
  rw [hcmd]
  have hbefore : (s.wr (Reg.BLK_CTL p) v).HeadersStand (if p = 0x003 then (s.wr (Reg.BLK_CTL p) v).anchor else s.wr (Reg.BLK_CTL p) v) := by
    split
    · exact State.anchor_headersStand _
    · exact .refl _
  have hruns : ((if p = 0x003 then (s.wr (Reg.BLK_CTL p) v).anchor else s.wr (Reg.BLK_CTL p) v).page p).srst = false := by
    rw [State.page_of_pages hbefore.pages]
    exact hrun
  obtain ⟨hpage, hheader, hmem, hfixes⟩ := (State.softReset_leaves hp hruns hfix hbank).between hbefore (State.srstFresh_headersStand _ p)
  refine ⟨hpage, fun o ho => (hheader o ho).trans ?_, hmem, hfixes⟩
  split
  · rfl
  · next hkept =>
    refine State.rd_wr_ne s v (fun heq => hkept ?_)
    obtain rfl : o = 0x00C := by simp only [Reg.BLK_CTL] at heq; omega
    rfl

/-- SOFT_RESET that reaches its register is a write of `BLK_CTL` with `SRST`. -/
theorem exec_softReset_of_passes {t m p : Nat} {s : State} (h : (s.advance t).passes m (Reg.BLK_CTL p)) :
    exec (.softReset t m p) s = .next (((s.advance t).served m).softResetCmd p) := congrArg Host.Outcome.next (cmdReg_of_passes _ h)

/-- Settles O16: of the page's header a soft reset returns two registers to reset, and behind it marks the page. -/
theorem softResetKeepsCounters : Obligations.SoftResetKeepsCounters := by
  unfold Obligations.SoftResetKeepsCounters
  intro t m p s hpass hfix hbank S
  obtain ⟨hp, hrun⟩ := hpass.page_runs (by decide)
  obtain ⟨hpage, hheader, hmem, hfixes⟩ := State.softResetCmd_leaves hp hrun hfix hbank
  refine ⟨_, exec_softReset_of_passes hpass, congrArg PageSt.srst hpage, congrArg PageSt.soloPend hpage, congrArg PageSt.groupPend hpage,
    congrArg PageSt.copying hpage, fun o ho => ?_, (congrArg PageSt.keyed hpage :), (congrArg PageSt.wrong hpage :), (congrArg PageSt.active hpage :),
    (congrArg PageSt.epoch hpage :), hheader 0x014 (by decide), hheader 0x00C (by decide), hmem.trans ((s.advance t).served_mem m),
    hfixes.trans ((s.advance t).served_fix m)⟩
  obtain ⟨hlt, hkept⟩ : o < 0x040 ∧ srstHeader o = false := by
    revert o
    decide
  rw [hheader o hlt, hkept]
  rfl

end Sys2Proof.Machine
end

section
/-! SUPPORT. A power-on reset keeps what outlives every reset and begins the boot (R574, R576); where no counter rose in its own fabric cycle, registers that no fuse holds are at reset but for those it names itself (R49, R573, R578). -/

namespace Sys2Proof.Machine

/-! ## What the steps of a reset leave alone -/

/-- A trial withdrawn changes the boot flash alone (R447). -/
theorem State.trialWithdrawn_rest (s : State) : ∃ flash, s.trialWithdrawn = { s with sec := { s.sec with flash := flash } } := by
  unfold State.trialWithdrawn
  split
  · unfold State.bootWrite
    split
    exact ⟨_, rfl⟩
  · exact ⟨s.sec.flash, rfl⟩

/-- The straps change registers alone. -/
theorem State.strapped_rest (s : State) : ∃ regs, s.strapped = { s with regs := regs } := by
  unfold State.strapped
  split
  · exact ⟨_, rfl⟩
  · exact ⟨s.regs, rfl⟩

/-- The straps change the configuration of the two host ports alone (R578). -/
theorem State.strapped_rd (s : State) {k : Nat} (h : k ≠ Reg.HL_HL_CFG 0) (h' : k ≠ Reg.HL_HL_CFG 1) : s.strapped.rd k = s.rd k := by
  unfold State.strapped
  split
  · rw [State.rd_wr_ne _ _ h', State.rd_wr_ne _ _ h]
  · rfl

/-- Locks of the security policy change what stands behind pages alone. -/
theorem State.policyLocks_rest (l : List Nat) : ∀ s : State, ∃ pages, l.foldl (fun s p => s.policyLock p true) s = { s with pages := pages } := by
  induction l with
  | nil => exact fun s => ⟨s.pages, rfl⟩
  | cons p l ih => exact fun s => ih (s.policyLock p true)

theorem State.policyApply_rest (s : State) : ∃ pages, s.policyApply = { s with pages := pages } := State.policyLocks_rest (policyPages s.sec.lc) s

/-- Counters set to 1 change registers alone. -/
theorem State.recountAll_rest (s : State) (cycle : Nat) (inc : List (Nat × Nat × Nat)) : ∃ regs, s.recountAll cycle inc = { s with regs := regs } := by
  have hfold (l : List (Nat × Nat × Nat)) : ∀ u : State, ∃ regs,
      l.foldl (fun u x => if u.rf x.1 x.2.1 x.2.2 = fld (keyReset x.1) x.2.1 x.2.2 then u.wf x.1 x.2.1 x.2.2 1 else u) u = { u with regs := regs } := by
    induction l with
    | nil => exact fun u => ⟨u.regs, rfl⟩
    | cons x l ih =>
      intro u
      rw [List.foldl_cons]
      split
      · exact ih (u.wf x.1 x.2.1 x.2.2 1)
      · exact ih u
  unfold State.recountAll
  split
  · exact hfold inc s
  · exact ⟨s.regs, rfl⟩

/-- In another fabric cycle than that of the last counter raised, no counter is set to 1. -/
theorem State.recountAll_of_ne {s : State} {cycle : Nat} (inc : List (Nat × Nat × Nat)) (h : cycle ≠ s.fabric + 1) : s.recountAll cycle inc = s := if_neg h

/-! ## The power-on reset -/

/-- The state that a power-on reset with the sources `bits` and the straps leaves, before the counters of its fabric cycle. -/
def State.poweredOn (s : State) (bits straps : Nat) : State :=
  (((({ s.trialWithdrawn.bare with aonAt := s.now }.wr Reg.SYS_STRAP (word (straps % 8))).rstCause bits 0).strapped).policyApply).bootStart true

/-- A power-on reset is that state with the counters of its fabric cycle, for some sources. -/
theorem State.powerOnReset_eq (s : State) (src straps : Nat) :
    ∃ bits, s.powerOnReset src straps = (s.poweredOn bits straps).recountAll s.ctrCycle s.ctrInc := ⟨_, rfl⟩

/-- What outlives a reset of `s`, with a boot under way and the always-on counter at its start; the boot flash, registers and page marks are given. -/
def State.atPowerOn (s : State) (flash : List Host.Cell) (regs : List (Nat × Word)) (pages : List (Nat × PageSt)) : State :=
  { ({ s with sec := { s.sec with flash := flash } } : State).bare with
    regs := regs, pages := pages, aonAt := s.now, boot := { running := true, por := true, startAt := s.now, rstAt := s.fabric + 1 } }

/-- Beside registers, page marks and the boot flash, a power-on reset leaves what outlives every reset. -/
theorem State.poweredOn_rest (s : State) (bits straps : Nat) : ∃ flash regs pages, s.poweredOn bits straps = s.atPowerOn flash regs pages := by
  obtain ⟨flash, hflash⟩ := s.trialWithdrawn_rest
  obtain ⟨regs, hregs⟩ := State.strapped_rest (({ s.trialWithdrawn.bare with aonAt := s.now }.wr Reg.SYS_STRAP (word (straps % 8))).rstCause bits 0)
  unfold State.poweredOn
  rw [hregs]
  obtain ⟨pages, hpages⟩ := State.policyApply_rest
    { ({ s.trialWithdrawn.bare with aonAt := s.now }.wr Reg.SYS_STRAP (word (straps % 8))).rstCause bits 0 with regs := regs }
  rw [hpages, hflash]
  exact ⟨flash, _, pages, rfl⟩

/-- A power-on reset changes the registers of the boot, of its source and of the straps, and those are at reset that no fuse holds. -/
theorem State.poweredOn_rd (s : State) (bits straps k : Nat) (hboot : k ≠ Reg.SYS_BOOT_STAT) (hcause : k ≠ Reg.SYS_RST_CAUSE)
    (h0 : k ≠ Reg.HL_HL_CFG 0) (h1 : k ≠ Reg.HL_HL_CFG 1) (hfuse : fuseReg k = false) :
    (s.poweredOn bits straps).rd k = if k = Reg.SYS_STRAP then word (straps % 8) else keyReset k := by
  have hbare : ({ s.trialWithdrawn.bare with aonAt := s.now } : State).rd k = keyReset k :=
    (tget_filter (f := fun x => fuseReg x.1) _ (fun _ => rfl) _).trans (if_neg (Bool.eq_false_iff.mp hfuse))
  obtain ⟨pages, hpages⟩ := State.policyApply_rest
    ((({ s.trialWithdrawn.bare with aonAt := s.now }.wr Reg.SYS_STRAP (word (straps % 8))).rstCause bits 0).strapped)
  unfold State.poweredOn
  rw [hpages]
  calc _ = ((({ s.trialWithdrawn.bare with aonAt := s.now }.wr Reg.SYS_STRAP (word (straps % 8))).rstCause bits 0).strapped).rd k :=
        State.rd_wr_ne _ _ hboot
    _ = ({ s.trialWithdrawn.bare with aonAt := s.now }.wr Reg.SYS_STRAP (word (straps % 8))).rd k := by
        rw [State.strapped_rd _ h0 h1]
        exact State.rd_wr_ne _ _ hcause
    _ = if k = Reg.SYS_STRAP then word (straps % 8) else keyReset k := by rw [State.rd_wr, hbare]

/-- Counters set to 1 among the registers, the same holds of a whole power-on reset. -/
theorem State.powerOnReset_rest (s : State) (src straps : Nat) : ∃ flash regs pages, s.powerOnReset src straps = s.atPowerOn flash regs pages := by
  obtain ⟨bits, heq⟩ := s.powerOnReset_eq src straps
  obtain ⟨flash, _, pages, hrest⟩ := s.poweredOn_rest bits straps
  obtain ⟨regs, hcounters⟩ := (s.poweredOn bits straps).recountAll_rest s.ctrCycle s.ctrInc
  rw [heq, hcounters, hrest]
  exact ⟨flash, regs, pages, rfl⟩

/-- Where no counter rose in its fabric cycle, a power-on reset leaves the registers that come before the counters. -/
theorem State.powerOnReset_of_no_counter {s : State} (src straps : Nat) (h : s.ctrCycle ≠ s.fabric + 1) :
    ∃ bits, s.powerOnReset src straps = s.poweredOn bits straps := by
  obtain ⟨bits, heq⟩ := s.powerOnReset_eq src straps
  obtain ⟨_, _, _, hrest⟩ := s.poweredOn_rest bits straps
  have hcycle : s.ctrCycle ≠ (s.poweredOn bits straps).fabric + 1 := by
    rw [hrest]
    exact h
  exact ⟨bits, heq.trans (State.recountAll_of_ne _ hcycle)⟩

/-! ## Error counters -/

/-- The error counters of a page reset to 0, on pages that are allocated and others. -/
theorem keyReset_errorCounter {p o : Nat} (hp : p < 0x4000) (ho : o = 0x020 ∨ o = 0x024) : keyReset (p * 0x1000 + o) = 0 := by
  have hwin : p * 0x1000 + o < 2 ^ 26 := by omega
  have hpage : (p * 0x1000 + o) / 0x1000 = p := header_page p (by omega)
  have hofs : (p * 0x1000 + o) % 0x1000 = o := header_offset p (by omega)
  unfold keyReset regReset
  rw [if_pos hwin]
  dsimp only
  rw [hpage, hofs]
  split
  · rfl
  · rw [if_pos (by omega)]
    rcases ho with rfl | rfl <;> rfl

/-- No fuse holds a header register (R574). -/
theorem fuseReg_of_header {k : Nat} (h : k % 0x1000 < 0x040) : fuseReg k = false := by
  have hord : k ≠ Reg.SYS_ORD_CODE := by rintro rfl; exact absurd h (by decide)
  simp [fuseReg, hord, h]

/-- The error counters read 0 after a power-on reset. -/
theorem State.poweredOn_errorCounter (s : State) (bits straps : Nat) {p o : Nat} (hp : p < 0x4000) (ho : o = 0x020 ∨ o = 0x024) :
    (s.poweredOn bits straps).rd (p * 0x1000 + o) = 0 := by
  have hofs : (p * 0x1000 + o) % 0x1000 = o := header_offset p (by omega)
  have hne (k : Nat) (hk : 0x040 ≤ k % 0x1000) : p * 0x1000 + o ≠ k := by omega
  have hfuse : fuseReg (p * 0x1000 + o) = false := fuseReg_of_header (by omega)
  rw [s.poweredOn_rd bits straps _ (hne _ (by decide)) (hne _ (by decide)) (hne _ (by decide)) (hne _ (by decide)) hfuse,
    if_neg (hne _ (by decide)), keyReset_errorCounter hp ho]

/-- `STRAP` reads the straps after a power-on reset. -/
theorem State.poweredOn_strap (s : State) (bits straps : Nat) : (s.poweredOn bits straps).rd Reg.SYS_STRAP = word (straps % 8) := by
  rw [s.poweredOn_rd bits straps Reg.SYS_STRAP (by decide) (by decide) (by decide) (by decide) (by decide), if_pos rfl]

/-- POWER_ON_RESET is the reset of `PORESET_N` at the command's instant. -/
theorem exec_powerOnReset (t : Nat) (straps : Fin 8) (s : State) : exec (.powerOnReset t straps) s = .next ((s.advance t).powerOnReset 0 straps) := rfl

/-- Settles O39: beside registers and page marks a power-on reset leaves only what outlives every reset, and with no counter of its cycle the registers are as it set them. -/
theorem powerOnResetClears : Obligations.PowerOnResetClears := by
  unfold Obligations.PowerOnResetClears
  intro t straps s
  obtain ⟨_, _, _, hrest⟩ := (s.advance t).powerOnReset_rest 0 straps
  refine ⟨_, exec_powerOnReset .., congrArg State.lt hrest, congrArg (·.sec.dbg) hrest, congrArg (·.fix.entries) hrest, congrArg State.queues hrest,
    (congrArg (·.sec.lc) hrest :), (congrArg State.pending hrest :), congrArg (·.boot.running) hrest, fun hcycle => ?_⟩
  obtain ⟨bits, heq⟩ := State.powerOnReset_of_no_counter (s := s.advance t) 0 straps hcycle
  rw [heq, State.poweredOn_strap, Nat.mod_eq_of_lt straps.isLt]
  exact ⟨fun p hp => ⟨State.poweredOn_errorCounter _ _ _ hp (.inl rfl), State.poweredOn_errorCounter _ _ _ hp (.inr rfl)⟩, rfl⟩

end Sys2Proof.Machine
end

section
/-! SUPPORT. An entry of the fixture list over its occurrences and under a WRITE: what an occurrence leaves of it (R79, R80), the fire of a HOST_EVENT (R81, R92), and the status of a WRITE in the order of its checks with what it stores (R88). -/

namespace Sys2Proof.Machine

/-! ## What leaves the fixture list alone -/

/-- A cause leaves the fixture list. -/
@[simp] theorem State.cause_fix (s : State) (p n : Nat) : (s.cause p n).fix = s.fix := by
  obtain ⟨_, _, _, _, _, _, _, h⟩ := State.setCause_rest s p (word (2 ^ n))
  rw [State.cause, h]

/-- A counter raised leaves the fixture list. -/
@[simp] theorem State.incF_fix (s : State) (a lo width : Nat) : (s.incF a lo width).fix = s.fix := rfl

/-- A record leaves the fixture list, whether it is coalesced, staged or dropped (R420). -/
@[simp] theorem State.record_fix (s : State) (src event sev : Nat) (dt : List Byte) : (s.record src event sev dt).fix = s.fix := by
  unfold State.record
  split
  · rfl
  · simp only [State.wf, State.wr_fix, apply_ite State.fix, State.cause_fix, State.incF_fix, ite_self]

/-- The fixture list alone says what an entry holds. -/
theorem State.fixt_of_fix {s u : State} (h : u.fix = s.fix) (i : Nat) : u.fixt i = s.fixt i := by
  unfold State.fixt
  rw [h]

/-- An entry just stored reads as stored. -/
@[simp] theorem State.setFix_fixt_self (s : State) (i : Nat) (f : Fixture) : (s.setFix i f).fixt i = f := tget_tset_self ..

/-! ## The `ARM` flag (R79) -/

/-- An entry armed or disarmed reads so. -/
@[simp] theorem Fixture.setArm_armed (f : Fixture) (b : Bool) : (f.setArm b).armed = b := by
  unfold Fixture.setArm Fixture.armed
  cases b <;> simp

/-! ## The repeat of an entry (R80) -/

/-- While occurrences remain the entry moves on by `PERIOD`, as armed as before. -/
theorem Fixture.repeat_of_more {f : Fixture} (hperiod : f.period ≠ 0) (hcount : f.count = 0 ∨ 1 < f.count) :
    f.repeat_ = { f with count := f.count - 1, lt := wrap64 (f.lt + f.period * 2 ^ 32) } := if_pos (by simp [hperiod, hcount])

/-- Its flags alone say whether an entry is armed. -/
theorem Fixture.armed_of_flags {f g : Fixture} (h : f.flags = g.flags) : f.armed = g.armed := by
  unfold Fixture.armed
  rw [h]

/-- After the last occurrence the entry keeps its line time, disarmed. -/
theorem Fixture.repeat_of_last {f : Fixture} (h : f.period = 0 ∨ f.count = 1) :
    f.repeat_ = ({ f with count := f.count - 1 } : Fixture).setArm false := if_neg (by rcases h with h | h <;> simp [h])

/-- Every occurrence takes one from a non-zero `COUNT`. -/
theorem Fixture.repeat_count (f : Fixture) : f.repeat_.count = f.count - 1 := by
  by_cases h : f.period = 0 ∨ f.count = 1
  · rw [Fixture.repeat_of_last h]
    rfl
  · rw [Fixture.repeat_of_more (by omega) (by omega)]

/-- A fired occurrence leaves the repeat of its entry, with the fire noted (R79). -/
theorem State.fired_fixt (s : State) (i : Nat) : (s.fired i).fixt i =
    ({ s.fixt i with result := Status.done, fireErr := satField 16 (-(s.fireIn i)), fires := ((s.fixt i).fires + 1) % 65536 } : Fixture).repeat_ := by
  unfold State.fired
  dsimp only
  split
  · rw [State.fixt_of_fix (State.cause_fix ..)]
    exact tget_tset_self ..
  · exact tget_tset_self ..

/-- A skipped occurrence leaves the repeat of its entry, with the reason as its result (R91). -/
theorem State.skip_fixt (s : State) (i : Nat) (st : Status) : (s.skip i st).fixt i = ({ s.fixt i with result := st } : Fixture).repeat_ := by
  unfold State.skip
  dsimp only
  rw [State.fixt_of_fix (State.record_fix ..), State.fixt_of_fix (State.cause_fix ..)]
  exact tget_tset_self ..

/-- Settles O19: an occurrence stores the repeat of its entry, and what else it stores the repeat does not read. -/
theorem occurrenceRepeats : Obligations.OccurrenceRepeats := by
  unfold Obligations.OccurrenceRepeats
  intro i st s f g hg
  obtain ⟨h, hg, hlt, hcount, hperiod, harmed⟩ :
      ∃ h : Fixture, g = h.repeat_ ∧ h.lt = f.lt ∧ h.count = f.count ∧ h.period = f.period ∧ h.armed = f.armed := by
    rcases hg with rfl | rfl
    · exact ⟨_, s.skip_fixt i st, rfl, rfl, rfl, rfl⟩
    · exact ⟨_, s.fired_fixt i, rfl, rfl, rfl, rfl⟩
  rw [← hlt, ← hcount, ← hperiod, ← harmed, hg]
  refine ⟨h.repeat_count, fun hp hc => ?_, fun hlast => ?_⟩
  · rw [Fixture.repeat_of_more hp hc]
    exact ⟨rfl, Fixture.armed_of_flags rfl⟩
  · rw [Fixture.repeat_of_last hlast]
    exact ⟨rfl, Fixture.setArm_armed ..⟩

/-! ## HOST_EVENT (R81, R92) -/

/-- What is due for an action is an entry of that action. -/
theorem State.action_of_due {s : State} {i action : Nat} {ok : Bool} (h : s.due i action = some ok) : (s.fixt i).action = action := by
  refine Decidable.byContradiction fun hne => ?_
  have hnone : s.due i action = none := if_pos (by simp [hne])
  rw [hnone] at h
  cases h

/-- A fixture due within its tolerance, which neither the mode nor anything beside its target stops, fires. -/
theorem State.plainFire_of_due {s : State} {i action : Nat} (effect : State → Fixture → State) (hdue : s.due i action = some true)
    (hfine : s.fineStopped (s.fixt i) = false) (hmode : s.mode ≠ 0) (hheld : s.fixHeld (s.fixt i) = none) :
    s.plainFire i action false effect = effect (s.fired i) (s.fixt i) := by
  simp [State.plainFire, hdue, hfine, hmode, hheld]

/-- A HOST_EVENT fixture needs no fine timer, so no mode but OFF stops it (R82). -/
theorem State.fineStopped_hostEvent {s : State} {f : Fixture} (h : f.action = 0x0B) : s.fineStopped f = false := by
  simp [State.fineStopped, Fixture.fine, h]

/-- HOST_EVENT is the fire of entry `i` at the command's instant. -/
theorem exec_hostEvent (t : Nat) (i : Fin 8192) (s : State) : exec (.hostEvent t i) s = .next ((s.advance t).hostEventFix i) := rfl

/-- Settles O20: the entry due is a HOST_EVENT, which no mode's fine timer stops, and it fires with its effect. -/
theorem hostEventFires : Obligations.HostEventFires := by
  unfold Obligations.HostEventFires
  intro t i s hdue hmode hheld
  have hfine : (s.advance t).fineStopped ((s.advance t).fixt i) = false := State.fineStopped_hostEvent (State.action_of_due hdue)
  rw [exec_hostEvent, State.hostEventFix, State.plainFire_of_due _ hdue hfine hmode hheld]
  rfl

/-! ## WRITE (R88) -/

/-- What a WRITE stores under its status: the entry as written, and disarmed where the status is not DONE. -/
def Fixture.stored (f : Fixture) (st : Status) : Fixture := if st = .done then { f with result := st } else ({ f with result := st } : Fixture).setArm false

/-- The PLLs kept running for a fixture armed in time leave the fixture list (R494). -/
@[simp] theorem State.pllKept_fix (s : State) : s.pllKept.fix = s.fix := by
  unfold State.pllKept State.pllStart
  dsimp only
  repeat' split
  all_goals rfl

section
variable {s : State} {host : Bool} {i : Nat} {f : Fixture}

/-- A WRITE out of the writer's range, or of an entry that names nothing, is refused. -/
theorem State.writeStatus_refused (h : s.inRange host i = false ∨ f.valid = false) : s.writeStatus host i f = Status.refused :=
  if_pos (by rcases h with h | h <;> simp [h])

/-- In range, and of an entry that names what exists, a WRITE has the status of its checks of `ARM` and line time. -/
theorem State.writeStatus_admitted (hrange : s.inRange host i = true) (hvalid : f.valid = true) :
    s.writeStatus host i f =
      if ! f.armed then Status.done
      else if ! ltFuture f.lt s.lt then Status.deadlineMissed
      else if f.action == 0x03 && decide (s.edgesTo f.lt < (150 * usec : Nat)) then Status.deadlineMissed
      else Status.done := if_neg (by simp [hrange, hvalid])

/-- A disarmed entry passes them. -/
theorem State.writeStatus_disarmed (hrange : s.inRange host i = true) (hvalid : f.valid = true) (harm : f.armed = false) :
    s.writeStatus host i f = Status.done := (State.writeStatus_admitted hrange hvalid).trans (if_pos (by rw [harm]; rfl))

/-- An armed one must lie in the future (R72). -/
theorem State.writeStatus_past (hrange : s.inRange host i = true) (hvalid : f.valid = true) (harm : f.armed = true)
    (hpast : ltFuture f.lt s.lt = false) : s.writeStatus host i f = Status.deadlineMissed := by
  rw [State.writeStatus_admitted hrange hvalid, harm, hpast]
  rfl

/-- For an armed one in the future only an ACK_TX too near is late. -/
theorem State.writeStatus_future (hrange : s.inRange host i = true) (hvalid : f.valid = true) (harm : f.armed = true)
    (hfuture : ltFuture f.lt s.lt = true) : s.writeStatus host i f =
      if f.action = 0x03 ∧ s.edgesTo f.lt < (150 * usec : Nat) then Status.deadlineMissed else Status.done := by
  rw [State.writeStatus_admitted hrange hvalid, if_neg (by rw [harm]; decide), if_neg (by rw [hfuture]; decide)]
  simp only [Bool.and_eq_true, beq_iff_eq, decide_eq_true_eq]

/-- A refused WRITE changes nothing. -/
theorem State.applyWrite_refused {b : List Byte} (h : s.writeStatus host i (Fixture.ofBytes b) = Status.refused) :
    s.applyWrite host i b = (s, Status.refused) := by
  unfold State.applyWrite
  dsimp only
  rw [h, if_pos rfl]

/-- Any other WRITE answers its status and stores the entry under it. -/
theorem State.applyWrite_stores {b : List Byte} {st : Status} (h : s.writeStatus host i (Fixture.ofBytes b) = st) (hst : st ≠ Status.refused) :
    (s.applyWrite host i b).2 = st ∧ (s.applyWrite host i b).1.fixt i = (Fixture.ofBytes b).stored st := by
  unfold State.applyWrite
  dsimp only
  rw [h, if_neg hst]
  refine ⟨rfl, (State.fixt_of_fix (State.pllKept_fix _) i).trans ?_⟩
  exact tget_tset_self ..

end

/-- An entry stored holds its status as `RESULT`, and `FIRES` and `FIRE_ERR` as written. -/
theorem Fixture.stored_fields (f : Fixture) (st : Status) :
    (f.stored st).fires = f.fires ∧ (f.stored st).fireErr = f.fireErr ∧ (f.stored st).result = st := by
  unfold Fixture.stored
  split <;> exact ⟨rfl, rfl, rfl⟩

/-- Under DONE the entry stands as armed as it was written. -/
theorem Fixture.stored_done_armed (f : Fixture) : (f.stored Status.done).armed = f.armed := rfl

/-- Under DEADLINE_MISSED the entry stands disarmed. -/
theorem Fixture.stored_missed_armed (f : Fixture) : (f.stored Status.deadlineMissed).armed = false := Fixture.setArm_armed ..

/-- A WRITE's bytes spell an entry that has not fired (R79). -/
theorem Fixture.ofBytes_unfired (b : List Byte) : (Fixture.ofBytes b).fires = 0 ∧ (Fixture.ofBytes b).fireErr = 0 := ⟨rfl, rfl⟩

/-- Settles O21: the status is that of the first check that answers, and the entry is stored under it. -/
theorem fixtureWriteOutcome : Obligations.FixtureWriteOutcome := by
  unfold Obligations.FixtureWriteOutcome
  intro host i b s f r
  refine ⟨fun h => State.applyWrite_refused (State.writeStatus_refused h), fun hrange hvalid => ?_⟩
  have hadmitted : s.writeStatus host i f ≠ Status.refused := by
    rw [State.writeStatus_admitted hrange hvalid]
    repeat' split
    all_goals decide
  obtain ⟨hr, hentry⟩ := State.applyWrite_stores rfl hadmitted
  obtain ⟨hfires, herr, hresult⟩ := f.stored_fields (s.writeStatus host i f)
  obtain ⟨hnoFires, hnoErr⟩ := Fixture.ofBytes_unfired b
  rw [hentry]
  have hdone (h : s.writeStatus host i f = Status.done) : r.2 = Status.done ∧ (f.stored (s.writeStatus host i f)).armed = f.armed :=
    ⟨hr.trans h, by rw [h, Fixture.stored_done_armed]⟩
  have hmissed (h : s.writeStatus host i f = Status.deadlineMissed) :
      r.2 = Status.deadlineMissed ∧ (f.stored (s.writeStatus host i f)).armed = false :=
    ⟨hr.trans h, by rw [h, Fixture.stored_missed_armed]⟩
  refine ⟨hfires.trans hnoFires, herr.trans hnoErr, hresult.trans hr.symm, fun harm => ?_, fun harm hpast => ?_,
    fun harm hfuture hack hnear => ?_, fun harm hfuture hfar => ?_⟩
  · exact (hdone (State.writeStatus_disarmed hrange hvalid harm)).imp_right (·.trans harm)
  · exact hmissed (State.writeStatus_past hrange hvalid harm hpast)
  · exact hmissed ((State.writeStatus_future hrange hvalid harm hfuture).trans (if_pos ⟨hack, hnear⟩))
  · exact (hdone ((State.writeStatus_future hrange hvalid harm hfuture).trans (if_neg hfar))).imp_right (·.trans harm)

end Sys2Proof.Machine
end

section
/-! SUPPORT. Line time under commands of the tracker: what it depends on, that anchoring it anew does not move it, what a stopped tracker holds (R64), and a snapshot of it and of UTC (R76). -/

namespace Sys2Proof.Machine

/-! ## What line time depends on (R10, R66, R68, R70) -/

/-- From `s` to `u` the instant, the tracker and the registers that line time is extrapolated with stand. -/
structure State.LineTimeStands (s u : State) : Prop where
  now : u.now = s.now
  trk : u.trk = s.trk
  freq : u.rd Reg.LTIME_FREQ = s.rd Reg.LTIME_FREQ
  cfg : u.rd Reg.LTIME_TRK_CFG = s.rd Reg.LTIME_TRK_CFG
  nominal : u.rd (Reg.NBP_MAP_CFG 0) = s.rd (Reg.NBP_MAP_CFG 0)

namespace State.LineTimeStands
variable {s u w : State}

theorem refl (s : State) : s.LineTimeStands s := ⟨rfl, rfl, rfl, rfl, rfl⟩

theorem trans (h : s.LineTimeStands u) (h' : u.LineTimeStands w) : s.LineTimeStands w :=
  ⟨h'.now.trans h.now, h'.trk.trans h.trk, h'.freq.trans h.freq, h'.cfg.trans h.cfg, h'.nominal.trans h.nominal⟩

/-- Line time then reads the same, now and at every instant. -/
theorem lt (h : s.LineTimeStands u) : u.lt = s.lt := by
  unfold State.lt State.ltAt State.trkAdvance State.convFreq State.rf State.rb
  rw [h.now, h.trk, h.freq, h.cfg, h.nominal]

end State.LineTimeStands

/-- A register that line time is not extrapolated with. -/
theorem State.wr_lineTimeStands (s : State) {a : Nat} (v : Word) (hfreq : Reg.LTIME_FREQ ≠ a) (hcfg : Reg.LTIME_TRK_CFG ≠ a)
    (hnominal : Reg.NBP_MAP_CFG 0 ≠ a) : s.LineTimeStands (s.wr a v) :=
  ⟨rfl, rfl, State.rd_wr_ne s v hfreq, State.rd_wr_ne s v hcfg, State.rd_wr_ne s v hnominal⟩

/-- An ignored access of the LTIME page. -/
theorem State.ignored_lineTimeStands (s : State) : s.LineTimeStands (s.ignored 0x003) := by
  obtain ⟨_, _, _, _, _, _, _, hrest⟩ := State.setCause_rest (s.inc (Reg.ERR_UNCORR 0x003)) 0x003 (word (2 ^ 28))
  have hrd {k : Nat} (hk : k < 2 ^ 26) (hcnt : k ≠ Reg.MSIX_VEC_CNT) (hcause : k ≠ Reg.INT_CAUSE 0x003) (herr : k ≠ Reg.ERR_UNCORR 0x003) :
      (s.ignored 0x003).rd k = s.rd k := by
    rw [State.ignored_rd s hk hcnt, if_neg hcause, if_neg herr]
  refine ⟨?_, ?_, hrd (by decide) (by decide) (by decide) (by decide), hrd (by decide) (by decide) (by decide) (by decide),
    hrd (by decide) (by decide) (by decide) (by decide)⟩
  all_goals
    rw [State.ignored, State.cause, hrest]
    rfl

/-- A waiting adoption dropped (R73). -/
theorem State.dropCyc_lineTimeStands (s : State) : s.LineTimeStands s.dropCyc := by
  unfold State.dropCyc
  split
  · exact (s.wr_lineTimeStands _ (by decide) (by decide) (by decide)).trans (State.ignored_lineTimeStands _)
  · exact .refl s

/-! ## Line time anchored anew -/

/-- In no time nothing of a slew is done. -/
theorem slewDone_zero (f max_ : Nat) (e : Int) : slewDone f max_ e 0 = 0 := by
  unfold slewDone
  simp only [Nat.mul_zero, Int.natCast_zero, Int.zero_ediv, Int.neg_zero]
  split
  · next h => exact Int.min_eq_right h
  · next h => exact Int.max_eq_right (by omega)

/-- At its anchor line time has advanced by nothing. -/
theorem State.trkAdvance_zero (s : State) : s.trkAdvance 0 = 0 := by
  unfold State.trkAdvance
  rw [slewDone_zero]
  simp [phaseIn, unitsOfNs]

/-- Line time before the epoch (R71). -/
theorem State.ltAt_of_no_epoch {s : State} (t : Nat) (h : s.trk.epoch = false) : s.ltAt t = 0 := if_pos (by rw [h]; rfl)

/-- Line time while the tracker is stopped (R64). -/
theorem State.ltAt_of_stopped {s : State} (t : Nat) (hepoch : s.trk.epoch = true) (hstop : s.trk.stopped = true) : s.ltAt t = s.trk.lt0 :=
  (if_neg (by rw [hepoch]; decide)).trans (if_pos hstop)

/-- Line time while the tracker runs (R66, R68). -/
theorem State.ltAt_of_running {s : State} (t : Nat) (hepoch : s.trk.epoch = true) (hrun : s.trk.stopped = false) :
    s.ltAt t = wrap64 (s.trk.lt0 + max (s.trkAdvance (t - s.trk.t0)) s.trk.lead) :=
  (if_neg (by rw [hepoch]; decide)).trans (if_neg (by rw [hrun]; decide))

/-- An anchor is taken at the present instant, whatever the tracker does, and touches neither its epoch nor whether it runs. -/
theorem State.anchor_stands (s : State) : s.anchor.now = s.now ∧ s.anchor.trk.t0 = s.now ∧ s.anchor.trk.epoch = s.trk.epoch ∧
    s.anchor.trk.stopped = s.trk.stopped := by
  unfold State.anchor
  dsimp only
  split <;> exact ⟨rfl, rfl, rfl, rfl⟩

/-- A stopped tracker keeps the line time it holds. -/
theorem State.anchor_of_stopped {s : State} (h : s.trk.stopped = true) : s.anchor.trk.lt0 = s.trk.lt0 := by
  unfold State.anchor
  dsimp only
  rw [if_pos (by rw [h, Bool.or_true])]

/-- A running one moves its anchor by the line time since, which it takes from the lead. -/
theorem State.anchor_of_running {s : State} (hepoch : s.trk.epoch = true) (hrun : s.trk.stopped = false) :
    let a := s.trkAdvance (s.now - s.trk.t0)
    s.anchor.trk.lt0 = wrap64 (s.trk.lt0 + a) ∧ s.anchor.trk.lead = s.trk.lead - a := by
  unfold State.anchor
  dsimp only
  rw [if_neg (by rw [hepoch, hrun]; decide)]
  exact ⟨rfl, rfl⟩

/-- Line time from the new anchor on begins where it stood: what the lead lost, the anchor gained. -/
theorem wrap64_anchored (l a lead : Nat) : wrap64 (wrap64 (l + a) + (lead - a)) = wrap64 (l + max a lead) := by
  unfold wrap64
  rw [Nat.mod_add_mod]
  congr 1
  omega

/-- Anchored at the present instant, line time reads as it did (R70). -/
theorem State.anchor_lt (s : State) : s.anchor.lt = s.lt := by
  obtain ⟨hnow, ht0, hepochs, hstops⟩ := s.anchor_stands
  unfold State.lt
  rw [hnow]
  cases hepoch : s.trk.epoch with
  | false => rw [State.ltAt_of_no_epoch _ hepoch, State.ltAt_of_no_epoch _ (hepochs.trans hepoch)]
  | true =>
    cases hstop : s.trk.stopped with
    | true =>
      rw [State.ltAt_of_stopped _ hepoch hstop, State.ltAt_of_stopped _ (hepochs.trans hepoch) (hstops.trans hstop), State.anchor_of_stopped hstop]
    | false =>
      obtain ⟨hlt0, hlead⟩ := State.anchor_of_running hepoch hstop
      rw [State.ltAt_of_running _ hepoch hstop, State.ltAt_of_running _ (hepochs.trans hepoch) (hstops.trans hstop), ht0, Nat.sub_self,
        State.trkAdvance_zero, Nat.zero_max, hlt0, hlead, wrap64_anchored]

/-! ## A stopped tracker (R64) -/

/-- The tracker stopped at the present line time; of `TRK_STAT` the flags of `MET_OK` and of UTC stand (R64). -/
def State.trackerStopped (s : State) : State :=
  (s.setTrk { s.trk with stopped := true, lt0 := s.lt, lead := 0, rate := 0, slewNs := 0, runLen := 0 }).wr Reg.LTIME_TRK_STAT
    (s.rd Reg.LTIME_TRK_STAT &&& 0x00000C08)

/-- A write of `EN` 0 to a page that is not locked stops a tracker that runs. -/
theorem State.trkEnable_stops {s : State} (hkey : (s.page 0x003).keyed = false) (hpol : (s.page 0x003).policy = false) (hrun : s.trk.stopped = false) :
    s.trkEnable false = (s.wb Reg.LTIME_TRK_CTL 0 false).dropCyc.anchor.trackerStopped := by
  simp only [State.trkEnable, hkey, hpol, hrun, Bool.or_self, Bool.false_eq_true, if_false, Bool.not_false, Bool.and_self, if_true]
  rfl

/-- The line time it stops at. -/
theorem State.stoppedAt_lt (s : State) : (s.wb Reg.LTIME_TRK_CTL 0 false).dropCyc.anchor.lt = s.lt := by
  rw [State.anchor_lt]
  exact ((s.wr_lineTimeStands _ (by decide) (by decide) (by decide)).trans (State.dropCyc_lineTimeStands _)).lt

/-- A stopped tracker holds its line time at every instant: 0 before the epoch (R71), else the one it stopped at. -/
theorem State.trackerStopped_ltAt (s : State) (t : Nat) : s.trackerStopped.ltAt t = s.lt := by
  cases h : s.trk.epoch with
  | false => exact (State.ltAt_of_no_epoch (s := s.trackerStopped) t h).trans (State.ltAt_of_no_epoch s.now h).symm
  | true => exact State.ltAt_of_stopped t h rfl

/-- It is in no holdover (R69). -/
theorem State.trackerStopped_holdAge (s : State) : s.trackerStopped.holdAge = 0 := if_neg (by simp [State.trackerStopped, State.setTrk])

/-- Fields of a conjunction of words. -/
theorem fld_and (v w : Word) (lo width : Nat) : fld (v &&& w) lo width = fld v lo width &&& fld w lo width := by
  unfold fld
  rw [BitVec.toNat_and, Nat.and_div_two_pow, Nat.and_mod_two_pow]

/-- `STATE` reads 0 (R78). -/
theorem State.trackerStopped_state (s : State) : s.trackerStopped.rf Reg.LTIME_TRK_STAT 0 2 = 0 := by
  have hmask : fld 0x00000C08 0 2 = 0 := by decide
  rw [State.rf, State.trackerStopped, State.rd_wr_self, fld_and, hmask, Nat.and_zero]

/-- Noting a host access leaves the tracker. -/
theorem State.served_trk (s : State) (m : Nat) : (s.served m).trk = s.trk := by
  unfold State.served State.hostTouch State.pllStart
  dsimp only
  repeat' split
  all_goals rfl

/-- TRACKER_ENABLE that reaches its register is a write of `EN`. -/
theorem exec_trackerEnable_of_passes {t m : Nat} (en : Bool) {s : State} (h : (s.advance t).passes m 0x3040) :
    exec (.trackerEnable t m en) s = .next (((s.advance t).served m).trkEnable en) := congrArg Host.Outcome.next (cmdReg_of_passes _ h)

/-- Settles O18: the tracker stops at the present line time, which anchoring it anew does not move. -/
theorem stoppedTrackerHoldsLineTime : Obligations.StoppedTrackerHoldsLineTime := by
  unfold Obligations.StoppedTrackerHoldsLineTime
  intro t m s hpass hkey hpol hrun
  have hpage : ((s.advance t).served m).page 0x003 = s.page 0x003 := State.page_of_pages (State.served_causesStand _ m 0x003).pages _
  have hstop := State.trkEnable_stops (s := (s.advance t).served m) (by rwa [hpage]) (by rwa [hpage]) (by rwa [State.served_trk])
  refine ⟨_, (exec_trackerEnable_of_passes false hpass).trans (congrArg Host.Outcome.next hstop), rfl, State.trackerStopped_state _,
    State.trackerStopped_holdAge _, fun later => ?_⟩
  rw [State.trackerStopped_ltAt, State.stoppedAt_lt]

/-! ## SNAP (R76) -/

/-- A snapshot stores line time, UTC and its number, and no other register. -/
theorem State.snap_rd (s : State) (k : Nat) : s.snap.rd k =
    if k = Reg.LTIME_SNAP_SEQ then s.rd Reg.LTIME_SNAP_SEQ + 1
    else if k = Reg.LTIME_SNAP_UTC_HI then word (s.utc / 2 ^ 32)
    else if k = Reg.LTIME_SNAP_UTC_LO then word s.utc
    else if k = Reg.LTIME_SNAP_LT_HI then word (s.lt / 2 ^ 32)
    else if k = Reg.LTIME_SNAP_LT_LO then word s.lt
    else s.rd k := by
  unfold State.snap State.wr64
  rw [State.rd_wr, State.rd_wr, State.rd_wr, State.rd_wr, State.rd_wr]

/-- SNAP that reaches its register is a snapshot. -/
theorem exec_snap_of_passes {t m : Nat} {s : State} (h : (s.advance t).passes m 0x3040) :
    exec (.snap t m) s = .next ((s.advance t).served m).snap := congrArg Host.Outcome.next (cmdReg_of_passes _ h)

/-- Beside registers a snapshot changes nothing. -/
theorem State.snap_rest (s : State) : { s.snap with regs := s.regs } = s := by
  obtain ⟨regs, hsnap⟩ : ∃ regs, s.snap = { s with regs := regs } := ⟨_, rfl⟩
  rw [hsnap]

/-- Settles O17: a snapshot is five register writes. -/
theorem snapCaptures : Obligations.SnapCaptures := by
  unfold Obligations.SnapCaptures
  intro t m s hpass S
  refine ⟨S.snap, exec_snap_of_passes hpass, ?_, ?_, ?_, ?_, ?_, fun k hk => ?_, S.snap_rest⟩
  case refine_6 =>
    simp only [List.mem_cons, List.not_mem_nil, or_false, not_or] at hk
    obtain ⟨hltLo, hltHi, hutcLo, hutcHi, hseq⟩ := hk
    rw [State.snap_rd, if_neg hseq, if_neg hutcHi, if_neg hutcLo, if_neg hltHi, if_neg hltLo]
  all_goals
    rw [State.snap_rd]
    rfl

end Sys2Proof.Machine
end

section
/-! SUPPORT. The machine right after reset: line time and UTC, the pages, and the registers but for the reset cause and the boot status (R71, R574, R581). -/

namespace Sys2Proof.Machine

/-- Beside the reset cause and the boot status every register is at reset. -/
theorem State.reset_rd {a : Nat} (hcause : a ≠ Reg.SYS_RST_CAUSE) (hboot : a ≠ Reg.SYS_BOOT_STAT) : State.reset.rd a = keyReset a :=
  (if_neg hcause.symm).trans (if_neg hboot.symm)

/-- The reset cause after reset is `PORESET_N` (R574). -/
theorem State.reset_rstCause : State.reset.rd Reg.SYS_RST_CAUSE = 1 := rfl

/-- Settles O10: nothing but two registers and the boot differs from an empty state. -/
theorem resetState : Obligations.ResetState := by
  unfold Obligations.ResetState
  refine ⟨rfl, rfl, rfl, fun _ => rfl, rfl, fun _ => State.reset_rd, ?_⟩
  rw [State.rb, State.reset_rstCause]
  rfl

end Sys2Proof.Machine
end

section
/-! SUPPORT. A conductor under current limiting: what an interrupt and a record leave alone, what a detection of R106 leaves of the conductors, and how `LIM_MS` adds up and expires (R106, R107). -/

namespace Sys2Proof.Machine

/-! ## What interrupts and records can change -/

/-- From `s` to `u` everything but registers, page marks, the scorebook, interrupt and counter marks and packets to the host stands. -/
def State.Reports (s u : State) : Prop :=
  ∃ regs pages scb vc vs cc ci host,
    u = { s with regs := regs, pages := pages, scb := scb, vecCycle := vc, vecSent := vs, ctrCycle := cc, ctrInc := ci, host := host }

namespace State.Reports
variable {s u w : State}

theorem refl (s : State) : s.Reports s := ⟨_, _, _, _, _, _, _, _, rfl⟩

theorem trans (h : s.Reports u) (h' : u.Reports w) : s.Reports w := by
  obtain ⟨_, _, _, _, _, _, _, _, rfl⟩ := h
  obtain ⟨_, _, _, _, _, _, _, _, rfl⟩ := h'
  exact ⟨_, _, _, _, _, _, _, _, rfl⟩

/-- A register set. -/
theorem wr (h : s.Reports u) (a : Nat) (v : Word) : s.Reports (u.wr a v) := h.trans ⟨_, _, _, _, _, _, _, _, rfl⟩

/-- A counter field raised. -/
theorem incF (h : s.Reports u) (a lo width : Nat) : s.Reports (u.incF a lo width) := h.trans ⟨_, _, _, _, _, _, _, _, rfl⟩

/-- The scorebook set. -/
theorem setScb (h : s.Reports u) (b : ScbSt) : s.Reports { u with scb := b } := h.trans ⟨_, _, _, _, _, _, _, _, rfl⟩

/-- A cause set. -/
theorem cause (h : s.Reports u) (p n : Nat) : s.Reports (u.cause p n) := by
  obtain ⟨_, _, _, _, _, _, _, hcause⟩ := State.setCause_rest u p (word (2 ^ n))
  exact h.trans ⟨_, _, _, _, _, _, _, _, hcause⟩

/-- Either branch. -/
theorem ite {c : Prop} [Decidable c] (hu : s.Reports u) (hw : s.Reports w) : s.Reports (if c then u else w) := by
  split
  · exact hu
  · exact hw

/-- A record, whether coalesced, staged or dropped (R420, R421). -/
theorem record (h : s.Reports u) (src event sev : Nat) (dt : List Byte) : s.Reports (u.record src event sev dt) := by
  have hlast := h.wr Reg.SCB_SCB_LAST (word (event % 2 ^ 16 + sev * 2 ^ 16))
  have hsev := ite (c := sev = 4) (hlast.cause 0x007 0) (ite (c := sev = 5) (hlast.cause 0x007 1) hlast)
  have hfull := (hsev.incF Reg.SCB_SCB_STAGE 16 16).cause 0x007 2
  unfold State.record
  exact .ite h (.wr (.ite (hsev.setScb _) (.ite (hsev.setScb _) (.ite hfull (hfull.setScb _)))) _ _)

/-- A detection of R106: a cause and a record. -/
theorem protEvent (h : s.Reports u) (p bit_ sev c : Nat) : s.Reports (u.protEvent p bit_ sev c) := (h.cause ..).record ..

theorem conds (h : s.Reports u) : u.conds = s.conds := by
  obtain ⟨_, _, _, _, _, _, _, _, rfl⟩ := h
  rfl

theorem fix (h : s.Reports u) : u.fix = s.fix := by
  obtain ⟨_, _, _, _, _, _, _, _, rfl⟩ := h
  rfl

theorem mem (h : s.Reports u) : u.mem = s.mem := by
  obtain ⟨_, _, _, _, _, _, _, _, rfl⟩ := h
  rfl

end State.Reports

/-! ## Conductors -/

/-- The conductor table alone says what a conductor holds. -/
theorem State.cond_of_conds {s u : State} (h : u.conds = s.conds) (p c : Nat) : u.cond p c = s.cond p c := by
  unfold State.cond
  rw [h]

/-- A conductor just set reads as set. -/
@[simp] theorem State.putCond_cond_self (s : State) (p c : Nat) (v : CondSt) : (s.putCond p c v).cond p c = v := tget_tset_self ..

/-- The others stand. -/
theorem State.putCond_cond_ne (s : State) {p c p' c' : Nat} (v : CondSt) (h : 3 * p' + c' ≠ 3 * p + c) : (s.putCond p c v).cond p' c' = s.cond p' c' :=
  tget_tset_ne _ _ _ _ h

/-- Setting one, with its status shown, leaves the scorebook, the fixture list and memory. -/
theorem State.putCond_rest (s : State) (p c : Nat) (v : CondSt) :
    (s.putCond p c v).scb = s.scb ∧ (s.putCond p c v).fix = s.fix ∧ (s.putCond p c v).mem = s.mem := ⟨rfl, rfl, rfl⟩

/-! ## CURRENT_LIMIT (R106, R107) -/

/-- The conductor in LIMIT at edge `e`, limited for `us` µs more. -/
def CondSt.limited (k : CondSt) (us e : Nat) : CondSt := { k with limit := true, limUs := k.limUs + us, lastLim := e }

/-- A conductor that is in LIMIT already makes no report. -/
theorem State.currentLimit_of_limit {s : State} {p c : Nat} (us : Nat) (h : (s.cond p c).limit = true) :
    s.currentLimit p c us = s.putCond p c ((s.cond p c).limited us s.now) := if_pos h

/-- Entry to LIMIT sets `SHORT` and makes a record. -/
theorem State.currentLimit_of_entry {s : State} {p c : Nat} (us : Nat) (h : (s.cond p c).limit = false) :
    s.currentLimit p c us = (s.putCond p c ((s.cond p c).limited us s.now)).protEvent p 0 0 c := if_neg (by simp [h])

/-- Either way the conductor is set, and no more than reported. -/
theorem State.currentLimit_reports (s : State) (p c us : Nat) :
    (s.putCond p c ((s.cond p c).limited us s.now)).Reports (s.currentLimit p c us) := by
  cases h : (s.cond p c).limit with
  | true =>
    rw [State.currentLimit_of_limit us h]
    exact .refl _
  | false =>
    rw [State.currentLimit_of_entry us h]
    exact (State.Reports.refl _).protEvent ..

/-- The conductor takes the limiting. -/
theorem State.currentLimit_cond_self (s : State) (p c us : Nat) : (s.currentLimit p c us).cond p c = (s.cond p c).limited us s.now := by
  rw [State.cond_of_conds (s.currentLimit_reports p c us).conds, State.putCond_cond_self]

/-- The others stand. -/
theorem State.currentLimit_cond_ne (s : State) {p c p' c' : Nat} (us : Nat) (h : 3 * p' + c' ≠ 3 * p + c) :
    (s.currentLimit p c us).cond p' c' = s.cond p' c' := by
  rw [State.cond_of_conds (s.currentLimit_reports p c us).conds, State.putCond_cond_ne _ _ h]

/-! ## LIMIT_EXPIRY (R106, R107) -/

/-- One second after the last limiting the conductor leaves LIMIT. -/
theorem State.limitExpiry_of_reached {s : State} {p c : Nat} (h : (s.cond p c).limit = true) (hreached : (s.cond p c).lastLim + 1500000000 ≤ s.now) :
    s.limitExpiry p c = s.putCond p c { s.cond p c with limit := false, limUs := 0 } := if_pos (by simp [h, hreached])

/-- Before that nothing happens. -/
theorem State.limitExpiry_of_early {s : State} {p c : Nat} (h : s.now < (s.cond p c).lastLim + 1500000000) : s.limitExpiry p c = s :=
  if_neg (by simp [h])

/-- CURRENT_LIMIT is the limiting at the command's instant. -/
theorem exec_currentLimit (t : Nat) (p : Fin 4) (c : Fin 3) (us : Nat) (s : State) :
    exec (.currentLimit t p c us) s = .next ((s.advance t).currentLimit p c us) := rfl

/-- LIMIT_EXPIRY looks at the conductor at the command's instant. -/
theorem exec_limitExpiry (t : Nat) (p : Fin 4) (c : Fin 3) (s : State) : exec (.limitExpiry t p c) s = .next ((s.advance t).limitExpiry p c) := rfl

/-- Settles O22: limiting sets its conductor and at entry reports, which reaches no conductor; the expiry sets it once the second is over. -/
theorem limitAccumulatesAndExpires : Obligations.LimitAccumulatesAndExpires := by
  unfold Obligations.LimitAccumulatesAndExpires
  intro t us p c s
  let S := s.advance t
  have hcond : (S.currentLimit p c us).cond p c = (s.cond p c).limited us S.now := S.currentLimit_cond_self p c us
  have hreports := S.currentLimit_reports p c us
  obtain ⟨hscb, hfix, hmem⟩ := S.putCond_rest p c ((S.cond p c).limited us S.now)
  refine ⟨⟨_, exec_currentLimit t p c us s, congrArg CondSt.limit hcond, congrArg CondSt.limUs hcond, fun hlimit => ?_,
    fun p' c' hne => S.currentLimit_cond_ne us hne, hreports.fix.trans hfix, hreports.mem.trans hmem⟩,
    fun hlimit hreached => ?_, fun _ hearly => ?_⟩
  · exact (congrArg State.scb (State.currentLimit_of_limit (s := S) us hlimit)).trans hscb
  · exact (exec_limitExpiry t p c s).trans (congrArg Host.Outcome.next (State.limitExpiry_of_reached (s := S) hlimit hreached))
  · exact (exec_limitExpiry t p c s).trans (congrArg Host.Outcome.next (State.limitExpiry_of_early (s := S) hearly))

end Sys2Proof.Machine
end

section
/-! SUPPORT. ISP signals on a port: detection in three windows in a row, the allocation decoded while the signals are present, and their end (R169). -/

namespace Sys2Proof.Machine

/-- Detection at the present instant: a signal seen now, `PRESENT` set, its cause and its record (R169). -/
def State.ispFound (s : State) (p : Nat) : State :=
  ((s.setIsp p { s.ispOf p with seen := s.now + 1 }).wb (Reg.BBP_ISP_STAT p) 0 true).ispChange p

/-! ## ISP_DETECT (R169) -/

/-- With `DET_EN` 0 nothing is detected. -/
theorem State.ispDetect_of_disabled {s : State} {p : Nat} (windows : List (List Nat)) (alloc : Option IspAlloc)
    (hoff : s.rb (Reg.BBP_ISP_CFG p) 0 = false) : s.ispDetect p windows alloc = s := if_pos (by simp [hoff])

/-- The last of three windows heard is heard. -/
theorem State.ispHeard_getLast_of_three {s : State} {p : Nat} {windows : List (List Nat)} {w : List Nat} (hlen : 3 ≤ windows.length)
    (hlast : windows.getLast? = some w) (hthree : (windows.drop (windows.length - 3)).all (s.ispHeard p) = true) : s.ispHeard p w = true := by
  have hdrop : (windows.drop (windows.length - 3)).getLast? = some w := by
    rw [List.getLast?_drop, if_neg (by omega), hlast]
  exact List.all_eq_true.mp hthree w (List.mem_of_getLast? hdrop)

section
variable {s : State} {p : Nat} {windows : List (List Nat)} {w : List Nat} (hon : s.rb (Reg.BBP_ISP_CFG p) 0 = true)
  (habsent : s.rb (Reg.BBP_ISP_STAT p) 0 = false) (hlen : 3 ≤ windows.length) (hlast : windows.getLast? = some w)
  (hthree : (windows.drop (windows.length - 3)).all (s.ispHeard p) = true)
include hon habsent hlen hlast hthree

/-- Three windows heard are a detection, which an allocation decoded with them follows while `PRESENT` stands. -/
theorem State.ispDetect_of_three (alloc : Option IspAlloc) : s.ispDetect p windows alloc =
    if (s.ispFound p).rb (Reg.BBP_ISP_STAT p) 0 && alloc.isSome then
      ((s.ispFound p).setIsp p { (s.ispFound p).ispOf p with alloc := alloc }).wb (Reg.BBP_ISP_STAT p) 2 true
    else s.ispFound p := by
  have hheard := State.ispHeard_getLast_of_three hlen hlast hthree
  have hdetected : (decide (3 ≤ windows.length) && (windows.drop (windows.length - 3)).all (s.ispHeard p) && ! s.rb (Reg.BBP_ISP_STAT p) 0) = true := by
    simp [hlen, hthree, habsent]
  unfold State.ispDetect
  rw [hlast]
  dsimp only
  rw [if_neg (by simp [hon]), if_pos hheard, if_pos hdetected, State.ispFound]

/-- With no allocation decoded it is the detection alone. -/
theorem State.ispDetect_none_of_three : s.ispDetect p windows none = s.ispFound p :=
  (State.ispDetect_of_three hon habsent hlen hlast hthree none).trans (if_neg (by simp))

/-- An allocation decoded while `PRESENT` stands is kept, and `ALLOC_OK` shows it. -/
theorem State.ispDetect_some_of_three (x : IspAlloc) (hpresent : (s.ispFound p).rb (Reg.BBP_ISP_STAT p) 0 = true) :
    s.ispDetect p windows (some x) =
      ((s.ispFound p).setIsp p { (s.ispFound p).ispOf p with alloc := some x }).wb (Reg.BBP_ISP_STAT p) 2 true :=
  (State.ispDetect_of_three hon habsent hlen hlast hthree (some x)).trans (if_pos (by simp [hpresent]))

end

/-! ## ISP_CLEAR (R169) -/

/-- `ISP_CLR_S` after the last signal heard `PRESENT` and the allocation end, with a cause and a record. -/
theorem State.ispClear_of_reached {s : State} {p : Nat} (hpresent : s.rb (Reg.BBP_ISP_STAT p) 0 = true)
    (hreached : (s.ispOf p).seen + s.rf (Reg.BBP_ISP_CFG p) 16 16 * 1000 * msec ≤ s.now + 1) :
    s.ispClear p = (((s.wb (Reg.BBP_ISP_STAT p) 0 false).wb (Reg.BBP_ISP_STAT p) 2 false).setIsp p {}).ispChange p :=
  if_pos (by simp [hpresent, hreached])

/-- Before that nothing happens. -/
theorem State.ispClear_of_early {s : State} {p : Nat}
    (hearly : s.now + 1 < (s.ispOf p).seen + s.rf (Reg.BBP_ISP_CFG p) 16 16 * 1000 * msec) : s.ispClear p = s :=
  if_neg (by simp [hearly])

/-- ISP_DETECT takes the windows at the command's instant. -/
theorem exec_ispDetect (t : Nat) (p : Fin 4) (windows : List (List Nat)) (alloc : Option IspAlloc) (s : State) :
    exec (.ispDetect t p windows alloc) s = .next ((s.advance t).ispDetect p windows alloc) := rfl

/-- ISP_CLEAR looks at the last signal at the command's instant. -/
theorem exec_ispClear (t : Nat) (p : Fin 4) (s : State) : exec (.ispClear t p) s = .next ((s.advance t).ispClear p) := rfl

/-- Settles O23: the last of three windows heard dates the detection, an allocation comes on top of it, and the clear looks at that date. -/
theorem ispPresence : Obligations.IspPresence := by
  unfold Obligations.IspPresence
  intro t p ws w x s a S
  refine ⟨fun hoff al => ?disabled, fun hon habsent hlen hlast hthree => ⟨?detected, fun hpresent => ?allocated⟩,
    fun hpresent => ⟨fun hreached => ?cleared, fun hearly => ?early⟩⟩
  case disabled => rw [exec_ispDetect, State.ispDetect_of_disabled (s := S) ws al hoff]
  case detected => exact congrArg Host.Outcome.next (State.ispDetect_none_of_three (s := S) hon habsent hlen hlast hthree)
  case allocated => exact congrArg Host.Outcome.next (State.ispDetect_some_of_three (s := S) hon habsent hlen hlast hthree x hpresent)
  case cleared => rw [exec_ispClear, State.ispClear_of_reached (s := S) hpresent hreached]
  case early => rw [exec_ispClear, State.ispClear_of_early (s := S) hearly]

end Sys2Proof.Machine
end

section
/-! SUPPORT. The neighbour table after NBR_EXPIRY: what of it stands, and what is freed (R255). -/

namespace Sys2Proof.Machine

/-- `NBR_STAT` shows the table and leaves it as it is. -/
@[simp] theorem State.showNbr_link (s : State) (p : Nat) : (s.showNbr p).link = s.link := State.wr_link ..

/-- A record stands unless it is of the port and its neighbour is unheard for 255 superframes. -/
theorem State.mem_nbrs_nbrExpiry (s : State) (p : Nat) (x : Nat × NbrRec) : x ∈ (s.nbrExpiry p).link.nbrs ↔
    x ∈ s.link.nbrs ∧ ¬ (x.1 / 4096 = p ∧ s.sfReached s.sfNow (x.2.lastSf + 255) = true) := by
  rw [State.nbrExpiry, State.showNbr_link, List.mem_filter, Bool.not_eq_true', ← Bool.not_eq_true, Bool.and_eq_true, beq_iff_eq]

/-- NBR_EXPIRY looks at the table at the command's instant. -/
theorem exec_nbrExpiry (t : Nat) (p : Fin 4) (s : State) : exec (.nbrExpiry t p) s = .next ((s.advance t).nbrExpiry p) := rfl

/-- Settles O24: the expiry filters the table at the command's instant, which the advance to it leaves as it is. -/
theorem neighbourExpiry : Obligations.NeighbourExpiry := by
  unfold Obligations.NeighbourExpiry
  intro t p s
  refine ⟨_, exec_nbrExpiry t p s, fun x => ?_⟩
  rw [State.mem_nbrs_nbrExpiry, State.advance_link]

end Sys2Proof.Machine
end

section
/-! SUPPORT. The flood cache after FLOOD_DUP_EXPIRY: which pairs are still held, and that the rest of the state stands (R280). -/

namespace Sys2Proof.Machine

/-- A pair is held while the superframe that ends its `DUP_SF` is not reached. -/
theorem State.mem_floods_floodExpiry (s : State) (x : Nat × Nat × Nat) : x ∈ s.floodExpiry.net.floods ↔
    x ∈ s.net.floods ∧ s.sfReached s.sfNow (x.2.2 + s.rf Reg.NET_FLOOD_CFG 16 8) = false := by
  rw [State.floodExpiry, List.mem_filter, Bool.not_eq_true']

/-- The cache alone changes: with its former pairs put back the state is the former one, the rest of the network layer included. -/
theorem State.floodExpiry_with_floods (s : State) :
    { s.floodExpiry with net := { s.floodExpiry.net with floods := s.net.floods } } = s := rfl

/-- FLOOD_DUP_EXPIRY looks at the cache at the command's instant. -/
theorem exec_floodDupExpiry (t : Nat) (s : State) : exec (.floodDupExpiry t) s = .next (s.advance t).floodExpiry := rfl

/-- Settles O25: the expiry filters the cache at the command's instant, which the advance to it leaves as it is, and changes nothing but the cache. -/
theorem floodCacheExpiry : Obligations.FloodCacheExpiry := by
  unfold Obligations.FloodCacheExpiry
  intro t s
  refine ⟨_, exec_floodDupExpiry t s, fun x => ?held, ?frame⟩
  case held => rw [State.mem_floods_floodExpiry, State.advance_net, State.advance_rf]
  case frame => exact congrArg (fun v : State => { v with net := s.net }) (s.advance t).floodExpiry_with_floods

end Sys2Proof.Machine
end

section
/-! SUPPORT. Credits of a queue: what a request and a return leave of every queue, that both keep it within `LIMIT`, and so do those of a fabric cycle served in their order (R307 to R310). -/

namespace Sys2Proof.Machine

/-! ## Queues and the pool registers -/

/-- A queue just set reads as set. -/
@[simp] theorem State.setQueue_queue_self (s : State) (q : Nat) (v : QueueSt) : (s.setQueue q v).queue q = v := tget_tset_self ..

/-- The others stand. -/
theorem State.setQueue_queue_ne (s : State) {q k : Nat} (v : QueueSt) (h : k ≠ q) : (s.setQueue q v).queue k = s.queue k :=
  tget_tset_ne _ _ _ _ h

/-- Setting the pool registers does no more than report. -/
theorem State.setPool_reports (s : State) (free rsv : Nat) : s.Reports (s.setPool free rsv) := by
  have hwritten := ((State.Reports.refl s).wr Reg.QMG_POOL_FREE (word (free % 2 ^ 27))).wr Reg.QMG_POOL_RSV (word (rsv % 2 ^ 27))
  unfold State.setPool
  exact .ite ((hwritten.wr ..).cause ..) (hwritten.wr ..)

/-- What reports leaves the queues. -/
theorem State.Reports.queue {s u : State} (h : s.Reports u) (k : Nat) : u.queue k = s.queue k := by
  obtain ⟨_, _, _, _, _, _, _, _, rfl⟩ := h
  rfl

/-- The pool registers say nothing of a queue. -/
@[simp] theorem State.setPool_queue (s : State) (free rsv k : Nat) : (s.setPool free rsv).queue k = s.queue k :=
  (s.setPool_reports free rsv).queue k

/-! ## A request and a return (R308, R309) -/

/-- A grant is at most the number asked for. -/
theorem State.grantable_le (s : State) (q n : Nat) : s.grantable q n ≤ n := Nat.min_le_left ..

/-- A grant is at most what `LIMIT` leaves beside `CELLS` and `CREDITS`. -/
theorem State.grantable_le_room (s : State) (q n : Nat) :
    s.grantable q n ≤ (s.queue q).limit - (s.queue q).cells - (s.queue q).credits :=
  Nat.le_trans (Nat.min_le_right ..) (Nat.min_le_left ..)

/-- A queue that is not assigned is granted nothing. -/
theorem State.creditRequest_of_unassigned {s : State} {q : Nat} (n : Nat) (h : queueAlloc q = false) : s.creditRequest q n = s :=
  if_pos (by simp [h])

/-- What a request leaves of its queue: the grant is added to the credits. -/
theorem State.creditRequest_queue_self {s : State} {q : Nat} (n : Nat) (h : queueAlloc q = true) :
    (s.creditRequest q n).queue q = { s.queue q with credits := (s.queue q).credits + s.grantable q n } := by
  rw [State.creditRequest, if_neg (by simp [h]), State.setPool_queue, State.setQueue_queue_self]
  split
  · rw [State.setPool_queue]
  · rfl

/-- The other queues stand. -/
theorem State.creditRequest_queue_ne (s : State) {q k : Nat} (n : Nat) (h : k ≠ q) : (s.creditRequest q n).queue k = s.queue k := by
  unfold State.creditRequest
  split
  · rfl
  · rw [State.setPool_queue, State.setQueue_queue_ne _ _ h]
    split
    · rw [State.setPool_queue]
    · rfl

/-- What a return leaves of its queue: no credits where it names more than are held. -/
theorem State.creditReturn_queue_self (s : State) (q n : Nat) :
    (s.creditReturn q n).queue q = { s.queue q with credits := (s.queue q).credits - n } := by
  rw [State.creditReturn, State.setPool_queue, State.setQueue_queue_self, Nat.min_comm, ← Nat.sub_eq_sub_min]

/-- The other queues stand. -/
theorem State.creditReturn_queue_ne (s : State) {q k : Nat} (n : Nat) (h : k ≠ q) : (s.creditReturn q n).queue k = s.queue k := by
  rw [State.creditReturn, State.setPool_queue, State.setQueue_queue_ne _ _ h]

/-! ## Within `LIMIT` -/

/-- `CELLS` + `CREDITS` of the queue are within `LIMIT`. -/
def QueueSt.WithinLimit (g : QueueSt) : Prop := g.cells + g.credits ≤ g.limit

/-- A queue within `LIMIT` stays so with credits added that its room holds. -/
theorem QueueSt.WithinLimit.grant {g : QueueSt} (h : g.WithinLimit) {k : Nat} (hk : k ≤ g.limit - g.cells - g.credits) :
    QueueSt.WithinLimit { g with credits := g.credits + k } := by
  change g.cells + g.credits ≤ g.limit at h
  change g.cells + (g.credits + k) ≤ g.limit
  omega

/-- A queue within `LIMIT` stays so with credits taken away. -/
theorem QueueSt.WithinLimit.giveBack {g : QueueSt} (h : g.WithinLimit) (n : Nat) : QueueSt.WithinLimit { g with credits := g.credits - n } :=
  Nat.le_trans (Nat.add_le_add_left (Nat.sub_le ..) _) h

/-- Every queue is within `LIMIT`, and no flush waits in the present fabric cycle. -/
structure State.CreditsSafe (s : State) : Prop where
  within : ∀ k, (s.queue k).WithinLimit
  unflushed : ∀ k, s.flushWaits k = false

/-- Where no flush of any queue waits, none does after a change that keeps the instant and the commands that wait, whatever `Q_SEL` is then. -/
theorem State.Kept.unflushed {s u : State} (h : State.Kept s u) (hno : ∀ k, s.flushWaits k = false) (k : Nat) : u.flushWaits k = false := by
  have hfabric : u.fabric = s.fabric := congrArg (· / 2) h.now
  rw [State.flushWaits, List.any_eq_false, h.pending, hfabric]
  intro i hi
  split
  case h_1 t j =>
    have hother : t / 2 ≠ s.fabric := by simpa using List.any_eq_false.mp (hno j) _ hi
    simp [hother]
  case h_2 t _ =>
    have hother : t / 2 ≠ s.fabric := by simpa using List.any_eq_false.mp (hno s.qSel) _ hi
    simp [hother]
  case h_3 => simp

namespace State.CreditsSafe
variable {s : State}

/-- A request keeps it. -/
theorem creditRequest (h : s.CreditsSafe) (q n : Nat) : (s.creditRequest q n).CreditsSafe := by
  refine ⟨fun k => ?_, (State.creditRequest_kept .rfl' q n).unflushed h.unflushed⟩
  by_cases hk : k = q
  · subst hk
    cases halloc : queueAlloc k with
    | false => exact (State.creditRequest_of_unassigned n halloc).symm ▸ h.within k
    | true => exact (State.creditRequest_queue_self n halloc).symm ▸ (h.within k).grant (s.grantable_le_room k n)
  · exact (s.creditRequest_queue_ne n hk).symm ▸ h.within k

/-- A return keeps it. -/
theorem creditReturn (h : s.CreditsSafe) (q n : Nat) : (s.creditReturn q n).CreditsSafe := by
  refine ⟨fun k => ?_, (State.creditReturn_kept .rfl' q n).unflushed h.unflushed⟩
  by_cases hk : k = q
  · subst hk
    exact (s.creditReturn_queue_self k n).symm ▸ (h.within k).giveBack n
  · exact (s.creditReturn_queue_ne n hk).symm ▸ h.within k

/-- The note that one was served keeps it. -/
theorem servedNow (h : s.CreditsSafe) (x : Bool × Nat × Nat) : (s.servedNow x).CreditsSafe := ⟨h.within, h.unflushed⟩

/-- The note that a served one had its turn keeps it. -/
theorem servedOut (h : s.CreditsSafe) (x : Bool × Nat × Nat) : (s.servedOut x).CreditsSafe := ⟨h.within, h.unflushed⟩

end State.CreditsSafe

/-! ## The order of a fabric cycle (R310, R316) -/

/-- With no flush of its queue in the cycle a request is granted at once. -/
theorem State.creditAfterFlush_of_unflushed {s : State} {q : Nat} (n : Nat) (h : s.flushWaits q = false) :
    s.creditAfterFlush q n = s.creditRequest q n := by
  rw [State.creditAfterFlush, if_neg (by simp [h])]

/-- With none of the cycle to go first a request is granted at once. -/
theorem State.creditTurn_of_alone {s : State} {q : Nat} (n : Nat) (hwaits : s.creditWaits = []) (hflush : s.flushWaits q = false)
    (hturn : s.qmg.turn ≠ s.fabric + 1) : s.creditTurn q n = s.creditRequest q n := by
  rw [State.creditTurn, if_neg (by simp [hturn]), hwaits]
  exact State.creditAfterFlush_of_unflushed n hflush

/-- With none of the cycle served before its turn a return frees at once. -/
theorem State.creditBack_of_unserved {s : State} (q n : Nat) (hturn : s.qmg.turn ≠ s.fabric + 1) : s.creditBack q n = s.creditReturn q n :=
  if_neg (by simp [hturn])

namespace State.CreditsSafe
variable {s : State}

/-- A request after the flushes of its cycle, of which there are none, keeps it. -/
theorem creditAfterFlush (h : s.CreditsSafe) (q n : Nat) : (s.creditAfterFlush q n).CreditsSafe := by
  rw [State.creditAfterFlush_of_unflushed n (h.unflushed q)]
  exact h.creditRequest q n

/-- A request keeps it with the returns and the requests that go first. -/
theorem creditTurn (h : s.CreditsSafe) (q n : Nat) : (s.creditTurn q n).CreditsSafe := by
  unfold State.creditTurn
  split
  · exact h.servedOut _
  · exact creditAfterFlush (List.foldlRecOn _ _
      (List.foldlRecOn _ _ h fun _ hu x _ => (hu.creditReturn x.2.1 x.2.2).servedNow x)
      fun _ hu x _ => (hu.creditAfterFlush x.2.1 x.2.2).servedNow x) q n

/-- A return keeps it, served before its turn or not. -/
theorem creditBack (h : s.CreditsSafe) (q n : Nat) : (s.creditBack q n).CreditsSafe := by
  unfold State.creditBack
  split
  · exact h.servedOut _
  · exact h.creditReturn q n

end State.CreditsSafe

/-- CREDIT_REQUEST is served in the order of its fabric cycle. -/
theorem exec_creditRequest (t q n : Nat) (s : State) : exec (.creditRequest t q n) s = .next ((s.advance t).creditTurn q n) := rfl

/-- CREDIT_RETURN is served unless it was before its turn. -/
theorem exec_creditReturn (t q n : Nat) (s : State) : exec (.creditReturn t q n) s = .next ((s.advance t).creditBack q n) := rfl

/-- Settles O26: a grant fits the room `LIMIT` leaves, a return makes room, and so does each one of the cycle that goes first; alone, a request and a return change the credits of their queue only. -/
theorem creditsWithinLimit : Obligations.CreditsWithinLimit := by
  unfold Obligations.CreditsWithinLimit
  intro t q n s S g
  refine ⟨fun hwithin hflush => ?cycle, fun hwaits hflush hturn => ⟨fun halloc => ?request, ?giveBack⟩⟩
  case cycle =>
    have hsafe : S.CreditsSafe := ⟨hwithin, hflush⟩
    exact ⟨⟨_, exec_creditRequest t q n s, (hsafe.creditTurn q n).within⟩, ⟨_, exec_creditReturn t q n s, (hsafe.creditBack q n).within⟩⟩
  case request =>
    have hqueue : (S.creditRequest q n).queue q = { g with credits := g.credits + S.grantable q n } :=
      State.creditRequest_queue_self n halloc
    refine ⟨S.creditRequest q n, ?_, ?_⟩
    · rw [exec_creditRequest, State.creditTurn_of_alone n hwaits hflush hturn]
    · rw [hqueue]
      exact ⟨Nat.le_add_right .., Nat.add_le_add_left (S.grantable_le q n) _, rfl, rfl⟩
  case giveBack =>
    have hqueue : (S.creditReturn q n).queue q = { g with credits := g.credits - n } := S.creditReturn_queue_self q n
    refine ⟨S.creditReturn q n, ?_, ?_⟩
    · rw [exec_creditReturn, State.creditBack_of_unserved q n hturn]
    · rw [hqueue]
      exact ⟨rfl, rfl, rfl⟩

end Sys2Proof.Machine
end

section
/-! SUPPORT. What a tail doorbell and a failed host-memory access leave of a ring (R336, R337). -/

namespace Sys2Proof.Machine

/-! ## The SQ_TAIL doorbell (R337) -/

/-- A field is read within its width. -/
theorem fld_lt (w : Word) (lo width : Nat) : fld w lo width < 2 ^ width := Nat.mod_lt _ (Nat.two_pow_pos width)

/-- The ring accepts the tail `x`: it is ACTIVE or began to drain in this fabric cycle, and `x` lies no farther than the ring is long from its head and from its present tail (R337). -/
def State.SqAccepts (s : State) (r x : Nat) : Prop :=
  ((s.ring r).state = 1 ∨ ((s.ring r).state = 2 ∧ (s.ring r).drainAt = s.fabric + 1)) ∧
    (x + 65536 - (s.ring r).sqHead) % 65536 ≤ 2 ^ s.log2n r ∧ (x + 65536 - (s.ring r).sqTail) % 65536 ≤ 2 ^ s.log2n r

/-- The doorbell's check is that condition. -/
theorem State.sqAccepts_iff (s : State) (r x : Nat) : s.SqAccepts r x ↔
    (s.dbActive r && decide ((x + 65536 - (s.ring r).sqHead) % 65536 ≤ 2 ^ s.log2n r) &&
      decide ((x + 65536 - (s.ring r).sqTail) % 65536 ≤ 2 ^ s.log2n r)) = true := by
  simp [State.SqAccepts, State.dbActive, and_assoc]

section
variable {s : State} {r x : Nat} (hx : x < 65536)
include hx

/-- The doorbell of the present tail has no effect. -/
theorem State.sqDoorbell_of_eq (heq : x = (s.ring r).sqTail) : s.sqDoorbell r x = s :=
  if_pos ((Nat.mod_eq_of_lt hx).trans heq)

/-- Another tail that the ring accepts is taken over. -/
theorem State.sqDoorbell_of_accepts (hne : x ≠ (s.ring r).sqTail) (haccepts : s.SqAccepts r x) :
    s.sqDoorbell r x = s.setRing r { s.ring r with sqTail := x } := by
  simp only [State.sqDoorbell, Nat.mod_eq_of_lt hx]
  rw [if_neg hne, if_pos ((s.sqAccepts_iff r x).mp haccepts)]

/-- Another tail that it does not accept is rejected. -/
theorem State.sqDoorbell_of_not_accepts (hne : x ≠ (s.ring r).sqTail) (hrefuses : ¬ s.SqAccepts r x) :
    s.sqDoorbell r x = s.dbReject r := by
  simp only [State.sqDoorbell, Nat.mod_eq_of_lt hx]
  rw [if_neg hne, if_neg (mt (s.sqAccepts_iff r x).mpr hrefuses)]

end

/-- SQ_DOORBELL reaches the ring where the windows respond, with the low half of the word. -/
theorem exec_sqDoorbell_of_windowOpen {t : Nat} (r : Fin 256) (v : Word) {s : State} (hopen : (s.advance t).windowOpen = true) :
    exec (.sqDoorbell t r v) s = .next ((s.advance t).hostTouch.sqDoorbell r (fld v 0 16)) :=
  congrArg Host.Outcome.next (hostMsg_of_windowOpen (fun s => s.sqDoorbell r (fld v 0 16)) hopen)

/-- Settles O27: the value read is a ring index, and one that differs from the tail is accepted or rejected by the ring's state and both distances. -/
theorem sqDoorbell : Obligations.SqDoorbell := by
  unfold Obligations.SqDoorbell
  intro t r v s hopen S g x fits takes
  have hx : x < 65536 := fld_lt v 0 16
  rw [exec_sqDoorbell_of_windowOpen r v hopen]
  refine ⟨fun heq => ?stands, fun hne htakes hfits => ?accepted, fun hne hrefuses => ?rejected⟩
  case stands => exact congrArg Host.Outcome.next (State.sqDoorbell_of_eq hx heq)
  case accepted => exact congrArg Host.Outcome.next (State.sqDoorbell_of_accepts hx hne ⟨htakes, hfits⟩)
  case rejected => exact congrArg Host.Outcome.next (State.sqDoorbell_of_not_accepts hx hne hrefuses)

/-! ## A failed host-memory access (R336) -/

/-- Where no completion is lost nothing is owed again. -/
@[simp] theorem State.cqUnwrite_zero (s : State) (r : Nat) : s.cqUnwrite r 0 = s := by
  rw [State.cqUnwrite, if_pos (Nat.zero_min _)]

/-- A running ring stops in ERROR, with its cause, after what it owes again. -/
theorem State.ringError_of_running {s : State} {r : Nat} (n : Nat) (hrun : (s.ring r).state = 1 ∨ (s.ring r).state = 2) :
    s.ringError r n = ((s.cqUnwrite r n).setRing r { (s.cqUnwrite r n).ring r with state := 3 }).cause 0x01A 3 :=
  if_pos (by simpa using hrun)

/-- A ring at rest or stopped stays as it is. -/
theorem State.ringError_of_not_running {s : State} {r : Nat} (n : Nat) (hrest : (s.ring r).state = 0 ∨ (s.ring r).state = 3) :
    s.ringError r n = s :=
  if_neg (by rcases hrest with h | h <;> simp [h])

/-- RING_DMA_ERROR looks at the ring at the command's instant. -/
theorem exec_ringDmaError (t : Nat) (r : Fin 256) (n : Nat) (s : State) :
    exec (.ringDmaError t r n) s = .next ((s.advance t).ringError r n) := rfl

/-- Settles O28: a running ring owes the lost completions again and stops, and with none lost it only stops. -/
theorem ringDmaError : Obligations.RingDmaError := by
  unfold Obligations.RingDmaError
  intro t n r s
  simp only [exec_ringDmaError]
  refine ⟨fun hrun => ⟨?failedWrite, ?failedRead⟩, fun hrest => ?rest⟩
  case failedWrite => exact congrArg Host.Outcome.next (State.ringError_of_running (s := s.advance t) n hrun)
  case failedRead =>
    have hstop := State.ringError_of_running (s := s.advance t) 0 hrun
    rw [State.cqUnwrite_zero] at hstop
    exact congrArg Host.Outcome.next hstop
  case rest => exact congrArg Host.Outcome.next (State.ringError_of_not_running (s := s.advance t) n hrest)

end Sys2Proof.Machine
end

section
/-! SUPPORT. The capture buffer under CAPTURE_ARM, and the registers and the scorebook that noting a host access leaves alone (R338, R368). -/

namespace Sys2Proof.Machine

/-! ## Serving a master (R338) -/

/-- Starting the PLLs (R485) writes the clock page's status and counter alone. -/
theorem State.pllStart_rd_ne (s : State) {k : Nat} (hstat : k ≠ Reg.CLK_CLK_STAT) (hcnt : k ≠ Reg.CLK_PLL_CNT) : s.pllStart.rd k = s.rd k := by
  have hon : ((s.wb Reg.CLK_CLK_STAT 0 true).wb Reg.CLK_CLK_STAT 1 true).rd k = s.rd k := by
    rw [State.rd_wb_ne _ _ _ hstat, State.rd_wb_ne _ _ _ hstat]
  unfold State.pllStart
  dsimp only
  split
  · rfl
  · split
    · exact hon
    · exact (State.rd_incF_ne _ _ _ hcnt).trans hon

/-- Noting a host access leaves the registers outside the clock page's status and counter. -/
theorem State.served_rd_ne (s : State) (m : Nat) {k : Nat} (hstat : k ≠ Reg.CLK_CLK_STAT) (hcnt : k ≠ Reg.CLK_PLL_CNT) :
    (s.served m).rd k = s.rd k := by
  unfold State.served State.hostTouch
  dsimp only
  split
  · split
    · exact State.pllStart_rd_ne _ hstat hcnt
    · rfl
  · rfl

/-- Noting a host access leaves the scorebook. -/
theorem State.served_scb (s : State) (m : Nat) : (s.served m).scb = s.scb := by
  unfold State.served State.hostTouch State.pllStart
  dsimp only
  repeat' split
  all_goals rfl

/-- Noting a host access leaves the capture buffer in its state. -/
theorem State.served_capState (s : State) (m : Nat) : (s.served m).capState = s.capState :=
  congrArg (fld · 0 2) (s.served_rd_ne m (by decide) (by decide))

/-! ## CAPTURE_ARM (R368) -/

/-- A field below a bit keeps its value when the bit is set. -/
theorem State.rf_wb_below (s : State) (a : Nat) {n lo width : Nat} (b : Bool) (hn : n < 32) (h : lo + width ≤ n) :
    (s.wb a n b).rf a lo width = s.rf a lo width := by
  rw [State.rf, State.wb, State.rd_wr_self, setBit, fld_setFld_below _ _ _ _ _ _ hn h, State.rf]

/-- `CAP_STAT` ARMED, with both flags of the source clear. -/
def State.capStatArmed (s : State) : State := ((s.wf Reg.SRV_CAP_STAT 0 2 1).wb Reg.SRV_CAP_STAT 2 false).wb Reg.SRV_CAP_STAT 3 false

/-- The flags lie above the state field, so clearing them leaves it ARMED. -/
theorem State.capStatArmed_capState (s : State) : s.capStatArmed.capState = 1 := by
  rw [State.capState, State.capStatArmed, State.rf_wb_below _ _ _ (by decide) (by decide), State.rf_wb_below _ _ _ (by decide) (by decide)]
  exact State.rf_wf_self s Reg.SRV_CAP_STAT 0 2 1 (by decide)

/-- No other register changes. -/
theorem State.capStatArmed_rd_ne (s : State) {k : Nat} (h : k ≠ Reg.SRV_CAP_STAT) : s.capStatArmed.rd k = s.rd k := by
  rw [State.capStatArmed, State.rd_wb_ne _ _ _ h, State.rd_wb_ne _ _ _ h, State.rd_wf_ne _ _ _ _ h]

/-- An idle or held buffer is armed, and empty. -/
theorem State.capArm_of_idle_or_held {s : State} (h : s.capState = 0 ∨ s.capState = 3) :
    s.capArm = { s.capStatArmed with srv := { s.srv with cap := [] } } := if_pos (by simpa using h)

/-- CAPTURE_ARM that reaches its register is the arming. -/
theorem exec_captureArm_of_passes {t m : Nat} {s : State} (h : (s.advance t).passes m 0x7C044) :
    exec (.captureArm t m) s = .next ((s.advance t).served m).capArm := congrArg Host.Outcome.next (cmdReg_of_passes _ h)

/-- Settles O29: noting the access leaves the buffer idle or held, and arming it writes `CAP_STAT` and empties it. -/
theorem captureArms : Obligations.CaptureArms := by
  unfold Obligations.CaptureArms
  intro t m s hpass hready S
  have hreadyServed : S.capState = 0 ∨ S.capState = 3 := by
    rw [State.served_capState]
    exact hready
  refine ⟨S.capArm, exec_captureArm_of_passes hpass, ?_⟩
  rw [State.capArm_of_idle_or_held hreadyServed]
  exact ⟨S.capStatArmed_capState, rfl, fun _ hk => S.capStatArmed_rd_ne hk, (s.advance t).served_mem m, (s.advance t).served_scb m⟩

end Sys2Proof.Machine
end

section
/-! SUPPORT. What a step keeps, for every command at once: the stores, the lifecycle, the scorebook's stage (R420, R453), and the debug level but for a SUBMIT (R508, R509). -/

namespace Sys2Proof.Machine

/-! ## One step -/

/-- On an empty queue a step changes nothing. -/
theorem step_of_pending_nil {s : State} (h : s.pending = []) : step s = .next s := by
  unfold step
  rw [h]

/-- A step keeps the lifecycle's order, the stores' canonical form and the stage's bound: neither the queue nor the instant bears on them, and its command keeps them. -/
theorem step_keeps {s t : State} (h : step s = .next t) : s.sec.lc ≤ t.sec.lc ∧ (s.Wf → t.Wf) ∧ (s.stageOk → t.stageOk) := by
  cases hq : s.pending with
  | nil =>
    rw [step_of_pending_nil hq] at h
    obtain rfl := Host.Outcome.next.inj h
    exact ⟨Nat.le_refl _, id, id⟩
  | cons c rest =>
    obtain ⟨u, hu, hbase⟩ := exec_base c { s with pending := rest }
    rw [step_of_pending_cons hq, hu] at h
    obtain rfl := Host.Outcome.next.inj h
    exact ⟨hbase.lc, hbase.wf, hbase.stage⟩

/-- Settles O2: no command is at the front. -/
theorem emptyQueueIdles : Obligations.EmptyQueueIdles := by
  unfold Obligations.EmptyQueueIdles
  exact fun _ => step_of_pending_nil

/-! ## Invariants of every step -/

/-- Settles O5: every command keeps the stores canonical, and neither the queue nor the instant is a store. -/
theorem stepKeepsStoresCanonical : Obligations.StepKeepsStoresCanonical := by
  unfold Obligations.StepKeepsStoresCanonical
  intro s t hwf hstep
  obtain ⟨_, hkeeps, _⟩ := step_keeps hstep
  exact hkeeps hwf

/-- Settles O7: no command sets a lifecycle fuse back. -/
theorem lifecycleNeverGoesBack : Obligations.LifecycleNeverGoesBack := by
  unfold Obligations.LifecycleNeverGoesBack
  intro s t hstep
  obtain ⟨hlc, _, _⟩ := step_keeps hstep
  exact hlc

/-- Settles O8: a record that finds the stage full takes the place of another or is lost, and no command stages one otherwise. -/
theorem scorebookStageNeverOverfills : Obligations.ScorebookStageNeverOverfills := by
  unfold Obligations.ScorebookStageNeverOverfills
  intro s t hstage hstep
  obtain ⟨_, _, hkeeps⟩ := step_keeps hstep
  exact hkeeps hstage

/-- Settles O9: every command but SUBMIT leaves the debug level or lowers it. -/
theorem debugLevelRisesOnlyBySubmit : Obligations.DebugLevelRisesOnlyBySubmit := by
  unfold Obligations.DebugLevelRisesOnlyBySubmit
  intro c s u hexec hrise
  refine Classical.byContradiction fun hsubmit => ?_
  obtain ⟨v, hv, hkept⟩ := exec_kept c s (fun t ht => hsubmit ⟨t, ht⟩)
  obtain rfl : u = v := Host.Outcome.next.inj (hexec.symm.trans hv)
  exact Nat.not_le.mpr hrise hkept.dbg

/-! ## The reset state -/

/-- After reset the register map holds the reset cause and the boot status, in order, and neither at the reset value of its key. -/
theorem State.reset_regsCanon : regsCanon State.reset.regs :=
  ⟨rfl, by decide⟩

/-- Settles O6: no memory and no stage holds anything, and the register map is canonical. -/
theorem resetStoresCanonical : Obligations.ResetStoresCanonical := by
  unfold Obligations.ResetStoresCanonical
  exact ⟨⟨State.reset_regsCanon, rfl, rfl, rfl⟩, Nat.zero_le _⟩

end Sys2Proof.Machine
end

section
/-! SUPPORT. A device reset keeps the always-on domain, so that line time goes on where a frequency was measured, and the staging buffer; it disarms the fixtures and leaves nothing of queues, rings and the debug level (R49, R574). -/

namespace Sys2Proof.Machine

/-! ## The device reset -/

/-- The state that a device reset from source `src` with the count `count` leaves, before the counters of its fabric cycle. -/
def State.deviceRestarted (s : State) (src count : Nat) : State :=
  ((((s.deviceKeep.wb Reg.FIX_ENT_STAT 0 false).rstCause (2 ^ src) count).strapped).policyApply).bootStart false

/-- Outside OFF, and with no other reset in its fabric cycle, a device reset is that state with the counters of its fabric cycle. -/
theorem State.deviceReset_eq {s : State} (src : Nat) (hon : s.mode ≠ 0 ∨ s.boot.running = true) (halone : s.boot.rstAt ≠ s.fabric + 1) :
    ∃ count, s.deviceReset src = (s.deviceRestarted src count).recountAll s.ctrCycle s.ctrInc := by
  have hstays : ¬ ((decide (s.mode = 0) && ! s.boot.running) = true) := by
    rcases hon with hmode | hboot
    · rw [decide_eq_false hmode, Bool.false_and]
      exact Bool.false_ne_true
    · rw [hboot, Bool.not_true, Bool.and_false]
      exact Bool.false_ne_true
  exact ⟨_, (if_neg hstays).trans (if_neg halone)⟩

/-- What a device reset of `s` keeps, with a boot under way; registers and page marks are given. -/
def State.atDeviceReset (s : State) (regs : List (Nat × Word)) (pages : List (Nat × PageSt)) : State :=
  { s.deviceKeep with regs := regs, pages := pages, boot := { running := true, por := false, startAt := s.now, rstAt := s.fabric + 1 } }

/-- The instant outlives a device reset. -/
theorem State.deviceKeep_now (s : State) : s.deviceKeep.now = s.now := by
  obtain ⟨_, hflash⟩ := s.trialWithdrawn_rest
  exact (congrArg State.now hflash :)

/-- Beside registers and page marks a device reset leaves what it keeps. -/
theorem State.deviceRestarted_rest (s : State) (src count : Nat) : ∃ regs pages, s.deviceRestarted src count = s.atDeviceReset regs pages := by
  obtain ⟨regs, hregs⟩ := ((s.deviceKeep.wb Reg.FIX_ENT_STAT 0 false).rstCause (2 ^ src) count).strapped_rest
  obtain ⟨pages, hpages⟩ := State.policyApply_rest { (s.deviceKeep.wb Reg.FIX_ENT_STAT 0 false).rstCause (2 ^ src) count with regs := regs }
  unfold State.deviceRestarted State.atDeviceReset State.fabric
  rw [hregs, hpages, ← s.deviceKeep_now]
  exact ⟨_, pages, rfl⟩

/-- Counters set to 1 among the registers, the same holds of a whole device reset. -/
theorem State.deviceReset_rest {s : State} (src : Nat) (hon : s.mode ≠ 0 ∨ s.boot.running = true) (halone : s.boot.rstAt ≠ s.fabric + 1) :
    ∃ regs pages, s.deviceReset src = s.atDeviceReset regs pages := by
  obtain ⟨count, heq⟩ := State.deviceReset_eq src hon halone
  obtain ⟨_, pages, hrest⟩ := s.deviceRestarted_rest src count
  obtain ⟨regs, hcounters⟩ := (s.deviceRestarted src count).recountAll_rest s.ctrCycle s.ctrInc
  rw [heq, hcounters, hrest]
  exact ⟨regs, pages, rfl⟩

/-- Every fixture a device reset keeps is disarmed. -/
theorem State.deviceKeep_disarmed (s : State) : ∀ x ∈ s.deviceKeep.fix.entries, x.2.armed = false := by
  intro x hx
  obtain ⟨y, _, rfl⟩ := List.mem_map.mp hx
  exact Fixture.setArm_armed ..

/-! ## Line time through a device reset -/

/-- A register of the always-on domain that a reset does not write itself stands. -/
theorem State.deviceRestarted_rd (s : State) (src count : Nat) {k : Nat} (haon : aonReg k = true)
    (hown : k ∉ [Reg.FIX_ENT_STAT, Reg.SYS_RST_CAUSE, Reg.HL_HL_CFG 0, Reg.HL_HL_CFG 1, Reg.SYS_BOOT_STAT]) :
    (s.deviceRestarted src count).rd k = s.rd k := by
  simp only [List.mem_cons, List.not_mem_nil, or_false, not_or] at hown
  obtain ⟨hent, hcause, hport0, hport1, hboot⟩ := hown
  have hkeep : s.deviceKeep.rd k = s.rd k := (tget_filter (f := fun x => aonReg x.1) _ (fun _ => rfl) _).trans (if_pos haon)
  obtain ⟨_, hpages⟩ := ((s.deviceKeep.wb Reg.FIX_ENT_STAT 0 false).rstCause (2 ^ src) count).strapped.policyApply_rest
  unfold State.deviceRestarted
  rw [hpages]
  calc _ = ((s.deviceKeep.wb Reg.FIX_ENT_STAT 0 false).rstCause (2 ^ src) count).strapped.rd k := State.rd_wr_ne _ _ hboot
    _ = ((s.deviceKeep.wb Reg.FIX_ENT_STAT 0 false).rstCause (2 ^ src) count).rd k := State.strapped_rd _ hport0 hport1
    _ = (s.deviceKeep.wb Reg.FIX_ENT_STAT 0 false).rd k := State.rd_wr_ne _ _ hcause
    _ = s.rd k := (State.rd_wb_ne _ _ _ hent).trans hkeep

/-- With a frequency measured, line time depends on the tracker, `FREQ` and `TRK_CFG` alone (R68, R70, R602). -/
theorem State.ltAt_of_measured {s u : State} (htrk : u.trk = s.trk) (hfreq : u.rd Reg.LTIME_FREQ = s.rd Reg.LTIME_FREQ)
    (hcfg : u.rd Reg.LTIME_TRK_CFG = s.rd Reg.LTIME_TRK_CFG) (hmeasured : s.trk.heldF ≠ 0 ∨ s.rd Reg.LTIME_FREQ ≠ 0) (t : Nat) :
    u.ltAt t = s.ltAt t := by
  have hpositive : (if s.trk.heldF = 0 then (s.rd Reg.LTIME_FREQ).toNat else s.trk.heldF) ≠ 0 := by
    split
    · next hheld => exact fun hzero => hmeasured.elim (· hheld) (· (BitVec.eq_of_toNat_eq hzero))
    · assumption
  have hconv : u.convFreq = s.convFreq := by
    unfold State.convFreq
    rw [htrk, hfreq]
    exact (if_neg hpositive).trans (if_neg hpositive).symm
  unfold State.ltAt State.trkAdvance State.rf
  rw [htrk, hcfg, hconv]

/-- Where no counter rose in its fabric cycle, line time goes on through a device reset. -/
theorem State.deviceReset_ltAt {s : State} (src : Nat) (hon : s.mode ≠ 0 ∨ s.boot.running = true) (halone : s.boot.rstAt ≠ s.fabric + 1)
    (hmeasured : s.trk.heldF ≠ 0 ∨ s.rd Reg.LTIME_FREQ ≠ 0) (hcycle : s.ctrCycle ≠ s.fabric + 1) (t : Nat) :
    (s.deviceReset src).ltAt t = s.ltAt t := by
  obtain ⟨count, heq⟩ := State.deviceReset_eq src hon halone
  obtain ⟨regs, pages, hrest⟩ := s.deviceRestarted_rest src count
  have htrk : (s.deviceRestarted src count).trk = s.trk := by
    rw [hrest]
    rfl
  have hfabric : (s.deviceRestarted src count).fabric = s.fabric := by
    rw [hrest]
    exact congrArg (· / 2) s.deviceKeep_now
  rw [heq, State.recountAll_of_ne _ (hfabric ▸ hcycle)]
  exact State.ltAt_of_measured htrk (s.deviceRestarted_rd src count (by decide) (by decide))
    (s.deviceRestarted_rd src count (by decide) (by decide)) hmeasured t

/-- DEVICE_RESET is the reset of `RESET_N` at the command's instant. -/
theorem exec_deviceReset (t : Nat) (s : State) : exec (.deviceReset t) s = .next ((s.advance t).deviceReset 2) := rfl

/-- Settles O40: beside registers and page marks a device reset leaves what it keeps, and that names no queue, no ring and no debug level. -/
theorem deviceResetKeepsTime : Obligations.DeviceResetKeepsTime := by
  unfold Obligations.DeviceResetKeepsTime
  intro t s hon halone
  obtain ⟨_, _, hrest⟩ := State.deviceReset_rest (s := s.advance t) 2 hon halone
  refine ⟨_, exec_deviceReset t s, fun hmeasured hcycle later => State.deviceReset_ltAt (s := s.advance t) 2 hon halone hmeasured hcycle later, ?_⟩
  rw [hrest]
  exact ⟨(s.advance t).deviceKeep_disarmed, rfl, rfl, rfl, rfl, rfl⟩

end Sys2Proof.Machine
end

section
/-! SUPPORT. Commands that a state turns away or takes in one of a few ways: an injected-group trigger (R392, R393), CARD_CLR (R534), the bench and self-test commands (R555, R561, R563), and the instructions of the test access port (R565, R566, R570). -/

namespace Sys2Proof.Machine

/-! ## Command writes -/

/-- A command write that is served answers the state of its operation. -/
theorem next_cmdReg {s : State} {m a : Nat} {op : State → State} (h : s.passes m a) :
    (Host.Outcome.next (s.cmdReg m a op) : Host.Outcome State Fault Refusal) = .next (op (s.served m)) := congrArg _ (cmdReg_of_passes op h)

/-- Noting a host access leaves the operating mode. -/
theorem State.served_mode (s : State) (m : Nat) : (s.served m).mode = s.mode := congrArg (fld · 0 4) (s.served_rd_ne m (by decide) (by decide))

/-- Noting a host access leaves a self-test that runs. -/
theorem State.served_tst (s : State) (m : Nat) : (s.served m).tst = s.tst := by
  unfold State.served State.hostTouch State.pllStart
  dsimp only
  repeat' split
  all_goals rfl

/-! ## The injected group of the HKC (R392, R393) -/

section
variable {s : State} (hruns : s.hkcRuns = true)
include hruns

/-- A further trigger is ignored and counted. -/
theorem State.hkcTrigger_of_pending (hinj : s.hkc.inj = true) : s.hkcTrigger = (s.inc Reg.HKC_INJ_OVR).cause 0x00C 3 := by
  simp [State.hkcTrigger, hruns, hinj]

/-- In the fabric cycle in which a calibration began, the trigger goes first. -/
theorem State.hkcTrigger_before_calibration (hinj : s.hkc.inj = false) (hcal : s.rb Reg.HKC_HKC_STAT 0 = true) (hnow : s.hkc.calAt = s.fabric + 1) :
    s.hkcTrigger =
      { (s.wb Reg.HKC_HKC_STAT 0 false).wb Reg.HKC_HKC_STAT 1 true with hkc := { s.hkc with inj := true, late := false, calWait := true } } := by
  simp [State.hkcTrigger, hruns, hinj, hcal, hnow]

/-- Otherwise a trigger is taken, late during a calibration. -/
theorem State.hkcTrigger_of_free (hinj : s.hkc.inj = false) (hcal : s.rb Reg.HKC_HKC_STAT 0 = false ∨ s.hkc.calAt ≠ s.fabric + 1) :
    s.hkcTrigger = { s.wb Reg.HKC_HKC_STAT 1 true with hkc := { s.hkc with inj := true, late := s.rb Reg.HKC_HKC_STAT 0 } } := by
  have hno : ¬ (s.rb Reg.HKC_HKC_STAT 0 && decide (s.hkc.calAt = s.fabric + 1)) = true := by
    rcases hcal with hcal | hcal <;> simp [hcal]
  unfold State.hkcTrigger
  rw [hruns, hinj, if_neg hno]
  rfl

end

/-- Settles O30: the trigger reaches its register, and each state of the converter decides it. -/
theorem injectedTrigger : Obligations.InjectedTrigger := by
  unfold Obligations.InjectedTrigger
  intro t m s hpass S hruns
  have hexec : exec (.hkcInjTrig t m) s = .next S.hkcTrigger := next_cmdReg hpass
  rw [hexec]
  refine ⟨fun hinj hcal => ?_, fun hinj hcal hnow => ?_, fun hinj => ?_⟩
  · rw [State.hkcTrigger_of_free hruns hinj hcal]
  · rw [State.hkcTrigger_before_calibration hruns hinj hcal hnow]
  · rw [State.hkcTrigger_of_pending hruns hinj]

/-! ## CARD_CLR (R534) -/

/-- No slot's status lies in the clock page. -/
theorem slotStat_not_clock (k : Fin 16) : Reg.LGC_SLOT_STAT k ≠ Reg.CLK_CLK_STAT ∧ Reg.LGC_SLOT_STAT k ≠ Reg.CLK_PLL_CNT := by
  revert k
  decide

/-- Noting a host access leaves the cards of the slots. -/
theorem State.served_slotCarded (s : State) (m : Nat) (k : Fin 16) : (s.served m).slotCarded k = s.slotCarded k :=
  congrArg (bit · 8) (s.served_rd_ne m (slotStat_not_clock k).1 (slotStat_not_clock k).2)

/-- Without a card there is nothing to clear. -/
theorem State.cardClr_of_no_card {s : State} {k : Nat} (h : s.slotCarded k = false) : s.cardClr k = s := if_pos (by simp [h])

/-- Settles O36: noting the access draws no card, and without one the slot stands. -/
theorem cardClearNeedsCard : Obligations.CardClearNeedsCard := by
  unfold Obligations.CardClearNeedsCard
  intro t m k s hpass hcard
  have hcardServed : ((s.advance t).served m).slotCarded k = false := (State.served_slotCarded ..).trans hcard
  have hexec : exec (.cardClr t m k) s = .next (((s.advance t).served m).cardClr k) := next_cmdReg hpass
  rw [hexec, State.cardClr_of_no_card hcardServed]

/-! ## Bench and self-test commands (R555, R561, R563) -/

/-- Outside SERVICE no bench command is taken. -/
theorem State.benchTakes_of_mode {s : State} (h : s.mode ≠ 10) : s.benchTakes = false := by simp [State.benchTakes, h]

/-- A substitution that names no logical engine does nothing. -/
theorem State.benchSubstitute_of_no_engine (s : State) {l : Nat} (h : 96 ≤ l) : s.benchSubstitute l = s := if_pos h

/-- Outside SERVICE a substitution is ignored and counted. -/
theorem State.benchSubstitute_of_mode {s : State} {l : Nat} (hl : l < 96) (h : s.mode ≠ 10) : s.benchSubstitute l = s.ignored 0x008 := by
  unfold State.benchSubstitute
  rw [if_neg (Nat.not_le.mpr hl), State.benchTakes_of_mode h]
  rfl

/-- Outside SERVICE a self-test of the bench is ignored and counted. -/
theorem State.benchSelftest_of_mode {s : State} (h : s.mode ≠ 10) : s.benchSelftest = s.ignored 0x008 := if_pos (by rw [State.benchTakes_of_mode h]; rfl)

/-- Outside SERVICE, and while a test runs, a self-test is ignored and counted. -/
theorem State.testStart_of_busy {s : State} (test port cond : Nat) (h : s.mode ≠ 10 ∨ s.tst.isSome = true) :
    s.testStart test port cond = s.ignored 0x00A := if_pos (by simpa using h)

/-- A self-test command is a write of `TST_CMD`. -/
theorem exec_selftest_of_passes {t m : Nat} {p : Fin 4} {c : Fin 3} {s : State} {i : Instr} (hpass : (s.advance t).passes m 0xA050)
    (hi : i ∈ [Instr.testSram t m, .testD2d t m p, .testLoop t m p c, .testAesKat t m, .testTrng t m]) :
    ∃ test port cond, exec i s = .next (((s.advance t).served m).testStart test port cond) := by
  simp only [List.mem_cons, List.not_mem_nil, or_false] at hi
  rcases hi with rfl | rfl | rfl | rfl | rfl
  · exact ⟨1, 0, 0, next_cmdReg hpass⟩
  · exact ⟨2, p, 0, next_cmdReg hpass⟩
  · exact ⟨3, p, c, next_cmdReg hpass⟩
  · exact ⟨4, 0, 0, next_cmdReg hpass⟩
  · exact ⟨5, 0, 0, next_cmdReg hpass⟩

/-- Settles O38: noting the access changes neither the mode nor a test that runs, and these turn the commands away. -/
theorem serviceCommandsIgnored : Obligations.ServiceCommandsIgnored := by
  unfold Obligations.ServiceCommandsIgnored
  intro t m l p c s S
  have hmode : S.mode = s.mode := State.served_mode ..
  have htst : S.tst = s.tst := State.served_tst ..
  refine ⟨fun hpass => ?_, fun hbusy hpass i hi => ?_⟩
  · have hsubst : exec (.benchSubstitute t m l) s = .next (S.benchSubstitute l) := next_cmdReg hpass
    have hself : exec (.benchSelftest t m) s = .next S.benchSelftest := next_cmdReg hpass
    rw [hsubst, hself]
    refine ⟨fun hl => ?_, fun hout => ⟨fun hl => ?_, ?_⟩⟩
    · rw [S.benchSubstitute_of_no_engine hl]
    · rw [State.benchSubstitute_of_mode hl (hmode ▸ hout)]
    · rw [State.benchSelftest_of_mode (hmode ▸ hout)]
  · obtain ⟨test, port, cond, hexec⟩ := exec_selftest_of_passes hpass hi
    rw [hexec, State.testStart_of_busy test port cond (by rwa [hmode, htst])]

/-! ## The test access port (R565, R566, R570) -/

/-- The state with BYPASS selected. -/
def State.bypassed (s : State) : State := { s with dap := { s.dap with ir := 0xFF, dr := 0 } }

/-- An instruction that is not permitted selects BYPASS. -/
theorem State.tapSelect_of_denied (s : State) (op dr : Nat) : s.tapSelect false op dr = s.bypassed := rfl

/-- In BYPASS no driver is forced off the line. -/
theorem State.bypassed_tapForce (s : State) : s.bypassed.tapForce = s.bypassed := rfl

/-- Below D3 the boundary is not scanned. -/
theorem State.tapScan_below_D3 {s : State} (op pins shift : Nat) (h : s.atD3 = false) : s.tapScan op pins shift = s.bypassed := by
  unfold State.tapScan
  rw [h]
  exact s.bypassed_tapForce

/-- Below D3 the lifecycle is not advanced. -/
theorem State.lcAdvance_below_D3 {s : State} (target : Nat) (h : s.atD3 = false) : s.lcAdvance target = s.bypassed := if_pos (by simp [h])

/-- Below D3 an instruction that takes force selects BYPASS and forces nothing. -/
theorem State.tapForced_below_D3 {s : State} (op : Nat) (h : s.atD3 = false) : (s.tapSelect s.atD3 op 0).tapForce = s.bypassed := by
  rw [h]
  exact s.bypassed_tapForce

/-- A reset of the port selects IDCODE and leaves the security core; `TRST_N` discards the challenge and the response. -/
theorem State.tapReset_leaves (s : State) (trst : Bool) :
    (s.tapReset trst).dap.ir = 0x02 ∧ (s.tapReset trst).sec = s.sec ∧ (trst = true → (s.tapReset trst).dap.chal = [] ∧ (s.tapReset trst).dap.resp = []) := by
  cases trst with
  | false => exact ⟨rfl, rfl, fun h => absurd h Bool.false_ne_true⟩
  | true => exact ⟨rfl, rfl, fun _ => ⟨rfl, rfl⟩⟩

/-- Settles O35: each of the instructions asks for D3, and below it what it selects is BYPASS. -/
theorem tapInstructionsByLevel : Obligations.TapInstructionsByLevel := by
  unfold Obligations.TapInstructionsByLevel
  intro t pins shift target trst s
  refine ⟨fun hlevel c hc => ?_, (s.advance t).tapReset trst, rfl, (s.advance t).tapReset_leaves trst⟩
  have hbelow : (s.advance t).atD3 = false := beq_false_of_ne hlevel
  simp only [List.mem_cons, List.not_mem_nil, or_false] at hc
  rcases hc with rfl | rfl | rfl | rfl | rfl | rfl
  case inl | inr.inl => exact congrArg Host.Outcome.next (State.tapScan_below_D3 _ pins shift hbelow)
  case inr.inr.inl | inr.inr.inr.inl => exact congrArg Host.Outcome.next (State.tapForced_below_D3 _ hbelow)
  case inr.inr.inr.inr.inl => exact congrArg Host.Outcome.next (State.lcAdvance_below_D3 target hbelow)
  case inr.inr.inr.inr.inr => rfl

/-- Settles O34: IDCODE is permitted at every level, and its four fields make up its value. -/
theorem idcodeRead : Obligations.IdcodeRead := by
  unfold Obligations.IdcodeRead
  exact fun t s => ⟨rfl, by decide⟩

end Sys2Proof.Machine
end

section
/-! SUPPORT. The scorebook's store, which moves the staged records to the ring in their order (R420, R421). -/

namespace Sys2Proof.Machine

/-! ## SCOREBOOK_STORE (R420, R421) -/

/-- One record stored goes to the end of the ring, the oldest giving way, and leaves the stage. -/
theorem State.storeRecord_ring (s : State) (r : ScbRec) :
    (s.storeRecord r).scb.stage = s.scb.stage ∧ ∃ old, s.scb.ring ++ [r] = old ++ (s.storeRecord r).scb.ring :=
  ⟨rfl, _, (List.take_append_drop ..).symm⟩

/-- Records stored one after another go to the end of the ring in their order, the oldest giving way, and leave the stage. -/
theorem State.storeRecords_ring (l : List Staged) : ∀ s : State, let u := l.foldl (fun s x => s.storeRecord x.body) s
    u.scb.stage = s.scb.stage ∧ ∃ old, s.scb.ring ++ l.map Staged.body = old ++ u.scb.ring := by
  induction l with
  | nil => exact fun s => ⟨rfl, [], by simp⟩
  | cons x l ih =>
    intro s
    obtain ⟨hstage, old, hone⟩ := s.storeRecord_ring x.body
    obtain ⟨hstages, olds, hrest⟩ := ih (s.storeRecord x.body)
    refine ⟨hstages.trans hstage, old ++ olds, ?_⟩
    calc s.scb.ring ++ (x :: l).map Staged.body = (s.scb.ring ++ [x.body]) ++ l.map Staged.body := by simp
      _ = old ++ ((s.storeRecord x.body).scb.ring ++ l.map Staged.body) := by rw [hone, List.append_assoc]
      _ = old ++ olds ++ ((x :: l).foldl (fun s x => s.storeRecord x.body) s).scb.ring := by
        rw [hrest, List.append_assoc]
        rfl

/-- The staged records stored, with an empty stage. -/
def State.stageStored (s : State) : State := s.scb.stage.foldl (fun s x => s.storeRecord x.body) { s with scb := { s.scb with stage := [] } }

/-- Where the store manager runs, the scorebook holds what the staged records leave. -/
theorem State.scorebookStore_scb {s : State} (h : 4 ≤ s.mode) : s.scorebookStore.scb = s.stageStored.scb := by
  unfold State.scorebookStore
  rw [if_neg (Nat.not_lt.mpr h)]
  dsimp only
  split
  · rfl
  · rfl

/-- SCOREBOOK_STORE is the store at the command's instant. -/
theorem exec_scorebookStore (t : Nat) (s : State) : exec (.scorebookStore t) s = .next (s.advance t).scorebookStore := rfl

/-- Settles O31: an emptied stage is not filled again by storing what it held. -/
theorem scorebookStores : Obligations.ScorebookStores := by
  unfold Obligations.ScorebookStores
  intro t s hmode
  obtain ⟨hstage, hring⟩ := State.storeRecords_ring s.scb.stage { s.advance t with scb := { s.scb with stage := [] } }
  refine ⟨_, exec_scorebookStore t s, ?_⟩
  rw [State.scorebookStore_scb (s := s.advance t) hmode]
  exact ⟨hstage, hring⟩

end Sys2Proof.Machine
end

section
/-! SUPPORT. A key slot erased: what of it is gone, what stands beside it, and the violation that a command on a slot of another domain is (R436, R438, R501). -/

namespace Sys2Proof.Machine

/-! ## What requests and accesses leave of the key slots -/

/-- Starting the PLLs leaves the instant, the security core and fabric memory. -/
theorem State.pllStart_frame (s : State) : s.pllStart.now = s.now ∧ s.pllStart.sec = s.sec ∧ s.pllStart.mem = s.mem := by
  unfold State.pllStart
  dsimp only
  repeat' split
  all_goals exact ⟨rfl, rfl, rfl⟩

/-- Noting a host access leaves the security core. -/
theorem State.served_sec (s : State) (m : Nat) : (s.served m).sec = s.sec := by
  unfold State.served State.hostTouch
  split
  · dsimp only
    split
    · exact (State.pllStart_frame _).2.1
    · rfl
  · rfl

/-- A request to the security core leaves the instant, the key slots and fabric memory. -/
theorem State.secRequest_frame (s : State) : s.secRequest.now = s.now ∧ s.secRequest.sec.slots = s.sec.slots ∧ s.secRequest.mem = s.mem := by
  unfold State.secRequest
  split
  · obtain ⟨hnow, hsec, hmem⟩ := State.pllStart_frame { s with sec := { s.sec with cc91 := true, cc91At := s.now } }
    exact ⟨hnow, (congrArg SecSt.slots hsec :), hmem⟩
  · exact ⟨rfl, rfl, rfl⟩

/-- Outside LISTEN such a request changes nothing. -/
theorem State.secRequest_of_mode {s : State} (h : s.mode ≠ 3) : s.secRequest = s := if_neg h

/-- The table of key slots alone says what a slot holds. -/
theorem State.slot_of_slots {s u : State} (h : u.sec.slots = s.sec.slots) (n : Nat) : u.slot n = s.slot n := congrArg (fun l => tget ({} : KeySlot) l n) h

/-! ## A slot written -/

/-- A slot written is a slot of the security core, and its status register. -/
theorem State.setSlot_eq (s : State) (n : Nat) (k : KeySlot) :
    ∃ v, s.setSlot n k = { s with sec := { s.sec with slots := tset {} s.sec.slots n k } }.wr (Reg.SEC_SLOT_STAT n) v := by
  unfold State.setSlot State.showSlot
  exact ⟨_, rfl⟩

theorem State.setSlot_slots (s : State) (n : Nat) (k : KeySlot) : (s.setSlot n k).sec.slots = tset {} s.sec.slots n k := by
  obtain ⟨v, h⟩ := s.setSlot_eq n k
  rw [h, State.wr_sec]

@[simp] theorem State.setSlot_slot_self (s : State) (n : Nat) (k : KeySlot) : (s.setSlot n k).slot n = k := by
  rw [State.slot, State.setSlot_slots, tget_tset_self]

theorem State.setSlot_slot_ne (s : State) {n n' : Nat} (k : KeySlot) (h : n' ≠ n) : (s.setSlot n k).slot n' = s.slot n' := by
  rw [State.slot, State.setSlot_slots, tget_tset_ne _ _ _ _ h, State.slot]

@[simp] theorem State.setSlot_mem (s : State) (n : Nat) (k : KeySlot) : (s.setSlot n k).mem = s.mem := by
  obtain ⟨v, h⟩ := s.setSlot_eq n k
  rw [h, State.wr_mem]

/-- A slot written changes its own status register alone (R456). -/
theorem State.setSlot_rd_ne (s : State) {n a : Nat} (k : KeySlot) (h : a ≠ Reg.SEC_SLOT_STAT n) : (s.setSlot n k).rd a = s.rd a := by
  obtain ⟨v, heq⟩ := s.setSlot_eq n k
  rw [heq, State.rd_wr_ne _ _ h]
  rfl

/-- The answer of a slot command leaves every slot. -/
theorem State.slotDone_slot (s : State) (st : Status) (n : Nat) : (s.slotDone st).slot n = s.slot n := by
  rw [State.slot, State.slotDone, State.wr_sec, State.slot]

theorem State.slotDone_mem (s : State) (st : Status) : (s.slotDone st).mem = s.mem := by rw [State.slotDone, State.wr_mem]

/-! ## KEY_ERASE (R438) -/

/-- The operations on a slot, told to stop. -/
def State.slotRunsRevoked (s : State) (n : Nat) : State :=
  { s with sec := { s.sec with runs := s.sec.runs.map (fun (r : AesRun) => if r.slot = n && r.revoked = 0 then { r with revoked := s.fabric + 1 } else r) } }

@[simp] theorem State.slotRunsRevoked_slot (s : State) (n k : Nat) : (s.slotRunsRevoked n).slot k = s.slot k := rfl

@[simp] theorem State.slotRunsRevoked_rd (s : State) (n k : Nat) : (s.slotRunsRevoked n).rd k = s.rd k := rfl

@[simp] theorem State.slotRunsRevoked_mem (s : State) (n : Nat) : (s.slotRunsRevoked n).mem = s.mem := rfl

/-- A key slot emptied at fabric cycle `c`, with operations on it still to stop or none. -/
def KeySlot.wiped (k : KeySlot) (busy : Bool) (c : Nat) : KeySlot :=
  { k with loaded := false, erasing := busy, key := [], label := [], prevKey := [], erasedAt := c }

/-- A loaded slot is emptied, and its operations are told to stop. -/
theorem State.slotWipe_of_loaded {s : State} {n : Nat} (h : (s.slot n).loaded = true) :
    s.slotWipe n = (s.slotRunsRevoked n).setSlot n ((s.slot n).wiped (s.sec.runs.any (fun r => r.slot == n)) (s.fabric + 1)) :=
  if_neg (by simp [h])

/-- The state in which a slot was erased by master `m`, and the command answered. -/
def State.slotErased (s : State) (m n : Nat) : State := ((s.slotWipe n).slotBy m n).slotDone .done

/-- What an erasure of slot `n` of `s` leaves: no key in the slot, the other slots and fabric memory, and every register but two. -/
structure State.ErasesSlot (s u : State) (n : Nat) : Prop where
  loaded : (u.slot n).loaded = false
  key : (u.slot n).key = []
  prevKey : (u.slot n).prevKey = []
  others : ∀ n', n' ≠ n → u.slot n' = s.slot n'
  rd : ∀ k, k ≠ Reg.SEC_SLOT_CMD_STAT → k ≠ Reg.SEC_SLOT_STAT n → u.rd k = s.rd k
  mem : u.mem = s.mem

/-- An erasure empties its slot and touches no other. -/
theorem State.slotErased_erases {s : State} (m : Nat) {n : Nat} (h : (s.slot n).loaded = true) : s.ErasesSlot (s.slotErased m n) n := by
  have hslot : (s.slotErased m n).slot n = { (s.slot n).wiped (s.sec.runs.any (fun r => r.slot == n)) (s.fabric + 1) with
      cmdAt := (s.slotWipe n).fabric + 1, cmdM := m } := by
    rw [State.slotErased, State.slotDone_slot, State.slotBy, State.setSlot_slot_self, State.slotWipe_of_loaded h, State.setSlot_slot_self]
  have hothers (n' : Nat) (hn : n' ≠ n) : (s.slotErased m n).slot n' = s.slot n' := by
    rw [State.slotErased, State.slotDone_slot, State.slotBy, State.setSlot_slot_ne _ _ hn, State.slotWipe_of_loaded h, State.setSlot_slot_ne _ _ hn,
      State.slotRunsRevoked_slot]
  have hrd (k : Nat) (hcmd : k ≠ Reg.SEC_SLOT_CMD_STAT) (hstat : k ≠ Reg.SEC_SLOT_STAT n) : (s.slotErased m n).rd k = s.rd k := by
    rw [State.slotErased, State.slotDone, State.rd_wr_ne _ _ hcmd, State.slotBy, State.setSlot_rd_ne _ _ hstat, State.slotWipe_of_loaded h,
      State.setSlot_rd_ne _ _ hstat, State.slotRunsRevoked_rd]
  refine ⟨?_, ?_, ?_, hothers, hrd, ?_⟩
  · rw [hslot]
    rfl
  · rw [hslot]
    rfl
  · rw [hslot]
    rfl
  · rw [State.slotErased, State.slotDone_mem, State.slotBy, State.setSlot_mem, State.slotWipe_of_loaded h, State.setSlot_mem, State.slotRunsRevoked_mem]

/-- An erasure that slot commands are served for, of a slot not retired and not overtaken, is carried out after the request it is. -/
theorem State.slotErase_of_served {s : State} {m n : Nat} (hmode : 3 ≤ s.mode) (hlc : s.sec.lc ≠ 3) (hretired : (s.slot n).retired = false)
    (hlate : s.slotLate m n = false) : s.slotErase m n = s.secRequest.slotErased m n := by
  obtain ⟨hnow, hslots, _⟩ := s.secRequest_frame
  have hretired' : (s.secRequest.slot n).retired = false := by rw [State.slot_of_slots hslots, hretired]
  have hlate' : s.secRequest.slotLate m n = false := by
    rw [← hlate]
    unfold State.slotLate State.fabric
    rw [State.slot_of_slots hslots, hnow]
  unfold State.slotErase State.slotCommand
  rw [if_neg (Nat.not_lt.mpr hmode), if_neg hlc]
  exact (if_neg (Bool.eq_false_iff.mp hretired')).trans (if_neg (Bool.eq_false_iff.mp hlate'))

/-- A slot of another domain is not touched: the command is a violation (R436). -/
theorem State.slotEraseBy_of_foreign {s : State} {m n : Nat} (h : s.slotForeign (s.domain m) n = true) :
    s.slotEraseBy m n = s.redCard m 4 1 (Reg.SEC_SLOT_STAT n) [] := if_pos h

/-- A slot of the master's own domain is erased. -/
theorem State.slotEraseBy_of_own {s : State} {m n : Nat} (h : s.slotForeign (s.domain m) n = false) : s.slotEraseBy m n = s.slotErase m n :=
  if_neg (Bool.eq_false_iff.mp h)

/-- Settles O32: noting the access leaves the security core, and the erasure follows the request that it is. -/
theorem keyErased : Obligations.KeyErased := by
  unfold Obligations.KeyErased
  intro t m n s hpass S
  have hexec : exec (.keyErase t m n) s = .next (S.slotEraseBy m n) := next_cmdReg hpass
  have hsec : S.sec = s.sec := State.served_sec ..
  have hslot (k : Nat) : S.slot k = s.slot k := State.slot_of_slots (congrArg SecSt.slots hsec) k
  have hmode : S.mode = s.mode := State.served_mode ..
  rw [hexec]
  refine ⟨fun hforeign => ?_, fun hown hlate hserved hlc hretired hloaded => ⟨_, rfl, ?_⟩⟩
  · rw [State.slotEraseBy_of_foreign hforeign]
  · obtain ⟨_, hslots, hmem⟩ := S.secRequest_frame
    have hother (k : Nat) : S.secRequest.slot k = s.slot k := (State.slot_of_slots hslots k).trans (hslot k)
    have herased : S.secRequest.ErasesSlot (S.slotEraseBy m n) n := by
      rw [State.slotEraseBy_of_own hown, State.slotErase_of_served (hmode ▸ hserved) (hsec ▸ hlc) ((hslot n).symm ▸ hretired) hlate]
      exact State.slotErased_erases m ((hother n).symm ▸ hloaded)
    refine ⟨herased.loaded, herased.key, herased.prevKey, fun n' hn => (herased.others n' hn).trans (hother n'), fun hlisten k hcmd hstat => ?_,
      herased.mem.trans (hmem.trans (State.served_mem _ m))⟩
    rw [herased.rd k hcmd hstat, State.secRequest_of_mode (hmode.symm ▸ hlisten)]

end Sys2Proof.Machine
end

section
/-! SUPPORT. Each command answers the state of its operation: at once, or by the path that brings it to the machine. -/

namespace Sys2Proof.Machine

/-! ## The paths of a command -/

/-- A submission that its ring takes answers the state of its operation on what was fetched (R331). -/
theorem next_submit {s : State} {r op : Nat} {e : List Byte} {body : State → Sub → State} (h : s.takes r e op) :
    (Host.Outcome.next (s.submit r e (· == op) body) : Host.Outcome State Fault Refusal) = .next (body (s.fetch r e).1 (s.fetch r e).2.1) :=
  congrArg _ (submit_of_takes body h)

/-- A management body that is found answers the state of its operation on the inbox without it. -/
theorem next_mgmtBody {s u : State} {mt : Nat} {d : Delivered} {op : State → Delivered → State}
    (h : s.takeInbox (fun d => d.mgmt && d.mtype == mt) = some (u, d)) :
    (Host.Outcome.next (s.mgmtBody mt op) : Host.Outcome State Fault Refusal) = .next (op u d) := congrArg _ (mgmtBody_of_take op h)

/-- A write of the message window answers the state of its operation where the windows respond (R338). -/
theorem next_hostMsg {s : State} {op : State → State} (h : s.windowOpen = true) :
    (Host.Outcome.next (s.hostMsg op) : Host.Outcome State Fault Refusal) = .next (op s.hostTouch) := congrArg _ (hostMsg_of_windowOpen op h)

/-- A command of the debug port answers the state of its operation while its instruction is selected (R568). -/
theorem next_dapRun {s : State} {t : Nat} {op : State → State} (h : s.dap.ir = 0x10) :
    (Host.Outcome.next ((s.advance t).dapRun op) : Host.Outcome State Fault Refusal) = .next (op (s.advance t)) :=
  congrArg _ (dapRun_of_ir op h)

/-! ## One clause for each command, in the order of the statements -/

/-- Settles O41: a command write that is served runs its operation, and the rest of the registers' commands are dispatched to theirs. -/
theorem completeHeader : Obligations.CompleteHeader := by
  unfold Obligations.CompleteHeader
  exact ⟨fun _ _ _ _ _ _ _ => rfl, fun _ _ _ _ _ => next_cmdReg, fun _ _ _ _ _ => rfl, fun _ _ _ _ => next_cmdReg, fun _ _ _ => rfl,
    fun _ _ _ _ _ => next_cmdReg, fun _ _ _ _ => next_cmdReg, fun _ _ _ => rfl, fun _ _ _ _ => next_cmdReg, fun _ _ _ _ => next_cmdReg,
    fun _ _ _ => rfl, fun _ _ _ _ => next_cmdReg, fun _ _ _ _ => next_cmdReg, fun _ _ _ => rfl, fun _ _ _ _ => rfl, fun _ _ _ => rfl⟩

/-- Settles O42: the writes of `TRK_CTL` run their operations where they are served, and edges and timeouts are dispatched to theirs. -/
theorem completeLineTime : Obligations.CompleteLineTime := by
  unfold Obligations.CompleteLineTime
  exact ⟨fun _ _ _ _ _ _ _ _ _ => rfl, fun _ _ => rfl, fun _ _ => rfl, fun _ _ => rfl, fun _ _ => rfl, fun _ _ _ => next_cmdReg,
    fun _ _ _ => next_cmdReg, fun _ _ _ _ => next_cmdReg, fun _ _ _ => next_cmdReg, fun _ _ _ => next_cmdReg, fun _ _ _ => next_cmdReg,
    fun _ _ _ _ => rfl, fun _ _ => rfl, fun _ _ => rfl, fun _ _ _ => rfl⟩

/-- Settles O43: the writes of `ENT_CMD` run their operations where they are served, and what comes due is dispatched to its own. -/
theorem completeFixture : Obligations.CompleteFixture := by
  unfold Obligations.CompleteFixture
  exact ⟨fun _ _ _ => next_cmdReg, fun _ _ _ => next_cmdReg, fun _ _ _ => next_cmdReg, fun _ _ => rfl, fun _ _ _ => rfl, fun _ _ _ _ => rfl,
    fun _ _ _ _ => rfl, fun _ _ _ => rfl, fun _ _ _ _ => rfl, fun _ _ _ _ => rfl, fun _ _ _ => rfl, fun _ _ _ => rfl, fun _ _ _ => rfl,
    fun _ _ _ => rfl, fun _ _ _ => rfl, fun _ _ _ => rfl, fun _ _ _ => rfl, fun _ _ _ => rfl, fun _ _ _ => rfl⟩

/-- Settles O44: the request of a probe runs where its write is served, and what a line port detects is dispatched to its operation. -/
theorem completePort : Obligations.CompletePort := by
  unfold Obligations.CompletePort
  exact ⟨fun _ _ _ _ => rfl, fun _ _ _ _ => rfl, fun _ _ _ _ _ _ _ _ _ => rfl, fun _ _ _ _ _ => rfl, fun _ _ _ _ => rfl, fun _ _ _ _ => rfl,
    fun _ _ _ _ _ => next_cmdReg, fun _ _ _ _ => rfl, fun _ _ _ _ _ => rfl, fun _ _ _ _ => rfl, fun _ _ _ _ => rfl, fun _ _ _ _ => rfl,
    fun _ _ _ => rfl, fun _ _ _ _ => rfl, fun _ _ _ _ => rfl, fun _ _ _ _ => rfl⟩

/-- Settles O45: a MAP_CHANGE body that is found is acted on, and reception and its timeouts are dispatched to their operations. -/
theorem completePhy : Obligations.CompletePhy := by
  unfold Obligations.CompletePhy
  exact ⟨fun _ _ _ _ _ => rfl, fun _ _ _ _ _ => rfl, fun _ _ _ _ => rfl, fun _ _ _ _ _ => rfl, fun _ _ _ => rfl, fun _ _ => rfl, fun _ _ _ => rfl,
    fun _ _ _ _ => next_mgmtBody, fun _ _ _ _ _ _ _ => rfl, fun _ _ _ _ _ _ => rfl, fun _ _ _ _ _ _ _ => rfl⟩

/-- Settles O46: no command of access and association waits on a condition: each is dispatched to its operation. -/
theorem completeAccess : Obligations.CompleteAccess := by
  unfold Obligations.CompleteAccess
  exact ⟨fun _ _ => rfl, fun _ _ _ => rfl, fun _ _ => rfl, fun _ _ _ _ _ => rfl, fun _ _ => rfl, fun _ _ => rfl, fun _ _ => rfl, fun _ _ => rfl,
    fun _ _ => rfl, fun _ _ => rfl, fun _ _ => rfl, fun _ _ => rfl, fun _ _ => rfl, fun _ _ => rfl, fun _ _ => rfl, fun _ _ => rfl, fun _ _ _ => rfl,
    fun _ _ => rfl⟩

/-- Settles O47: a body that is found is acted on, a submission that is taken is carried out, the endpoint window's write runs where it is served, and the rest are dispatched. -/
theorem completeRelay : Obligations.CompleteRelay := by
  unfold Obligations.CompleteRelay
  exact ⟨fun _ _ _ _ => next_mgmtBody, fun _ _ _ _ => rfl, fun _ _ _ _ => next_mgmtBody, fun _ _ => rfl, fun _ _ _ _ => next_mgmtBody,
    fun _ _ _ _ => next_mgmtBody, fun _ _ _ _ => next_mgmtBody, fun _ _ => rfl, fun _ _ => rfl, fun _ _ _ => rfl, fun _ _ => rfl, fun _ _ _ _ => rfl,
    fun _ _ => rfl, fun _ _ _ _ _ => next_cmdReg, fun _ _ => rfl, fun _ _ _ _ _ _ => next_submit, fun _ _ _ _ _ _ _ => next_submit,
    fun _ _ _ _ => next_submit, fun _ _ _ _ => next_submit, fun _ _ _ => rfl, fun _ _ _ => rfl, fun _ _ => rfl, fun _ _ => rfl, fun _ _ => rfl⟩

/-- Settles O48: the writes of `Q_CMD` run their operations where they are served, and credits, cells and flushes are dispatched to theirs. -/
theorem completeQueue : Obligations.CompleteQueue := by
  unfold Obligations.CompleteQueue
  exact ⟨fun _ _ _ _ => rfl, fun _ _ _ _ => rfl, fun _ _ _ _ _ _ _ _ => rfl, fun _ _ _ _ _ _ => rfl, fun _ _ _ => rfl, fun _ _ _ => rfl,
    fun _ _ _ => rfl, fun _ _ _ => rfl, fun _ _ _ => next_cmdReg, fun _ _ _ => next_cmdReg, fun _ _ _ => next_cmdReg, fun _ _ _ => next_cmdReg⟩

/-- Settles O49: doorbells and ring controls run through open windows, submissions where their ring takes them, a switch and a heartbeat where their write is served, and link and bulk packets are dispatched. -/
theorem completeHost : Obligations.CompleteHost := by
  unfold Obligations.CompleteHost
  exact ⟨fun _ _ _ _ => rfl, fun _ _ _ => rfl, fun _ _ => rfl, fun _ _ _ => next_cmdReg, fun _ _ _ => next_cmdReg, fun _ _ => rfl,
    fun _ _ _ _ => next_hostMsg, fun _ _ _ _ => next_hostMsg, fun _ _ _ => rfl, fun _ _ _ => next_hostMsg, fun _ _ _ _ => rfl,
    fun _ _ _ _ => next_submit, fun _ _ _ _ => next_submit, fun _ _ _ _ => next_submit, fun _ _ _ _ => next_submit, fun _ _ _ => next_hostMsg,
    fun _ _ _ => next_hostMsg, fun _ _ _ => next_hostMsg, fun _ _ _ => rfl, fun _ _ _ _ => rfl, fun _ _ => rfl, fun _ _ _ _ => rfl,
    fun _ _ _ _ => rfl, fun _ _ _ _ _ => rfl, fun _ _ _ _ => rfl, fun _ _ _ _ => rfl, fun _ _ _ _ _ => rfl, fun _ _ _ _ _ _ => rfl⟩

/-- Settles O50: the receiver's writes run where they are served, a capture's read and an installed list where a ring takes them, and its records and triggers are dispatched. -/
theorem completeSurveillance : Obligations.CompleteSurveillance := by
  unfold Obligations.CompleteSurveillance
  exact ⟨fun _ _ _ _ => rfl, fun _ _ _ _ => rfl, fun _ _ _ => rfl, fun _ _ => rfl, fun _ _ _ _ _ _ => rfl, fun _ _ _ _ => next_cmdReg,
    fun _ _ _ => next_cmdReg, fun _ _ _ _ _ => rfl, fun _ _ _ _ => rfl, fun _ _ _ => next_cmdReg, fun _ _ _ _ => next_submit,
    fun _ _ _ _ _ => next_submit, fun _ _ => rfl⟩

/-- Settles O51: command writes run where they are served, submissions where a ring takes them, and scans, edges and timeouts are dispatched. -/
theorem completeMetrology : Obligations.CompleteMetrology := by
  unfold Obligations.CompleteMetrology
  exact ⟨fun _ _ _ _ _ => rfl, fun _ _ _ _ _ => rfl, fun _ _ _ _ _ => rfl, fun _ _ _ => rfl, fun _ _ _ _ => next_submit, fun _ _ _ => rfl,
    fun _ _ _ => next_cmdReg, fun _ _ _ => rfl, fun _ _ => rfl, fun _ _ => rfl, fun _ _ _ _ => next_submit, fun _ _ _ => next_cmdReg,
    fun _ _ _ => next_cmdReg, fun _ _ _ _ => next_submit, fun _ _ _ => next_cmdReg, fun _ _ _ => rfl, fun _ _ _ _ => rfl, fun _ _ _ => rfl,
    fun _ _ _ _ => rfl⟩

/-- Settles O52: a drive's acceptance runs where its write is served, records are read where a ring takes the submission, and what the drives do is dispatched. -/
theorem completeStorage : Obligations.CompleteStorage := by
  unfold Obligations.CompleteStorage
  exact ⟨fun _ _ _ => rfl, fun _ _ _ _ => next_cmdReg, fun _ _ _ _ => rfl, fun _ _ _ _ _ _ => rfl, fun _ _ => rfl, fun _ _ _ _ _ _ _ _ => rfl,
    fun _ _ _ _ => rfl, fun _ _ => rfl, fun _ _ => rfl, fun _ _ _ _ => next_submit, fun _ _ _ _ => next_submit⟩

/-- Settles O53: slot commands run where their write is served, the host's requests where a ring takes them, and what the core does by itself is dispatched. -/
theorem completeSecurity : Obligations.CompleteSecurity := by
  unfold Obligations.CompleteSecurity
  exact ⟨fun _ _ _ _ _ _ => next_cmdReg, fun _ _ _ _ => next_cmdReg, fun _ _ _ _ _ _ _ _ => rfl, fun _ _ _ => rfl, fun _ _ _ => rfl, fun _ _ => rfl,
    fun _ _ => rfl, fun _ _ _ => rfl, fun _ _ _ _ _ => next_submit, fun _ _ _ _ => next_submit, fun _ _ _ _ _ => next_submit,
    fun _ _ _ _ _ => next_submit, fun _ _ _ _ _ => next_submit, fun _ _ _ _ _ => next_submit, fun _ _ _ _ _ => next_submit,
    fun _ _ _ _ _ => next_submit, fun _ _ _ _ => next_submit, fun _ _ _ _ _ _ => next_submit, fun _ _ _ _ => next_submit, fun _ _ _ _ => next_submit,
    fun _ _ => rfl, fun _ _ _ _ _ => next_submit⟩

/-- Settles O54: command writes run where they are served, and what happens on the wires is dispatched. -/
theorem completeSerial : Obligations.CompleteSerial := by
  unfold Obligations.CompleteSerial
  exact ⟨fun _ _ _ _ => rfl, fun _ _ _ _ => rfl, fun _ _ _ _ => rfl, fun _ _ _ => rfl, fun _ _ _ _ _ => next_cmdReg, fun _ _ _ => rfl,
    fun _ _ _ _ => next_cmdReg, fun _ _ _ _ _ => next_cmdReg, fun _ _ _ _ => next_cmdReg, fun _ _ _ => rfl, fun _ _ => rfl, fun _ _ _ => rfl,
    fun _ _ _ => rfl, fun _ _ _ _ _ => rfl, fun _ _ _ _ => rfl, fun _ _ _ _ => rfl, fun _ _ => rfl, fun _ _ _ _ => next_cmdReg,
    fun _ _ _ => next_cmdReg, fun _ _ _ => next_cmdReg, fun _ _ => rfl, fun _ _ => rfl, fun _ _ _ _ => next_cmdReg, fun _ _ _ _ => next_cmdReg,
    fun _ _ _ _ _ => rfl, fun _ _ _ _ _ => next_cmdReg, fun _ _ _ _ _ => next_cmdReg, fun _ _ _ _ => next_cmdReg, fun _ _ _ => rfl⟩

/-- Settles O55: the request of a mode runs where its write is served, and what clocks and straps do is dispatched. -/
theorem completeMode : Obligations.CompleteMode := by
  unfold Obligations.CompleteMode
  exact ⟨fun _ _ _ _ => next_cmdReg, fun _ _ => rfl, fun _ _ => rfl, fun _ _ => rfl, fun _ _ => rfl, fun _ _ => rfl, fun _ _ => rfl, fun _ _ => rfl,
    fun _ _ => rfl, fun _ _ => rfl, fun _ _ => rfl, fun _ _ => rfl⟩

/-- Settles O56: a command of the debug port runs while its instruction is selected, and the instructions of the access port are dispatched. -/
theorem completeDebug : Obligations.CompleteDebug := by
  unfold Obligations.CompleteDebug
  exact ⟨fun _ _ => next_dapRun, fun _ _ => next_dapRun, fun _ _ _ => next_dapRun, fun _ _ => next_dapRun, fun _ _ => next_dapRun,
    fun _ _ _ => next_dapRun, fun _ _ _ => next_dapRun, fun _ _ _ => next_dapRun, fun _ _ _ => next_dapRun, fun _ _ _ => next_dapRun,
    fun _ _ _ _ => next_dapRun, fun _ _ _ => next_dapRun, fun _ _ _ => next_dapRun, fun _ _ => rfl, fun _ _ => rfl, fun _ _ _ _ => rfl,
    fun _ _ _ _ => rfl, fun _ _ => rfl, fun _ _ => rfl, fun _ _ => rfl, fun _ _ => rfl, fun _ _ _ => rfl, fun _ _ => rfl, fun _ _ _ => rfl⟩

/-- Settles O57: slot commands run where their write is served, legacy reads and writes where a ring takes them, and accesses and quanta are dispatched. -/
theorem completeLegacy : Obligations.CompleteLegacy := by
  unfold Obligations.CompleteLegacy
  exact ⟨fun _ _ _ => rfl, fun _ _ _ _ _ => next_cmdReg, fun _ _ _ _ => next_cmdReg, fun _ _ _ _ _ => next_cmdReg, fun _ _ _ _ _ => next_cmdReg,
    fun _ _ _ _ => next_cmdReg, fun _ _ _ _ _ => next_cmdReg, fun _ _ _ _ _ => next_cmdReg, fun _ _ _ _ _ => next_cmdReg, fun _ _ _ => rfl,
    fun _ _ _ _ => next_submit, fun _ _ _ _ _ => next_submit⟩

/-- Settles O58: the two bench commands run where their write is served, and faults, checks and ageing are dispatched. -/
theorem completeBench : Obligations.CompleteBench := by
  unfold Obligations.CompleteBench
  exact ⟨fun _ _ _ _ _ _ => rfl, fun _ _ _ _ _ _ _ => rfl, fun _ _ _ => rfl, fun _ _ _ _ _ => rfl, fun _ _ _ _ => rfl, fun _ _ _ _ => next_cmdReg,
    fun _ _ _ => next_cmdReg, fun _ _ _ _ => rfl, fun _ _ _ _ _ => rfl, fun _ _ _ => rfl, fun _ _ _ _ => rfl, fun _ _ _ => rfl, fun _ _ _ _ => rfl,
    fun _ _ => rfl, fun _ _ => rfl, fun _ _ _ _ _ _ => rfl⟩

/-- Settles O59: a test and a bus are selected where the write is served, and the end of a test is dispatched. -/
theorem completeTest : Obligations.CompleteTest := by
  unfold Obligations.CompleteTest
  exact ⟨fun _ _ _ => next_cmdReg, fun _ _ _ _ => next_cmdReg, fun _ _ _ _ _ => next_cmdReg, fun _ _ _ => next_cmdReg, fun _ _ _ => next_cmdReg,
    fun _ _ _ => rfl, fun _ _ _ _ _ => next_cmdReg⟩

/-- Settles O60: the request of a reset runs where its write is served, and the other resets and the boot's end are dispatched. -/
theorem completeBoot : Obligations.CompleteBoot := by
  unfold Obligations.CompleteBoot
  exact ⟨fun _ _ _ => rfl, fun _ _ _ => rfl, fun _ _ => rfl, fun _ _ => rfl, fun _ _ _ => next_cmdReg, fun _ _ _ _ => rfl⟩

end Sys2Proof.Machine
end
